-- ==== Sys2Proof/Word.lean ====
section
/-! DEFINITION. The word types of the module (R3, R4, R5): bytes and the fixed-width
words the manual treats as bits. -/

namespace Sys2Proof

/-- One byte of a frame, a BLOB or the DRAM. -/
abbrev Byte := BitVec 8

/-- An F32 value or a 32-bit word of a Graver register, as its bits. -/
abbrev Word32 := BitVec 32

/-- A Graver bundle (R336). -/
abbrev Word64 := BitVec 64

/-- A 72-bit fixed-point accumulator, Q24.48 (R277). -/
abbrev Word72 := BitVec 72

end Sys2Proof
end

