-- ==== Sys2Proof/Machine/DictTypes.lean ====
section
/-! DEFINITION. The kinds of a dictionary object: its type (R60), access class (R62), role
(R64), takes-effect class (R65), range (R656), default (R655) and the record that holds one
row of an object table. A value is kept as the number its wire encoding spells, big end
first (R4, R60); a signed type keeps its two's-complement bits. -/

namespace Sys2Proof.Machine

/-- The types of R60. -/
inductive Ty
  | bool | u8 | u16 | u32 | u64 | i16 | i32 | f32 | bits32 | enum8 | str32 | blob | keyref
  | g16 | nt64 | nt32 | t80 | st64 | msi64 | pos3
  deriving DecidableEq, Repr

/-- The access classes of R62. -/
inductive Acc
  | ro | rw | rs | wo
  deriving DecidableEq, Repr

/-- The roles of R64, with the NONE of R115. -/
inductive Role
  | none | obs | opr | ins | own
  deriving DecidableEq, Repr

/-- The takes-effect classes of R65; `none` is the class of an RO object. -/
inductive Effect
  | none | live | liveSample | staged | stopped | liveFrame | reset
  deriving DecidableEq, Repr

/-- The set of values a range column admits (R656), at its widest extent. -/
inductive Rng
  /-- Every value of the type. -/
  | any
  /-- A union of closed intervals of integers. -/
  | ivals (l : List (Int × Int))
  /-- The named values of an ENUM8. -/
  | enum (l : List (Nat × String))
  /-- The named values of an ENUM8; the one instance `last` admits only `only`. -/
  | enumAt (l : List (Nat × String)) (last : Nat) (only : List Nat)
  /-- A closed F32 interval, or one open above. -/
  | f32 (lo hi : Nat) (openAbove : Bool)
  /-- A POS3, each coordinate within plus or minus a limit when one is given. -/
  | pos3 (limit : Option Nat)
  /-- A multiple of the given number. -/
  | mult (m : Nat)
  /-- Zero, or a power of two between the two bounds. -/
  | pow2 (lo hi : Nat)
  /-- A BITS32 whose bits outside the mask are zero. -/
  | mask (m : Nat)
  /-- A BLOB length: least, greatest, and the number it is a multiple of. -/
  | blob (lo hi mult : Nat)
  deriving DecidableEq, Repr

/-- The default column (R655). -/
inductive Dflt
  | const (n : Nat)
  /-- One value for each instance. -/
  | idx (l : List Nat)
  /-- The instance number modulo a number (pf_code). -/
  | modIdx (m : Nat)
  /-- Half the instance number, rounded down (pdm_line_clock). -/
  | halfIdx
  /-- A value for 48 kHz and one for 96 kHz. -/
  | byRate (at48 at96 : Nat)
  /-- One value for each act_kind (R196, R198). -/
  | byKind (l : List Nat)
  /-- A value at 10GBASE-R and one otherwise (nbr_cost). -/
  | byPort (tenG other : Nat)
  /-- The identity biquad: coefficient b0 is 1.0, the others 0.0 (R331). -/
  | bq
  deriving DecidableEq, Repr

/-- One row of an object table: `count` instances `stride` addresses apart, each of `subs`
consecutive subs (R57). `stated` says that the table states the default: where it does not,
`dflt` holds the placeholder zero of R655. -/
structure Obj where
  name : String
  base : Nat
  stride : Nat
  count : Nat
  subs : Nat
  ty : Ty
  acc : Acc
  persist : Bool
  role : Role
  effect : Effect
  dflt : Dflt
  rng : Rng
  unit : String
  stated : Bool
  deriving DecidableEq, Repr

/-- The rank of a role: OBS < OPR < INS < OWN (R64). -/
def Role.rank : Role → Nat
  | .none => 0 | .obs => 1 | .opr => 2 | .ins => 3 | .own => 4

/-- The role an ENUM8 role value names; a value outside the list names no role. -/
def roleOfNat : Nat → Role
  | 1 => .obs | 2 => .opr | 3 => .ins | 4 => .own | _ => .none

/-- The type codes of R60. -/
def tyCode : Ty → Nat
  | .bool => 0x01 | .u8 => 0x02 | .u16 => 0x03 | .u32 => 0x04 | .u64 => 0x05
  | .i16 => 0x06 | .i32 => 0x07 | .f32 => 0x08 | .bits32 => 0x09 | .enum8 => 0x0A
  | .str32 => 0x0B | .blob => 0x0C | .keyref => 0x0D | .g16 => 0x10 | .nt64 => 0x11
  | .nt32 => 0x12 | .t80 => 0x13 | .st64 => 0x14 | .msi64 => 0x15 | .pos3 => 0x16

/-- The encoded bytes of a type (R60); a STR32 is the exception, see `strBytes`. -/
def tyBytes : Ty → Nat
  | .bool | .u8 | .enum8 => 1
  | .u16 | .i16 | .keyref | .g16 => 2
  | .u32 | .i32 | .f32 | .bits32 | .nt32 => 4
  | .u64 | .blob | .nt64 | .st64 | .msi64 => 8
  | .t80 => 10
  | .pos3 => 12
  | .str32 => 33

/-- The types whose bits are read as two's complement. -/
def tySigned : Ty → Bool
  | .i16 | .i32 | .g16 | .st64 => true
  | _ => false

/-- Two's complement: the integer that `bits` low bits of `n` spell. -/
def toSigned (bits n : Nat) : Int :=
  let m := n % 2 ^ bits
  if 2 * m ≥ 2 ^ bits then (m : Int) - (2 ^ bits : Nat) else (m : Int)

/-- Two's complement: the `bits` low bits of an integer. -/
def ofSigned (bits : Nat) (z : Int) : Nat := (z % ((2 ^ bits : Nat) : Int)).toNat

/-- The integer a value of a type denotes (R60). -/
def tyInt (t : Ty) (n : Nat) : Int :=
  if tySigned t then toSigned (8 * tyBytes t) n else (n : Int)

/-- The address of sub `k` of instance `i` of an object (R57). -/
def Obj.addr (o : Obj) (i : Nat := 0) (k : Nat := 0) : Nat := o.base + i * o.stride + k

/-- The instance and sub of an object that an address names, if it names one (R59). -/
def Obj.locate (o : Obj) (a : Nat) : Option (Nat × Nat) :=
  if a < o.base then none
  else
    let d := a - o.base
    let i := d / o.stride
    let k := d % o.stride
    if i < o.count && k < o.subs then some (i, k) else none

end Sys2Proof.Machine
end

