-- ==== Sys2Proof/Machine/CmdTypes.lean ====
section
/-! DEFINITION. The operands of the commands: what a frame, a message or an event carries
into the module from outside. -/

namespace Sys2Proof.Machine

/-- Where an MDAP request comes from (R84, R85, R87). -/
inductive Source
  /-- The host SPI port. -/
  | spi
  /-- UDP over IPv4: the address and port of the peer. -/
  | udp (addr port : Nat)
  /-- Layer 2: the MAC address of the peer. -/
  | l2 (mac : Nat)
  deriving DecidableEq, Repr

/-- The header of an MDAP request and its request ID (R81, R82), with the authentication tag that follows
the body of a protected frame (R116). The reserved bits of the header and the body's ciphertext are those of
`State.requestHeader` and `State.requestCipher`. -/
structure Req where
  src : Source
  version : Nat := 1
  session : Nat := 0
  isProtected : Bool := false
  seq : Nat := 1
  tag : List (BitVec 8) := []
  id : Nat := 0
  deriving DecidableEq, Repr

/-- One item of a WRITE, WRITE_STAGED or TXN_ADD: address, type code and value (R95); `node`
is the node of a FABRIC item (R201). -/
structure Item where
  addr : Nat
  ty : Nat
  val : Nat
  node : Nat := 0
  deriving DecidableEq, Repr

/-- The data of a received Announce that best master selection compares (R134). -/
structure Master where
  gm : Nat
  priority1 : Nat
  clockClass : Nat
  accuracy : Nat
  variance : Nat
  priority2 : Nat
  steps : Nat
  sender : Nat
  port : Nat
  deriving DecidableEq, Repr

/-- How a PTP message arrives: on which port, and whether over UDP instead of Layer 2 (R133). -/
structure PtpIn where
  port : Fin 7
  udp : Bool := false
  deriving DecidableEq, Repr

/-- The PTP messages other than Announce and Sync (R133). Times are counted in 2⁻¹⁶ ns;
`at` is the local time at which the message timestamp point crossed the land. -/
inductive PtpMessage
  /-- Follow_Up of a two-step Sync: its sequence and precise origin time. -/
  | followUp (seq : Nat) (origin : Int)
  /-- Delay_Req received as master. -/
  | delayReq (seq requester : Nat) (atLand : Int)
  /-- Delay_Resp: the master's receive time. -/
  | delayResp (seq : Nat) (received : Int)
  /-- Pdelay_Req from the neighbour. -/
  | pdelayReq (seq requester : Nat) (atLand : Int)
  /-- Pdelay_Resp: the neighbour's receive time, and our receive time of this message. -/
  | pdelayResp (seq : Nat) (received atLand : Int)
  /-- Pdelay_Resp_Follow_Up: the neighbour's transmit time. -/
  | pdelayRespFollowUp (seq : Nat) (sent : Int)
  deriving DecidableEq, Repr

/-- Which interval of a domain expired (R134). -/
inductive PtpTimer
  | sync | announce | delayRequest
  deriving DecidableEq, Repr

/-- An edge at a land. -/
inductive Edge
  | rise | fall
  deriving DecidableEq, Repr

/-- An edge at an event land, and its instant: so many quarters of a nanosecond after the last tick of the counter (R160,
R163). -/
structure PinEdge where
  edge : Edge
  quarters : Fin 26
  deriving DecidableEq, Repr

/-- SES_INIT: the request, and the nonce and the ephemeral key of the peer (R110). -/
structure SesInit where
  req : Req
  nonce : List (BitVec 8)
  key : List (BitVec 8)
  deriving DecidableEq, Repr

end Sys2Proof.Machine
end

