-- ==== Sys2Proof/Machine/CmdTypes2.lean ====
section
/-! DEFINITION. The operands of the commands of the later chapters. -/

namespace Sys2Proof.Machine

/-- A subframe of AES3 as received or sent: 24 audio bits, validity, user and channel status
bits, and whether parity over time slots 4–31 is even (R450–R452). -/
structure AesSub where
  audio : Nat
  v : Bool
  u : Bool
  c : Bool
  even : Bool
  deriving DecidableEq, Repr

/-- The memories of R564. -/
inductive MemUnit
  | dram | history | pairs | graver | etcher | shank
  deriving DecidableEq, Repr

/-- What asks for memory: the Etcher, the bulk delay and Burnish have ports of their own at the DMC; all else is a master
of the matrix, numbered as R582 numbers them, with the dma_class of its channel where it is an engine of the DMA: BULK 0, NRT 1 (R574,
R586). -/
inductive Requester
  | etcher
  | bulk
  | burnish
  | master (m : Fin 8) (cls : Fin 2 := 0)
  deriving DecidableEq, Repr

/-- A request for memory: who presents it, and its matrix address (R574, R582). -/
structure MemRequest where
  who : Requester
  addr : Nat
  deriving DecidableEq, Repr

/-- An RTP packet over UDP and IPv4, CSRC list and extension skipped (R488, R489). -/
structure RtpPacket where
  dst : Nat
  udpPort : Nat
  payloadType : Nat
  timestamp : Nat
  ssrc : Nat
  payload : List (BitVec 8)
  deriving DecidableEq, Repr

/-- The head and the trailer of a fabric frame as they arrive: the source MAC, the fields of its header, link_seq and the
tag (R500, R501). -/
structure FabFrame where
  mac : Nat := 0
  version : Nat := 1
  type : Nat
  flags : Nat := 0
  hop : Nat
  source : Nat
  dest : Nat
  streamId : Nat := 0
  sequence : Nat := 0
  length : Nat := 0
  linkSeq : Nat := 0
  tag : List (BitVec 8) := []
  deriving DecidableEq, Repr

/-- The body of a HELLO (R503). -/
structure Hello where
  node : Nat
  slot : Nat
  role : Nat
  state : Nat
  rate : Nat
  pres : Nat
  fabId : Nat
  pairId : Nat
  lsaSeq : Nat
  digest : Nat
  certFp : Nat
  /-- The port the neighbour sent it from. -/
  port : Nat
  deriving DecidableEq, Repr

/-- A link that an LSA lists (R507). -/
structure LsaLink where
  vertex : Nat
  localPort : Nat
  remotePort : Nat
  cost : Nat
  deriving DecidableEq, Repr

/-- The body of an LSA (R507); a vertex is written slot × 4096 + node. -/
structure Lsa where
  vertex : Nat
  leaving : Bool
  conflict : Bool
  origin : Bool
  seq : Nat
  claim : Nat
  pairId : Nat
  certFp : Nat
  links : List LsaLink
  deriving DecidableEq, Repr

/-- The steps of an admission handshake (R110, R505). DESIGN CHOICE (log entry 125): an ADMIT body has no flags, so a
SES_CERT that brings no data asks for part of the other's chain. -/
inductive AdmitStep
  /-- SES_INIT: a nonce and an ephemeral key. -/
  | init (nonce key : List (BitVec 8))
  /-- SES_REPLY: status, session ID, a nonce, an ephemeral key and the length of the sender's chain. -/
  | reply (status id : Nat) (nonce key : List (BitVec 8)) (total : Nat)
  /-- SES_CERT: part of the receiver's chain is asked for, or part of the sender's is sent; and the reply. -/
  | certRead (id offset len : Nat)
  | certSend (id offset total : Nat) (data : List (BitVec 8))
  | certReply (status : Nat) (data : List (BitVec 8))
  /-- SES_FINISH and its reply: a signature over H. -/
  | finish (id : Nat) (sig : List (BitVec 8))
  | finishReply (status : Nat) (sig : List (BitVec 8))
  deriving DecidableEq, Repr

/-- An ADMIT frame: its head, and the step in its body (R500, R505). -/
structure AdmitFrame where
  frame : FabFrame
  step : AdmitStep
  deriving DecidableEq, Repr

/-- The body of a STREAM frame (R517); the samples are listed by channel. -/
structure StreamFrame where
  firstIndex : Nat
  status : List Nat
  samples : List (List (BitVec 32))
  deriving DecidableEq, Repr

/-- What a Lace HEARTBEAT says beside the blocks it reports (R540). -/
structure LaceBeat where
  role : Fin 5
  sound : Bool := true
  /-- The sender's last journal index. -/
  journal : Nat := 0
  deriving DecidableEq, Repr

/-- A Lace HELLO, which carries a part of its sender's chain (R540, R542). -/
structure LaceHello where
  slot : Nat
  enabled : Bool
  role : Nat
  firmware : Nat
  certFp : Nat
  claim : Nat
  offset : Nat
  total : Nat
  data : List (BitVec 8)
  deriving DecidableEq, Repr

/-- What a received JOURNAL entry carries (R543). -/
inductive JournalAct
  /-- LIVE writes that the ACTIVE accepted: addresses and values, in order. -/
  | live (writes : List (Nat × Nat))
  /-- A transaction committed for the entry's block: its items, and the rung under which it sheds (R285). -/
  | commit (items : List Item) (shed : Option Nat)
  /-- A BLOB value completed on the ACTIVE. -/
  | blob (addr gen : Nat) (data : List (BitVec 8))
  /-- Pair-wide values that a unit sets itself (R187, R420). -/
  | values (l : List (Nat × Nat))
  /-- The source in effect and the bridge of the ACTIVE, in 2⁻³² ns, and the test of R156 (R545). -/
  | time (source : Nat) (bridge : Int) (degraded : Bool)
  /-- A power request (R547). -/
  | power (target : Nat)
  /-- Sequences granted to the ACTIVE, up to these (R546). -/
  | grant (frames txns : Nat)
  /-- Every pair-wide value of the ACTIVE, for a resync (R556). -/
  | dictionary (l : List (Nat × Nat))
  deriving DecidableEq, Repr

/-- An output digest (R540, R551). -/
structure Digest where
  block : Nat
  localEvent : Bool
  repairLost : Bool
  mixed : Bool
  out : Nat
  tiles : List Nat
  records : List Nat
  deriving DecidableEq, Repr

end Sys2Proof.Machine
end

