-- ==== Sys2Proof/Machine/F32.lean ====
section
/-! DEFINITION. FP32 arithmetic as R293 and R346 ask for it: IEEE 754 binary32, every
operation rounded once to nearest with ties to even, subnormals kept, every NaN result the
canonical 0x7FC0_0000. Values are taken apart into a sign, a natural significand and a
power of two; results are formed exactly and rounded at the end. -/

namespace Sys2Proof.Machine

/-- An F32 value as its 32 bits (R60). -/
abbrev F32 := BitVec 32

/-- The canonical NaN of R346. -/
def F32.nan : F32 := 0x7FC00000#32

/-- Plus infinity. -/
def F32.inf : F32 := 0x7F800000#32

/-- Plus zero. -/
def F32.zero : F32 := 0#32

/-- 1.0. -/
def F32.one : F32 := 0x3F800000#32

/-- The sign bit. -/
def F32.neg? (x : F32) : Bool := x.toNat ≥ 2 ^ 31

/-- The biased exponent field. -/
def F32.expField (x : F32) : Nat := x.toNat / 2 ^ 23 % 256

/-- The fraction field. -/
def F32.fracField (x : F32) : Nat := x.toNat % 2 ^ 23

def F32.isNaN (x : F32) : Bool := x.expField == 255 && x.fracField != 0

def F32.isInf (x : F32) : Bool := x.expField == 255 && x.fracField == 0

def F32.isFinite (x : F32) : Bool := x.expField != 255

def F32.isZero (x : F32) : Bool := x.toNat % 2 ^ 31 == 0

def F32.isSubnormal (x : F32) : Bool := x.expField == 0 && x.fracField != 0

/-- The significand of a finite value: the value is plus or minus `man * 2 ^ exp`. -/
def F32.man (x : F32) : Nat := if x.expField = 0 then x.fracField else x.fracField + 2 ^ 23

/-- The power of two of a finite value. -/
def F32.exp (x : F32) : Int := (max x.expField 1 : Nat) - 150

/-- The signed significand of a finite value. -/
def F32.sman (x : F32) : Int := if x.neg? then -(x.man : Int) else x.man

/-- Set or clear the sign bit of a magnitude pattern. -/
def F32.withSign (neg : Bool) (magnitude : Nat) : F32 :=
  BitVec.ofNat 32 (if neg then magnitude + 2 ^ 31 else magnitude)

/-- `num / den * 2 ^ e`, rounded to an integer with ties to even. -/
def rneDiv (num den : Nat) : Nat :=
  let q := num / den
  let r := num % den
  if 2 * r > den || (2 * r == den && q % 2 == 1) then q + 1 else q

/-- Scale a fraction by a power of two: the numerator and the denominator. -/
def scale2 (num den : Nat) (e : Int) : Nat × Nat :=
  if e ≥ 0 then (num * 2 ^ e.toNat, den) else (num, den * 2 ^ (-e).toNat)

/-- The F32 nearest to `num / den * 2 ^ e`, ties to even, with the sign given. -/
def F32.pack (neg : Bool) (num den : Nat) (e : Int) : F32 :=
  if num = 0 then F32.withSign neg 0
  else
    let l : Int := (Nat.log2 num : Int) - (Nat.log2 den : Int) + e
    let trial := scale2 num den (e - (l - 23))
    let k0 : Int := if trial.1 / trial.2 ≥ 2 ^ 23 then l - 23 else l - 24
    let k : Int := max k0 (-149)
    let q := scale2 num den (e - k)
    let m := rneDiv q.1 q.2
    if m < 2 ^ 23 then F32.withSign neg m
    else
      let bits : Int := (m : Int) - 2 ^ 23 + (k + 150) * 2 ^ 23
      if bits ≥ 0x7F800000 then F32.withSign neg 0x7F800000
      else F32.withSign neg bits.toNat

/-- The F32 nearest to an integer times a power of two; zero packs as +0.0. -/
def F32.ofScaled (z e : Int) : F32 := F32.pack (z < 0) z.natAbs 1 e

/-- The F32 nearest to an integer. -/
def F32.ofInt (z : Int) : F32 := F32.ofScaled z 0

/-- The F32 nearest to a quotient of an integer by a natural number. -/
def F32.ofQuot (z : Int) (d : Nat) : F32 := F32.pack (z < 0) z.natAbs d 0

def F32.neg (x : F32) : F32 := x ^^^ 0x80000000#32

def F32.abs (x : F32) : F32 := x &&& 0x7FFFFFFF#32

/-- FP32 addition. -/
def F32.add (x y : F32) : F32 :=
  if x.isNaN || y.isNaN then F32.nan
  else if x.isInf then (if y.isInf && x.neg? != y.neg? then F32.nan else x)
  else if y.isInf then y
  else
    let e := min x.exp y.exp
    let z := x.sman * 2 ^ (x.exp - e).toNat + y.sman * 2 ^ (y.exp - e).toNat
    if z = 0 then F32.withSign (x.neg? && y.neg?) 0 else F32.ofScaled z e

/-- FP32 subtraction. -/
def F32.sub (x y : F32) : F32 := if y.isNaN then F32.nan else F32.add x y.neg

/-- FP32 multiplication. -/
def F32.mul (x y : F32) : F32 :=
  let s := x.neg? != y.neg?
  if x.isNaN || y.isNaN then F32.nan
  else if x.isInf || y.isInf then
    (if x.isZero || y.isZero then F32.nan else F32.withSign s 0x7F800000)
  else F32.pack s (x.man * y.man) 1 (x.exp + y.exp)

/-- FP32 division. -/
def F32.div (x y : F32) : F32 :=
  let s := x.neg? != y.neg?
  if x.isNaN || y.isNaN then F32.nan
  else if x.isInf then (if y.isInf then F32.nan else F32.withSign s 0x7F800000)
  else if y.isInf then F32.withSign s 0
  else if y.isZero then (if x.isZero then F32.nan else F32.withSign s 0x7F800000)
  else F32.pack s x.man y.man (x.exp - y.exp)

/-- `x * y + z`, rounded once (R343). -/
def F32.fma (x y z : F32) : F32 :=
  if x.isNaN || y.isNaN || z.isNaN then F32.nan
  else if !(x.isFinite && y.isFinite && z.isFinite) then F32.add (F32.mul x y) z
  else
    let s := x.neg? != y.neg?
    let p : Int := if s then -((x.man * y.man : Nat) : Int) else (x.man * y.man : Nat)
    let ep := x.exp + y.exp
    let e := min ep z.exp
    let v := p * 2 ^ (ep - e).toNat + z.sman * 2 ^ (z.exp - e).toNat
    if v = 0 then
      F32.withSign (if p = 0 ∧ z.isZero then s && z.neg? else false) 0
    else F32.ofScaled v e

/-- The integer square root, bit by bit from bit `n - 1` down. -/
def isqrtBits : Nat → Nat → Nat → Nat
  | 0, _, r => r
  | n + 1, x, r =>
    let t := r + 2 ^ n
    isqrtBits n x (if t * t ≤ x then t else r)

/-- The greatest natural number whose square is at most `x`. -/
def isqrt (x : Nat) : Nat := isqrtBits (Nat.log2 x / 2 + 1) x 0

/-- FP32 square root, exact and rounded once. -/
def F32.sqrt (x : F32) : F32 :=
  if x.isNaN then F32.nan
  else if x.isZero then x
  else if x.neg? then F32.nan
  else if x.isInf then x
  else
    let odd := x.exp % 2 != 0
    let m := if odd then x.man * 2 else x.man
    let e := if odd then x.exp - 1 else x.exp
    let big := m * 2 ^ 80
    let r := isqrt big
    let sticky := if r * r = big then 0 else 1
    F32.pack false (2 * r + sticky) 1 (e / 2 - 41)

/-- The order key of a value that is not NaN: greater values have greater keys; both zeros
have key 0. -/
def F32.key (x : F32) : Int :=
  let m : Nat := x.toNat % 2 ^ 31
  if x.neg? then -(m : Int) else m

/-- Less than; false when either operand is NaN. -/
def F32.lt (x y : F32) : Bool := !x.isNaN && !y.isNaN && decide (x.key < y.key)

/-- Less than or equal; false when either operand is NaN. -/
def F32.le (x y : F32) : Bool := !x.isNaN && !y.isNaN && decide (x.key ≤ y.key)

/-- IEEE equality. -/
def F32.eq (x y : F32) : Bool := !x.isNaN && !y.isNaN && decide (x.key = y.key)

/-- The lesser value; −0.0 orders below +0.0 and a NaN operand gives NaN (R345). -/
def F32.min (x y : F32) : F32 :=
  if x.isNaN || y.isNaN then F32.nan
  else if x.key < y.key then x
  else if y.key < x.key then y
  else if x.neg? then x else y

/-- The greater value, with the order of `F32.min`. -/
def F32.max (x y : F32) : F32 :=
  if x.isNaN || y.isNaN then F32.nan
  else if x.key < y.key then y
  else if y.key < x.key then x
  else if x.neg? then y else x

/-- A finite value times `2 ^ k`, rounded to an integer with ties to even. -/
def F32.toScaledInt (x : F32) (k : Int) : Int :=
  let q := scale2 x.man 1 (x.exp + k)
  let m := rneDiv q.1 q.2
  if x.neg? then -(m : Int) else m

/-- A finite value rounded to an integer with ties to even. -/
def F32.toInt (x : F32) : Int := x.toScaledInt 0

/-- The floor of a finite value. -/
def F32.floor (x : F32) : Int :=
  let q := scale2 1 1 x.exp
  (x.sman * (q.1 : Int)).fdiv (q.2 : Int)

/-- Replace a subnormal result by +0.0 (R293). -/
def F32.flush (x : F32) : F32 := if x.isSubnormal then F32.zero else x

/-- The value, or zero where it is NaN or infinite. -/
def F32.finiteOr0 (x : F32) : F32 := if x.isFinite then x else F32.zero

/-- The sum of a list in the order written, starting from +0.0. -/
def F32.sumFrom (a : F32) (l : List F32) : F32 := l.foldl F32.add a

end Sys2Proof.Machine
end

