-- ==== Sys2Proof/Machine/Exact.lean ====
section
/-! DEFINITION. Exact accumulation (R278–R280): Q24.48 terms, the 72-bit accumulator with its
wrap count, and the store to FP32. -/

namespace Sys2Proof.Machine

/-- The greatest and least Q24.48 term, in units of 2⁻⁴⁸ (R278). -/
def q48Max : Int := 2 ^ 71 - 1
def q48Min : Int := -(2 ^ 71)

/-- A term and what its forming reported. -/
structure Term where
  a : Int
  clamped : Bool
  nonfinite : Bool
  deriving DecidableEq, Repr

/-- Round `z * 2 ^ e` to units of 2⁻⁴⁸, ties to even, and clamp (R278). -/
def termOf (z e : Int) : Term :=
  let q := scale2 z.natAbs 1 (e + 48)
  let m : Int := rneDiv q.1 q.2
  let v := if z < 0 then -m else m
  if v > q48Max then ⟨q48Max, true, false⟩
  else if v < q48Min then ⟨q48Min, true, false⟩
  else ⟨v, false, false⟩

/-- The product of two F32 values as a term (R278). -/
def termMul (x y : F32) : Term :=
  if x.isFinite && y.isFinite then termOf (x.sman * y.sman) (x.exp + y.exp)
  else ⟨0, false, true⟩

/-- An F32 value as a term. -/
def termF32 (x : F32) : Term :=
  if x.isFinite then termOf x.sman x.exp else ⟨0, false, true⟩

/-- An accumulator: A in units of 2⁻⁴⁸ and the net wrap count (R279). -/
structure Accum where
  a : Int := 0
  w : Int := 0
  deriving DecidableEq, Repr

/-- The wrap count within −32 … 31 (R279). -/
def wrap6 (w : Int) : Int := (w + 32) % 64 - 32

/-- Add a value and a wrap count to an accumulator (R279). -/
def Accum.addRaw (x : Accum) (a w : Int) : Accum :=
  let s := x.a + a
  let v := x.w + w
  if s > 2 ^ 71 - 1 then ⟨s - 2 ^ 72, wrap6 (v + 1)⟩
  else if s < -(2 ^ 71) then ⟨s + 2 ^ 72, wrap6 (v - 1)⟩
  else ⟨s, wrap6 v⟩

/-- Add a term. -/
def Accum.addTerm (x : Accum) (t : Term) : Accum := x.addRaw t.a 0

/-- Add another accumulator. -/
def Accum.add (x y : Accum) : Accum := x.addRaw y.a y.w

/-- Store an accumulator to FP32, steps 1 to 3 of R280: the value, and whether it
saturated. -/
def Accum.store (x : Accum) : F32 × Bool :=
  let hi : Int := 2 ^ 63 - 1
  let lo : Int := -(2 ^ 63)
  if x.w > 0 then (F32.ofScaled hi (-48), true)
  else if x.w < 0 then (F32.ofScaled lo (-48), true)
  else if x.a > hi then (F32.ofScaled hi (-48), true)
  else if x.a < lo then (F32.ofScaled lo (-48), true)
  else (F32.ofScaled x.a (-48), false)

/-- Step 4 of R280: the feed ceiling. -/
def ceilStore (limit : F32) (r : F32 × Bool) : F32 × Bool :=
  if F32.lt limit r.1.abs then ((if r.1.neg? then limit.neg else limit), true) else r

/-- The sum of products of two lists (R276), and whether a term was clamped or not finite. -/
def dotAccum : List F32 → List F32 → Accum → Nat → Nat → Accum × Nat × Nat
  | c :: cs, x :: xs, acc, cl, nf =>
    let t := termMul c x
    dotAccum cs xs (acc.addTerm t) (cl + if t.clamped then 1 else 0)
      (nf + if t.nonfinite then 1 else 0)
  | _, _, acc, cl, nf => (acc, cl, nf)

/-- A G16 step count as an F32 exponent of ten: `F32(k) / 1280.0` (R267). -/
def g16Exponent (k : Int) : F32 := F32.div (F32.ofInt k) 0x44A00000#32

end Sys2Proof.Machine
end

