-- ==== Sys2Proof/Machine/PartsGraver.lean ====
section
/-! DEFINITION. The parts of the state that belong to the Graver cores and the Dispatch Unit
(chapter 8). -/

namespace Sys2Proof.Machine

/-- A loop level that is active: the first and the last bundle of its body (R351). -/
structure LoopLevel where
  first : Nat
  last : Nat
  deriving DecidableEq, Repr

/-- The register set of a running kernel (R337, R338), its place in the program and its return
stack (R352). -/
structure GravCtx where
  f : List (BitVec 32) := List.replicate 16 0#32
  x : List (BitVec 16) := List.replicate 8 0#16
  y : List (BitVec 16) := List.replicate 8 0#16
  m : List (BitVec 16) := List.replicate 8 0#16
  lc : List (BitVec 16) := List.replicate 2 0#16
  amx : List (BitVec 32) := List.replicate 8 0#32
  amy : List (BitVec 32) := List.replicate 8 0#32
  acc : List Accum := List.replicate 4 {}
  /-- sr: EQ, LT, GT and UN in bits 0–3 (R338). -/
  cmp : BitVec 4 := 0#4
  inv : Bool := false
  nanr : Bool := false
  sat : Bool := false
  preq : Bool := false
  lv0 : Option LoopLevel := none
  lv1 : Option LoopLevel := none
  pc : Nat := 0
  stack : List Nat := []
  /-- The next bundle is a delay slot: where execution goes after it, and whether a branch was
  taken. -/
  delay : Option (Nat × Bool) := none
  /-- The cycle from which a resource can be used without a stall (R353), by resource. -/
  ready : List (Nat × Nat) := []
  cycles : Nat := 0
  deriving DecidableEq, Repr

/-- Where an instance stands (R362–R369). -/
inductive InstStage
  | waiting | ready | running | preempted
  /-- Ended, and held back until its flow's earlier block is published (R367). -/
  | done
  deriving DecidableEq, Repr

/-- An instance of a node (R361). -/
structure Inst where
  node : Nat
  block : Nat
  core : Nat
  cls : Nat
  stage : InstStage
  /-- The release sample index (R362). -/
  due : Nat
  /-- Its deadline in ns of media time (R363). -/
  deadline : Int
  /-- Local time of its release. -/
  released : Int
  /-- The hardware context it holds. -/
  ctx : Nat := 0
  started : Bool := false
  regs : GravCtx := {}
  /-- The bundles of its image; none for a vendor kernel. -/
  code : List (BitVec 64) := []
  /-- UNSETTLED, CONCEALED and LATE of its inputs (R366). -/
  word : Nat := 0
  cost : Nat := 0
  deriving DecidableEq, Repr

/-- A bound node: its core and regions, in words (R359, R360), and its exceptions in a row
(R371). -/
structure NodeNow where
  node : Nat
  core : Nat
  x : Nat
  xLen : Nat
  y : Nat
  yLen : Nat
  param : Nat
  state : Nat
  ins : Nat
  outs : Nat
  exceptions : Nat := 0
  faulted : Bool := false
  /-- The last published sample of each output channel (R370). -/
  last : List (BitVec 32) := []
  deriving DecidableEq, Repr

/-- An image in the lower program memory of a core: its first bundle there, the block from which instances use it, and its
bytes (R334, R358). -/
structure Placed where
  core : Nat
  image : Nat
  first : Nat
  since : Nat
  data : List (BitVec 8)
  deriving DecidableEq, Repr

/-- The Graver cores and the Dispatch Unit. -/
structure GraverState where
  insts : List Inst := []
  nodes : List NodeNow := []
  /-- The images in program memory, the newest first (R358). -/
  placed : List Placed := []
  /-- Nodes whose instances of a block were published, with the block (R361). -/
  published : List (Nat × Nat) := []
  /-- Nodes that the commits of this boundary created or changed (R360). -/
  rebind : List Nat := []
  deriving DecidableEq, Repr

end Sys2Proof.Machine
end

