-- ==== Sys2Proof/Machine/PartsScene.lean ====
section
/-! DEFINITION. The parts of the state that belong to the scene, the Welt and the output
chain (chapters 5 to 7). Sample values are F32 bits. -/

namespace Sys2Proof.Machine

/-- A point or vector of three F32 values. -/
structure V3 where
  x : Word32
  y : Word32
  z : Word32
  deriving DecidableEq, Repr

/-- A glide in progress (R246). -/
structure Glide where
  /-- The position presented when it started. -/
  q0 : V3
  /-- Blocks of running show time since it started. -/
  n : Nat
  /-- traj_join of the governing trajectory. -/
  join : Nat
  deriving DecidableEq, Repr

/-- How an object is rendered, beside its dictionary objects: the mode, source and zone in
force at the last boundary, the source that feeds the last block, the position at the end of
that block, and what runs. -/
structure ObjNow where
  obj : Nat
  mode : Nat
  kind : Nat
  ch : Nat
  zone : Nat
  traj : Nat
  srcKind : Nat
  srcCh : Nat
  pos : V3
  glide : Option Glide := none
  /-- The last block was the first of a dip (R228). -/
  dip : Bool := false
  deriving DecidableEq, Repr

/-- The end values of a pair for a block (R268–R271). -/
structure PairEnd where
  out : Nat
  /-- D_fix, Q14.18. -/
  d : Nat
  g : Word32
  h : Word32
  /-- The delay was clamped (R232), and the gain limited (R269). -/
  clamped : Bool
  limited : Bool
  /-- R235 silences the pair at both ends of the block. -/
  none_ : Bool := false
  deriving DecidableEq, Repr

/-- The record of an object for one block (R264): its source, how its pairs move, and their
end values. -/
structure ObjRec where
  obj : Nat
  kind : Nat
  ch : Nat
  /-- 0: ramp to the end values; 1: the first block of a dip; 2: the second (R228). -/
  phase : Nat
  /-- The history floor is set at the first sample of this block (R259). -/
  floor : Bool
  /-- Rendered in block k + 1 (R179). -/
  fast : Bool
  /-- The object is shed in this block (R287). -/
  shed : Bool
  /-- A late commit touched the object (R214). -/
  late : Bool
  /-- c at the start and at the end of the block, in G16 steps (R391). -/
  c0 : Int
  c1 : Int
  /-- The corner of in_hpf (R390). -/
  hpf : Nat
  /-- The object is a PREEMPTED announcement (R388). -/
  preempted : Bool
  pairs : List PairEnd
  /-- The record's bytes up to ext_first, and its extension entries, in a pair (R372, R551). -/
  raw : List Byte := []
  ext : List Byte := []
  deriving DecidableEq, Repr

/-- One biquad's coefficients b0, b1, b2, a1, a2. -/
structure BqCoef where
  b0 : Word32
  b1 : Word32
  b2 : Word32
  a1 : Word32
  a2 : Word32
  deriving DecidableEq, Repr

/-- A destination a route names: kind SERIAL 1, AES3 2, STREAM 3, and channel (R325). -/
structure Dest where
  kind : Nat
  ch : Nat
  deriving DecidableEq, Repr

/-- The parameters of an output's chain in force at a boundary (R180). -/
structure OutRec where
  out : Nat
  /-- lst_delay_base + out_delay. -/
  delay : Nat
  delayX : Nat
  etchMax : Nat
  bypass : Nat
  /-- The coefficients of the biquads that are not in bypass, by rising number. -/
  coefs : List (Nat × BqCoef)
  /-- C, ρ and H of the limiter (R319). -/
  ceiling : Word32
  rho : Word32
  hold : Nat
  /-- T of the stepper (R320), with its timeout and ramp. -/
  target : Word32
  timeout : Nat
  ramp : Nat
  dests : List Dest
  routeX : Nat
  /-- The active filter set, its handle, and its crossfade. -/
  taps : List Word32
  tapsHandle : Nat
  etchX : Nat
  /-- The silence thresholds of R404, and the tap of the meter. -/
  silent : Word32
  loud : Word32
  /-- A late commit touched the output (R214). -/
  late : Bool
  deriving DecidableEq, Repr

/-- What a boundary fixes for the blocks it governs (R180, R264). -/
structure BlockRec where
  block : Nat
  /-- K of R273. -/
  interp : Nat
  /-- The feed ceiling of R280, linear. -/
  ceiling : Word32
  objs : List ObjRec
  outs : List OutRec
  /-- The routes of outputs of type NONE: kind and channel of the destination, output, crossfade. -/
  idle : List (Dest × Nat × Nat) := []
  deriving DecidableEq, Repr

/-- The pair memory of one pair (R261). -/
structure PairMem where
  obj : Nat
  out : Nat
  d : Nat
  g : Word32
  h : Word32
  l : Word32
  clamped : Bool
  deriving DecidableEq, Repr

/-- The history ring of an object: its blocks of input samples, newest first, and the
samples since the history floor (R258, R259). -/
structure Ring where
  obj : Nat
  blocks : List (List Word32)
  since : Nat
  deriving DecidableEq, Repr

/-- A triangle: its three vertices and the rows of M (R251). -/
structure Triangle where
  a : Nat
  b : Nat
  c : Nat
  ra : V3
  rb : V3
  rc : V3
  deriving DecidableEq, Repr

/-- A triangulation (R251, R252); state NONE 0, VALID 1, RING 2. -/
structure Triangulation where
  state : Nat
  triangles : List Triangle
  gaps : Nat
  rimPlus : List Nat
  rimMinus : List Nat
  deriving DecidableEq, Repr

/-- The inputs of a triangulation taken at a boundary, and its result once Shank has it
(R253). -/
structure TriJob where
  block : Nat
  points : List (Nat × V3)
  origin : V3
  span : Word32
  result : Option Triangulation
  deriving DecidableEq, Repr

/-- Proof's marks on an output (R254, R425). -/
structure OutMark where
  out : Nat
  suspect : Bool := false
  failed : Bool := false
  excluded : Bool := false
  deriving DecidableEq, Repr

/-- A shed object and the outputs whose pairs it keeps (R286). -/
structure Shed where
  obj : Nat
  keep : List Nat
  deriving DecidableEq, Repr

/-- A sample of an input channel: kind STREAM 1, LOCAL 2, CLIP 3, GRAVER 4; its block, its
samples by position and its status word. -/
structure InBlock where
  kind : Nat
  ch : Nat
  block : Nat
  /-- Samples placed: position in the block and value. -/
  samples : List (Nat × Word32)
  word : Nat
  /-- The block is complete: what was missing has been substituted. -/
  done : Bool
  deriving DecidableEq, Repr

/-- A crossfade of R299: the new delay, its length, and the samples done. -/
structure DelayFade where
  delay : Nat
  len : Nat
  n : Nat
  deriving DecidableEq, Repr

/-- The gain stepper (R320–R323). -/
inductive Stepper
  | idle
  /-- Waits for a zero crossing; samples since the change. -/
  | waiting (n : Nat)
  /-- Ramps from `g0`; samples done and the length. -/
  | ramping (g0 : Word32) (p len : Nat)
  deriving DecidableEq, Repr

/-- The chain of one output (R291). -/
structure Chain where
  out : Nat
  /-- Feed blocks, newest first, with their words: the bulk delay line (R298). -/
  line : List (List Word32 × Nat) := []
  delay : Nat := 0
  fades : List DelayFade := []
  /-- Blocks at the Etcher's input, newest first (R301). -/
  etchIn : List (List Word32) := []
  /-- Blocks of history each FFT stage may read, by stage from F1 (R309). -/
  stageAge : List Nat := [0, 0, 0, 0, 0, 0, 0, 0, 0]
  etchMax : Nat := 0
  /-- The active taps, the outgoing taps, the length of the crossfade and the samples done. -/
  taps : List Word32 := []
  tapsHandle : Nat := 0
  outgoing : Option (List Word32 × Nat × Nat) := none
  /-- The biquad states s1, s2 of the biquads that are not in bypass, by number. -/
  bq : List (Nat × Word32 × Word32) := []
  lim : Word32 := 0x3F800000#32
  hold : Nat := 0
  gain : Word32 := 0x3F800000#32
  target : Word32 := 0x3F800000#32
  step : Stepper := .idle
  /-- The sign of the last stepper input. -/
  lastNeg : Bool := false
  /-- Blocks at FEED, POST_DELAY, POST_ETCHER, POST_EQ, POST_LIMIT and OUT for the block
  last rendered, and its word. -/
  taps6 : List (List Word32) := []
  word : Nat := 0
  /-- The last feed sample delivered (R297). -/
  lastFeed : Word32 := 0#32
  /-- The biquads reset in that block, and the least limiter gain reached in it (R318, R319). -/
  resets : Nat := 0
  /-- The status bits that uncorrectable words of DRAM give the block about to run (R567). -/
  mark : Nat := 0
  /-- The samples after the Etcher when its part of DRAM holds an uncorrectable word (R567). -/
  etchBad : Option (List Word32) := none
  /-- The last OUT sample presented (R15, R296). -/
  shown : Word32 := 0#32
  least : Word32 := 0x3F800000#32
  deriving DecidableEq, Repr

/-- A route crossfade at a destination: the output it goes to, the length and the samples
done (R329). -/
structure RouteFade where
  to_ : Option Nat
  len : Nat
  n : Nat
  deriving DecidableEq, Repr

/-- A block at a destination: its index, its samples before conversion, and its word. -/
structure DestBlock where
  block : Nat
  samples : List Word32
  word : Nat
  deriving DecidableEq, Repr

/-- A destination channel: the output that feeds it, its crossfades, and its last blocks,
newest first (R324–R330). -/
structure DestNow where
  dest : Dest
  feed : Option Nat := none
  fades : List RouteFade := []
  blocks : List DestBlock := []
  deriving DecidableEq, Repr

/-- The pending filter set of an output (R310). -/
structure EtchSet where
  out : Nat
  taps : List Word32
  gen : Nat
  deriving DecidableEq, Repr

/-- The ingest stage of an object (R389–R391): its step value c, the states of its
high-pass filter, and the samples that left it in the last block with their word. -/
structure Ingest where
  obj : Nat
  /-- c before and after the step of the last boundary. -/
  c0 : Int
  c : Int
  s1 : Word32 := 0#32
  s2 : Word32 := 0#32
  on : Bool := false
  last : List Word32 := []
  word : Nat := 0
  deriving DecidableEq, Repr

/-- The last sample received by an input channel, for HOLD (R443, R490). -/
structure InLast where
  kind : Nat
  ch : Nat
  last : Word32
  deriving DecidableEq, Repr

/-- The scene, the Welt and the output chain. -/
structure RenderState where
  objs : List ObjNow := []
  ingest : List Ingest := []
  recs : List BlockRec := []
  pairs : List PairMem := []
  rings : List Ring := []
  tri : Triangulation := ⟨0, [], 0, [], []⟩
  triJobs : List TriJob := []
  marks : List OutMark := []
  shed : List Shed := []
  /-- r_p of R285. -/
  shedRung : Option Nat := none
  inputs : List InBlock := []
  inLast : List InLast := []
  chains : List Chain := []
  /-- The chains before the slot last rendered (R266). -/
  before : List Chain := []
  dests : List DestNow := []
  /-- The last presentation block rendered. -/
  slot : Option Nat := none
  /-- The last presentation block presented. -/
  shown : Option Nat := none
  /-- Outputs that missed the deadline of R266 or of R296, with their presentation block. -/
  weltHeld : List (Nat × Nat) := []
  chainHeld : List (Nat × Nat) := []
  etchSets : List EtchSet := []
  /-- Trajectories a commit changed since the last boundary (R246). -/
  dirty : List Nat := []
  /-- An input of the triangulation changed since the last boundary (R253). -/
  triDirty : Bool := false
  /-- An input of the Welt load changed since the last boundary (R285). -/
  loadDirty : Bool := false
  /-- Objects and outputs a late commit touched at the boundary (R214). -/
  lateObjs : List Nat := []
  lateOuts : List Nat := []
  /-- The Etcher's DRAM traffic of the blocks of the last second, newest first: 2⁻¹³ bytes in a block, and how many blocks
  in a row had as much (R331). -/
  traffic : List (Nat × Nat) := []
  /-- Outputs whose healing transaction waits for a free slot (R254). -/
  heal : List Nat := []
  /-- The next block presented is the first after a start, and carries UNSETTLED (R69). -/
  resumed : Bool := false
  deriving DecidableEq, Repr

end Sys2Proof.Machine
end

