-- ==== Sys2Proof/Machine/PartsServices.lean ====
section
/-! DEFINITION. The parts of the state that belong to the venue services and to Proof
(chapters 9 and 10). Sample values are F32 bits. -/

namespace Sys2Proof.Machine

/-- How a voice plays its block (R400, R401). -/
inductive VoiceFade
  | none_
  /-- Multiplied down over the block, then IDLE. -/
  | stop
  /-- Multiplied down over the block, then PAUSED. -/
  | pause
  /-- Multiplied up over the block. -/
  | rise
  deriving DecidableEq, Repr

/-- A voice that is PLAYING or PAUSED (R399–R402). -/
structure VoiceRun where
  voice : Nat
  clip : Nat
  /-- The next clip sample. -/
  pos : Nat
  /-- Loops completed. -/
  loops : Nat
  fade : VoiceFade := .none_
  /-- The last sample of the last loop has been played. -/
  ended : Bool := false
  deriving DecidableEq, Repr

/-- An ambient tracker measured here (R393–R395). -/
structure Tracker where
  tracker : Nat
  s1 : Word32 := 0#32
  s2 : Word32 := 0#32
  /-- The sum of x² over the window, its samples and its blocks. -/
  sum : Word32 := 0#32
  samples : Nat := 0
  blocks : Nat := 0
  /-- A sample of the window carried CONCEALED or UNSETTLED. -/
  spoiled : Bool := false
  /-- Levels of the last windows, newest first. -/
  levels : List Word32 := []
  /-- The block of the last publication. -/
  published : Option Nat := none
  /-- The transaction that publishes. -/
  txn : Option Nat := none
  deriving DecidableEq, Repr

/-- A meter (R403), of output `key` or of object `key - 0x1000`: the held level in dB, the
blocks left of its timer and the mean square. -/
structure Meter where
  key : Nat
  held : Word32 := 0xC3480000#32
  timer : Nat := 0
  ms : Word32 := 0#32
  deriving DecidableEq, Repr

/-- Consecutive blocks in which an output carried SILENT (R404). -/
structure SilRun where
  out : Nat
  run : Nat
  deriving DecidableEq, Repr

/-- The Stipple of an output (R412–R415): c, the gain at the end of the last block, the mean
square at POST_LIMIT, and since which presentation index it has run without a break. -/
structure Stipple where
  out : Nat
  on : Bool := false
  c : Int := 0
  gain : Word32 := 0#32
  ms : Word32 := 0#32
  since : Nat := 0
  /-- The gains at both ends of the block last presented. -/
  g0 : Word32 := 0#32
  g1 : Word32 := 0#32
  /-- Σ a over the window in progress, in units of 2⁻¹⁴⁹. -/
  sum : Int := 0
  /-- The window in progress is INCONCLUSIVE for the output (R419). -/
  spoiled : Bool := false
  deriving DecidableEq, Repr

/-- The fold buffer of a probe: entries that are not zero, by index, and the samples that
carried CONCEALED or UNSETTLED (R417, R419). -/
structure Fold where
  probe : Nat
  buf : List (Nat × Nat) := []
  bad : Nat := 0
  deriving DecidableEq, Repr

/-- What a window that closed left for an output: A_j in units of 2⁻¹⁴⁹ and whether it is
INCONCLUSIVE. -/
structure OutWindow where
  out : Nat
  sum : Int
  spoiled : Bool
  deriving DecidableEq, Repr

/-- A window that closed and waits for its correlation. -/
structure DoneWindow where
  endBlock : Nat
  length : Nat
  folds : List Fold
  outs : List OutWindow
  deriving DecidableEq, Repr

/-- A reference r_j (R421, R422), and how a capture stands: windows still to try. -/
structure Reference where
  out : Nat
  taps : List Word32 := []
  tries : Nat := 0
  deriving DecidableEq, Repr

/-- Runs of an output's verdicts (R425): consecutive EXCLUDE verdicts, consecutive PASS
verdicts, the line run, and whether the line's last verdict was OK. -/
structure PfRun where
  out : Nat
  exclude : Nat := 0
  pass : Nat := 0
  line : Nat := 0
  lineBad : Bool := false
  recovered : Bool := false
  deriving DecidableEq, Repr

/-- A supervised line (R426–R428): its phase (0 rising, 1 settle high, 2 high, 3 falling, 4
settle low, 5 low), the sums of the sense samples and what the period saw. -/
structure Line where
  line : Nat
  phase : Nat := 0
  sumHigh : Word32 := 0#32
  nHigh : Nat := 0
  sumLow : Word32 := 0#32
  nLow : Nat := 0
  full : Bool := false
  spoiled : Bool := false
  learn : Bool := false
  run : Nat := 0
  lastShort : Bool := false
  deriving DecidableEq, Repr

/-- Venue services and Proof. -/
structure ServiceState where
  voices : List VoiceRun := []
  trackers : List Tracker := []
  /-- Publications that wait for a transaction slot: tracker and step count (R395). -/
  publish : List (Nat × Nat) := []
  /-- Winning announcements, and announcements pre-empted, at the last boundary (R387). -/
  winners : List Nat := []
  preempted : List Nat := []
  /-- Active announcements with arb_since. -/
  active : List (Nat × Nat) := []
  /-- Zones whose objects a winning announcement ducks, and zones in override. -/
  ducked : List Nat := []
  override : List Nat := []
  meters : List Meter := []
  meterClear : Bool := false
  silence : List SilRun := []
  stipple : List Stipple := []
  /-- The integration window in progress: its first sample index. -/
  window : Option Nat := none
  folds : List Fold := []
  /-- A window that has closed, and the one whose correlation runs. -/
  closed : Option DoneWindow := none
  done : Option DoneWindow := none
  refs : List Reference := []
  runs : List PfRun := []
  lines : List Line := []
  deriving DecidableEq, Repr

end Sys2Proof.Machine
end

