-- ==== Sys2Proof/Machine/PartsShow.lean ====
section
/-! DEFINITION. The parts of the state that belong to show time, timed actions and
transactions (chapter 4). -/

namespace Sys2Proof.Machine

/-- The LTC tracker beside its objects (R186, R187). -/
structure LtcTracker where
  /-- The frames of the fit, newest first: media time of bit 0 and LTC time, in 2⁻³² ns. -/
  frames : List (Int × Int) := []
  /-- Consecutive valid frames in LOCKING. -/
  run : Nat := 0
  /-- The frame count of the last frame, with the days passed. -/
  last : Option Int := none
  /-- The days added at midnight. -/
  days : Nat := 0
  /-- A re-anchor waits for the next boundary. -/
  reanchor : Bool := false
  /-- A pause waits for the next boundary (R185). -/
  pause : Bool := false
  /-- The partner has acknowledged the re-anchor or pause that waits (R543). -/
  acked : Bool := false
  /-- The fabric transaction that publishes the re-anchor in progress (R188). -/
  published : Option Nat := none
  deriving DecidableEq, Repr

/-- How an action entry stands beside its objects (R191–R195, R660). -/
structure ActionNote where
  /-- The entry, 0x000–0x3FF. -/
  entry : Nat
  /-- Armed or changed by a commit while the show was PAUSED. -/
  pausedArm : Bool := false
  /-- Passed by a forward jump during a pause, or rearmed at its instant by a backward one:
  fires at the first boundary at which the show runs again. -/
  fireAtRun : Bool := false
  /-- Armed by the commit of this boundary. -/
  fresh : Bool := false
  /-- The latest boundary at which a BLOCK entry has fired or was passed. -/
  passed : Option Nat := none
  /-- The rung of the transaction that armed it, when its admission requires shedding (R285). -/
  rung : Option Nat := none
  deriving DecidableEq, Repr

/-- Show time beside its objects. -/
structure ShowState where
  /-- ST of the last boundary, in ns. -/
  last : Int := 0
  /-- Whether show time ran at the last boundary. -/
  ran : Bool := false
  ltc : LtcTracker := {}
  notes : List ActionNote := []
  /-- The last LTC word sent on LTC_OUT: its 80 bits. -/
  ltcOut : Option Nat := none
  deriving DecidableEq, Repr

/-- A transaction (R199–R205), with what a fabric commit adds (R210–R215). States are coded
as R221 codes them. -/
structure Txn where
  id : Nat
  /-- The slot it holds (R199, R222). -/
  slot : Nat := 0
  /-- LOCAL 0, FABRIC 1. -/
  scope : Nat := 0
  rung : Nat := 6
  /-- The source and session that opened it; none for the module's own and for a
  participant's. -/
  owner : Option (Source × Nat) := none
  role : Role := .own
  st : Nat := 1
  items : List Item := []
  /-- ASAP 0, BLOCK 1, SHOW 2. -/
  kind : Nat := 0
  show_ : Int := 0
  entry : Nat := 0
  applyBlock : Nat := 0
  /-- The boundary at which it has applied (R219). -/
  appliedBlock : Nat := 0
  /-- APPLY_NEXT 0, DROP 1. -/
  late : Nat := 0
  autoCommit : Bool := true
  allowShed : Bool := false
  reason : Nat := 0
  refusing : Nat := 0
  orderTime : Nat := 0
  orderNode : Nat := 0
  orderSeq : Nat := 0
  originator : Bool := true
  /-- The nodes named in PREPARE. -/
  participants : List Nat := []
  yes : List Nat := []
  no : List Nat := []
  acked : List Nat := []
  /-- The applied blocks that the ACKs have named, by node (R219). -/
  applied : List (Nat × Nat) := []
  membersLate : Nat := 0
  /-- The seal of the apply block has passed. -/
  sealed_ : Bool := false
  /-- It applies later than its scheduled boundary. -/
  isLate : Bool := false
  /-- A participant has learned a decision for a later boundary than PREPARE named. -/
  moved : Bool := false
  /-- TXN_COMMIT was accepted before the votes were complete. -/
  commitAsked : Bool := false
  /-- It was admitted over the ceiling of the Welt: its apply boundary sheds (R207, R285). -/
  sheds : Bool := false
  /-- The DATA chunks received by a participant, by rising index. -/
  chunks : List (Nat × List Byte) := []
  chunkCount : Nat := 0
  payloadLength : Nat := 0
  digest : Nat := 0
  /-- The node a participant answers to. -/
  origin : Nat := 0
  /-- The TXN_PREPARE request whose reply waits for the votes (R221). -/
  waiting : Option Req := none
  /-- Whether an originator with a partner has its partner's confirmation (R213). -/
  confirmed : Bool := false
  deriving DecidableEq, Repr

/-- The rung under which it sheds, when its admission requires shedding (R285). -/
def Txn.shedRung (t : Txn) : Option Nat := if t.sheds then some t.rung else none

/-- What a seal took for a boundary: the LIVE writes and the transactions (R204). -/
structure Snapshot where
  block : Nat
  live : List (Nat × Nat) := []
  txns : List Nat := []
  deriving DecidableEq, Repr

/-- The Commit Unit (R199–R217). -/
structure CommitUnit where
  /-- The slots in use, at most 16 (R199). -/
  slots : List Txn := []
  /-- Finished transactions that can still be queried (R213, R221). -/
  finished : List Txn := []
  /-- DATA chunks whose PREPARE has not come: transaction, index, count and bytes (R211). -/
  data : List (Nat × Nat × Nat × List Byte) := []
  /-- The sequence of the last transaction opened (R200). -/
  seq : Nat := 0
  /-- LIVE writes accepted since the last seal, in acceptance order. -/
  live : List (Nat × Nat) := []
  /-- Snapshots taken and not yet applied, oldest first. -/
  sealed_ : List Snapshot := []
  /-- The boundary of the last seal, once there was one. -/
  lastSeal : Option Nat := none
  /-- Writes of fired payloads to area 18, for the next boundary: the firing boundary, the entry and the items (R209). -/
  deferred : List (Nat × Nat × List Item) := []
  /-- The end of the range of transaction sequences granted over Lace (R546). -/
  granted : Nat := 0
  deriving DecidableEq, Repr

end Sys2Proof.Machine
end

