-- ==== Sys2Proof/Machine/CmdTypes3.lean ====
section
/-! DEFINITION. The operands of the commands of twin operation. -/

namespace Sys2Proof.Machine

/-- The arrival of a Lace frame: the lane it came on, its head and its CRC (R539). -/
structure LaceIn where
  lane : Fin 2
  version : Nat := 1
  type : Nat
  /-- The number of the sending lane. -/
  from_ : Nat
  length : Nat
  seq : Nat := 1
  crc : Nat
  deriving DecidableEq, Repr

/-- What a complete checkpoint spells: the recursive state of R557, at the end of the block
before its checkpoint block (log entry 36). -/
structure Checkpoint where
  pairs : List PairMem := []
  ingest : List Ingest := []
  objs : List ObjNow := []
  chains : List Chain := []
  dests : List DestNow := []
  stipple : List Stipple := []
  meters : List Meter := []
  silence : List SilRun := []
  voices : List VoiceRun := []
  notes : List ActionNote := []
  /-- Entry, voice, silence and standby states: addresses and values. -/
  values : List (Nat × Nat) := []
  /-- Outputs that are excluded as FAILED. -/
  excluded : List Nat := []
  nodes : List NodeNow := []
  insts : List Inst := []
  published : List (Nat × Nat) := []
  /-- State regions: addresses and bytes. -/
  regions : List (Nat × List (BitVec 8)) := []
  deriving DecidableEq, Repr

end Sys2Proof.Machine

/-- The bytes that spell a checkpoint: the manual gives them no layout (R556, R557; log entry 127). -/
opaque Sys2Proof.Config.checkpointBytes : Sys2Proof.Machine.Checkpoint → List (BitVec 8)
end

