-- ==== Sys2Proof/Machine/CmdTypes4.lean ====
section
/-! DEFINITION. The operands of the commands of MDAP, of the Commit Unit and of Shank. -/

namespace Sys2Proof.Machine

/-- What a TXN_PREPARE asks for (R221). -/
structure PrepareArgs where
  id : Nat
  /-- ASAP 0, BLOCK 1, SHOW 2. -/
  kind : Nat
  /-- A block index, or the bits of an ST64. -/
  time : Nat
  entry : Nat := 0
  /-- APPLY_NEXT 0, DROP 1. -/
  late : Nat := 0
  autoCommit : Bool := true
  allowShed : Bool := false
  /-- The participants; none for ALL. -/
  nodes : Option (List Nat) := none
  deriving DecidableEq, Repr

/-- The body of an MDAP request after its common bytes (R83, R93–R110, R118, R221). -/
inductive Msg
  | read (addrs : List Nat)
  /-- The items, and bits [2:1] of the flags: the target of a unit-own object (R544). -/
  | write (items : List Item) (target : Nat)
  | writeStaged (items : List Item)
  /-- The address, the enumeration start, and the flag NEXT. -/
  | describe (addr start : Nat) (next : Bool)
  | subscribe (sub addr mode interval : Nat)
  /-- The flags FIRST and LAST, and the other six bits of the flags, which mean nothing (R82, R103). -/
  | blobWrite (addr : Nat) (first last : Bool) (other : Fin 64) (offset total : Nat) (data : List (BitVec 8))
  | blobRead (addr offset max : Nat)
  | txnOpen (scope rung : Nat)
  | txnAdd (id : Nat) (items : List Item)
  | txnPrepare (p : PrepareArgs)
  | txnCommit (id : Nat)
  | txnAbort (id : Nat)
  | txnStatus (id : Nat)
  | ping
  | close (reason : Nat)
  /-- The steps of a handshake (R110): the peer's nonce and ephemeral key; a part of the module's chain that the peer
  asks for; a part of the peer's chain; and the peer's signature. -/
  | sesInit (nonce key : List (BitVec 8))
  | sesCertRead (id offset len : Nat)
  | sesCertSend (id offset total : Nat) (data : List (BitVec 8))
  | sesFinish (id : Nat) (sig : List (BitVec 8))
  | unknown (type : Nat)
  deriving DecidableEq, Repr

/-- A PREPARE as received (R219). -/
structure FabPrepare where
  id : Nat
  /-- The sender node. -/
  node : Nat
  orderTime : Nat
  /-- BLOCK 1, SHOW 2. -/
  kind : Nat
  applyBlock : Nat
  show_ : Nat
  entry : Nat
  rung : Nat
  autoCommit : Bool
  allowShed : Bool
  late : Nat
  chunks : Nat
  length : Nat
  digest : Nat
  nodes : List Nat
  deriving DecidableEq, Repr

/-- How a fabric transaction frame arrives (R218, R500): its port, its head and trailer, and the version and the sender
node of its message. -/
structure TxnIn where
  port : Fin 6
  frame : FabFrame
  node : Nat
  version : Nat := 1
  deriving DecidableEq, Repr

/-- What an ACK says: the block at which its sender applied the transaction, and whether that was late (R219). -/
structure TxnAck where
  applied : Nat
  late : Bool
  deriving DecidableEq, Repr

/-- What Shank reads of the sensors (R601, R628). `out` lists the rails outside ±5 % of their
nominal value for 1 ms. -/
structure Sensors where
  die : List Word32
  module : Word32
  dram : Word32
  vin : Word32
  iin : Word32
  vio : Word32
  vao : Word32
  vdac : Word32
  rails : List Word32
  eyes : List Word32
  out : List Nat
  deriving DecidableEq, Repr

/-- What a JOURNAL entry holds back until the partner has acknowledged it (R543). -/
inductive Held
  /-- An accepted request. -/
  | request (r : Req) (m : Msg)
  /-- A participant's vote on a transaction. -/
  | vote (id : Nat)
  /-- The originator's decision, COMMIT or ABORT with a reason. -/
  | decision (id : Nat) (commit : Bool) (reason : Nat)
  /-- An OUTCOME that answers the QUERY of a node. -/
  | outcome (id node : Nat)
  /-- An ACK to the originator. -/
  | ack (id : Nat)
  /-- A Proof verdict of an output, and a line's period. -/
  | verdict (j : Nat)
  | line (l : Nat)
  /-- A transaction that the module originates itself: rung, scope and items. -/
  | originate (rung scope : Nat) (items : List Item)
  /-- An LTC re-anchor, or its loss pause. -/
  | reanchor
  | pause
  /-- A power state request. -/
  | power (target : Nat)
  deriving DecidableEq, Repr

end Sys2Proof.Machine
end

