-- ==== Sys2Proof/Machine/PartsPower.lean ====
section
/-! DEFINITION. The parts of the state that belong to supplies, reset, the always-on domain
and power states (chapters 1 and 16). -/

namespace Sys2Proof.Machine

/-- What the module as a whole does. -/
inductive Phase
  /-- No supply, or the internal rails are switched off (R30). -/
  | off
  /-- The sequence of R30 runs. -/
  | shutdown
  /-- Internal reset is held (R34–R36). -/
  | reset
  /-- The boot ROM runs (R36, R42). -/
  | boot
  /-- The self-check failed, or no valid image was found (R42, R613). -/
  | halted
  /-- A recovery image runs (R613). -/
  | recovery
  /-- Firmware starts: up to the replay of the persistent image (R627). -/
  | starting
  /-- ON or QUIET, or on the way between them (R616). -/
  | running
  | dormant
  /-- From a wake event to the first block (R623). -/
  | waking
  deriving DecidableEq, Repr

/-- A wake event (R621). -/
inductive Wake
  | alarm (n : Fin 4)
  | comparator (n : Fin 2)
  | input (n : Fin 2)
  | mgt | fab0 | hspi | partner
  deriving DecidableEq, Repr

/-- The always-on domain: fed from VIN or VAO, it keeps what a reset does not clear (R25,
R41, R622). -/
structure AlwaysOn where
  /-- Whether its contents are held. -/
  held : Bool := true
  /-- The reset cause it recorded, if any (R30, R52). -/
  cause : Option Nat := none
  /-- aod_time less local time: what the time-keeper adds, in 2⁻³² ns. -/
  offset : Int := 0
  /-- The stored IDAC power-up values (R41, R464), by IDAC; none before the first. -/
  idacs : List Nat := []
  /-- The control voltage of the APLL was recorded at DORMANT entry (R623). -/
  precharge : Bool := false
  /-- aod_time of DORMANT entry, and the time run from VAO since, in ns (R602). -/
  entered : Nat := 0
  onVao : Nat := 0
  /-- aod_time at which VIN was lost, while it is absent. -/
  lost : Option Nat := none
  deriving DecidableEq, Repr

/-- Supplies, reset and power. -/
structure PowerState where
  phase : Phase := .boot
  /-- The safe scene is in force (R626). -/
  safe : Bool := true
  /-- The supplies that are good (R23–R34). -/
  vin : Bool := true
  vio : Bool := true
  /-- VIO has returned, and the local ports wait for the next boundary (R33). -/
  vioWait : Bool := false
  vdac : Bool := true
  vao : Bool := true
  /-- The internal rails are in regulation (R34). -/
  rails : Bool := true
  pgood : Bool := true
  nreset : Bool := true
  /-- VIN recovered during the sequence of R30 (R31). -/
  restart : Bool := false
  /-- A thermal trip holds the module off (R52). -/
  thermal : Bool := false
  aod : AlwaysOn := {}
  /-- The transition that runs: its target and the boundary at which it applied (R617, R620). -/
  entry : Option (Nat × Nat) := none
  /-- The request held for the next boundary (R617). -/
  held : Option Nat := none
  /-- A pw_request has applied since the wake (R625). -/
  asked : Bool := false
  /-- A wake event that came during entry to DORMANT (R621). -/
  early : Option Wake := none
  /-- The boundary of the last presented block of a rendering stop (R611, R620). -/
  stopAt : Option Nat := none
  /-- The firmware slot that fw_activate resets into, and the boundary of that reset (R611). -/
  activate : Option (Nat × Nat) := none
  /-- The firmware slot that boots (R612, R613). -/
  bootSlot : Nat := 0
  /-- The control voltage and the copy of R620 are held, with the dictionary (R623). -/
  saved : Bool := false
  /-- The module temperature at DORMANT entry (R602). -/
  enteredTemp : Word32 := 0#32
  /-- fw_trial_time runs from the end of the start-up (R612). -/
  startedUp : Bool := false
  /-- The next start is the first of a trial (R611, R612). -/
  trialFresh : Bool := false
  /-- Conditions of R601 that hold: sensor records already written. -/
  warned : List Nat := []
  deriving DecidableEq, Repr

end Sys2Proof.Machine
end

