-- ==== Sys2Proof/Syntax.lean ====
section
/-! DEFINITION. The commands of the block: one constructor for each row of the table of
operations and events (spec/opcode_table.json), with what the command brings from outside
as its operands. -/

namespace Sys2Proof

open Machine

/-- The commands of the module. -/
inductive Instr
  /-- VIN_UNDERVOLTAGE (R30): VIN falls below 9.8 V and the module starts its shutdown sequence: PGOOD low, outputs muted,
  IOUT to fault values, transmitters idle, UVLO record written. -/
  | vinUndervoltage
  /-- UVLO_SHUTDOWN_COMPLETE (R30): 200 µs after the under-voltage crossing, the internal rails switch off and UVLO is recorded as
  the reset cause. -/
  | uvloShutdownComplete
  /-- VIN_RECOVER (R31): VIN rises above 10.2 V during the shutdown sequence; the sequence still completes and the module
  then starts as from power-up. -/
  | vinRecover
  /-- VIO_LOSS (R33): VIO falls below 2.90 V while VIN is good; PGOOD goes low, L33 inputs count as invalid, local
  outputs mute and a FAILED record is written. -/
  | vioLoss
  /-- VIO_RETURN (R33): VIO becomes good again and the local ports resume at the next block boundary. -/
  | vioReturn
  /-- VDAC_CHANGE (R24): VDAC becomes good or is lost, which releases IOUT0–15 or holds them at 0 mA. -/
  | vdacChange (good : Bool)
  /-- SUPPLIES_GOOD (R34): VIN and VIO are both good and the internal rails are in regulation, so PGOOD is released and
  soft-start completes. -/
  | suppliesGood
  /-- NRESET_REQUEST (R35): nRESET is held low for at least 1 µs and resets everything except the always-on domain. -/
  | nresetRequest
  /-- RESET_RELEASE (R36): Internal reset is released 2 ms after the later of PGOOD high and nRESET high. -/
  | resetRelease (boot : Fin 4) (slot : Fin 2) (keeper : Nat) (roleIn : Bool)
  /-- BOOT_SELF_CHECK (R42): The boot ROM completes its self-check; nFAULT is released on a pass and stays asserted on a
  failure. -/
  | bootSelfCheck (pass : Bool)
  /-- THERMAL_TRIP (R52): A die sensor reads 125 °C and the shutdown sequence runs with reset cause THERMAL. -/
  | thermalTrip
  /-- THERMAL_RESTART (R52): Every die sensor reads below 105 °C after a thermal trip and the module restarts. -/
  | thermalRestart
  /-- READ (R93): An MDAP READ returns up to 64 items, all taken from the same instant. -/
  | read (r : Req) (addrs : List Nat)
  /-- WRITE (R95): An MDAP WRITE checks every item and then applies all of them or none; writes to registers
  without a row of their own fall here. -/
  | write (r : Req) (items : List Item) (target : Nat)
  /-- WRITE_STAGED (R96): A WRITE_STAGED opens, fills and commits a local transaction for the first boundary whose seal
  follows acceptance. -/
  | writeStaged (r : Req) (items : List Item)
  /-- DESCRIBE (R97): A DESCRIBE returns the metadata of an object, or with NEXT set of the next existing object. -/
  | describe (r : Req) (addr start : Nat) (next : Bool)
  /-- SUBSCRIBE (R99): A SUBSCRIBE creates or cancels an ON_CHANGE or PERIODIC subscription. -/
  | subscribe (r : Req) (sub addr mode interval : Nat)
  /-- BLOB_WRITE (R103): A BLOB_WRITE chunk is appended to the session's shadow; on LAST the shadow is completed and
  given a new generation. -/
  | blobWrite (r : Req) (addr : Nat) (first last : Bool) (other : Fin 64) (offset total : Nat) (data : List (BitVec 8))
  /-- BLOB_READ (R107): A BLOB_READ returns a chunk of a BLOB value together with its handle. -/
  | blobRead (r : Req) (addr offset most : Nat)
  /-- BLOB_SHADOW_EXPIRE (R103): A shadow not completed within 60 s of its last chunk is discarded. -/
  | blobShadowExpire (addr : Nat)
  /-- UNKNOWN_MESSAGE_TYPE (R83): A message of an unlisted type is answered with reply type 0xFF and status NO_OBJECT. -/
  | unknownMessageType (r : Req) (type : Nat)
  /-- SPI_PUT (R87): The host SPI command PUT queues a frame, or discards it when the input queue is full. -/
  | spiPut (frame : List (BitVec 8))
  /-- SPI_GET (R87): The host SPI command GET returns the oldest frame of the output queue. -/
  | spiGet
  /-- SPI_STATUS (R87): The host SPI command STATUS returns only the status byte. -/
  | spiStatus
  /-- SES_INIT (R110): A peer starts a session handshake and the module answers with SES_REPLY. -/
  | sesInit (m : SesInit)
  /-- SES_CERT_READ (R110): A SES_CERT with flag bit 0 clear returns part of the module's certificate chain. -/
  | sesCertRead (r : Req) (id offset len : Nat)
  /-- SES_CERT_SEND (R110): A SES_CERT with flag bit 0 set delivers part of the peer's certificate chain. -/
  | sesCertSend (r : Req) (id offset total : Nat) (data : List (BitVec 8))
  /-- SES_FINISH (R113): The module verifies the peer's chain and signature, assigns a role and admits or refuses the
  session. -/
  | sesFinish (r : Req) (id : Nat) (sig : List (BitVec 8))
  /-- SES_PING (R118): A SES_PING keeps a quiet session open. -/
  | sesPing (r : Req)
  /-- SES_CLOSE (R118): A SES_CLOSE closes the session and ends its work in progress. -/
  | sesClose (r : Req) (reason : Nat)
  /-- HANDSHAKE_TIMEOUT (R121): A handshake not finished within 5 s of its SES_INIT is discarded. -/
  | handshakeTimeout (id : Nat)
  /-- SESSION_IDLE_TIMEOUT (R118): No frame arrives for session_idle_timeout and the session closes with reason IDLE. -/
  | sessionIdleTimeout (id : Nat)
  /-- SESSION_REKEY (R118): A session reaches 2^31 frames or 24 h of age and closes with reason REKEY. -/
  | sessionRekey (id : Nat)
  /-- ROLE_CHANGE_CLOSE (R119): A role table change alters an open session's role and the session is closed within 1 s with
  reason ROLE_CHANGED. -/
  | roleChangeClose
  /-- SESSION_CLOSE_WRITE (R118): A write to session_close closes the named session. -/
  | sessionCloseWrite (r : Req) (id : Nat)
  /-- PERSIST_APPEND (R75): Changes that took effect are appended to the persistent journal within 2 s. -/
  | persistAppend (ok : Bool) (bytes : Nat)
  /-- PERSIST_FLUSH (R77): A write of persist_flush replies only once every earlier accepted change is in NAND. -/
  | persistFlush (r : Req)
  /-- PERSIST_RESET (R79): A write of persist_reset makes every +P object take its default at the next reset. -/
  | persistReset (r : Req)
  /-- RUN_CONTROL_WRITE (R69): An area or instance run control is written, and the block stops with its outputs muted or starts
  through STARTING. -/
  | runControlWrite (r : Req) (a : Nat) (run : Bool)
  /-- SEAL (R204): 20 µs before each boundary, the Commit Unit snapshots the committed transactions and the
  accepted LIVE writes; undecided participants enter IN_DOUBT. -/
  | seal (b : Nat)
  /-- BLOCK_BOUNDARY (R209): At each block boundary, the module applies LIVE writes, commits, media time, show time, actions
  and subscriptions in a fixed order. -/
  | blockBoundary (k : Nat)
  /-- MEDIA_REVERT (R154): The configured source has been LOCKED for 60 s and media time returns to it. -/
  | mediaRevert
  /-- MEDIA_STEP (R152): A bridge above threshold found at boundary k steps media time at boundary k + 2, with an output
  ramp and UNSETTLED. -/
  | mediaStep
  /-- TIMEBASE_TICK (R125): On each timebase clock tick, the local counter adds tb_increment. -/
  | timebaseTick
  /-- TB_INCREMENT_WRITE (R127): A write of tb_increment changes the counter's rate from the next tick, and is refused while a
  servo runs. -/
  | tbIncrementWrite (r : Req) (v : Nat)
  /-- DOM_RATE_WRITE (R131): A write of r_d re-anchors domain time in one tick so that the domain time stays continuous. -/
  | domRateWrite (r : Req) (d : Fin 2) (v : Int)
  /-- DOM_ADJUST (R132): A write of dom_adjust adds a step to the domain's offset. -/
  | domAdjust (r : Req) (d : Fin 2) (v : Int)
  /-- DOM_ENABLE_WRITE (R134): dom_enable switches a PTP domain between DISABLED and LISTENING. -/
  | domEnableWrite (r : Req) (d : Fin 2) (v : Bool)
  /-- PTP_ANNOUNCE (R134): A received Announce feeds best master selection and may move the domain state. -/
  | ptpAnnounce (d : Fin 2) (f : PtpIn) (m : Master)
  /-- PTP_SYNC (R135): A received Sync updates the servo and may move the domain to ACQUIRING or LOCKED. -/
  | ptpSync (d : Fin 2) (f : PtpIn) (sender seq : Nat) (twoStep : Bool) (origin atLand : Int)
  /-- ANNOUNCE_TIMEOUT (R134): An announce timeout moves a domain to LISTENING, GRANDMASTER, LOST or HOLDOVER. -/
  | announceTimeout (d : Fin 2)
  /-- SYNC_TIMEOUT (R134): No Sync arrives for 3 sync intervals and the domain leaves ACQUIRING or LOCKED. -/
  | syncTimeout (d : Fin 2)
  /-- HOLDOVER_LIMIT_EXPIRE (R134): dom_holdover_limit elapses in HOLDOVER; the domain becomes LOST and a DEGRADED record is
  written. -/
  | holdoverLimitExpire (d : Fin 2)
  /-- SYNT_SOURCE_LOSS (R146): The syntonisation source port loses its signal or its parent role, and syntonisation enters
  HOLDOVER. -/
  | syntSourceLoss
  /-- WCLK_EDGE (R157): A rising edge on WCLK_IN advances the word-clock sample index. -/
  | wclkEdge
  /-- WCLK_LOST (R157): wclk_loss_periods edges are missing and the word clock becomes LOST. -/
  | wclkLost
  /-- EVENT_PULSE (R161): A generating event pin reaches a programmed pulse time and produces the pulse, or counts it as
  skipped. -/
  | eventPulse (pin : Fin 6) (skipped : Bool)
  /-- EV_REARM (R162): A write of ev_mode, ev_start or ev_start_sample rearms the pin and applies the late rules. -/
  | evRearm (r : Req) (pin : Fin 6) (field : Fin 3) (v : Nat)
  /-- EVENT_CAPTURE (R163): A qualifying edge on a capturing pin is queued, merged or lost. -/
  | eventCapture (pin : Fin 6) (e : PinEdge)
  /-- EV_POP (R163): A write to ev_pop removes the oldest capture. -/
  | evPop (r : Req) (pin : Fin 6)
  /-- LAUNCH (R165): A transmit descriptor with a launch time is examined and its frame is started at the launch time
  or under its late policy. -/
  | launch (r : Fin 24)
  /-- APLL_LOCK (R171): The phase error stays within 20 ns for 256 reference periods and the APLL becomes LOCKED. -/
  | apllLock (phase : Word32)
  /-- APLL_UNLOCK (R171): The phase error exceeds 100 ns for 8 periods; the APLL returns to ACQUIRING and a WARN record is
  written. -/
  | apllUnlock (phase : Word32)
  /-- SHOW_RUN (R183): The command show_run pauses or resumes the show time mapping at its commit boundary. -/
  | showRun (v : Bool)
  /-- SHOW_JUMP (R183): The command show_jump re-anchors show time at its commit boundary. -/
  | showJump (j : Int)
  /-- SHOW_SET_RATE (R183): The command show_set_rate changes the show rate, or the resume rate while paused. -/
  | showSetRate (r : Nat)
  /-- LTC_FRAME (R187): A decoded LTC frame moves the tracker state and may call for a re-anchor. -/
  | ltcFrame (h mi sec f user : Nat) (start : Int)
  /-- LTC_REANCHOR (R187): At the next boundary the LTC tracker re-anchors the show mapping, or publishes the re-anchor as
  a fabric transaction. -/
  | ltcReanchor
  /-- LTC_LOSS (R187): ltc_loss_frames expected frames are missing and the tracker enters FREEWHEEL. -/
  | ltcLoss
  /-- LTC_FREEWHEEL_EXPIRE (R187): ltc_freewheel_frames elapse without a valid frame; the tracker becomes LOST and show time
  pauses. -/
  | ltcFreewheelExpire
  /-- LTC_OUT_FRAME (R189): LTC_OUT starts the next frame when its show time is reached. -/
  | ltcOutFrame
  /-- TXN_OPEN (R221): TXN_OPEN takes a transaction slot and returns a transaction ID. -/
  | txnOpen (r : Req) (scope rung : Nat)
  /-- TXN_ADD (R201): TXN_ADD adds checked items to an open transaction. -/
  | txnAdd (r : Req) (id : Nat) (items : List Item)
  /-- TXN_PREPARE (R203): TXN_PREPARE validates, admits and reserves the transaction; in FABRIC scope it starts the fabric
  commit. -/
  | txnPrepare (r : Req) (p : PrepareArgs)
  /-- TXN_COMMIT (R203): TXN_COMMIT commits a prepared transaction, or applies its late policy. -/
  | txnCommit (r : Req) (id : Nat)
  /-- TXN_ABORT (R202): TXN_ABORT aborts an open or prepared transaction. -/
  | txnAbort (r : Req) (id : Nat)
  /-- TXN_STATUS (R221): TXN_STATUS returns the state and the vote counts of a transaction. -/
  | txnStatus (r : Req) (id : Nat)
  /-- FAB_TXN_DATA (R218): A fabric DATA chunk of a transaction payload is received. -/
  | fabTxnData (f : TxnIn) (id index count : Nat) (data : List (BitVec 8))
  /-- FAB_TXN_PREPARE (R211): A participant receives PREPARE, checks and reserves, and votes. -/
  | fabTxnPrepare (f : TxnIn) (p : FabPrepare)
  /-- FAB_TXN_VOTE (R212): The originator receives a participant's vote. -/
  | fabTxnVote (f : TxnIn) (id : Nat) (yes : Bool) (reason : Nat)
  /-- FAB_TXN_NACK (R211): The originator receives a NACK and resends the missing chunks. -/
  | fabTxnNack (f : TxnIn) (id first count : Nat)
  /-- FAB_TXN_DECISION (R202): A participant receives DECISION and commits or aborts. -/
  | fabTxnDecision (f : TxnIn) (id : Nat) (commit : Bool) (block : Nat)
  /-- FAB_TXN_QUERY (R215): A member receives QUERY and answers with an OUTCOME. -/
  | fabTxnQuery (f : TxnIn) (id : Nat)
  /-- FAB_TXN_OUTCOME (R215): An IN_DOUBT participant receives an OUTCOME and settles or stays IN_DOUBT. -/
  | fabTxnOutcome (f : TxnIn) (id outcome block : Nat)
  /-- FAB_TXN_ACK (R210): The originator receives a participant's ACK with its applied block and late flag. -/
  | fabTxnAck (f : TxnIn) (id : Nat) (a : TxnAck)
  /-- VOTE_DEADLINE (R212): At B − 450 µs, the originator decides COMMIT or ABORT, with MISSING for absent votes. -/
  | voteDeadline (id : Nat)
  /-- TXN_COMMIT_WAIT_EXPIRE (R203): No TXN_COMMIT arrives within txn_commit_wait after the deadline, and the transaction aborts with
  NO_COMMIT. -/
  | txnCommitWaitExpire (id : Nat)
  /-- QUERY_TIMER (R215): A participant without a decision sends QUERY at B − 100 µs and every 1 ms after, to every
  participant from 10 ms after the seal. -/
  | queryTimer (id : Nat)
  /-- TXN_INDOUBT_ALARM (R215): txn_indoubt_alarm elapses in IN_DOUBT and a DEGRADED record TXN_IN_DOUBT is written. -/
  | txnIndoubtAlarm (id : Nat)
  /-- TXN_OUTCOME_EXPIRE (R213): txn_outcome_keep elapses and the finished transaction's record is discarded. -/
  | txnOutcomeExpire (id : Nat)
  /-- TXN_RESOLVE_COMMIT (R217): A write of txn_resolve_commit settles an IN_DOUBT transaction as COMMIT on this member. -/
  | txnResolveCommit (r : Req) (id : Nat)
  /-- TXN_RESOLVE_ABORT (R217): A write of txn_resolve_abort settles an IN_DOUBT transaction as ABORT on this member. -/
  | txnResolveAbort (r : Req) (id : Nat)
  /-- TRIANGULATION_DONE (R253): Shank completes the new triangulation after a change of its inputs. -/
  | triangulationDone
  /-- TRIANGULATION_SWAP (R253): At B + 30 the new triangulation governs PAN and SPREAD, and tri_generation rises. -/
  | triangulationSwap
  /-- LST_CLEAR_FAIL (R256): The command lst_clear_fail returns a FAILED output to OK at its boundary. -/
  | lstClearFail (j : Fin 1024)
  /-- RENDER_SLOT (R265): The Welt renders the block of its slot, output by output, and the reduction delivers each
  output. -/
  | renderSlot (missing : List (Fin 16)) (ohm pairErr : List (Nat × Nat))
  /-- WELT_DEADLINE (R266): An output not delivered by 310 µs into the slot is presented HELD and a WARN record is written. -/
  | weltDeadline (j : Fin 1024)
  /-- OUTCHAIN_DEADLINE (R296): An output block misses the 328 µs chain deadline and its destinations present HELD. -/
  | outchainDeadline (j : Fin 1024)
  /-- ETCH_TRANSFORM_DONE (R310): A pending Etcher set finishes its transform and becomes READY or BAD. -/
  | etchTransformDone (j : Fin 1024)
  /-- ETCH_XFADE_COMPLETE (R310): The Etcher crossfade completes and the outgoing set is released. -/
  | etchXfadeComplete (j : Fin 1024)
  /-- ETCH_PERSIST (R313): An applied Etcher set is written to the NAND clip store within 10 s. -/
  | etchPersist (j : Fin 1024)
  /-- STEPPER_TIMEOUT (R322): No zero crossing occurs within out_step_timeout samples and the gain stepper starts its ramp. -/
  | stepperTimeout (j : Fin 1024)
  /-- NOP (R340): A NOP bundle issues nothing. -/
  | nop (c : Fin 8)
  /-- MAC (R347): A DUAL MAC slot adds an exactly rounded product into an accumulator. -/
  | mac (c : Fin 8)
  /-- MSU (R347): A DUAL MSU slot subtracts an exactly rounded product from an accumulator. -/
  | msu (c : Fin 8)
  /-- FMA (R343): A DFMA FMA slot computes fd := fs × ft + fd, rounded once. -/
  | fma (c : Fin 8)
  /-- FMS (R343): A DFMA FMS slot computes fd := fd − fs × ft, rounded once. -/
  | fms (c : Fin 8)
  /-- DFMA_FADD (R343): A DFMA FADD slot computes fd := fs + ft. -/
  | dfmaFadd (c : Fin 8)
  /-- MOV (R345): ALU MOV copies raw bits. -/
  | mov (c : Fin 8)
  /-- IADD (R345): ALU IADD adds integers, modulo the width of the destination. -/
  | iadd (c : Fin 8)
  /-- ISUB (R345): ALU ISUB subtracts integers, modulo the width of the destination. -/
  | isub (c : Fin 8)
  /-- FADD (R345): ALU FADD adds two FP32 values. -/
  | fadd (c : Fin 8)
  /-- FSUB (R345): ALU FSUB subtracts two FP32 values. -/
  | fsub (c : Fin 8)
  /-- FMUL (R345): ALU FMUL multiplies two FP32 values. -/
  | fmul (c : Fin 8)
  /-- FMIN (R345): ALU FMIN returns the lesser FP32 value. -/
  | fmin (c : Fin 8)
  /-- FMAX (R345): ALU FMAX returns the greater FP32 value. -/
  | fmax (c : Fin 8)
  /-- FABS (R345): ALU FABS clears the sign bit. -/
  | fabs (c : Fin 8)
  /-- FNEG (R345): ALU FNEG inverts the sign bit. -/
  | fneg (c : Fin 8)
  /-- FCMP (R345): ALU FCMP sets EQ, LT, GT and UN in sr. -/
  | fcmp (c : Fin 8)
  /-- FTOI (R345): ALU FTOI converts FP32 to the nearest I32, with saturation. -/
  | ftoi (c : Fin 8)
  /-- ITOF (R345): ALU ITOF converts I32 to the nearest F32. -/
  | itof (c : Fin 8)
  /-- FDIV (R345): ALU FDIV divides on the special-function unit. -/
  | fdiv (c : Fin 8)
  /-- FSQRT (R345): ALU FSQRT takes a square root on the special-function unit. -/
  | fsqrt (c : Fin 8)
  /-- FSIN (R345): ALU FSIN computes a sine in radians. -/
  | fsin (c : Fin 8)
  /-- FCOS (R345): ALU FCOS computes a cosine in radians. -/
  | fcos (c : Fin 8)
  /-- FEXP10 (R345): ALU FEXP10 computes 10 to the power S. -/
  | fexp10 (c : Fin 8)
  /-- FLOG10 (R345): ALU FLOG10 computes log10 of S. -/
  | flog10 (c : Fin 8)
  /-- FPOW (R345): ALU FPOW computes S to the power T. -/
  | fpow (c : Fin 8)
  /-- IMM (R344): An IMM bundle loads a 32-bit immediate into a register. -/
  | imm (c : Fin 8)
  /-- ACLR (R348): ACC ACLR clears an accumulator and its wrap count. -/
  | aclr (c : Fin 8)
  /-- AMOV (R348): ACC AMOV copies one accumulator into another. -/
  | amov (c : Fin 8)
  /-- AADD (R348): ACC AADD adds two accumulators, with their wrap counts. -/
  | aadd (c : Fin 8)
  /-- ASUB (R348): ACC ASUB subtracts one accumulator from another, with the wrap steps. -/
  | asub (c : Fin 8)
  /-- ALDF (R348): ACC ALDF loads an F32 value into an accumulator as Q24.48. -/
  | aldf (c : Fin 8)
  /-- ASTF (R348): ACC ASTF stores an accumulator to FP32 with saturation. -/
  | astf (c : Fin 8)
  /-- BR (R352): FLOW BR branches after one delay slot. -/
  | br (c : Fin 8)
  /-- BRC (R352): FLOW BRC branches on a condition after one delay slot. -/
  | brc (c : Fin 8)
  /-- CALL (R352): FLOW CALL pushes a return offset and branches. -/
  | call (c : Fin 8)
  /-- RET (R352): FLOW RET pops a return offset and branches. -/
  | ret (c : Fin 8)
  /-- LOOP (R351): FLOW LOOP sets up a hardware loop with an immediate count. -/
  | loop (c : Fin 8)
  /-- LOOPR (R351): FLOW LOOPR sets up a hardware loop with a count from a register. -/
  | loopr (c : Fin 8)
  /-- LOOP_COUNT_EXPIRE (R351): A loop level's counter runs out at its end bundle and the level ends. -/
  | loopCountExpire (c : Fin 8) (level : Fin 2)
  /-- EXIT (R366): SYS EXIT, or CTL EXIT, ends the instance and the Dispatch Unit publishes its outputs. -/
  | exit (c : Fin 8)
  /-- YIELD (R377): SYS YIELD, or CTL YIELD, switches context when PREQ is set. -/
  | yield (c : Fin 8)
  /-- WAIT (R362): SYS WAIT returns the instance to the delay list for n sample ticks. -/
  | wait (c : Fin 8)
  /-- FENCE (R344): SYS FENCE is a dispatch operation of the SYS class. -/
  | fence (c : Fin 8)
  /-- TRAP (R355): SYS TRAP raises a TRAP exception with its code. -/
  | trap (c : Fin 8)
  /-- OVERRUN (R355): An instance exceeds its declared cycle count and stops with an OVERRUN exception. -/
  | overrun (c : Fin 8)
  /-- INPUTS_AVAILABLE (R361): An instance's inputs become available and it enters the delay list of its core. -/
  | inputsAvailable (n : Fin 4096) (k : Nat)
  /-- DISPATCH_TICK (R362): At each sample tick, the Dispatch Unit moves due instances to the ready lists and starts or
  preempts by class. -/
  | dispatchTick
  /-- FORCED_SWITCH (R368): No YIELD point comes within core_yield_limit cycles in INTERRUPT mode and the context switch is
  forced. -/
  | forcedSwitch (c : Fin 8)
  /-- GRAVER_DEADLINE (R370): An instance has not ended by its deadline; it is stopped and its outputs are concealed. -/
  | graverDeadline (n : Fin 4096) (k : Nat)
  /-- AMB_WINDOW_END (R394): An ambient window of amb_window blocks ends; the owner forms its estimate and may publish
  amb_gain. -/
  | ambWindowEnd (n : Fin 256)
  /-- VOICE_START (R399): The command voice_cmd START, or a CLIP_START action, starts a clip voice at its boundary. -/
  | voiceStart (v : Fin 64)
  /-- VOICE_STOP (R400): The command voice_cmd STOP fades the voice over one block and leaves it IDLE. -/
  | voiceStop (v : Fin 64)
  /-- VOICE_LOOP_END (R399): A voice reaches the end of its last loop and becomes IDLE. -/
  | voiceLoopEnd (v : Fin 64)
  /-- CLIP_LOAD_DONE (R398): A persisted clip finishes copying into DRAM and becomes LOADED. -/
  | clipLoadDone (n : Fin 1024)
  /-- CLIP_PERSIST (R397): A committed clip is written to the NAND clip store within 60 s. -/
  | clipPersist (n : Fin 1024)
  /-- MTR_RESET (R403): A write of mtr_reset clears every meter at the next boundary. -/
  | mtrReset (r : Req)
  /-- SILENCE_TIMEOUT (R404): An output carries SILENT for sil_time and its silence state becomes SILENT. -/
  | silenceTimeout (j : Fin 1024)
  /-- INTEGRATION_WINDOW_END (R417): A Proof integration window of pf_periods periods ends and correlation of the folded buffers
  begins. -/
  | integrationWindowEnd
  /-- PROOF_VERDICT (R424): Correlation completes; each output's response gets a verdict and its lst_status moves. -/
  | proofVerdict (j : Fin 1024)
  /-- PF_REF_CAPTURE (R421): The command pf_ref_capture makes a following window capture the reference, trying at most 8
  windows. -/
  | pfRefCapture (j : Fin 1024)
  /-- PF_REF_PERSIST (R423): A captured or written reference is persisted within 10 s. -/
  | pfRefPersist (j : Fin 1024)
  /-- PF_WINDOW_OPEN (R429): The command pf_window_open opens or closes a Proof window at its boundary. -/
  | pfWindowOpen (d : Nat)
  /-- PROOF_WINDOW_CLOSE (R429): A Proof window reaches its scheduled end block and closes. -/
  | proofWindowClose
  /-- LS_PHASE (R427): The line supervision injection reaches the next phase of its 2 s period. -/
  | lsPhase (l : Fin 16)
  /-- LS_PERIOD_END (R428): A supervision period ends; Z is computed and the line gets an OK, OPEN or SHORT verdict. -/
  | lsPeriodEnd (l : Fin 16)
  /-- LS_LEARN (R428): The command ls_learn sets ls_ref_ohm from the next period that gives a verdict. -/
  | lsLearn (l : Fin 16)
  /-- SP_FRAME_RX (R440): A serial receive frame is captured and placed by its sample index. -/
  | spFrameRx (port : Fin 8) (t : Int) (words : List Nat)
  /-- SP_FRAME_TX (R439): A serial transmit frame is sent with the samples of its presentation index. -/
  | spFrameTx (port : Fin 8) (n : Nat)
  /-- SP_CLOCK_LOST (R444): sp_loss_frames expected FS edges are missing and the slave side becomes LOST. -/
  | spClockLost (side : Fin 16)
  /-- SP_CLOCK_RESTORE (R444): 8 consecutive FS edges arrive at the expected rate and the side returns to STARTING. -/
  | spClockRestore (side : Fin 16)
  /-- AES_FRAME_RX (R452): An AES3 frame is received, checked and placed; at a Z preamble the previous block completes. -/
  | aesFrameRx (r : Fin 4) (t : Int) (z : Bool) (a b : AesSub)
  /-- AES_FRAME_TX (R450): An AES3 transmitter sends the frame of a presentation index. -/
  | aesFrameTx (t : Fin 4) (n : Nat)
  /-- PDM_CH_SYNC (R457): The command pdm_ch_sync resets a PDM channel synchronously at its boundary. -/
  | pdmChSync (c : Fin 32)
  /-- IDAC_VALUE_WRITE (R460): A write of idac_value in VALUE mode applies within one sample period, under idac_slew. -/
  | idacValueWrite (r : Req) (l : Fin 16) (v : Nat)
  /-- IDAC_Q_PUSH (R461): The command idac_q_push queues or replaces an entry, or refuses it. -/
  | idacQPush (r : Req) (l : Fin 16)
  /-- IDAC_Q_CLEAR (R461): The command idac_q_clear empties the IDAC queue. -/
  | idacQClear (r : Req) (l : Fin 16)
  /-- IDAC_QUEUE_APPLY (R461): A queued IDAC entry reaches its sample index and applies. -/
  | idacQueueApply (l : Fin 16)
  /-- IDAC_POWERUP_WRITE (R464): A write of idac_powerup is copied to the always-on domain within 1 ms. -/
  | idacPowerupWrite (r : Req) (l : Fin 16) (v : Nat)
  /-- IDAC_COMPLIANCE_LOW (R462): The land voltage exceeds VDAC − 2.0 V for 1 ms; LOW is reported with a WARN record. -/
  | idacComplianceLow (l : Fin 16)
  /-- IDAC_COMPLIANCE_OK (R462): The land voltage stays below VDAC − 2.5 V for 100 ms and OK is reported. -/
  | idacComplianceOk (l : Fin 16)
  /-- LINK_UP (R472): A port's link comes up, or reports a speed mismatch. -/
  | linkUp (port : Fin 7) (mismatch : Bool)
  /-- LINK_DOWN (R483): A port's link goes down. -/
  | linkDown (port : Fin 7)
  /-- FRAME_RECEIVE (R477): A received Ethernet frame is checked and classified to a service, a ring, the stream engine or
  the port default. -/
  | frameReceive (port : Fin 7) (fcsOk : Bool) (frame : List Byte) (t : Int)
  /-- PAUSE_FRAME (R475): A PAUSE frame is counted and, under HONOUR, sets or ends the pause timer. -/
  | pauseFrame (port : Fin 7) (dst opcode quanta : Nat)
  /-- PAUSE_EXPIRE (R475): The pause timer runs out; transmission resumes and passed launches follow their late policies. -/
  | pauseExpire (port : Fin 7)
  /-- RING_TAIL_WRITE (R481): A write of ring_tail hands descriptors to the module. -/
  | ringTailWrite (r : Req) (ring : Fin 64) (v : Nat)
  /-- TX_FRAME_DONE (R483): A ring transmit frame completes and its descriptors are written back. -/
  | txFrameDone (port : Fin 7) (t : Int)
  /-- AES67_PACKET_RX (R489): An AES67 ingress packet is placed by its RTP timestamp. -/
  | aes67PacketRx (port : Fin 7) (p : RtpPacket)
  /-- AES67_PACKET_TX (R491): An AES67 egress packet is launched at its sample instant. -/
  | aes67PacketTx (c : Fin 512) (n : Nat) (late : Bool)
  /-- FAB_HELLO (R504): A fabric HELLO is received and the neighbour state moves. -/
  | fabHello (port : Fin 6) (h : Hello) (t : FabFrame)
  /-- HELLO_TIMER (R503): Every 10 ms a fabric port sends HELLO. -/
  | helloTimer (port : Fin 6)
  /-- HELLO_LOST (R504): No HELLO arrives for 30 ms and the neighbour goes DOWN. -/
  | helloLost (port : Fin 6)
  /-- ADMIT (R505): An ADMIT frame carries one handshake step of neighbour admission. -/
  | admission (port : Fin 6) (step : AdmitFrame)
  /-- ADMIT_TIMEOUT (R504): A neighbour handshake does not finish within 5 s and the neighbour is REFUSED. -/
  | admitTimeout (port : Fin 6)
  /-- REFUSED_EXPIRE (R504): 10 s after a refusal the neighbour returns to INIT. -/
  | refusedExpire (port : Fin 6)
  /-- LINK_REKEY (R506): A TWO_WAY link runs a new handshake every 24 h. -/
  | linkRekey (port : Fin 6)
  /-- LSA (R508): A received LSA is stored and flooded, or acknowledged and discarded. -/
  | lsa (port : Fin 6) (l : Lsa) (t : FabFrame)
  /-- LSA_ACK (R508): An LSA_ACK stops the resending of an LSA on that port. -/
  | lsaAck (port : Fin 6) (vertex seq : Nat) (t : FabFrame)
  /-- LSA_RESEND (R508): An unacknowledged LSA is resent on a port every 10 ms. -/
  | lsaResend (port : Fin 6)
  /-- LSA_REFLOOD (R508): A vertex refloods its own LSA every 30 s. -/
  | lsaReflood
  /-- LSA_AGE_OUT (R508): An LSA not refreshed for 90 s is discarded. -/
  | lsaAgeOut (vertex : Nat)
  /-- GRAPH_CHANGE (R520): The graph changes; a new tree generation is computed and installed within 20 ms. -/
  | graphChange
  /-- OLD_GENERATION_EXPIRE (R520): 200 ms after installing g + 1, forwarding of generation g stops. -/
  | oldGenerationExpire
  /-- TREE_SWITCH_A (R521): An originator sends its tree-A frames on the new generation. -/
  | treeSwitchA
  /-- TREE_SWITCH_B (R521): 64 blocks after the tree-A switch, the originator sends its tree-B frames on the new generation. -/
  | treeSwitchB
  /-- LEAVING_EXPIRE (R511): 100 ms after LEAVING, the member becomes ISOLATED and stops HELLO. -/
  | leavingExpire
  /-- STREAM_FRAME_RX (R519): A fabric STREAM frame is checked by RPF, eliminated and forwarded. -/
  | streamFrameRx (port : Fin 6) (f : StreamFrame) (t : FabFrame)
  /-- STREAM_FRAME_TX (R518): The frame of a block leaves 2 µs after boundary k + 1, or at its last publication. -/
  | streamFrameTx (c : Fin 512)
  /-- SCENE_DIGEST_UPDATE (R512): Shank recomputes fab_scene_digest within 50 ms of a changed boundary. -/
  | sceneDigestUpdate
  /-- SCENE_DIGEST_MISMATCH (R512): Neighbour digests differ for 200 ms; fab_scene_match becomes 0 and feeds carry DEGRADED. -/
  | sceneDigestMismatch (port : Fin 6)
  /-- ELECTION (R530): A RESYNC unit ready for audio wins the election and becomes ACTIVE. -/
  | election
  /-- ROLE_LINE_FALL (R533): TW_ROLE_I stays low for 0.4 µs while the partner was ACTIVE and the unit declares its partner
  lost. -/
  | roleLineFall
  /-- HEARTBEAT_TIMEOUT (R533): Both heartbeat paths are silent for 30 µs and the unit declares its partner lost, or one path is
  lost and a fault is reported. -/
  | heartbeatTimeout (sideband lace : Bool)
  /-- TW_TAKE_FALL (R532): nTW_TAKE falls and a unit holding the drive releases every pair-driven land within 1 µs. -/
  | twTakeFall
  /-- LACE_HELLO (R542): A Lace HELLO is received and the pair forms, is refused, or a wiring fault is found. -/
  | laceHello (f : LaceIn) (h : LaceHello)
  /-- LACE_HEARTBEAT (R540): A Lace HEARTBEAT reports the partner's role, soundness and progress. -/
  | laceHeartbeat (f : LaceIn) (h : LaceBeat) (boundary sent : Nat)
  /-- LACE_TIME (R541): A Lace TIME message gives four stamps from which the partner's media time offset is computed. -/
  | laceTime (f : LaceIn) (prevSent lastReceived received : Int)
  /-- JOURNAL (R543): The partner receives a JOURNAL entry and acknowledges it. -/
  | journal (f : LaceIn) (index block : Nat) (act : JournalAct)
  /-- JOURNAL_ACK (R543): The ACTIVE receives JOURNAL_ACK, which sets the acceptance instant of the journaled action. -/
  | journalAck (f : LaceIn) (index : Nat)
  /-- JOURNAL_RETRANSMIT (R539): A JOURNAL frame without a JOURNAL_ACK within 10 µs is retransmitted. -/
  | journalRetransmit (index : Nat)
  /-- MIRROR (R549): The partner receives a mirrored block of local inputs. -/
  | mirror (f : LaceIn) (block first : Nat) (rows : List (Nat × List (BitVec 32)))
  /-- IN_PRESENCE (R550): A unit receives the presence map of its partner's ingress samples and computes repairs. -/
  | inPresence (f : LaceIn) (block : Nat) (maps : List (Nat × Nat))
  /-- REPAIR (R550): A unit receives repaired ingress samples from its partner. -/
  | repair (f : LaceIn) (block ctx first : Nat) (words : List Nat) (rows : List (List (BitVec 32)))
  /-- OUT_DIGEST (R552): A unit compares its partner's output digest with its own and counts mismatches. -/
  | outDigest (f : LaceIn) (d : Digest)
  /-- SELFTEST (R552): A unit receives its partner's self-test result and acts on the outcome table. -/
  | selftest (f : LaceIn) (unit : Nat) (pass : Bool)
  /-- SELFTEST_RESULT_TIMEOUT (R552): No partner self-test result arrives within 100 ms; the ACTIVE keeps the outputs and DIVERGED is
  reported. -/
  | selftestResultTimeout
  /-- SELFTEST_DONE (R561): A known-answer test of a unit completes and a failure acts under R529. -/
  | selftestDone (unit : Nat) (pass : Bool)
  /-- CHECKPOINT (R556): The partner receives checkpoint data and acknowledges it. -/
  | checkpoint (f : LaceIn) (block offset total : Nat) (data : List (BitVec 8)) (whole : Option Checkpoint)
  /-- CHECKPOINT_ACK (R556): The ACTIVE receives the partner's acknowledgement of checkpoint bytes. -/
  | checkpointAck (f : LaceIn) (block held : Nat)
  /-- LACE_BLOB (R556): The partner receives a pair-wide BLOB value during resync. -/
  | laceBlob (f : LaceIn) (addr gen offset total : Nat) (data : List Byte)
  /-- RESYNC_COMPLETE (R556): Replay reaches the live block and the warm time passes, so the partner becomes STANDBY. -/
  | resyncComplete
  /-- LACE_LANE_DOWN (R538): A Lace lane goes down; traffic moves to the other lane, or with both lanes down the ACTIVE runs
  unprotected. -/
  | laceLaneDown (lane : Fin 2)
  /-- TWIN_SWITCH (R555): The command twin_switch exchanges the drive between the units at its commit boundary. -/
  | twinSwitch
  /-- TWIN_REJOIN (R529): The command twin_rejoin returns a FAILED unit to RESYNC. -/
  | twinRejoin (r : Req)
  /-- SAFE_SCENE_LOADED (R560): A RESYNC unit that took over finishes loading the safe scene and unmutes at the next boundary. -/
  | safeSceneLoaded
  /-- BURNISH_READ (R568): Burnish reads a word, writes back a correction or records an uncorrectable word. -/
  | burnishRead (m : MemUnit) (word : Nat) (flips : BitVec 80) (newer lastOfPass : Bool)
  /-- DMC_REQUEST (R574): A DRAM request arrives at a DMC port and receives its deadline. -/
  | dmcRequest (who : Requester) (addr : Nat) (others : List MemRequest)
  /-- DMC_SERVE (R575): At a scheduling decision, the DMC serves the waiting request with the greatest key. -/
  | dmcServe (hits : List Nat)
  /-- AGE_PROMOTION (R575): A request reaches its port's age limit and is promoted to RT. -/
  | agePromotion (port : Fin 8)
  /-- REFRESH_DUE (R577): A refresh falls due and is postponed, performed or forced. -/
  | refreshDue
  /-- SETPOINT_CHANGE (R571): DRAM changes frequency set point, starting 2 µs after a boundary. -/
  | setpointChange (sp : Fin 2)
  /-- TRAIN_STEP_DONE (R579): A DRAM training step completes and deferred set point changes run. -/
  | trainStepDone (passed : Bool) (margin : Word32)
  /-- DMC_RETRAIN (R581): The command dmc_retrain retrains a set point, in QUIET only. -/
  | dmcRetrain (r : Req) (sp : Fin 2)
  /-- MASTER_RESET (R586): A matrix master is reset mid-burst and the matrix completes its outstanding transactions. -/
  | masterReset (m : Fin 8)
  /-- DMA_START (R589): The command dma_start starts a COMMAND-triggered channel. -/
  | dmaStart (r : Req) (c : Fin 8)
  /-- DMA_TRIGGER (R589): A BLOCK or NODE trigger starts a channel, or is remembered while it runs. -/
  | dmaTrigger (c : Fin 8)
  /-- DMA_DESCRIPTOR_DONE (R587): A DMA descriptor completes and is written back, raising its event if EVENT is set. -/
  | dmaDescriptorDone (c : Fin 8)
  /-- DMA_STOP (R590): The command dma_stop stops the channel at the next descriptor boundary. -/
  | dmaStop (r : Req) (c : Fin 8)
  /-- DMA_RESET (R590): The command dma_reset aborts the channel at once and returns its descriptors ABORTED. -/
  | dmaReset (r : Req) (c : Fin 8)
  /-- PLL_RAMP_WRITE (R593): A write of pll_ramp stores a ramp profile, or refuses it with RANGE. -/
  | pllRampWrite (r : Req) (p : Fin 2) (data : List (BitVec 8))
  /-- PLL_RAMP_STEP (R593): A ramp point's dwell expires and the PLL divider moves to the next N. -/
  | pllRampStep (p : Fin 2)
  /-- SHANK_FAULT (R600): The Shank cores disagree, meet an uncorrectable word, or the watchdog expires, and the module
  resets with cause WATCHDOG. -/
  | shankFault
  /-- SENSOR_SAMPLE (R601): Every 100 ms Shank samples the sensors and writes records for conditions that start. -/
  | sensorSample (x : Sensors)
  /-- LIFE_UPDATE (R602): Every 60 s Shank integrates life consumed from the module temperature. -/
  | lifeUpdate
  /-- LOG_WINDOW_START (R604): A write of log_window_start selects the records that log_window returns. -/
  | logWindowStart (r : Req) (v : Nat)
  /-- LOG_CLEAR (R604): The command log_clear erases the log within 2 s. -/
  | logClear (r : Req)
  /-- OWNER_CERT_WRITE (R606): A write of owner_cert enrols or replaces the owner certificate and ends every trust resting on
  the old one. -/
  | ownerCertWrite (r : Req) (first last : Bool) (other : Fin 64) (offset total : Nat) (data : List (BitVec 8))
  /-- OWNER_CLEAR (R607): The command owner_clear removes the owner certificate over the host SPI port. -/
  | ownerClear (r : Req)
  /-- FW_ACTIVATE (R611): The command fw_activate stops rendering and resets the unit into the slot as TRIAL. -/
  | fwActivate (slot : Fin 2)
  /-- FW_TRIAL_CONFIRM (R612): fw_trial_time passes without a reset, the trial image is confirmed and the rollback fuses are
  blown. -/
  | fwTrialConfirm
  /-- PW_REQUEST (R617): The command pw_request starts a power transition at its commit boundary, or is held or refused. -/
  | pwRequest (v : Fin 3)
  /-- POWER_ENTRY (R620): Entry to QUIET or DORMANT applies; rendering stops, outputs fade and, for DORMANT, state is
  saved. -/
  | powerEntry (dormant : Bool)
  /-- DORMANT_REACHED (R620): DRAM enters self-refresh and the module is in DORMANT. -/
  | dormantReached (level : Option Wake)
  /-- AOD_ALARM (R621): aod_time reaches an enabled alarm, which wakes a DORMANT module. -/
  | aodAlarm (n : Fin 4)
  /-- WAKE_EVENT (R621): A comparator, wake input, host SPI or partner heartbeat event wakes a DORMANT module. -/
  | wakeEvent (w : Wake)
  /-- WAKE_COMPLETE (R623): The wake sequence completes and the first block is presented in ON. -/
  | wakeComplete (k : Nat)
  /-- AOD_SLEW (R622): Every 1 s Shank slews or steps the time-keeper toward media time. -/
  | aodSlew (trim : Int)
  /-- HIST_SNAP (R641): The command hist_snap copies a histogram unit's live contents into its snapshot at the boundary. -/
  | histSnap (u : Fin 32)
  /-- ERROR_HANDLE (R651): Shank takes a record from the queue, logs it, counts it and escalates nFAULT or nALARM. -/
  | errorHandle (ok : Bool)
  /-- RATE_LIMIT_SECOND_END (R649): At the end of a second, held occurrences of a rate-limited code raise one record. -/
  | rateLimitSecondEnd (area index code : Nat)
  /-- ERR_ALARM_ACK (R653): The command err_alarm_ack sets err_alarm_pending to zero and releases nALARM. -/
  | errAlarmAck (r : Req)
  /-- ERR_FAULT_CLEAR (R652): The command err_fault_clear releases nFAULT. -/
  | errFaultClear (r : Req)
  /-- AES_RX_LOST (R448): An AES3 receiver stops receiving frames and enters LOST, its output ramping to zero and being
  substituted. -/
  | aesRxLost (r : Fin 4)
  /-- LACE_LANE_UP (R538): A Lace lane finishes training and comes UP, after which it starts with HELLO. -/
  | laceLaneUp (lane : Fin 2)
  /-- TW_HB_EDGE (R533): An edge arrives on TW_HB_I and restarts the partner heartbeat watch on the sideband. -/
  | twHbEdge (roleIn : Bool)
  /-- TW_HB_TOGGLE (R531): Every 5 µs a sound unit toggles TW_HB_O. -/
  | twHbToggle
  /-- LACE_HEARTBEAT_TIMER (R531): Every 10 µs a sound unit sends HEARTBEAT on each Lace lane. -/
  | laceHeartbeatTimer
  /-- LACE_TIME_TIMER (R541): Every 1 ms a unit sends a TIME message on Lace lane 0. -/
  | laceTimeTimer
  /-- IN_PRESENCE_SEND (R550): 30 µs before boundary k + P − 1 each unit sends IN_PRESENCE for block k; samples arriving later
  count as missing. -/
  | inPresenceSend
  /-- PTP_PATH_DELAY_MESSAGE (R133): A received PTP Follow_Up, Delay_Req, Delay_Resp or Pdelay message feeds the path delay
  measurement or is answered. -/
  | ptpPathDelayMessage (d : Fin 2) (f : PtpIn) (msg : PtpMessage)
  /-- PTP_MASTER_TIMER (R134): The sync, announce or delay-request interval of a domain expires and the module sends its PTP
  messages, as master in GRANDMASTER or as boundary clock. -/
  | ptpMasterTimer (d : Fin 2) (timer : PtpTimer)
  /-- SYNT_LOCK (R146): Syntonisation finishes acquiring its source and synt_state becomes LOCKED. -/
  | syntLock (offset : Word32)
  /-- VAO_CHANGE (R25): VAO is applied or lost, which keeps or loses the always-on domain's contents while VIN is
  absent. -/
  | vaoChange (on : Bool)
  /-- FIRMWARE_LOADED (R613): The boot ROM finishes reading and checking the firmware slot and runs it, or falls back to the
  other slot or waits for recovery. -/
  | firmwareLoaded (okA okB : Bool)
  /-- PERSIST_REPLAY_DONE (R463): Shank finishes replaying the persistent image, after which IDACs that lost their power-up values
  drive the persisted idac_powerup. -/
  | persistReplayDone
  deriving DecidableEq, Repr

end Sys2Proof
end

