-- ==== Sys2Proof/Decode.lean ====
section
/-! DEFINITION. The command that a word spells. No row of the table of operations and events gives bits, so no word
spells a command (log entry 39). -/

namespace Sys2Proof

/-- The command that `nbits` bits `w` spell by the table. -/
def decodeTableWord (_nbits _w : Nat) : Option Instr := none

end Sys2Proof
end

