-- ==== Sys2Proof/Machine/F32Math.lean ====
section
/-! DEFINITION. The functions of R236: sine, cosine, powers, powers of ten and the common
logarithm, each the F32 nearest to the exact function of its F32 argument. Each is computed
in fixed point with 512 bits of fraction and rounded once. A result within one part in
2 ^ 100 of a value of 40 significant bits is taken as that value, so that exact results and
ties round as the exact function would (log entry 12, DEDUCED). -/

namespace Sys2Proof.Machine

/-- The bits of fraction of the fixed-point arithmetic of this file. -/
def fxBits : Nat := 512

/-- One, in fixed point. -/
def fxOne : Int := 2 ^ 512

/-- The product of two fixed-point values. -/
def fxMul (a b : Int) : Int := (a * b) / 2 ^ 512

/-- The quotient of two fixed-point values. -/
def fxDiv (a b : Int) : Int := (a * 2 ^ 512) / b

/-- π in fixed point. -/
def fxPi : Int := 0x3243f6a8885a308d313198a2e03707344a4093822299f31d0082efa98ec4e6c89452821e638d01377be5466cf34e90c6cc0ac29b7c97c50dd3f84d5b5b5470917

/-- The natural logarithm of 2 in fixed point. -/
def fxLn2 : Int := 0xb17217f7d1cf79abc9e3b39803f2f6af40f343267298b62d8a0d175b8baafa2be7b876206debac98559552fb4afa1b10ed2eae35c138214427573b291169b825

/-- The natural logarithm of 10 in fixed point. -/
def fxLn10 : Int := 0x24d763776aaa2b05ba95b58ae0b4c28a38a3fb3e76977e43a0f187a0807c0b5ca58bc0b5ec6a0417331c32f00b17c35a0b1889061042f8b6bee3de2100b945b59

/-- A finite F32 in fixed point; every F32 is exact there. -/
def F32.toFx (x : F32) : Int :=
  let e := x.exp + 512
  x.sman * 2 ^ e.toNat

/-- A fixed-point magnitude times `2 ^ e`, snapped to a value of 40 significant bits when it
lies within one part in 2 ^ 100 of it, and rounded to F32. -/
def F32.ofFx (v : Int) (e : Int) : F32 :=
  let n := v.natAbs
  let b := Nat.log2 n
  if b ≤ 140 then F32.pack (v < 0) n 1 (e - 512)
  else
    let sh := b - 40
    let r := rneDiv n (2 ^ sh) * 2 ^ sh
    let d := if n ≥ r then n - r else r - n
    let n' := if d < 2 ^ (b - 100) then r else n
    F32.pack (v < 0) n' 1 (e - 512)

/-- The Taylor sum of sine or cosine: `t` is the current term, `n` its degree. -/
def fxTrig : Nat → Int → Int → Nat → Int → Int
  | 0, _, _, _, acc => acc
  | k + 1, r2, t, n, acc =>
    let t' := -(fxMul t r2) / (((n + 1) * (n + 2) : Nat) : Int)
    fxTrig k r2 t' (n + 2) (acc + t')

/-- Reduce an angle to the interval from −π to π. -/
def fxReduce (x : Int) : Int :=
  let r := x % (2 * fxPi)
  if r > fxPi then r - 2 * fxPi else r

def fxSin (x : Int) : Int :=
  let r := fxReduce x
  fxTrig 80 (fxMul r r) r 1 r

def fxCos (x : Int) : Int :=
  let r := fxReduce x
  fxTrig 80 (fxMul r r) fxOne 0 fxOne

/-- The Taylor sum of the exponential. -/
def fxExpSum : Nat → Int → Int → Nat → Int → Int
  | 0, _, _, _, acc => acc
  | k + 1, r, t, n, acc =>
    let t' := fxMul t r / ((n + 1 : Nat) : Int)
    fxExpSum k r t' (n + 1) (acc + t')

/-- The exponential: a fixed-point value between 1 and 2 and a power of two. -/
def fxExp (y : Int) : Int × Int :=
  let k := y / fxLn2
  let r := y - k * fxLn2
  (fxExpSum 110 r fxOne 0 fxOne, k)

/-- The series of the inverse hyperbolic tangent, doubled by the caller. -/
def fxAtanhSum : Nat → Int → Int → Nat → Int → Int
  | 0, _, _, _, acc => acc
  | k + 1, z2, t, n, acc =>
    let t' := fxMul t z2
    fxAtanhSum k z2 t' (n + 2) (acc + t' / ((n + 2 : Nat) : Int))

/-- The natural logarithm of `m * 2 ^ e` for a positive natural number `m`. -/
def fxLn (m : Nat) (e : Int) : Int :=
  let b := Nat.log2 m
  let b' := if 2 * m * m > 2 ^ (2 * b + 2) then b + 1 else b
  let v : Int := (m : Int) * 2 ^ (512 - b')
  let z := fxDiv (v - fxOne) (v + fxOne)
  let s := fxAtanhSum 110 (fxMul z z) z 1 z
  2 * s + ((b' : Int) + e) * fxLn2

/-- An exponential, rounded to F32; far outside the F32 range it is infinite or zero. -/
def F32.ofExp (y : Int) : F32 :=
  if y > 90 * fxOne then F32.inf
  else if y < -(105 * fxOne) then F32.zero
  else
    let r := fxExp y
    F32.ofFx r.1 r.2

/-- Sine of an angle in radians (R236). -/
def F32.sin (x : F32) : F32 :=
  if !x.isFinite then F32.nan else if x.isZero then x else F32.ofFx (fxSin x.toFx) 0

/-- Cosine of an angle in radians (R236). -/
def F32.cos (x : F32) : F32 :=
  if !x.isFinite then F32.nan else F32.ofFx (fxCos x.toFx) 0

/-- Ten to the power of `x` (R236). -/
def F32.exp10 (x : F32) : F32 :=
  if x.isNaN then F32.nan
  else if x.isInf then (if x.neg? then F32.zero else F32.inf)
  else if x.key > 0x42340000 then F32.inf
  else if x.key < -0x42400000 then F32.zero
  else F32.ofExp (fxMul x.toFx fxLn10)

/-- The exponential of a finite value. -/
def F32.expE (x : F32) : F32 :=
  if x.isNaN then F32.nan
  else if x.isInf then (if x.neg? then F32.zero else F32.inf)
  else if x.key > 0x42C80000 then F32.inf
  else if x.key < -0x42DC0000 then F32.zero
  else F32.ofExp x.toFx

/-- The common logarithm (R345): minus infinity of a zero, NaN of a negative value. -/
def F32.log10 (x : F32) : F32 :=
  if x.isNaN then F32.nan
  else if x.isZero then F32.inf.neg
  else if x.neg? then F32.nan
  else if x.isInf then F32.inf
  else if x = F32.one then F32.zero
  else F32.ofFx (fxDiv (fxLn x.man x.exp) fxLn10) 0

/-- `x` to the power `y` for a finite positive `x` and a finite `y`. -/
def F32.powPos (x y : F32) : F32 :=
  let l := fxLn x.man x.exp
  if l = 0 || y.isZero then F32.one
  else F32.ofExp (fxMul y.toFx l)

/-- Is a finite value an odd integer, and is it an integer at all. -/
def F32.isInteger (x : F32) : Bool := decide (x.exp ≥ 0) || x.man % 2 ^ (-x.exp).toNat == 0

def F32.isOddInteger (x : F32) : Bool :=
  x.isInteger && (if x.exp ≥ 0 then x.exp == 0 && x.man % 2 == 1
    else x.man / 2 ^ (-x.exp).toNat % 2 == 1)

/-- `x` to the power `y` (R345), with the special cases of IEEE 754. -/
def F32.pow (x y : F32) : F32 :=
  if y.isZero || x = F32.one then F32.one
  else if x.isNaN || y.isNaN then F32.nan
  else if y.isInf then
    (let a := x.abs
     if a = F32.one then F32.one
     else if (F32.lt F32.one a) != y.neg? then F32.inf else F32.zero)
  else if x.isInf || x.isZero then
    (let big := x.isInf != y.neg?
     let s := x.neg? && y.isOddInteger
     F32.withSign s (if big then 0x7F800000 else 0))
  else if x.neg? then
    (if y.isInteger then
      (let r := F32.powPos x.abs y
       if y.isOddInteger then r.neg else r)
     else F32.nan)
  else F32.powPos x y

end Sys2Proof.Machine
end

