-- ==== Sys2Proof/Config.lean ====
section
/-! DEFINITION. What the implementation fixes and what the spec leaves open: constants
without a body, so that no proof can see their values (log entry 1). -/

namespace Sys2Proof.Config

/-- The free values of the model: the value the manual leaves open at the n-th place a run
meets one. `State.free` counts the places met (log entry 1). -/
opaque freeValue : Nat → Nat

/-- A free F32 sample, by the place met and its position there. -/
opaque freeSample : Nat → Nat → BitVec 32

/-- A free byte, by the place met and its position there. -/
opaque freeByte : Nat → Nat → BitVec 8

/-- The objects and BLOBs that the bytes of a persistent image spell: address and value,
address and contents; none where they are no image of this product (R79, log entry 34). -/
opaque imageOf : List (BitVec 8) → Option (List (Nat × Nat) × List (Nat × List (BitVec 8)))

/-- The bytes of a persistent image (R79, log entry 34). -/
opaque imageBytes : List (Nat × Nat) → List (Nat × List (BitVec 8)) → List (BitVec 8)

/-- A value set on each unit when it is made, by the address of its object (R122, R605). -/
opaque unitValue : Nat → Nat

/-- A text set on each unit when it is made, by the address of its object (R122). -/
opaque unitText : Nat → List (BitVec 8)

/-- The certificate chain of the module, and its private key (R111, R605). -/
opaque deviceChain : List (BitVec 8)
opaque deviceKey : Nat

/-- The certificates that the boot ROM holds: the Camervy root and the firmware-signing root (R605). -/
opaque rootCert : List (BitVec 8)
opaque firmwareRoot : List (BitVec 8)

/-- The object identifier of the Camervy firmware-signing extended key usage (R609). -/
opaque firmwareUsage : List (BitVec 8)

/-- The seconds by which TAI, which network time counts, leads the UTC of certificates (R2, R113). -/
opaque utcLead : Nat

/-- The seconds of the year of R54 (log entry 35). -/
opaque yearSeconds : Nat

end Sys2Proof.Config
end

