-- ==== Sys2Proof/Machine/DictChain.lean ====
section
/-! DEFINITION. The dictionary objects of chapter 07: one definition per row of its
object tables, in the order of the rows. The rule in each docstring is the rule whose
table lists the object. -/

namespace Sys2Proof.Machine.D

/-- R331, object 40:0000.00 … 40:03FF.00. -/
def out_delay : Obj :=
  ⟨"out_delay", 0x40000000, 256, 1024, 1, .u32, .rs, true, .ins, .staged, .const 0, .ivals [(0, 192000)], "samples", true⟩

/-- R331, object 40:0000.01 … 40:03FF.01. -/
def out_delay_xfade : Obj :=
  ⟨"out_delay_xfade", 0x40000001, 256, 1024, 1, .u16, .rs, true, .ins, .staged, .const 256, .ivals [(0, 1024)], "samples", true⟩

/-- R331, object 40:0000.02 … 40:03FF.02. -/
def out_trim : Obj :=
  ⟨"out_trim", 0x40000002, 256, 1024, 1, .g16, .rw, true, .opr, .live, .const 0, .ivals [(-32768, -32768), (-9216, 0)], "dB", true⟩

/-- R331, object 40:0000.03 … 40:03FF.03. -/
def out_mute : Obj :=
  ⟨"out_mute", 0x40000003, 256, 1024, 1, .bool, .rw, true, .opr, .live, .const 0, .any, "", true⟩

/-- R331, object 40:0000.04 … 40:03FF.04. -/
def out_step_timeout : Obj :=
  ⟨"out_step_timeout", 0x40000004, 256, 1024, 1, .u16, .rw, true, .ins, .live, .const 480, .ivals [(0, 4800)], "samples", true⟩

/-- R331, object 40:0000.05 … 40:03FF.05. -/
def out_step_ramp : Obj :=
  ⟨"out_step_ramp", 0x40000005, 256, 1024, 1, .u16, .rw, true, .ins, .live, .const 64, .ivals [(1, 1024)], "samples", true⟩

/-- R331, object 40:0000.06 … 40:03FF.06. -/
def out_lim_release : Obj :=
  ⟨"out_lim_release", 0x40000006, 256, 1024, 1, .f32, .rs, true, .ins, .staged, .const 0x3D4CCCCD, .f32 0x3A83126F 0x40A00000 false, "s", true⟩

/-- R331, object 40:0000.07 … 40:03FF.07. -/
def out_lim_hold : Obj :=
  ⟨"out_lim_hold", 0x40000007, 256, 1024, 1, .u16, .rs, true, .ins, .staged, .const 480, .ivals [(0, 48000)], "samples", true⟩

/-- R331, object 40:0000.08 … 40:03FF.08. -/
def out_bq_bypass : Obj :=
  ⟨"out_bq_bypass", 0x40000008, 256, 1024, 1, .bits32, .rs, true, .ins, .staged, .const 65535, .mask 0xFFFF, "", true⟩

/-- R331, object 40:0000.09 … 40:03FF.09. -/
def out_dest_a_kind : Obj :=
  ⟨"out_dest_a_kind", 0x40000009, 256, 1024, 1, .enum8, .rs, true, .ins, .staged, .const 0, .enum [(0, "NONE"), (1, "SERIAL"), (2, "AES3"), (3, "STREAM")], "", true⟩

/-- R331, object 40:0000.0A … 40:03FF.0A. -/
def out_dest_a_ch : Obj :=
  ⟨"out_dest_a_ch", 0x4000000A, 256, 1024, 1, .u16, .rs, true, .ins, .staged, .const 0, .ivals [(0, 4095)], "", true⟩

/-- R331, object 40:0000.0B … 40:03FF.0B. -/
def out_dest_b_kind : Obj :=
  ⟨"out_dest_b_kind", 0x4000000B, 256, 1024, 1, .enum8, .rs, true, .ins, .staged, .const 0, .enum [(0, "NONE"), (1, "SERIAL"), (2, "AES3"), (3, "STREAM")], "", true⟩

/-- R331, object 40:0000.0C … 40:03FF.0C. -/
def out_dest_b_ch : Obj :=
  ⟨"out_dest_b_ch", 0x4000000C, 256, 1024, 1, .u16, .rs, true, .ins, .staged, .const 0, .ivals [(0, 4095)], "", true⟩

/-- R331, object 40:0000.0D … 40:03FF.0D. -/
def out_route_xfade : Obj :=
  ⟨"out_route_xfade", 0x4000000D, 256, 1024, 1, .u16, .rs, true, .ins, .staged, .const 256, .ivals [(0, 1024)], "samples", true⟩

/-- R331, object 40:0000.10 … 40:03FF.5F. -/
def bq_coef : Obj :=
  ⟨"bq_coef", 0x40000010, 256, 1024, 80, .f32, .rs, true, .ins, .staged, .bq, .any, "", true⟩

/-- R331, object 40:0000.60 … 40:03FF.60. -/
def out_lim_gr : Obj :=
  ⟨"out_lim_gr", 0x40000060, 256, 1024, 1, .f32, .ro, false, .obs, .none, .const 0, .any, "dB", false⟩

/-- R331, object 40:0000.61 … 40:03FF.61. -/
def out_status : Obj :=
  ⟨"out_status", 0x40000061, 256, 1024, 1, .u16, .ro, false, .obs, .none, .const 0, .any, "", false⟩

/-- R331, object 40:0000.62 … 40:03FF.62. -/
def out_misses : Obj :=
  ⟨"out_misses", 0x40000062, 256, 1024, 1, .u32, .ro, false, .obs, .none, .const 0, .any, "blocks", true⟩

/-- R331, object 40:0000.63 … 40:03FF.63. -/
def out_bq_resets : Obj :=
  ⟨"out_bq_resets", 0x40000063, 256, 1024, 1, .u32, .ro, false, .obs, .none, .const 0, .any, "", true⟩

/-- R331, object 40:0000.64 … 40:03FF.64. -/
def out_step_state : Obj :=
  ⟨"out_step_state", 0x40000064, 256, 1024, 1, .enum8, .ro, false, .obs, .none, .const 0, .enum [(0, "IDLE"), (1, "WAITING"), (2, "RAMPING")], "", false⟩

/-- R331, object 40:0000.65 … 40:03FF.65. -/
def out_gain_now : Obj :=
  ⟨"out_gain_now", 0x40000065, 256, 1024, 1, .g16, .ro, false, .obs, .none, .const 0, .any, "dB", false⟩

/-- R332, object 41:0000.00 … 41:03FF.00. -/
def etch_taps : Obj :=
  ⟨"etch_taps", 0x41000000, 256, 1024, 1, .blob, .rs, true, .ins, .staged, .const 0, .blob 0 131072 4, "", true⟩

/-- R332, object 41:0000.01 … 41:03FF.01. -/
def etch_max_taps : Obj :=
  ⟨"etch_max_taps", 0x41000001, 256, 1024, 1, .u16, .rs, true, .ins, .staged, .byRate 16384 32768, .ivals [(16, 16), (32, 32), (64, 64), (128, 128), (256, 256), (512, 512), (1024, 1024), (2048, 2048), (4096, 4096), (8192, 8192), (16384, 16384), (32768, 32768)], "", true⟩

/-- R332, object 41:0000.02 … 41:03FF.02. -/
def etch_xfade : Obj :=
  ⟨"etch_xfade", 0x41000002, 256, 1024, 1, .u32, .rs, true, .ins, .staged, .const 2048, .ivals [(0, 96000)], "samples", true⟩

/-- R332, object 41:0000.03 … 41:03FF.03. -/
def etch_pending_state : Obj :=
  ⟨"etch_pending_state", 0x41000003, 256, 1024, 1, .enum8, .ro, false, .obs, .none, .const 0, .enum [(0, "NONE"), (1, "LOADING"), (2, "PREPARING"), (3, "READY"), (4, "BAD"), (5, "OUTGOING")], "", true⟩

/-- R332, object 41:0000.04 … 41:03FF.04. -/
def etch_active_taps : Obj :=
  ⟨"etch_active_taps", 0x41000004, 256, 1024, 1, .u16, .ro, false, .obs, .none, .const 0, .any, "", true⟩

/-- R332, object 41:0000.05 … 41:03FF.05. -/
def etch_pending_taps : Obj :=
  ⟨"etch_pending_taps", 0x41000005, 256, 1024, 1, .u16, .ro, false, .obs, .none, .const 0, .any, "", true⟩

/-- R332, object 41:0000.06 … 41:03FF.06. -/
def etch_xfade_left : Obj :=
  ⟨"etch_xfade_left", 0x41000006, 256, 1024, 1, .u32, .ro, false, .obs, .none, .const 0, .any, "samples", true⟩

/-- R332, object 41:FFF1.00. -/
def etcher_util : Obj :=
  ⟨"etcher_util", 0x41FFF100, 256, 1, 1, .f32, .ro, false, .obs, .none, .const 0, .any, "%", false⟩

/-- R332, object 41:FFF1.01. -/
def etcher_dram : Obj :=
  ⟨"etcher_dram", 0x41FFF101, 256, 1, 1, .f32, .ro, false, .obs, .none, .const 0, .any, "GB/s", false⟩

/-- R332, object 41:FFF1.02. -/
def etch_persist_bytes : Obj :=
  ⟨"etch_persist_bytes", 0x41FFF102, 256, 1, 1, .u32, .ro, false, .obs, .none, .const 0, .any, "", true⟩

/-- The objects of this file, for the search by address. -/
def objsChain : List Obj :=
  [out_delay, out_delay_xfade, out_trim, out_mute, out_step_timeout, out_step_ramp, out_lim_release, out_lim_hold, out_bq_bypass, out_dest_a_kind, out_dest_a_ch, out_dest_b_kind, out_dest_b_ch, out_route_xfade, bq_coef, out_lim_gr, out_status, out_misses, out_bq_resets, out_step_state] ++
  [out_gain_now, etch_taps, etch_max_taps, etch_xfade, etch_pending_state, etch_active_taps, etch_pending_taps, etch_xfade_left, etcher_util, etcher_dram, etch_persist_bytes]

end Sys2Proof.Machine.D
end

