-- ==== Sys2Proof/Machine/DictCore.lean ====
section
/-! DEFINITION. The dictionary objects of chapter 02: one definition per row of its
object tables, in the order of the rows. The rule in each docstring is the rule whose
table lists the object. -/

namespace Sys2Proof.Machine.D

/-- R122, object 00:0000.00. -/
def id_vendor : Obj :=
  ⟨"id_vendor", 0x0, 256, 1, 1, .str32, .ro, false, .obs, .none, .const 0x743616D65727679, .any, "", true⟩

/-- R122, object 00:0000.01. -/
def id_product : Obj :=
  ⟨"id_product", 0x1, 256, 1, 1, .str32, .ro, false, .obs, .none, .const 0xE4576697468204556542D31303234, .any, "", true⟩

/-- R122, object 00:0000.02. -/
def id_product_code : Obj :=
  ⟨"id_product_code", 0x2, 256, 1, 1, .u16, .ro, false, .obs, .none, .const 1024, .any, "", true⟩

/-- R122, object 00:0000.03. -/
def id_serial : Obj :=
  ⟨"id_serial", 0x3, 256, 1, 1, .str32, .ro, false, .obs, .none, .const 0, .any, "", false⟩

/-- R122, object 00:0000.04. -/
def id_hw_issue : Obj :=
  ⟨"id_hw_issue", 0x4, 256, 1, 1, .u16, .ro, false, .obs, .none, .const 0, .any, "", false⟩

/-- R122, object 00:0000.05. -/
def id_boot_rom : Obj :=
  ⟨"id_boot_rom", 0x5, 256, 1, 1, .u32, .ro, false, .obs, .none, .const 0, .any, "", false⟩

/-- R122, object 00:0000.06. -/
def id_fw_version : Obj :=
  ⟨"id_fw_version", 0x6, 256, 1, 1, .u32, .ro, false, .obs, .none, .const 0, .any, "", false⟩

/-- R122, object 00:0000.07. -/
def id_fw_mode : Obj :=
  ⟨"id_fw_mode", 0x7, 256, 1, 1, .enum8, .ro, false, .obs, .none, .const 0, .enum [(0, "NORMAL"), (1, "TRIAL"), (2, "RECOVERY")], "", false⟩

/-- R122, object 00:0000.08. -/
def id_dictionary : Obj :=
  ⟨"id_dictionary", 0x8, 256, 1, 1, .str32, .ro, false, .obs, .none, .const 0, .any, "", false⟩

/-- R122, object 00:0000.09. -/
def id_mac_base : Obj :=
  ⟨"id_mac_base", 0x9, 256, 1, 1, .u64, .ro, false, .obs, .none, .const 0, .any, "", false⟩

/-- R122, object 00:0000.0A. -/
def id_dev_fp_hi : Obj :=
  ⟨"id_dev_fp_hi", 0xA, 256, 1, 1, .u64, .ro, false, .obs, .none, .const 0, .any, "", false⟩

/-- R122, object 00:0000.0B. -/
def id_dev_fp_lo : Obj :=
  ⟨"id_dev_fp_lo", 0xB, 256, 1, 1, .u64, .ro, false, .obs, .none, .const 0, .any, "", false⟩

/-- R122, object 00:0000.0C. -/
def id_owner_state : Obj :=
  ⟨"id_owner_state", 0xC, 256, 1, 1, .enum8, .ro, false, .obs, .none, .const 0, .enum [(0, "NONE"), (1, "ENROLLED")], "", false⟩

/-- R122, object 00:0000.0D. -/
def id_node_addr : Obj :=
  ⟨"id_node_addr", 0xD, 256, 1, 1, .u16, .ro, false, .obs, .none, .const 0, .any, "", false⟩

/-- R122, object 00:0000.0E. -/
def id_twin_slot : Obj :=
  ⟨"id_twin_slot", 0xE, 256, 1, 1, .u8, .ro, false, .obs, .none, .const 0, .any, "", false⟩

/-- R122, object 00:0000.0F. -/
def id_twin_role : Obj :=
  ⟨"id_twin_role", 0xF, 256, 1, 1, .enum8, .ro, false, .obs, .none, .const 0, .enum [(0, "SOLO"), (1, "ACTIVE"), (2, "STANDBY"), (3, "RESYNC"), (4, "FAILED")], "", false⟩

/-- R122, object 00:0000.10. -/
def id_render_rate : Obj :=
  ⟨"id_render_rate", 0x10, 256, 1, 1, .enum8, .ro, false, .obs, .none, .const 0, .enum [(0, "FS_48K"), (1, "FS_96K")], "", false⟩

/-- R122, object 00:0000.11. -/
def id_uptime : Obj :=
  ⟨"id_uptime", 0x11, 256, 1, 1, .u64, .ro, false, .obs, .none, .const 0, .any, "s", true⟩

/-- R122, object 00:0001.00. -/
def id_name : Obj :=
  ⟨"id_name", 0x100, 256, 1, 1, .str32, .rw, true, .ins, .liveSample, .const 0, .any, "", true⟩

/-- R122, object 00:0001.01. -/
def id_location : Obj :=
  ⟨"id_location", 0x101, 256, 1, 1, .str32, .rw, true, .ins, .liveSample, .const 0, .any, "", true⟩

/-- R123, object 01:0000.00. -/
def mdap_udp_port : Obj :=
  ⟨"mdap_udp_port", 0x1000000, 256, 1, 1, .u16, .rw, true, .own, .liveSample, .const 47910, .ivals [(1024, 65535)], "", true⟩

/-- R123, object 01:0000.01. -/
def mdap_udp_enable : Obj :=
  ⟨"mdap_udp_enable", 0x1000001, 256, 1, 1, .bool, .rw, true, .own, .liveSample, .const 1, .any, "", true⟩

/-- R123, object 01:0000.02. -/
def mdap_l2_enable : Obj :=
  ⟨"mdap_l2_enable", 0x1000002, 256, 1, 1, .bool, .rw, true, .own, .liveSample, .const 1, .any, "", true⟩

/-- R123, object 01:0000.03. -/
def session_idle_timeout : Obj :=
  ⟨"session_idle_timeout", 0x1000003, 256, 1, 1, .u16, .rw, true, .ins, .liveSample, .const 30, .ivals [(5, 3600)], "s", true⟩

/-- R123, object 01:0000.04. -/
def open_identity : Obj :=
  ⟨"open_identity", 0x1000004, 256, 1, 1, .bool, .rw, true, .own, .liveSample, .const 1, .any, "", true⟩

/-- R123, object 01:0010.00. -/
def sessions_open : Obj :=
  ⟨"sessions_open", 0x1001000, 256, 1, 1, .u8, .ro, false, .obs, .none, .const 0, .ivals [(0, 16)], "", false⟩

/-- R123, object 01:0010.01. -/
def own_session_id : Obj :=
  ⟨"own_session_id", 0x1001001, 256, 1, 1, .u32, .ro, false, .obs, .none, .const 0, .any, "", false⟩

/-- R123, object 01:0010.02. -/
def own_role : Obj :=
  ⟨"own_role", 0x1001002, 256, 1, 1, .enum8, .ro, false, .obs, .none, .const 0, .enum [(1, "OBS"), (2, "OPR"), (3, "INS"), (4, "OWN")], "", false⟩

/-- R123, object 01:0010.03. -/
def auth_failures : Obj :=
  ⟨"auth_failures", 0x1001003, 256, 1, 1, .u32, .ro, false, .obs, .none, .const 0, .any, "", true⟩

/-- R123, object 01:0010.04. -/
def integrity_drops : Obj :=
  ⟨"integrity_drops", 0x1001004, 256, 1, 1, .u32, .ro, false, .obs, .none, .const 0, .any, "", true⟩

/-- R123, object 01:0010.05. -/
def replay_drops : Obj :=
  ⟨"replay_drops", 0x1001005, 256, 1, 1, .u32, .ro, false, .obs, .none, .const 0, .any, "", true⟩

/-- R123, object 01:0010.06. -/
def superseded_writes : Obj :=
  ⟨"superseded_writes", 0x1001006, 256, 1, 1, .u32, .ro, false, .obs, .none, .const 0, .any, "", true⟩

/-- R123, object 01:0011.00. -/
def session_close : Obj :=
  ⟨"session_close", 0x1001100, 256, 1, 1, .u32, .wo, false, .own, .liveSample, .const 0, .any, "", false⟩

/-- R123, object 01:0020.00. -/
def persist_flush : Obj :=
  ⟨"persist_flush", 0x1002000, 256, 1, 1, .bool, .wo, false, .ins, .liveSample, .const 0, .ivals [(1, 1)], "", false⟩

/-- R123, object 01:0020.01. -/
def persist_state : Obj :=
  ⟨"persist_state", 0x1002001, 256, 1, 1, .enum8, .ro, false, .obs, .none, .const 0, .enum [(0, "CLEAN"), (1, "PENDING"), (2, "WRITING"), (3, "FAULT")], "", false⟩

/-- R123, object 01:0020.02. -/
def persist_rate : Obj :=
  ⟨"persist_rate", 0x1002002, 256, 1, 1, .u32, .ro, false, .obs, .none, .const 0, .any, "bytes", false⟩

/-- R123, object 01:0020.03. -/
def persist_reset : Obj :=
  ⟨"persist_reset", 0x1002003, 256, 1, 1, .bool, .wo, false, .own, .reset, .const 0, .ivals [(1, 1)], "", false⟩

/-- R123, object 01:0020.04. -/
def persist_image : Obj :=
  ⟨"persist_image", 0x1002004, 256, 1, 1, .blob, .rw, false, .own, .reset, .const 0, .blob 0 16777216 1, "", false⟩

/-- R123, object 01:0030.00. -/
def default_role : Obj :=
  ⟨"default_role", 0x1003000, 256, 1, 1, .enum8, .rw, true, .own, .liveSample, .const 1, .enum [(0, "NONE"), (1, "OBS"), (2, "OPR"), (3, "INS"), (4, "OWN")], "", true⟩

/-- R123, object 01:0040.00 … 01:007F.00. -/
def role_fp_hi : Obj :=
  ⟨"role_fp_hi", 0x1004000, 256, 64, 1, .u64, .rw, true, .own, .liveSample, .const 0, .any, "", true⟩

/-- R123, object 01:0040.01 … 01:007F.01. -/
def role_fp_lo : Obj :=
  ⟨"role_fp_lo", 0x1004001, 256, 64, 1, .u64, .rw, true, .own, .liveSample, .const 0, .any, "", true⟩

/-- R123, object 01:0040.02 … 01:007F.02. -/
def role_role : Obj :=
  ⟨"role_role", 0x1004002, 256, 64, 1, .enum8, .rw, true, .own, .liveSample, .const 0, .enum [(0, "NONE"), (1, "OBS"), (2, "OPR"), (3, "INS"), (4, "OWN")], "", true⟩

/-- R124, object 02:0000.00. -/
def hspi_enable : Obj :=
  ⟨"hspi_enable", 0x2000000, 256, 1, 1, .bool, .rw, true, .own, .liveSample, .const 1, .any, "", true⟩

/-- R124, object 02:0000.01. -/
def hspi_role : Obj :=
  ⟨"hspi_role", 0x2000001, 256, 1, 1, .enum8, .rw, true, .own, .liveSample, .const 4, .enum [(0, "NONE"), (1, "OBS"), (2, "OPR"), (3, "INS"), (4, "OWN")], "", true⟩

/-- R124, object 02:0000.02. -/
def hspi_in_full : Obj :=
  ⟨"hspi_in_full", 0x2000002, 256, 1, 1, .u32, .ro, false, .obs, .none, .const 0, .any, "frames", true⟩

/-- R124, object 02:0000.03. -/
def hspi_notify_drops : Obj :=
  ⟨"hspi_notify_drops", 0x2000003, 256, 1, 1, .u32, .ro, false, .obs, .none, .const 0, .any, "frames", true⟩

/-- R68, object 12:FFF0.00. -/
def run12 : Obj :=
  ⟨"run", 0x12FFF000, 256, 1, 1, .enum8, .rw, false, .ins, .live, .const 1, .enum [(0, "STOPPED"), (1, "RUNNING")], "", true⟩

/-- R68, object 12:FFF0.01. -/
def runState12 : Obj :=
  ⟨"run_state", 0x12FFF001, 256, 1, 1, .enum8, .ro, false, .obs, .none, .const 2, .enum [(0, "STOPPED"), (1, "STARTING"), (2, "RUNNING"), (3, "STOPPING")], "", false⟩

/-- R68, object 20:FFF0.00. -/
def run20 : Obj :=
  ⟨"run", 0x20FFF000, 256, 1, 1, .enum8, .rw, false, .ins, .live, .const 1, .enum [(0, "STOPPED"), (1, "RUNNING")], "", true⟩

/-- R68, object 20:FFF0.01. -/
def runState20 : Obj :=
  ⟨"run_state", 0x20FFF001, 256, 1, 1, .enum8, .ro, false, .obs, .none, .const 2, .enum [(0, "STOPPED"), (1, "STARTING"), (2, "RUNNING"), (3, "STOPPING")], "", false⟩

/-- R68, object 22:FFF0.00 ... 28:FFF0.00. -/
def runPort : Obj :=
  ⟨"run", 0x22FFF000, 0x1000000, 7, 1, .enum8, .rw, false, .ins, .live, .const 1, .enum [(0, "STOPPED"), (1, "RUNNING")], "", true⟩

/-- R68, object 22:FFF0.01 ... 28:FFF0.01. -/
def runStatePort : Obj :=
  ⟨"run_state", 0x22FFF001, 0x1000000, 7, 1, .enum8, .ro, false, .obs, .none, .const 2, .enum [(0, "STOPPED"), (1, "STARTING"), (2, "RUNNING"), (3, "STOPPING")], "", false⟩

/-- R68, object 4C:FFF0.00. -/
def run4C : Obj :=
  ⟨"run", 0x4CFFF000, 256, 1, 1, .enum8, .rw, false, .ins, .live, .const 1, .enum [(0, "STOPPED"), (1, "RUNNING")], "", true⟩

/-- R68, object 4C:FFF0.01. -/
def runState4C : Obj :=
  ⟨"run_state", 0x4CFFF001, 256, 1, 1, .enum8, .ro, false, .obs, .none, .const 2, .enum [(0, "STOPPED"), (1, "STARTING"), (2, "RUNNING"), (3, "STOPPING")], "", false⟩

/-- R68, object 10:0010.FF ... 10:0011.FF. -/
def runDom : Obj :=
  ⟨"run", 0x100010FF, 256, 2, 1, .enum8, .rw, false, .ins, .live, .const 1, .enum [(0, "STOPPED"), (1, "RUNNING")], "", true⟩

/-- R68, object 29:0008.FF ... 29:001F.FF. -/
def runRingRx : Obj :=
  ⟨"run", 0x290008FF, 256, 24, 1, .enum8, .rw, false, .ins, .live, .const 1, .enum [(0, "STOPPED"), (1, "RUNNING")], "", true⟩

/-- R68, object 29:0028.FF ... 29:003F.FF. -/
def runRingTx : Obj :=
  ⟨"run", 0x290028FF, 256, 24, 1, .enum8, .rw, false, .ins, .live, .const 1, .enum [(0, "STOPPED"), (1, "RUNNING")], "", true⟩

/-- R68, object 71:0008.FF ... 71:000F.FF. -/
def runDma : Obj :=
  ⟨"run", 0x710008FF, 256, 8, 1, .enum8, .rw, false, .ins, .live, .const 1, .enum [(0, "STOPPED"), (1, "RUNNING")], "", true⟩

/-- The objects of this file, for the search by address. -/
def objsCore : List Obj :=
  [id_vendor, id_product, id_product_code, id_serial, id_hw_issue, id_boot_rom, id_fw_version, id_fw_mode, id_dictionary, id_mac_base, id_dev_fp_hi, id_dev_fp_lo, id_owner_state, id_node_addr, id_twin_slot, id_twin_role, id_render_rate, id_uptime, id_name, id_location] ++
  [mdap_udp_port, mdap_udp_enable, mdap_l2_enable, session_idle_timeout, open_identity, sessions_open, own_session_id, own_role, auth_failures, integrity_drops, replay_drops, superseded_writes, session_close, persist_flush, persist_state, persist_rate, persist_reset, persist_image, default_role, role_fp_hi] ++
  [role_fp_lo, role_role, hspi_enable, hspi_role, hspi_in_full, hspi_notify_drops, run12, runState12, run20, runState20, runPort, runStatePort, run4C, runState4C, runDom, runRingRx, runRingTx, runDma]

end Sys2Proof.Machine.D
end

