-- ==== Sys2Proof/Machine/DictFabric.lean ====
section
/-! DEFINITION. The dictionary objects of chapter 13: one definition per row of its
object tables, in the order of the rows. The rule in each docstring is the rule whose
table lists the object. -/

namespace Sys2Proof.Machine.D

/-- R526, object 20:0000.00. -/
def fab_node_addr : Obj :=
  ⟨"fab_node_addr", 0x20000000, 256, 1, 1, .u16, .rw, true, .own, .stopped, .const 0, .ivals [(0, 0), (1, 4095)], "", true⟩

/-- R526, object 20:0000.01. -/
def fab_id : Obj :=
  ⟨"fab_id", 0x20000001, 256, 1, 1, .u32, .rw, true, .own, .stopped, .const 0, .any, "", true⟩

/-- R526, object 20:0000.02. -/
def fab_enable : Obj :=
  ⟨"fab_enable", 0x20000002, 256, 1, 1, .bool, .rw, true, .ins, .liveSample, .const 1, .any, "", true⟩

/-- R526, object 20:0000.03. -/
def fab_hop_limit : Obj :=
  ⟨"fab_hop_limit", 0x20000003, 256, 1, 1, .u8, .rw, true, .ins, .liveSample, .const 16, .ivals [(1, 32)], "hops", true⟩

/-- R526, object 20:0000.04. -/
def fab_state : Obj :=
  ⟨"fab_state", 0x20000004, 256, 1, 1, .enum8, .ro, false, .obs, .none, .const 0, .enum [(0, "ISOLATED"), (1, "SYNCING"), (2, "JOINED"), (3, "CONFLICT"), (4, "LEAVING")], "", true⟩

/-- R526, object 20:0000.05. -/
def fab_claim_time : Obj :=
  ⟨"fab_claim_time", 0x20000005, 256, 1, 1, .nt64, .ro, false, .obs, .none, .const 0, .any, "ns", true⟩

/-- R526, object 20:0000.06. -/
def fab_members : Obj :=
  ⟨"fab_members", 0x20000006, 256, 1, 1, .u16, .ro, false, .obs, .none, .const 0, .any, "", true⟩

/-- R526, object 20:0000.07. -/
def fab_vertices : Obj :=
  ⟨"fab_vertices", 0x20000007, 256, 1, 1, .u16, .ro, false, .obs, .none, .const 0, .any, "", true⟩

/-- R526, object 20:0000.08. -/
def fab_scene_digest : Obj :=
  ⟨"fab_scene_digest", 0x20000008, 256, 1, 1, .u64, .ro, false, .obs, .none, .const 0, .any, "", false⟩

/-- R526, object 20:0000.09. -/
def fab_scene_match : Obj :=
  ⟨"fab_scene_match", 0x20000009, 256, 1, 1, .bool, .ro, false, .obs, .none, .const 1, .any, "", true⟩

/-- R526, object 20:0000.0A. -/
def fab_format_drops : Obj :=
  ⟨"fab_format_drops", 0x2000000A, 256, 1, 1, .u32, .ro, false, .obs, .none, .const 0, .any, "", true⟩

/-- R526, object 20:0000.0B. -/
def fab_auth_drops : Obj :=
  ⟨"fab_auth_drops", 0x2000000B, 256, 1, 1, .u32, .ro, false, .obs, .none, .const 0, .any, "", true⟩

/-- R526, object 20:0010.00 … 20:0015.00. -/
def nbr_state : Obj :=
  ⟨"nbr_state", 0x20001000, 256, 6, 1, .enum8, .ro, false, .obs, .none, .const 0, .enum [(0, "DOWN"), (1, "INIT"), (2, "ADMITTING"), (3, "TWO_WAY"), (4, "MISMATCH"), (5, "REFUSED")], "", true⟩

/-- R526, object 20:0010.01 … 20:0015.01. -/
def nbr_vertex : Obj :=
  ⟨"nbr_vertex", 0x20001001, 256, 6, 1, .u16, .ro, false, .obs, .none, .const 0, .any, "", false⟩

/-- R526, object 20:0010.02 … 20:0015.02. -/
def nbr_cost : Obj :=
  ⟨"nbr_cost", 0x20001002, 256, 6, 1, .u16, .rw, true, .ins, .liveSample, .byPort 10 100, .ivals [(1, 10000)], "", true⟩

/-- R526, object 20:0010.03 … 20:0015.03. -/
def nbr_mismatch : Obj :=
  ⟨"nbr_mismatch", 0x20001003, 256, 6, 1, .enum8, .ro, false, .obs, .none, .const 0, .enum [(0, "NONE"), (1, "FAB_ID"), (2, "RATE"), (3, "PRES_OFFSET")], "", true⟩

/-- R526, object 20:0010.04 … 20:0015.04. -/
def nbr_hello_lost : Obj :=
  ⟨"nbr_hello_lost", 0x20001004, 256, 6, 1, .u32, .ro, false, .obs, .none, .const 0, .any, "", true⟩

/-- R526, object 20:0010.05 … 20:0015.05. -/
def nbr_refusals : Obj :=
  ⟨"nbr_refusals", 0x20001005, 256, 6, 1, .u32, .ro, false, .obs, .none, .const 0, .any, "", true⟩

/-- R527, object 21:0000.00. -/
def route_generation : Obj :=
  ⟨"route_generation", 0x21000000, 256, 1, 1, .u32, .ro, false, .obs, .none, .const 0, .any, "", true⟩

/-- R527, object 21:0000.01. -/
def fab_link_ceiling : Obj :=
  ⟨"fab_link_ceiling", 0x21000001, 256, 1, 1, .u8, .rw, true, .own, .liveSample, .const 50, .ivals [(10, 90)], "%", true⟩

/-- R527, object 21:0000.02. -/
def fab_link_load_max : Obj :=
  ⟨"fab_link_load_max", 0x21000002, 256, 1, 1, .f32, .ro, false, .obs, .none, .const 0, .any, "%", false⟩

/-- R527, object 21:0000.03. -/
def fab_path_max : Obj :=
  ⟨"fab_path_max", 0x21000003, 256, 1, 1, .f32, .ro, false, .obs, .none, .const 0, .any, "µs", false⟩

/-- R527, object 21:0000.04. -/
def fab_tree_shared : Obj :=
  ⟨"fab_tree_shared", 0x21000004, 256, 1, 1, .u16, .ro, false, .obs, .none, .const 0, .any, "", true⟩

/-- R527, object 21:0000.05. -/
def fab_rpf_drops : Obj :=
  ⟨"fab_rpf_drops", 0x21000005, 256, 1, 1, .u32, .ro, false, .obs, .none, .const 0, .any, "", true⟩

/-- R527, object 21:0000.06. -/
def fab_hop_drops : Obj :=
  ⟨"fab_hop_drops", 0x21000006, 256, 1, 1, .u32, .ro, false, .obs, .none, .const 0, .any, "", true⟩

/-- R527, object 21:0010.00 … 21:0015.00. -/
def link_load : Obj :=
  ⟨"link_load", 0x21001000, 256, 6, 1, .f32, .ro, false, .obs, .none, .const 0, .any, "%", false⟩

/-- R527, object 21:0100.00 … 21:02FF.00. -/
def elim_dup : Obj :=
  ⟨"elim_dup", 0x21010000, 256, 512, 1, .u32, .ro, false, .obs, .none, .const 0, .any, "", true⟩

/-- R527, object 21:0100.01 … 21:02FF.01. -/
def elim_rogue : Obj :=
  ⟨"elim_rogue", 0x21010001, 256, 512, 1, .u32, .ro, false, .obs, .none, .const 0, .any, "", true⟩

/-- R527, object 21:0100.02 … 21:02FF.02. -/
def elim_resets : Obj :=
  ⟨"elim_resets", 0x21010002, 256, 512, 1, .u32, .ro, false, .obs, .none, .const 0, .any, "", true⟩

/-- R527, object 21:0100.03 … 21:02FF.03. -/
def elim_only_a : Obj :=
  ⟨"elim_only_a", 0x21010003, 256, 512, 1, .u32, .ro, false, .obs, .none, .const 0, .any, "", true⟩

/-- R527, object 21:0100.04 … 21:02FF.04. -/
def elim_only_b : Obj :=
  ⟨"elim_only_b", 0x21010004, 256, 512, 1, .u32, .ro, false, .obs, .none, .const 0, .any, "", true⟩

/-- R527, object 21:1000.00 … 21:1FFF.00. -/
def inj_kind : Obj :=
  ⟨"inj_kind", 0x21100000, 256, 4096, 1, .enum8, .rs, true, .ins, .staged, .const 0, .enum [(0, "NONE"), (1, "LOCAL"), (2, "GRAVER")], "", true⟩

/-- R527, object 21:1000.01 … 21:1FFF.01. -/
def inj_ch : Obj :=
  ⟨"inj_ch", 0x21100001, 256, 4096, 1, .u16, .rs, true, .ins, .staged, .const 0, .ivals [(0, 4095)], "", true⟩

/-- The objects of this file, for the search by address. -/
def objsFabric : List Obj :=
  [fab_node_addr, fab_id, fab_enable, fab_hop_limit, fab_state, fab_claim_time, fab_members, fab_vertices, fab_scene_digest, fab_scene_match, fab_format_drops, fab_auth_drops, nbr_state, nbr_vertex, nbr_cost, nbr_mismatch, nbr_hello_lost, nbr_refusals, route_generation, fab_link_ceiling] ++
  [fab_link_load_max, fab_path_max, fab_tree_shared, fab_rpf_drops, fab_hop_drops, link_load, elim_dup, elim_rogue, elim_resets, elim_only_a, elim_only_b, inj_kind, inj_ch]

end Sys2Proof.Machine.D
end

