-- ==== Sys2Proof/Machine/DictGraver.lean ====
section
/-! DEFINITION. The dictionary objects of chapter 08: one definition per row of its
object tables, in the order of the rows. The rule in each docstring is the rule whose
table lists the object. -/

namespace Sys2Proof.Machine.D

/-- R378, object 58:0000.00 … 58:001F.00. -/
def img_blob : Obj :=
  ⟨"img_blob", 0x58000000, 256, 32, 1, .blob, .rs, true, .ins, .staged, .const 0, .blob 0 33068 1, "", true⟩

/-- R378, object 58:0000.01 … 58:001F.01. -/
def img_entries : Obj :=
  ⟨"img_entries", 0x58000001, 256, 32, 1, .u8, .ro, false, .obs, .none, .const 0, .ivals [(0, 16)], "", true⟩

/-- R378, object 58:0000.02 … 58:001F.02. -/
def img_bundles : Obj :=
  ⟨"img_bundles", 0x58000002, 256, 32, 1, .u16, .ro, false, .obs, .none, .const 0, .ivals [(0, 4096)], "", true⟩

/-- R378, object 58:0000.03 … 58:001F.03. -/
def img_users : Obj :=
  ⟨"img_users", 0x58000003, 256, 32, 1, .u16, .ro, false, .obs, .none, .const 0, .any, "", true⟩

/-- R378, object 58:0100.00. -/
def vendor_kernels : Obj :=
  ⟨"vendor_kernels", 0x58010000, 256, 1, 1, .str32, .ro, false, .obs, .none, .const 0, .any, "", false⟩

/-- R379, object 59:0000.00 … 59:0EFF.00. -/
def node_kind : Obj :=
  ⟨"node_kind", 0x59000000, 256, 3840, 1, .enum8, .rs, true, .ins, .staged, .const 0, .enum [(0, "EMPTY"), (1, "KERNEL")], "", true⟩

/-- R379, object 59:0000.01 … 59:0EFF.01. -/
def node_image : Obj :=
  ⟨"node_image", 0x59000001, 256, 3840, 1, .u8, .rs, true, .ins, .staged, .const 0, .ivals [(0, 31)], "", true⟩

/-- R379, object 59:0000.02 … 59:0EFF.02. -/
def node_entry : Obj :=
  ⟨"node_entry", 0x59000002, 256, 3840, 1, .u8, .rs, true, .ins, .staged, .const 0, .ivals [(0, 15)], "", true⟩

/-- R379, object 59:0000.03 … 59:0EFF.03. -/
def node_class : Obj :=
  ⟨"node_class", 0x59000003, 256, 3840, 1, .enum8, .rs, true, .ins, .staged, .const 3, .enum [(2, "RT2"), (3, "BG")], "", true⟩

/-- R379, object 59:0000.04 … 59:0EFF.04. -/
def node_core : Obj :=
  ⟨"node_core", 0x59000004, 256, 3840, 1, .enum8, .rs, true, .ins, .staged, .const 8, .enum [(0, "CORE0"), (1, "CORE1"), (2, "CORE2"), (3, "CORE3"), (4, "CORE4"), (5, "CORE5"), (6, "CORE6"), (7, "CORE7"), (8, "AUTO")], "", true⟩

/-- R379, object 59:0000.05 … 59:0EFF.05. -/
def node_affinity : Obj :=
  ⟨"node_affinity", 0x59000005, 256, 3840, 1, .bits32, .rs, true, .ins, .staged, .const 255, .mask 0xFF, "", true⟩

/-- R379, object 59:0000.06 … 59:0EFF.06. -/
def node_period : Obj :=
  ⟨"node_period", 0x59000006, 256, 3840, 1, .u16, .rs, true, .ins, .staged, .const 1, .ivals [(1, 3000)], "blocks", true⟩

/-- R379, object 59:0000.07 … 59:0EFF.07. -/
def node_phase : Obj :=
  ⟨"node_phase", 0x59000007, 256, 3840, 1, .u16, .rs, true, .ins, .staged, .const 0, .ivals [(0, 2999)], "", true⟩

/-- R379, object 59:0000.08 … 59:0EFF.08. -/
def node_release : Obj :=
  ⟨"node_release", 0x59000008, 256, 3840, 1, .u16, .rs, true, .ins, .staged, .const 0, .ivals [(0, 4800)], "samples", true⟩

/-- R379, object 59:0000.09 … 59:0EFF.09. -/
def node_latency : Obj :=
  ⟨"node_latency", 0x59000009, 256, 3840, 1, .u8, .rs, true, .ins, .staged, .const 1, .ivals [(0, 8)], "blocks", true⟩

/-- R379, object 59:0000.0A … 59:0EFF.0D. -/
def node_pred : Obj :=
  ⟨"node_pred", 0x5900000A, 256, 3840, 4, .u16, .rs, true, .ins, .staged, .const 65535, .ivals [(0, 0xEFF), (0xFFFF, 0xFFFF)], "", true⟩

/-- R379, object 59:0000.0E … 59:0EFF.0E. -/
def node_in_kind : Obj :=
  ⟨"node_in_kind", 0x5900000E, 256, 3840, 1, .enum8, .rs, true, .ins, .staged, .const 0, .enum [(0, "NONE"), (1, "LOCAL"), (2, "STREAM"), (3, "GRAVER")], "", true⟩

/-- R379, object 59:0000.0F … 59:0EFF.0F. -/
def node_in_first : Obj :=
  ⟨"node_in_first", 0x5900000F, 256, 3840, 1, .u16, .rs, true, .ins, .staged, .const 0, .ivals [(0, 4095)], "", true⟩

/-- R379, object 59:0000.10 … 59:0EFF.10. -/
def node_in_count : Obj :=
  ⟨"node_in_count", 0x59000010, 256, 3840, 1, .u8, .rs, true, .ins, .staged, .const 0, .ivals [(0, 64)], "", true⟩

/-- R379, object 59:0000.11 … 59:0EFF.11. -/
def node_out_first : Obj :=
  ⟨"node_out_first", 0x59000011, 256, 3840, 1, .u16, .rs, true, .ins, .staged, .const 0, .ivals [(0, 255)], "", true⟩

/-- R379, object 59:0000.12 … 59:0EFF.12. -/
def node_out_count : Obj :=
  ⟨"node_out_count", 0x59000012, 256, 3840, 1, .u8, .rs, true, .ins, .staged, .const 0, .ivals [(0, 64)], "", true⟩

/-- R379, object 59:0000.13 … 59:0EFF.13. -/
def node_conceal : Obj :=
  ⟨"node_conceal", 0x59000013, 256, 3840, 1, .enum8, .rs, true, .ins, .staged, .const 0, .enum [(0, "ZERO"), (1, "HOLD")], "", true⟩

/-- R379, object 59:0000.14 … 59:0EFF.14. -/
def node_flow : Obj :=
  ⟨"node_flow", 0x59000014, 256, 3840, 1, .u16, .rs, true, .ins, .staged, .const 0, .ivals [(0, 0), (1, 255)], "", true⟩

/-- R379, object 59:0000.15 … 59:0EFF.15. -/
def node_param : Obj :=
  ⟨"node_param", 0x59000015, 256, 3840, 1, .blob, .rs, true, .ins, .staged, .const 0, .blob 0 4096 1, "", true⟩

/-- R379, object 59:0000.20 … 59:0FFF.20. -/
def node_bound_core : Obj :=
  ⟨"node_bound_core", 0x59000020, 256, 4096, 1, .u8, .ro, false, .obs, .none, .const 0, .ivals [(0, 7)], "", false⟩

/-- R379, object 59:0000.21 … 59:0FFF.21. -/
def node_state : Obj :=
  ⟨"node_state", 0x59000021, 256, 4096, 1, .enum8, .ro, false, .obs, .none, .const 0, .enum [(0, "IDLE"), (1, "WAITING"), (2, "READY"), (3, "RUNNING"), (4, "PREEMPTED"), (5, "FAULTED")], "", true⟩

/-- R379, object 59:0000.22 … 59:0FFF.22. -/
def node_runs : Obj :=
  ⟨"node_runs", 0x59000022, 256, 4096, 1, .u32, .ro, false, .obs, .none, .const 0, .any, "", true⟩

/-- R379, object 59:0000.23 … 59:0FFF.23. -/
def node_misses : Obj :=
  ⟨"node_misses", 0x59000023, 256, 4096, 1, .u32, .ro, false, .obs, .none, .const 0, .any, "", true⟩

/-- R379, object 59:0000.24 … 59:0FFF.24. -/
def node_cycles_max : Obj :=
  ⟨"node_cycles_max", 0x59000024, 256, 4096, 1, .u32, .ro, false, .obs, .none, .const 0, .any, "cycles", true⟩

/-- R379, object 59:0000.25 … 59:0FFF.25. -/
def node_exceptions : Obj :=
  ⟨"node_exceptions", 0x59000025, 256, 4096, 1, .u32, .ro, false, .obs, .none, .const 0, .any, "", true⟩

/-- R379, object 59:0000.26 … 59:0FFF.26. -/
def node_last_exception : Obj :=
  ⟨"node_last_exception", 0x59000026, 256, 4096, 1, .enum8, .ro, false, .obs, .none, .const 0, .enum [(0, "ILLEGAL"), (1, "PM_BOUND"), (2, "UNCORRECTABLE"), (3, "OVERRUN"), (4, "TRAP")], "", false⟩

/-- R380, object 59:1000.00 … 59:1007.00. -/
def core_mode : Obj :=
  ⟨"core_mode", 0x59100000, 256, 8, 1, .enum8, .rs, true, .ins, .staged, .const 0, .enum [(0, "PREEMPT"), (1, "INTERRUPT"), (2, "DEDICATED")], "", true⟩

/-- R380, object 59:1000.01 … 59:1007.01. -/
def core_classes : Obj :=
  ⟨"core_classes", 0x59100001, 256, 8, 1, .bits32, .rs, true, .ins, .staged, .const 15, .mask 0xF, "", true⟩

/-- R380, object 59:1000.02 … 59:1007.02. -/
def core_yield_limit : Obj :=
  ⟨"core_yield_limit", 0x59100002, 256, 8, 1, .u32, .rs, true, .ins, .staged, .const 4000, .ivals [(100, 40000)], "cycles", true⟩

/-- R380, object 59:1000.03 … 59:1007.03. -/
def core_load : Obj :=
  ⟨"core_load", 0x59100003, 256, 8, 1, .f32, .ro, false, .obs, .none, .const 0, .any, "%", false⟩

/-- R380, object 59:1000.04 … 59:1007.04. -/
def core_rt0 : Obj :=
  ⟨"core_rt0", 0x59100004, 256, 8, 1, .f32, .ro, false, .obs, .none, .const 0, .any, "%", false⟩

/-- R380, object 59:1000.05 … 59:1007.05. -/
def core_preempts : Obj :=
  ⟨"core_preempts", 0x59100005, 256, 8, 1, .u32, .ro, false, .obs, .none, .const 0, .any, "", true⟩

/-- R380, object 59:1000.06 … 59:1007.06. -/
def core_forced : Obj :=
  ⟨"core_forced", 0x59100006, 256, 8, 1, .u32, .ro, false, .obs, .none, .const 0, .any, "", true⟩

/-- R380, object 59:1000.07 … 59:1007.07. -/
def core_pm_free : Obj :=
  ⟨"core_pm_free", 0x59100007, 256, 8, 1, .u16, .ro, false, .obs, .none, .const 0, .any, "", false⟩

/-- R380, object 59:FFF1.00. -/
def graver_util : Obj :=
  ⟨"graver_util", 0x59FFF100, 256, 1, 1, .f32, .ro, false, .obs, .none, .const 0, .any, "%", false⟩

/-- The objects of this file, for the search by address. -/
def objsGraver : List Obj :=
  [img_blob, img_entries, img_bundles, img_users, vendor_kernels, node_kind, node_image, node_entry, node_class, node_core, node_affinity, node_period, node_phase, node_release, node_latency, node_pred, node_in_kind, node_in_first, node_in_count, node_out_first] ++
  [node_out_count, node_conceal, node_flow, node_param, node_bound_core, node_state, node_runs, node_misses, node_cycles_max, node_exceptions, node_last_exception, core_mode, core_classes, core_yield_limit, core_load, core_rt0, core_preempts, core_forced, core_pm_free, graver_util]

end Sys2Proof.Machine.D
end

