-- ==== Sys2Proof/Machine/DictLocalIo.lean ====
section
/-! DEFINITION. The dictionary objects of chapter 11: one definition per row of its
object tables, in the order of the rows. The rule in each docstring is the rule whose
table lists the object. -/

namespace Sys2Proof.Machine.D

/-- R465, object 48:0000.00 … 48:000F.00. -/
def sp_enable : Obj :=
  ⟨"sp_enable", 0x48000000, 256, 16, 1, .bool, .rs, true, .ins, .staged, .const 0, .any, "", true⟩

/-- R465, object 48:0000.01 … 48:000F.01. -/
def sp_format : Obj :=
  ⟨"sp_format", 0x48000001, 256, 16, 1, .enum8, .rs, true, .ins, .staged, .const 0, .enum [(0, "I2S"), (1, "LJ"), (2, "TDM")], "", true⟩

/-- R465, object 48:0000.02 … 48:000F.02. -/
def sp_slots : Obj :=
  ⟨"sp_slots", 0x48000002, 256, 16, 1, .u8, .rs, true, .ins, .staged, .const 2, .ivals [(2, 32)], "", true⟩

/-- R465, object 48:0000.03 … 48:000F.03. -/
def sp_slot_bits : Obj :=
  ⟨"sp_slot_bits", 0x48000003, 256, 16, 1, .u8, .rs, true, .ins, .staged, .const 32, .ivals [(16, 16), (24, 24), (32, 32)], "", true⟩

/-- R465, object 48:0000.04 … 48:000F.04. -/
def sp_word_bits : Obj :=
  ⟨"sp_word_bits", 0x48000004, 256, 16, 1, .u8, .rs, true, .ins, .staged, .const 24, .ivals [(16, 16), (24, 24)], "", true⟩

/-- R465, object 48:0000.05 … 48:000F.05. -/
def sp_clock : Obj :=
  ⟨"sp_clock", 0x48000005, 256, 16, 1, .enum8, .rs, true, .ins, .staged, .const 0, .enum [(0, "MASTER"), (1, "SLAVE")], "", true⟩

/-- R465, object 48:0000.06 … 48:000F.06. -/
def sp_fs_shape : Obj :=
  ⟨"sp_fs_shape", 0x48000006, 256, 16, 1, .enum8, .rs, true, .ins, .staged, .const 0, .enum [(0, "PULSE"), (1, "HALF")], "", true⟩

/-- R465, object 48:0000.07 … 48:000F.07. -/
def sp_fs_delay : Obj :=
  ⟨"sp_fs_delay", 0x48000007, 256, 16, 1, .u8, .rs, true, .ins, .staged, .const 1, .ivals [(0, 1)], "", true⟩

/-- R465, object 48:0000.08 … 48:000F.08. -/
def sp_fs_invert : Obj :=
  ⟨"sp_fs_invert", 0x48000008, 256, 16, 1, .bool, .rs, true, .ins, .staged, .const 0, .any, "", true⟩

/-- R465, object 48:0000.09 … 48:000F.09. -/
def sp_bck_invert : Obj :=
  ⟨"sp_bck_invert", 0x48000009, 256, 16, 1, .bool, .rs, true, .ins, .staged, .const 0, .any, "", true⟩

/-- R465, object 48:0000.0A … 48:000F.0A. -/
def sp_asrc : Obj :=
  ⟨"sp_asrc", 0x4800000A, 256, 16, 1, .bool, .rs, true, .ins, .staged, .const 0, .any, "", true⟩

/-- R465, object 48:0000.0B … 48:000F.0B. -/
def sp_group : Obj :=
  ⟨"sp_group", 0x4800000B, 256, 16, 1, .u8, .rs, true, .ins, .staged, .const 0, .ivals [(0, 4)], "", true⟩

/-- R465, object 48:0000.0C … 48:000F.0C. -/
def sp_slave_offset : Obj :=
  ⟨"sp_slave_offset", 0x4800000C, 256, 16, 1, .i32, .rs, true, .ins, .staged, .const 0, .ivals [(-10000, 10000)], "ns", true⟩

/-- R465, object 48:0000.0D … 48:000F.0D. -/
def sp_loss_frames : Obj :=
  ⟨"sp_loss_frames", 0x4800000D, 256, 16, 1, .u8, .rs, true, .ins, .staged, .const 4, .ivals [(2, 64)], "frames", true⟩

/-- R465, object 48:0000.0E … 48:000F.0E. -/
def sp_mask : Obj :=
  ⟨"sp_mask", 0x4800000E, 256, 16, 1, .bits32, .rw, true, .opr, .liveFrame, .const 0xFFFFFFFF, .any, "", true⟩

/-- R465, object 48:0000.0F … 48:000F.0F. -/
def sp_tx_idle : Obj :=
  ⟨"sp_tx_idle", 0x4800000F, 256, 16, 1, .enum8, .rs, true, .ins, .staged, .const 0, .enum [(0, "ZERO"), (1, "HIZ")], "", true⟩

/-- R465, object 48:0000.10 … 48:000F.10. -/
def sp_state : Obj :=
  ⟨"sp_state", 0x48000010, 256, 16, 1, .enum8, .ro, false, .obs, .none, .const 0, .enum [(0, "OFF"), (1, "STARTING"), (2, "RUNNING"), (3, "LOST")], "", true⟩

/-- R465, object 48:0000.11 … 48:000F.11. -/
def sp_frame_rate : Obj :=
  ⟨"sp_frame_rate", 0x48000011, 256, 16, 1, .f32, .ro, false, .obs, .none, .const 0, .any, "Hz", false⟩

/-- R465, object 48:0000.12 … 48:000F.12. -/
def sp_slips : Obj :=
  ⟨"sp_slips", 0x48000012, 256, 16, 1, .u32, .ro, false, .obs, .none, .const 0, .any, "", true⟩

/-- R465, object 48:0000.13 … 48:000F.13. -/
def sp_lost : Obj :=
  ⟨"sp_lost", 0x48000013, 256, 16, 1, .u32, .ro, false, .obs, .none, .const 0, .any, "", true⟩

/-- R466, object 49:0000.00 … 49:0003.00. -/
def aes_rx_enable : Obj :=
  ⟨"aes_rx_enable", 0x49000000, 256, 4, 1, .bool, .rs, true, .ins, .staged, .const 0, .any, "", true⟩

/-- R466, object 49:0000.01 … 49:0003.01. -/
def aes_rx_asrc : Obj :=
  ⟨"aes_rx_asrc", 0x49000001, 256, 4, 1, .bool, .rs, true, .ins, .staged, .const 0, .any, "", true⟩

/-- R466, object 49:0000.02 … 49:0003.02. -/
def aes_rx_v_policy : Obj :=
  ⟨"aes_rx_v_policy", 0x49000002, 256, 4, 1, .enum8, .rs, true, .ins, .staged, .const 0, .enum [(0, "USE"), (1, "CONCEAL")], "", true⟩

/-- R466, object 49:0000.03 … 49:0003.03. -/
def aes_rx_state : Obj :=
  ⟨"aes_rx_state", 0x49000003, 256, 4, 1, .enum8, .ro, false, .obs, .none, .const 0, .enum [(0, "OFF"), (1, "STARTING"), (2, "RUNNING"), (3, "LOST")], "", true⟩

/-- R466, object 49:0000.04 … 49:0003.04. -/
def aes_rx_cs_a : Obj :=
  ⟨"aes_rx_cs_a", 0x49000004, 256, 4, 1, .blob, .ro, false, .obs, .none, .const 0, .any, "", true⟩

/-- R466, object 49:0000.05 … 49:0003.05. -/
def aes_rx_cs_b : Obj :=
  ⟨"aes_rx_cs_b", 0x49000005, 256, 4, 1, .blob, .ro, false, .obs, .none, .const 0, .any, "", true⟩

/-- R466, object 49:0000.06 … 49:0003.06. -/
def aes_rx_user : Obj :=
  ⟨"aes_rx_user", 0x49000006, 256, 4, 1, .blob, .ro, false, .obs, .none, .const 0, .any, "", true⟩

/-- R466, object 49:0000.07 … 49:0003.07. -/
def aes_rx_z_index : Obj :=
  ⟨"aes_rx_z_index", 0x49000007, 256, 4, 1, .msi64, .ro, false, .obs, .none, .const 0, .any, "samples", false⟩

/-- R466, object 49:0000.08 … 49:0003.08. -/
def aes_rx_crcc_errors : Obj :=
  ⟨"aes_rx_crcc_errors", 0x49000008, 256, 4, 1, .u32, .ro, false, .obs, .none, .const 0, .any, "", true⟩

/-- R466, object 49:0000.09 … 49:0003.09. -/
def aes_rx_parity_errors : Obj :=
  ⟨"aes_rx_parity_errors", 0x49000009, 256, 4, 1, .u32, .ro, false, .obs, .none, .const 0, .any, "", true⟩

/-- R466, object 49:0000.0A … 49:0003.0A. -/
def aes_rx_block_errors : Obj :=
  ⟨"aes_rx_block_errors", 0x4900000A, 256, 4, 1, .u32, .ro, false, .obs, .none, .const 0, .any, "", true⟩

/-- R466, object 49:0010.00 … 49:0013.00. -/
def aes_tx_enable : Obj :=
  ⟨"aes_tx_enable", 0x49001000, 256, 4, 1, .bool, .rs, true, .ins, .staged, .const 0, .any, "", true⟩

/-- R466, object 49:0010.01 … 49:0013.01. -/
def aes_tx_cs_a : Obj :=
  ⟨"aes_tx_cs_a", 0x49001001, 256, 4, 1, .blob, .rs, true, .ins, .staged, .const 0x1800000000, .blob 24 24 1, "", true⟩

/-- R466, object 49:0010.02 … 49:0013.02. -/
def aes_tx_cs_b : Obj :=
  ⟨"aes_tx_cs_b", 0x49001002, 256, 4, 1, .blob, .rs, true, .ins, .staged, .const 0x1800000000, .blob 24 24 1, "", true⟩

/-- R466, object 49:0010.03 … 49:0013.03. -/
def aes_tx_user : Obj :=
  ⟨"aes_tx_user", 0x49001003, 256, 4, 1, .blob, .rs, true, .ins, .staged, .const 0x3000000000, .blob 48 48 1, "", true⟩

/-- R466, object 49:0010.04 … 49:0013.04. -/
def aes_tx_crcc_auto : Obj :=
  ⟨"aes_tx_crcc_auto", 0x49001004, 256, 4, 1, .bool, .rs, true, .ins, .staged, .const 1, .any, "", true⟩

/-- R466, object 49:0010.05 … 49:0013.05. -/
def aes_tx_v_follow : Obj :=
  ⟨"aes_tx_v_follow", 0x49001005, 256, 4, 1, .bool, .rs, true, .ins, .staged, .const 1, .any, "", true⟩

/-- R466, object 49:0010.06 … 49:0013.06. -/
def aes_tx_block_phase : Obj :=
  ⟨"aes_tx_block_phase", 0x49001006, 256, 4, 1, .u8, .rs, true, .ins, .staged, .const 0, .ivals [(0, 191)], "frames", true⟩

/-- R467, object 4A:0000.00 … 4A:0007.00. -/
def pdm_ck_enable : Obj :=
  ⟨"pdm_ck_enable", 0x4A000000, 256, 8, 1, .bool, .rs, true, .ins, .staged, .const 0, .any, "", true⟩

/-- R467, object 4A:0000.01 … 4A:0007.01. -/
def pdm_ck_rate : Obj :=
  ⟨"pdm_ck_rate", 0x4A000001, 256, 8, 1, .enum8, .rs, true, .ins, .staged, .const 0, .enum [(0, "X64"), (1, "X128"), (2, "X256")], "", true⟩

/-- R467, object 4A:0010.00 … 4A:001F.00. -/
def pdm_line_clock : Obj :=
  ⟨"pdm_line_clock", 0x4A001000, 256, 16, 1, .u8, .rs, true, .ins, .staged, .halfIdx, .ivals [(0, 7)], "", true⟩

/-- R467, object 4A:0100.00 … 4A:011F.00. -/
def pdm_ch_enable : Obj :=
  ⟨"pdm_ch_enable", 0x4A010000, 256, 32, 1, .bool, .rs, true, .ins, .staged, .const 0, .any, "", true⟩

/-- R467, object 4A:0100.01 … 4A:011F.01. -/
def pdm_preset : Obj :=
  ⟨"pdm_preset", 0x4A010001, 256, 32, 1, .enum8, .rs, true, .ins, .staged, .const 1, .enum [(0, "LOWLAT"), (1, "BAL"), (2, "CLEAN")], "", true⟩

/-- R467, object 4A:0100.02 … 4A:011F.02. -/
def pdm_dc : Obj :=
  ⟨"pdm_dc", 0x4A010002, 256, 32, 1, .enum8, .rs, true, .ins, .staged, .const 1, .enum [(0, "OFF"), (1, "RUN"), (2, "FROZEN")], "", true⟩

/-- R467, object 4A:0100.03 … 4A:011F.03. -/
def pdm_dc_corner : Obj :=
  ⟨"pdm_dc_corner", 0x4A010003, 256, 32, 1, .f32, .rs, true, .ins, .staged, .const 0x40000000, .f32 0x3DCCCCCD 0x41A00000 false, "Hz", true⟩

/-- R467, object 4A:0100.04 … 4A:011F.04. -/
def pdm_dc_value : Obj :=
  ⟨"pdm_dc_value", 0x4A010004, 256, 32, 1, .f32, .ro, false, .obs, .none, .const 0, .any, "", false⟩

/-- R467, object 4A:0100.05 … 4A:011F.05. -/
def pdm_ch_sync : Obj :=
  ⟨"pdm_ch_sync", 0x4A010005, 256, 32, 1, .bool, .wo, false, .ins, .staged, .const 0, .ivals [(1, 1)], "", false⟩

/-- R467, object 4A:FFF1.00. -/
def pdm_units : Obj :=
  ⟨"pdm_units", 0x4AFFF100, 256, 1, 1, .u8, .ro, false, .obs, .none, .const 0, .ivals [(0, 32)], "", true⟩

/-- R468, object 4B:0000.00 … 4B:0013.00. -/
def asrc_bw : Obj :=
  ⟨"asrc_bw", 0x4B000000, 256, 20, 1, .f32, .rs, true, .ins, .staged, .const 0x40000000, .f32 0x3F000000 0x41200000 false, "Hz", true⟩

/-- R468, object 4B:0000.01 … 4B:0013.01. -/
def asrc_state : Obj :=
  ⟨"asrc_state", 0x4B000001, 256, 20, 1, .enum8, .ro, false, .obs, .none, .const 0, .enum [(0, "OFF"), (1, "TRACKING"), (2, "LOCKED")], "", true⟩

/-- R468, object 4B:0000.02 … 4B:0013.02. -/
def asrc_ratio : Obj :=
  ⟨"asrc_ratio", 0x4B000002, 256, 20, 1, .f32, .ro, false, .obs, .none, .const 0, .any, "", false⟩

/-- R468, object 4B:FFF1.00. -/
def asrc_channels : Obj :=
  ⟨"asrc_channels", 0x4BFFF100, 256, 1, 1, .u16, .ro, false, .obs, .none, .const 0, .ivals [(0, 256)], "", true⟩

/-- R469, object 4C:0000.00 … 4C:000F.00. -/
def idac_mode : Obj :=
  ⟨"idac_mode", 0x4C000000, 256, 16, 1, .enum8, .rs, true, .ins, .staged, .const 0, .enum [(0, "VALUE"), (1, "QUEUE")], "", true⟩

/-- R469, object 4C:0000.01 … 4C:000F.01. -/
def idac_value : Obj :=
  ⟨"idac_value", 0x4C000001, 256, 16, 1, .u16, .rw, true, .opr, .liveSample, .const 0, .ivals [(0, 24000)], "µA", true⟩

/-- R469, object 4C:0000.02 … 4C:000F.02. -/
def idac_slew : Obj :=
  ⟨"idac_slew", 0x4C000002, 256, 16, 1, .u16, .rw, true, .ins, .liveSample, .const 0, .ivals [(0, 0), (1, 24000)], "µA/ms", true⟩

/-- R469, object 4C:0000.03 … 4C:000F.03. -/
def idac_powerup : Obj :=
  ⟨"idac_powerup", 0x4C000003, 256, 16, 1, .u16, .rw, true, .ins, .liveSample, .const 0, .ivals [(0, 24000)], "µA", true⟩

/-- R469, object 4C:0000.04 … 4C:000F.04. -/
def idac_fault : Obj :=
  ⟨"idac_fault", 0x4C000004, 256, 16, 1, .u16, .rw, true, .ins, .liveSample, .const 0, .ivals [(0, 24000)], "µA", true⟩

/-- R469, object 4C:0000.05 … 4C:000F.05. -/
def idac_q_time : Obj :=
  ⟨"idac_q_time", 0x4C000005, 256, 16, 1, .msi64, .rw, false, .opr, .liveSample, .const 0, .any, "samples", true⟩

/-- R469, object 4C:0000.06 … 4C:000F.06. -/
def idac_q_value : Obj :=
  ⟨"idac_q_value", 0x4C000006, 256, 16, 1, .u16, .rw, false, .opr, .liveSample, .const 0, .ivals [(0, 24000)], "µA", true⟩

/-- R469, object 4C:0000.07 … 4C:000F.07. -/
def idac_q_push : Obj :=
  ⟨"idac_q_push", 0x4C000007, 256, 16, 1, .bool, .wo, false, .opr, .liveSample, .const 0, .ivals [(1, 1)], "", false⟩

/-- R469, object 4C:0000.08 … 4C:000F.08. -/
def idac_q_clear : Obj :=
  ⟨"idac_q_clear", 0x4C000008, 256, 16, 1, .bool, .wo, false, .opr, .liveSample, .const 0, .ivals [(1, 1)], "", false⟩

/-- R469, object 4C:0000.09 … 4C:000F.09. -/
def idac_q_count : Obj :=
  ⟨"idac_q_count", 0x4C000009, 256, 16, 1, .u8, .ro, false, .obs, .none, .const 0, .ivals [(0, 16)], "", true⟩

/-- R469, object 4C:0000.0A … 4C:000F.0A. -/
def idac_q_late : Obj :=
  ⟨"idac_q_late", 0x4C00000A, 256, 16, 1, .u32, .ro, false, .obs, .none, .const 0, .any, "", true⟩

/-- R469, object 4C:0000.0B … 4C:000F.0B. -/
def idac_state : Obj :=
  ⟨"idac_state", 0x4C00000B, 256, 16, 1, .enum8, .ro, false, .obs, .none, .const 0, .enum [(0, "OFF"), (1, "POWERUP"), (2, "RUN"), (3, "FAULT"), (4, "INJECT")], "", true⟩

/-- R469, object 4C:0000.0C … 4C:000F.0C. -/
def idac_now : Obj :=
  ⟨"idac_now", 0x4C00000C, 256, 16, 1, .u16, .ro, false, .obs, .none, .const 0, .any, "µA", false⟩

/-- R469, object 4C:0000.0D … 4C:000F.0D. -/
def idac_compliance : Obj :=
  ⟨"idac_compliance", 0x4C00000D, 256, 16, 1, .enum8, .ro, false, .obs, .none, .const 0, .enum [(0, "OK"), (1, "LOW")], "", true⟩

/-- R470, object 4D:0000.00 … 4D:013F.00. -/
def lin_conceal : Obj :=
  ⟨"lin_conceal", 0x4D000000, 256, 320, 1, .enum8, .rs, true, .ins, .staged, .const 0, .enum [(0, "ZERO"), (1, "HOLD")], "", true⟩

/-- R470, object 4D:0000.01 … 4D:013F.01. -/
def lin_status : Obj :=
  ⟨"lin_status", 0x4D000001, 256, 320, 1, .u16, .ro, false, .obs, .none, .const 0, .any, "", false⟩

/-- The objects of this file, for the search by address. -/
def objsLocalIo : List Obj :=
  [sp_enable, sp_format, sp_slots, sp_slot_bits, sp_word_bits, sp_clock, sp_fs_shape, sp_fs_delay, sp_fs_invert, sp_bck_invert, sp_asrc, sp_group, sp_slave_offset, sp_loss_frames, sp_mask, sp_tx_idle, sp_state, sp_frame_rate, sp_slips, sp_lost] ++
  [aes_rx_enable, aes_rx_asrc, aes_rx_v_policy, aes_rx_state, aes_rx_cs_a, aes_rx_cs_b, aes_rx_user, aes_rx_z_index, aes_rx_crcc_errors, aes_rx_parity_errors, aes_rx_block_errors, aes_tx_enable, aes_tx_cs_a, aes_tx_cs_b, aes_tx_user, aes_tx_crcc_auto, aes_tx_v_follow, aes_tx_block_phase, pdm_ck_enable, pdm_ck_rate] ++
  [pdm_line_clock, pdm_ch_enable, pdm_preset, pdm_dc, pdm_dc_corner, pdm_dc_value, pdm_ch_sync, pdm_units, asrc_bw, asrc_state, asrc_ratio, asrc_channels, idac_mode, idac_value, idac_slew, idac_powerup, idac_fault, idac_q_time, idac_q_value, idac_q_push] ++
  [idac_q_clear, idac_q_count, idac_q_late, idac_state, idac_now, idac_compliance, lin_conceal, lin_status]

end Sys2Proof.Machine.D
end

