-- ==== Sys2Proof/Machine/DictMemory.lean ====
section
/-! DEFINITION. The dictionary objects of chapter 15: one definition per row of its
object tables, in the order of the rows. The rule in each docstring is the rule whose
table lists the object. -/

namespace Sys2Proof.Machine.D

/-- R596, object 70:0000.00. -/
def dmc_setpoint_now : Obj :=
  ⟨"dmc_setpoint_now", 0x70000000, 256, 1, 1, .enum8, .ro, false, .obs, .none, .const 0, .enum [(0, "SP0"), (1, "SP1")], "", false⟩

/-- R596, object 70:0000.01. -/
def dmc_train_state : Obj :=
  ⟨"dmc_train_state", 0x70000001, 256, 1, 1, .enum8, .ro, false, .obs, .none, .const 0, .enum [(0, "IDLE"), (1, "TRAINING"), (2, "FAILED")], "", true⟩

/-- R596, object 70:0000.02. -/
def dmc_train_step : Obj :=
  ⟨"dmc_train_step", 0x70000002, 256, 1, 1, .u8, .ro, false, .obs, .none, .const 0, .any, "", true⟩

/-- R596, object 70:0000.03. -/
def dmc_retrain : Obj :=
  ⟨"dmc_retrain", 0x70000003, 256, 1, 1, .enum8, .wo, false, .own, .liveSample, .const 0, .enum [(0, "SP0"), (1, "SP1")], "", false⟩

/-- R596, object 70:0000.04. -/
def dmc_margin_sp0 : Obj :=
  ⟨"dmc_margin_sp0", 0x70000004, 256, 1, 1, .f32, .ro, false, .obs, .none, .const 0, .any, "%", false⟩

/-- R596, object 70:0000.05. -/
def dmc_margin_sp1 : Obj :=
  ⟨"dmc_margin_sp1", 0x70000005, 256, 1, 1, .f32, .ro, false, .obs, .none, .const 0, .any, "%", false⟩

/-- R596, object 70:0000.06. -/
def dmc_refresh_rate : Obj :=
  ⟨"dmc_refresh_rate", 0x70000006, 256, 1, 1, .enum8, .ro, false, .obs, .none, .const 0, .enum [(0, "X1"), (1, "X2")], "", true⟩

/-- R596, object 70:0000.07. -/
def dmc_forced_refresh : Obj :=
  ⟨"dmc_forced_refresh", 0x70000007, 256, 1, 1, .u32, .ro, false, .obs, .none, .const 0, .any, "", true⟩

/-- R596, object 70:0000.08. -/
def dmc_bandwidth : Obj :=
  ⟨"dmc_bandwidth", 0x70000008, 256, 1, 1, .f32, .ro, false, .obs, .none, .const 0, .any, "GB/s", false⟩

/-- R596, object 70:0010.00 … 70:0017.00. -/
def dmc_port_target : Obj :=
  ⟨"dmc_port_target", 0x70001000, 256, 8, 1, .u32, .rw, true, .own, .liveSample, .idx [2000, 1000, 4000, 8000, 50000, 20000, 20000, 1000000], .ivals [(500, 4000000)], "ns", true⟩

/-- R596, object 70:0010.01 … 70:0017.01. -/
def dmc_port_age_limit : Obj :=
  ⟨"dmc_port_age_limit", 0x70001001, 256, 8, 1, .u32, .rw, true, .own, .liveSample, .idx [8000, 4000, 16000, 32000, 200000, 80000, 80000, 4000000], .ivals [(500, 16000000)], "ns", true⟩

/-- R596, object 70:0010.02 … 70:0017.02. -/
def dmc_port_avg_latency : Obj :=
  ⟨"dmc_port_avg_latency", 0x70001002, 256, 8, 1, .f32, .ro, false, .obs, .none, .const 0, .any, "ns", false⟩

/-- R596, object 70:0010.03 … 70:0017.03. -/
def dmc_port_promotions : Obj :=
  ⟨"dmc_port_promotions", 0x70001003, 256, 8, 1, .u32, .ro, false, .obs, .none, .const 0, .any, "", true⟩

/-- R596, object 70:0100.00. -/
def bn_dram_corrected : Obj :=
  ⟨"bn_dram_corrected", 0x70010000, 256, 1, 1, .u32, .ro, false, .obs, .none, .const 0, .any, "", true⟩

/-- R596, object 70:0100.01. -/
def bn_dram_uncorrectable : Obj :=
  ⟨"bn_dram_uncorrectable", 0x70010001, 256, 1, 1, .u32, .ro, false, .obs, .none, .const 0, .any, "", true⟩

/-- R596, object 70:0100.02. -/
def bn_sram_corrected : Obj :=
  ⟨"bn_sram_corrected", 0x70010002, 256, 1, 1, .u32, .ro, false, .obs, .none, .const 0, .any, "", true⟩

/-- R596, object 70:0100.03. -/
def bn_sram_uncorrectable : Obj :=
  ⟨"bn_sram_uncorrectable", 0x70010003, 256, 1, 1, .u32, .ro, false, .obs, .none, .const 0, .any, "", true⟩

/-- R596, object 70:0100.04. -/
def bn_dram_progress : Obj :=
  ⟨"bn_dram_progress", 0x70010004, 256, 1, 1, .f32, .ro, false, .obs, .none, .const 0, .any, "%", false⟩

/-- R596, object 70:0100.05. -/
def bn_dram_passes : Obj :=
  ⟨"bn_dram_passes", 0x70010005, 256, 1, 1, .u32, .ro, false, .obs, .none, .const 0, .any, "", true⟩

/-- R596, object 70:0100.06. -/
def bn_sram_passes : Obj :=
  ⟨"bn_sram_passes", 0x70010006, 256, 1, 1, .u32, .ro, false, .obs, .none, .const 0, .any, "", true⟩

/-- R597, object 71:0008.00 … 71:000F.00. -/
def dma_base : Obj :=
  ⟨"dma_base", 0x71000800, 256, 8, 1, .u64, .rw, true, .ins, .stopped, .const 0, .mult 64, "", true⟩

/-- R597, object 71:0008.01 … 71:000F.01. -/
def dma_size : Obj :=
  ⟨"dma_size", 0x71000801, 256, 8, 1, .u16, .rw, true, .ins, .stopped, .const 0, .pow2 16 4096, "", true⟩

/-- R597, object 71:0008.02 … 71:000F.02. -/
def dma_class : Obj :=
  ⟨"dma_class", 0x71000802, 256, 8, 1, .enum8, .rw, true, .ins, .stopped, .const 2, .enum [(1, "NRT"), (2, "BULK")], "", true⟩

/-- R597, object 71:0008.03 … 71:000F.03. -/
def dma_trigger : Obj :=
  ⟨"dma_trigger", 0x71000803, 256, 8, 1, .enum8, .rw, true, .ins, .stopped, .const 0, .enum [(0, "COMMAND"), (1, "BLOCK"), (2, "NODE")], "", true⟩

/-- R597, object 71:0008.04 … 71:000F.04. -/
def dma_trigger_node : Obj :=
  ⟨"dma_trigger_node", 0x71000804, 256, 8, 1, .u16, .rw, true, .ins, .stopped, .const 0, .ivals [(0, 3839)], "", true⟩

/-- R597, object 71:0008.05 … 71:000F.05. -/
def dma_trigger_offset : Obj :=
  ⟨"dma_trigger_offset", 0x71000805, 256, 8, 1, .u32, .rw, true, .ins, .stopped, .const 0, .ivals [(0, 330000)], "ns", true⟩

/-- R597, object 71:0008.06 … 71:000F.06. -/
def dma_tail : Obj :=
  ⟨"dma_tail", 0x71000806, 256, 8, 1, .u16, .rw, false, .opr, .liveSample, .const 0, .ivals [(0, 4095)], "", true⟩

/-- R597, object 71:0008.07 … 71:000F.07. -/
def dma_start : Obj :=
  ⟨"dma_start", 0x71000807, 256, 8, 1, .bool, .wo, false, .opr, .liveSample, .const 0, .ivals [(1, 1)], "", false⟩

/-- R597, object 71:0008.08 … 71:000F.08. -/
def dma_stop : Obj :=
  ⟨"dma_stop", 0x71000808, 256, 8, 1, .bool, .wo, false, .opr, .liveSample, .const 0, .ivals [(1, 1)], "", false⟩

/-- R597, object 71:0008.09 … 71:000F.09. -/
def dma_reset : Obj :=
  ⟨"dma_reset", 0x71000809, 256, 8, 1, .bool, .wo, false, .opr, .liveSample, .const 0, .ivals [(1, 1)], "", false⟩

/-- R597, object 71:0000.0A … 71:000F.0A. -/
def dma_head : Obj :=
  ⟨"dma_head", 0x7100000A, 256, 16, 1, .u16, .ro, false, .obs, .none, .const 0, .any, "", true⟩

/-- R597, object 71:0000.0B … 71:000F.0B. -/
def dma_state : Obj :=
  ⟨"dma_state", 0x7100000B, 256, 16, 1, .enum8, .ro, false, .obs, .none, .const 0, .enum [(0, "IDLE"), (1, "RUNNING"), (2, "STOPPING"), (3, "WAITING")], "", true⟩

/-- R597, object 71:0000.0C … 71:000F.0C. -/
def dma_events : Obj :=
  ⟨"dma_events", 0x7100000C, 256, 16, 1, .u32, .ro, false, .obs, .none, .const 0, .any, "", true⟩

/-- R597, object 71:0000.0D … 71:000F.0D. -/
def dma_bytes : Obj :=
  ⟨"dma_bytes", 0x7100000D, 256, 16, 1, .u64, .ro, false, .obs, .none, .const 0, .any, "bytes", true⟩

/-- R598, object 72:0000.00 … 72:0007.00. -/
def mtx_outstanding_max : Obj :=
  ⟨"mtx_outstanding_max", 0x72000000, 256, 8, 1, .u8, .ro, false, .obs, .none, .const 0, .ivals [(0, 32)], "", true⟩

/-- R598, object 72:0000.01 … 72:0007.01. -/
def mtx_decode_errors : Obj :=
  ⟨"mtx_decode_errors", 0x72000001, 256, 8, 1, .u32, .ro, false, .obs, .none, .const 0, .any, "", true⟩

/-- R598, object 72:0000.02 … 72:0007.02. -/
def mtx_last_decode_addr : Obj :=
  ⟨"mtx_last_decode_addr", 0x72000002, 256, 8, 1, .u64, .ro, false, .obs, .none, .const 0, .any, "", true⟩

/-- R598, object 72:0000.03 … 72:0007.03. -/
def mtx_resets : Obj :=
  ⟨"mtx_resets", 0x72000003, 256, 8, 1, .u32, .ro, false, .obs, .none, .const 0, .any, "", true⟩

/-- R598, object 72:0010.00 … 72:0015.00. -/
def mtx_park : Obj :=
  ⟨"mtx_park", 0x72001000, 256, 6, 1, .u8, .rw, true, .own, .liveSample, .idx [3, 3, 0, 0, 0, 0], .ivals [(0, 7)], "", true⟩

/-- R599, object 08:0100.00 … 08:0101.00. -/
def pll_spread : Obj :=
  ⟨"pll_spread", 0x8010000, 256, 2, 1, .enum8, .rs, true, .own, .staged, .const 0, .enum [(0, "OFF"), (1, "DOWN_0_5"), (2, "DOWN_1_0"), (3, "CENTRE_0_25"), (4, "CENTRE_0_5")], "", true⟩

/-- R599, object 08:0100.01 … 08:0101.01. -/
def pll_ramp : Obj :=
  ⟨"pll_ramp", 0x8010001, 256, 2, 1, .blob, .rw, true, .own, .live, .idx [0x4800000000, 0x400000000], .blob 4 128 4, "", true⟩

/-- R599, object 08:0100.02 … 08:0101.02. -/
def pll_n : Obj :=
  ⟨"pll_n", 0x8010002, 256, 2, 1, .u16, .ro, false, .obs, .none, .const 0, .any, "", false⟩

/-- R599, object 08:0100.03 … 08:0101.03. -/
def pll_state : Obj :=
  ⟨"pll_state", 0x8010003, 256, 2, 1, .enum8, .ro, false, .obs, .none, .const 0, .enum [(0, "OFF"), (1, "RAMPING"), (2, "LOCKED")], "", false⟩

/-- R599, object 08:0100.04 … 08:0101.04. -/
def pll_f_min : Obj :=
  ⟨"pll_f_min", 0x8010004, 256, 2, 1, .f32, .ro, false, .obs, .none, .const 0, .any, "MHz", false⟩

/-- The objects of this file, for the search by address. -/
def objsMemory : List Obj :=
  [dmc_setpoint_now, dmc_train_state, dmc_train_step, dmc_retrain, dmc_margin_sp0, dmc_margin_sp1, dmc_refresh_rate, dmc_forced_refresh, dmc_bandwidth, dmc_port_target, dmc_port_age_limit, dmc_port_avg_latency, dmc_port_promotions, bn_dram_corrected, bn_dram_uncorrectable, bn_sram_corrected, bn_sram_uncorrectable, bn_dram_progress, bn_dram_passes, bn_sram_passes] ++
  [dma_base, dma_size, dma_class, dma_trigger, dma_trigger_node, dma_trigger_offset, dma_tail, dma_start, dma_stop, dma_reset, dma_head, dma_state, dma_events, dma_bytes, mtx_outstanding_max, mtx_decode_errors, mtx_last_decode_addr, mtx_resets, mtx_park, pll_spread] ++
  [pll_ramp, pll_n, pll_state, pll_f_min]

end Sys2Proof.Machine.D
end

