-- ==== Sys2Proof/Machine/DictMonitor.lean ====
section
/-! DEFINITION. The dictionary objects of chapter 17: one definition per row of its
object tables, in the order of the rows. The rule in each docstring is the rule whose
table lists the object. -/

namespace Sys2Proof.Machine.D

/-- R644, object 78:0000.00 … 78:001F.00. -/
def hist_source : Obj :=
  ⟨"hist_source", 0x78000000, 256, 32, 1, .enum8, .rw, true, .ins, .live, .const 0, .enum [(0, "OFF"), (1, "STREAM_SLACK"), (2, "DMC_LATENCY"), (3, "BLOCK_TIME"), (4, "PTP_OFFSET"), (5, "OUT_LEVEL"), (6, "MIC_LEVEL")], "", true⟩

/-- R644, object 78:0000.01 … 78:001F.01. -/
def hist_select : Obj :=
  ⟨"hist_select", 0x78000001, 256, 32, 1, .u16, .rw, true, .ins, .live, .const 0, .any, "", true⟩

/-- R644, object 78:0000.02 … 78:001F.02. -/
def hist_scale : Obj :=
  ⟨"hist_scale", 0x78000002, 256, 32, 1, .enum8, .rw, true, .ins, .live, .const 0, .enum [(0, "LINEAR"), (1, "LOG")], "", true⟩

/-- R644, object 78:0000.03 … 78:001F.03. -/
def hist_lo : Obj :=
  ⟨"hist_lo", 0x78000003, 256, 32, 1, .f32, .rw, true, .ins, .live, .const 0x0, .any, "", true⟩

/-- R644, object 78:0000.04 … 78:001F.04. -/
def hist_hi : Obj :=
  ⟨"hist_hi", 0x78000004, 256, 32, 1, .f32, .rw, true, .ins, .live, .const 0x447A0000, .any, "", true⟩

/-- R644, object 78:0000.05 … 78:001F.05. -/
def hist_period : Obj :=
  ⟨"hist_period", 0x78000005, 256, 32, 1, .u32, .rw, true, .ins, .live, .const 0, .ivals [(0, 0), (1, 10800000)], "blocks", true⟩

/-- R644, object 78:0000.06 … 78:001F.06. -/
def hist_snap : Obj :=
  ⟨"hist_snap", 0x78000006, 256, 32, 1, .bool, .wo, false, .opr, .live, .const 0, .ivals [(1, 1)], "", false⟩

/-- R644, object 78:0000.07 … 78:001F.07. -/
def hist_snapshot : Obj :=
  ⟨"hist_snapshot", 0x78000007, 256, 32, 1, .blob, .ro, false, .obs, .none, .const 0, .any, "", true⟩

/-- R644, object 78:0000.08 … 78:001F.08. -/
def hist_live_count : Obj :=
  ⟨"hist_live_count", 0x78000008, 256, 32, 1, .u64, .ro, false, .obs, .none, .const 0, .any, "", true⟩

/-- R644, object 78:0000.09 … 78:001F.09. -/
def hist_live_min : Obj :=
  ⟨"hist_live_min", 0x78000009, 256, 32, 1, .f32, .ro, false, .obs, .none, .const 0x7F800000, .any, "", true⟩

/-- R644, object 78:0000.0A … 78:001F.0A. -/
def hist_live_max : Obj :=
  ⟨"hist_live_max", 0x7800000A, 256, 32, 1, .f32, .ro, false, .obs, .none, .const 0xFF800000, .any, "", true⟩

/-- R644, object 78:0000.0B … 78:001F.0B. -/
def hist_state : Obj :=
  ⟨"hist_state", 0x7800000B, 256, 32, 1, .enum8, .ro, false, .obs, .none, .const 0, .enum [(0, "OFF"), (1, "RECORDING"), (2, "INVALID")], "", true⟩

/-- R654, object 7C:0000.00. -/
def err_sequence : Obj :=
  ⟨"err_sequence", 0x7C000000, 256, 1, 1, .u8, .ro, false, .obs, .none, .const 0, .any, "", true⟩

/-- R654, object 7C:0000.01. -/
def err_queue_depth : Obj :=
  ⟨"err_queue_depth", 0x7C000001, 256, 1, 1, .u8, .ro, false, .obs, .none, .const 0, .ivals [(0, 64)], "", true⟩

/-- R654, object 7C:0000.02. -/
def err_queue_max : Obj :=
  ⟨"err_queue_max", 0x7C000002, 256, 1, 1, .u8, .ro, false, .obs, .none, .const 0, .ivals [(0, 64)], "", true⟩

/-- R654, object 7C:0000.03. -/
def err_overflow : Obj :=
  ⟨"err_overflow", 0x7C000003, 256, 1, 1, .u32, .ro, false, .obs, .none, .const 0, .any, "", true⟩

/-- R654, object 7C:0000.04. -/
def err_count_info : Obj :=
  ⟨"err_count_info", 0x7C000004, 256, 1, 1, .u32, .ro, false, .obs, .none, .const 0, .any, "", true⟩

/-- R654, object 7C:0000.05. -/
def err_count_warn : Obj :=
  ⟨"err_count_warn", 0x7C000005, 256, 1, 1, .u32, .ro, false, .obs, .none, .const 0, .any, "", true⟩

/-- R654, object 7C:0000.06. -/
def err_count_degraded : Obj :=
  ⟨"err_count_degraded", 0x7C000006, 256, 1, 1, .u32, .ro, false, .obs, .none, .const 0, .any, "", true⟩

/-- R654, object 7C:0000.07. -/
def err_count_failed : Obj :=
  ⟨"err_count_failed", 0x7C000007, 256, 1, 1, .u32, .ro, false, .obs, .none, .const 0, .any, "", true⟩

/-- R654, object 7C:0000.08. -/
def err_recent : Obj :=
  ⟨"err_recent", 0x7C000008, 256, 1, 1, .blob, .ro, false, .obs, .none, .const 0, .any, "", true⟩

/-- R654, object 7C:0000.09. -/
def err_last_failed : Obj :=
  ⟨"err_last_failed", 0x7C000009, 256, 1, 1, .blob, .ro, false, .obs, .none, .const 0, .any, "", true⟩

/-- R654, object 7C:0000.0A. -/
def err_alarm_severity : Obj :=
  ⟨"err_alarm_severity", 0x7C00000A, 256, 1, 1, .enum8, .rw, true, .ins, .liveSample, .const 2, .enum [(1, "WARN"), (2, "DEGRADED"), (3, "FAILED")], "", true⟩

/-- R654, object 7C:0000.0B. -/
def err_alarm_pending : Obj :=
  ⟨"err_alarm_pending", 0x7C00000B, 256, 1, 1, .u16, .ro, false, .obs, .none, .const 0, .any, "", true⟩

/-- R654, object 7C:0000.0C. -/
def err_alarm_ack : Obj :=
  ⟨"err_alarm_ack", 0x7C00000C, 256, 1, 1, .bool, .wo, false, .opr, .liveSample, .const 0, .ivals [(1, 1)], "", false⟩

/-- R654, object 7C:0000.0D. -/
def err_fault_clear : Obj :=
  ⟨"err_fault_clear", 0x7C00000D, 256, 1, 1, .bool, .wo, false, .ins, .liveSample, .const 0, .ivals [(1, 1)], "", false⟩

/-- R654, object 7C:0000.0E. -/
def nalarm_state : Obj :=
  ⟨"nalarm_state", 0x7C00000E, 256, 1, 1, .bool, .ro, false, .obs, .none, .const 0, .any, "", true⟩

/-- R654, object 7C:0000.0F. -/
def nfault_state : Obj :=
  ⟨"nfault_state", 0x7C00000F, 256, 1, 1, .bool, .ro, false, .obs, .none, .const 0, .any, "", false⟩

/-- The objects of this file, for the search by address. -/
def objsMonitor : List Obj :=
  [hist_source, hist_select, hist_scale, hist_lo, hist_hi, hist_period, hist_snap, hist_snapshot, hist_live_count, hist_live_min, hist_live_max, hist_state, err_sequence, err_queue_depth, err_queue_max, err_overflow, err_count_info, err_count_warn, err_count_degraded, err_count_failed] ++
  [err_recent, err_last_failed, err_alarm_severity, err_alarm_pending, err_alarm_ack, err_fault_clear, nalarm_state, nfault_state]

end Sys2Proof.Machine.D
end

