-- ==== Sys2Proof/Machine/DictPorts.lean ====
section
/-! DEFINITION. The dictionary objects of chapter 12: one definition per row of its
object tables, in the order of the rows. The rule in each docstring is the rule whose
table lists the object. -/

namespace Sys2Proof.Machine.D

/-- R492, object AA:0000.00. -/
def port_personality : Obj :=
  ⟨"port_personality", 0x22000000, 0x1000000, 7, 1, .enum8, .rw, true, .ins, .stopped, .idx [0, 0, 0, 0, 0, 0, 1], .enumAt [(0, "FABRIC"), (1, "EDGE"), (2, "BOTH")] 6 [1], "", true⟩

/-- R492, object AA:0000.01. -/
def port_speed : Obj :=
  ⟨"port_speed", 0x22000001, 0x1000000, 7, 1, .enum8, .rw, true, .ins, .stopped, .idx [0, 0, 0, 0, 0, 0, 1], .enumAt [(0, "TEN_G_R"), (1, "G_X"), (2, "SGMII")] 6 [1, 2], "", true⟩

/-- R492, object AA:0000.02. -/
def port_tx_swing : Obj :=
  ⟨"port_tx_swing", 0x22000002, 0x1000000, 7, 1, .u16, .rw, true, .ins, .stopped, .const 750, .ivals [(600, 900)], "mV", true⟩

/-- R492, object AA:0000.03. -/
def port_pause : Obj :=
  ⟨"port_pause", 0x22000003, 0x1000000, 7, 1, .enum8, .rw, true, .ins, .stopped, .idx [0, 0, 0, 0, 0, 0, 1], .enum [(0, "IGNORE"), (1, "HONOUR")], "", true⟩

/-- R492, object AA:0000.04. -/
def port_ipv4 : Obj :=
  ⟨"port_ipv4", 0x22000004, 0x1000000, 7, 1, .u32, .rw, true, .ins, .liveSample, .const 0, .any, "", true⟩

/-- R492, object AA:0000.05. -/
def port_ipv4_mask : Obj :=
  ⟨"port_ipv4_mask", 0x22000005, 0x1000000, 7, 1, .u8, .rw, true, .ins, .liveSample, .const 24, .ivals [(8, 30)], "", true⟩

/-- R492, object AA:0000.06. -/
def port_default : Obj :=
  ⟨"port_default", 0x22000006, 0x1000000, 7, 1, .enum8, .rw, true, .ins, .liveSample, .const 0, .enum [(0, "DROP"), (1, "RING")], "", true⟩

/-- R492, object AA:0000.07. -/
def port_default_ring : Obj :=
  ⟨"port_default_ring", 0x22000007, 0x1000000, 7, 1, .u8, .rw, true, .ins, .liveSample, .const 8, .ivals [(8, 31)], "", true⟩

/-- R492, object AA:0000.08. -/
def port_mac : Obj :=
  ⟨"port_mac", 0x22000008, 0x1000000, 7, 1, .u64, .ro, false, .obs, .none, .const 0, .any, "", false⟩

/-- R492, object AA:0000.09. -/
def port_link : Obj :=
  ⟨"port_link", 0x22000009, 0x1000000, 7, 1, .enum8, .ro, false, .obs, .none, .const 0, .enum [(0, "DOWN"), (1, "UP"), (2, "SPEED_MISMATCH")], "", false⟩

/-- R492, object AA:0000.0A. -/
def rx_frames : Obj :=
  ⟨"rx_frames", 0x2200000A, 0x1000000, 7, 1, .u64, .ro, false, .obs, .none, .const 0, .any, "", true⟩

/-- R492, object AA:0000.0B. -/
def tx_frames : Obj :=
  ⟨"tx_frames", 0x2200000B, 0x1000000, 7, 1, .u64, .ro, false, .obs, .none, .const 0, .any, "", true⟩

/-- R492, object AA:0000.0C. -/
def rx_fcs_errors : Obj :=
  ⟨"rx_fcs_errors", 0x2200000C, 0x1000000, 7, 1, .u32, .ro, false, .obs, .none, .const 0, .any, "", true⟩

/-- R492, object AA:0000.0D. -/
def rx_oversize : Obj :=
  ⟨"rx_oversize", 0x2200000D, 0x1000000, 7, 1, .u32, .ro, false, .obs, .none, .const 0, .any, "", true⟩

/-- R492, object AA:0000.0E. -/
def rx_unclaimed : Obj :=
  ⟨"rx_unclaimed", 0x2200000E, 0x1000000, 7, 1, .u32, .ro, false, .obs, .none, .const 0, .any, "", true⟩

/-- R492, object AA:0000.0F. -/
def rx_personality_drops : Obj :=
  ⟨"rx_personality_drops", 0x2200000F, 0x1000000, 7, 1, .u32, .ro, false, .obs, .none, .const 0, .any, "", true⟩

/-- R492, object AA:0000.10. -/
def pause_rx : Obj :=
  ⟨"pause_rx", 0x22000010, 0x1000000, 7, 1, .u32, .ro, false, .obs, .none, .const 0, .any, "", true⟩

/-- R492, object AA:0000.11. -/
def pause_time_total : Obj :=
  ⟨"pause_time_total", 0x22000011, 0x1000000, 7, 1, .u64, .ro, false, .obs, .none, .const 0, .any, "ns", true⟩

/-- R492, object AA:0000.12. -/
def rx_mac_control : Obj :=
  ⟨"rx_mac_control", 0x22000012, 0x1000000, 7, 1, .u32, .ro, false, .obs, .none, .const 0, .any, "", true⟩

/-- R492, object AA:0000.20. -/
def wake_enable : Obj :=
  ⟨"wake_enable", 0x22000020, 256, 1, 1, .bool, .rw, true, .ins, .liveSample, .const 0, .any, "", true⟩

/-- R492, object AA:0000.20. -/
def wake_enable_mgt : Obj :=
  ⟨"wake_enable", 0x28000020, 256, 1, 1, .bool, .rw, true, .ins, .liveSample, .const 0, .any, "", true⟩

/-- R492, object AA:0000.21. -/
def wake_magic : Obj :=
  ⟨"wake_magic", 0x22000021, 256, 1, 1, .bool, .rw, true, .ins, .liveSample, .const 1, .any, "", true⟩

/-- R492, object AA:0000.21. -/
def wake_magic_mgt : Obj :=
  ⟨"wake_magic", 0x28000021, 256, 1, 1, .bool, .rw, true, .ins, .liveSample, .const 1, .any, "", true⟩

/-- R492, object AA:0000.22. -/
def wake_state : Obj :=
  ⟨"wake_state", 0x22000022, 256, 1, 1, .enum8, .ro, false, .obs, .none, .const 0, .enum [(0, "OFF"), (1, "ARMED"), (2, "UNAVAILABLE")], "", true⟩

/-- R492, object AA:0000.22. -/
def wake_state_mgt : Obj :=
  ⟨"wake_state", 0x28000022, 256, 1, 1, .enum8, .ro, false, .obs, .none, .const 0, .enum [(0, "OFF"), (1, "ARMED"), (2, "UNAVAILABLE")], "", true⟩

/-- R492, object AA:0000.23. -/
def wake_cause : Obj :=
  ⟨"wake_cause", 0x22000023, 256, 1, 1, .enum8, .ro, false, .obs, .none, .const 0, .enum [(0, "NONE"), (1, "MAGIC"), (2, "PATTERN0"), (3, "PATTERN1"), (4, "PATTERN2"), (5, "PATTERN3")], "", true⟩

/-- R492, object AA:0000.23. -/
def wake_cause_mgt : Obj :=
  ⟨"wake_cause", 0x28000023, 256, 1, 1, .enum8, .ro, false, .obs, .none, .const 0, .enum [(0, "NONE"), (1, "MAGIC"), (2, "PATTERN0"), (3, "PATTERN1"), (4, "PATTERN2"), (5, "PATTERN3")], "", true⟩

/-- R492, object AA:0010.00 … AA:0013.00. -/
def wake_pat : Obj :=
  ⟨"wake_pat", 0x22001000, 256, 4, 1, .blob, .rw, true, .ins, .liveSample, .const 0x4000000000, .blob 64 64 1, "", true⟩

/-- R492, object AA:0010.00 … AA:0013.00. -/
def wake_pat_mgt : Obj :=
  ⟨"wake_pat", 0x28001000, 256, 4, 1, .blob, .rw, true, .ins, .liveSample, .const 0x4000000000, .blob 64 64 1, "", true⟩

/-- R492, object AA:0010.01 … AA:0013.01. -/
def wake_pat_mask : Obj :=
  ⟨"wake_pat_mask", 0x22001001, 256, 4, 1, .u64, .rw, true, .ins, .liveSample, .const 0, .any, "", true⟩

/-- R492, object AA:0010.01 … AA:0013.01. -/
def wake_pat_mask_mgt : Obj :=
  ⟨"wake_pat_mask", 0x28001001, 256, 4, 1, .u64, .rw, true, .ins, .liveSample, .const 0, .any, "", true⟩

/-- R492, object AA:0010.02 … AA:0013.02. -/
def wake_pat_enable : Obj :=
  ⟨"wake_pat_enable", 0x22001002, 256, 4, 1, .bool, .rw, true, .ins, .liveSample, .const 0, .any, "", true⟩

/-- R492, object AA:0010.02 … AA:0013.02. -/
def wake_pat_enable_mgt : Obj :=
  ⟨"wake_pat_enable", 0x28001002, 256, 4, 1, .bool, .rw, true, .ins, .liveSample, .const 0, .any, "", true⟩

/-- R493, object 29:0000.00 … 29:003F.00. -/
def ring_base : Obj :=
  ⟨"ring_base", 0x29000000, 256, 64, 1, .u64, .rw, true, .ins, .stopped, .const 0, .mult 64, "", true⟩

/-- R493, object 29:0000.01 … 29:003F.01. -/
def ring_size : Obj :=
  ⟨"ring_size", 0x29000001, 256, 64, 1, .u16, .rw, true, .ins, .stopped, .const 0, .pow2 16 4096, "", true⟩

/-- R493, object 29:0000.02 … 29:003F.02. -/
def ring_port : Obj :=
  ⟨"ring_port", 0x29000002, 256, 64, 1, .enum8, .rw, true, .ins, .stopped, .const 0, .enum [(0, "FAB0"), (1, "FAB1"), (2, "FAB2"), (3, "FAB3"), (4, "FAB4"), (5, "FAB5"), (6, "MGT")], "", true⟩

/-- R493, object 29:0000.03 … 29:003F.03. -/
def ring_timebase : Obj :=
  ⟨"ring_timebase", 0x29000003, 256, 64, 1, .enum8, .rw, true, .ins, .stopped, .const 1, .enum [(0, "LOCAL"), (1, "DOMAIN_A"), (2, "DOMAIN_B")], "", true⟩

/-- R493, object 29:0000.04 … 29:003F.04. -/
def ring_priority : Obj :=
  ⟨"ring_priority", 0x29000004, 256, 64, 1, .u8, .rw, true, .ins, .stopped, .const 0, .ivals [(0, 7)], "", true⟩

/-- R493, object 29:0000.05 … 29:003F.05. -/
def ring_tail : Obj :=
  ⟨"ring_tail", 0x29000005, 256, 64, 1, .u16, .rw, false, .opr, .liveSample, .const 0, .ivals [(0, 4095)], "", true⟩

/-- R493, object 29:0000.06 … 29:003F.06. -/
def ring_head : Obj :=
  ⟨"ring_head", 0x29000006, 256, 64, 1, .u16, .ro, false, .obs, .none, .const 0, .any, "", true⟩

/-- R493, object 29:0000.07 … 29:003F.07. -/
def ring_done : Obj :=
  ⟨"ring_done", 0x29000007, 256, 64, 1, .u32, .ro, false, .obs, .none, .const 0, .any, "", true⟩

/-- R493, object 29:0000.08 … 29:003F.08. -/
def ring_nobuf : Obj :=
  ⟨"ring_nobuf", 0x29000008, 256, 64, 1, .u32, .ro, false, .obs, .none, .const 0, .any, "", true⟩

/-- R493, object 29:0000.09 … 29:003F.09. -/
def ring_discards : Obj :=
  ⟨"ring_discards", 0x29000009, 256, 64, 1, .u32, .ro, false, .obs, .none, .const 0, .any, "frames", true⟩

/-- R494, object 29:0100.00 … 29:013F.00. -/
def filt_enable : Obj :=
  ⟨"filt_enable", 0x29010000, 256, 64, 1, .bool, .rw, true, .ins, .liveSample, .const 0, .any, "", true⟩

/-- R494, object 29:0100.01 … 29:013F.01. -/
def filt_ports : Obj :=
  ⟨"filt_ports", 0x29010001, 256, 64, 1, .bits32, .rw, true, .ins, .liveSample, .const 127, .mask 0x7F, "", true⟩

/-- R494, object 29:0100.02 … 29:013F.02. -/
def filt_vlan : Obj :=
  ⟨"filt_vlan", 0x29010002, 256, 64, 1, .enum8, .rw, true, .ins, .liveSample, .const 0, .enum [(0, "ANY"), (1, "UNTAGGED"), (2, "TAGGED"), (3, "VID")], "", true⟩

/-- R494, object 29:0100.03 … 29:013F.03. -/
def filt_vid : Obj :=
  ⟨"filt_vid", 0x29010003, 256, 64, 1, .u16, .rw, true, .ins, .liveSample, .const 0, .ivals [(0, 4094)], "", true⟩

/-- R494, object 29:0100.04 … 29:013F.04. -/
def filt_ethertype : Obj :=
  ⟨"filt_ethertype", 0x29010004, 256, 64, 1, .u16, .rw, true, .ins, .liveSample, .const 0, .ivals [(0, 0), (0x600, 0xFFFF)], "", true⟩

/-- R494, object 29:0100.05 … 29:013F.05. -/
def filt_action : Obj :=
  ⟨"filt_action", 0x29010005, 256, 64, 1, .enum8, .rw, true, .ins, .liveSample, .const 0, .enum [(0, "DROP"), (1, "RING"), (2, "STREAM"), (3, "MODULE")], "", true⟩

/-- R494, object 29:0100.06 … 29:013F.06. -/
def filt_ring : Obj :=
  ⟨"filt_ring", 0x29010006, 256, 64, 1, .u8, .rw, true, .ins, .liveSample, .const 8, .ivals [(8, 31)], "", true⟩

/-- R494, object 29:0100.07 … 29:013F.07. -/
def filt_hits : Obj :=
  ⟨"filt_hits", 0x29010007, 256, 64, 1, .u32, .ro, false, .obs, .none, .const 0, .any, "", true⟩

/-- R495, object 2A:0000.00 … 2A:01FF.00. -/
def is_kind : Obj :=
  ⟨"is_kind", 0x2A000000, 256, 512, 1, .enum8, .rs, true, .ins, .staged, .const 0, .enum [(0, "OFF"), (1, "AES67"), (2, "FABRIC")], "", true⟩

/-- R495, object 2A:0000.01 … 2A:01FF.01. -/
def is_ports : Obj :=
  ⟨"is_ports", 0x2A000001, 256, 512, 1, .bits32, .rs, true, .ins, .staged, .const 127, .mask 0x7F, "", true⟩

/-- R495, object 2A:0000.02 … 2A:01FF.02. -/
def is_addr : Obj :=
  ⟨"is_addr", 0x2A000002, 256, 512, 1, .u32, .rs, true, .ins, .staged, .const 0, .any, "", true⟩

/-- R495, object 2A:0000.03 … 2A:01FF.03. -/
def is_udp_port : Obj :=
  ⟨"is_udp_port", 0x2A000003, 256, 512, 1, .u16, .rs, true, .ins, .staged, .const 5004, .ivals [(1024, 65535)], "", true⟩

/-- R495, object 2A:0000.04 … 2A:01FF.04. -/
def is_fab_stream : Obj :=
  ⟨"is_fab_stream", 0x2A000004, 256, 512, 1, .u32, .rs, true, .ins, .staged, .const 0, .any, "", true⟩

/-- R495, object 2A:0000.05 … 2A:01FF.05. -/
def is_encoding : Obj :=
  ⟨"is_encoding", 0x2A000005, 256, 512, 1, .enum8, .rs, true, .ins, .staged, .const 1, .enum [(0, "L16"), (1, "L24")], "", true⟩

/-- R495, object 2A:0000.06 … 2A:01FF.06. -/
def is_ptime : Obj :=
  ⟨"is_ptime", 0x2A000006, 256, 512, 1, .enum8, .rs, true, .ins, .staged, .const 2, .enum [(0, "P125"), (1, "P250"), (2, "P1000")], "", true⟩

/-- R495, object 2A:0000.07 … 2A:01FF.07. -/
def is_channels : Obj :=
  ⟨"is_channels", 0x2A000007, 256, 512, 1, .u8, .rs, true, .ins, .staged, .const 2, .ivals [(1, 64)], "", true⟩

/-- R495, object 2A:0000.08 … 2A:01FF.08. -/
def is_first_ch : Obj :=
  ⟨"is_first_ch", 0x2A000008, 256, 512, 1, .u16, .rs, true, .ins, .staged, .const 0, .ivals [(0, 4095)], "", true⟩

/-- R495, object 2A:0000.09 … 2A:01FF.09. -/
def is_payload_type : Obj :=
  ⟨"is_payload_type", 0x2A000009, 256, 512, 1, .u8, .rs, true, .ins, .staged, .const 96, .ivals [(96, 127)], "", true⟩

/-- R495, object 2A:0000.0A … 2A:01FF.0A. -/
def is_rtp_offset : Obj :=
  ⟨"is_rtp_offset", 0x2A00000A, 256, 512, 1, .u32, .rs, true, .ins, .staged, .const 0, .any, "samples", true⟩

/-- R495, object 2A:0000.0B … 2A:01FF.0B. -/
def is_conceal : Obj :=
  ⟨"is_conceal", 0x2A00000B, 256, 512, 1, .enum8, .rs, true, .ins, .staged, .const 0, .enum [(0, "ZERO"), (1, "HOLD")], "", true⟩

/-- R495, object 2A:0000.0C … 2A:01FF.0C. -/
def is_packets : Obj :=
  ⟨"is_packets", 0x2A00000C, 256, 512, 1, .u64, .ro, false, .obs, .none, .const 0, .any, "", true⟩

/-- R495, object 2A:0000.0D … 2A:01FF.0D. -/
def is_missing : Obj :=
  ⟨"is_missing", 0x2A00000D, 256, 512, 1, .u32, .ro, false, .obs, .none, .const 0, .any, "", true⟩

/-- R495, object 2A:0000.0E … 2A:01FF.0E. -/
def is_late : Obj :=
  ⟨"is_late", 0x2A00000E, 256, 512, 1, .u32, .ro, false, .obs, .none, .const 0, .any, "", true⟩

/-- R495, object 2A:0000.0F … 2A:01FF.0F. -/
def is_early : Obj :=
  ⟨"is_early", 0x2A00000F, 256, 512, 1, .u32, .ro, false, .obs, .none, .const 0, .any, "", true⟩

/-- R495, object 2A:0000.10 … 2A:01FF.10. -/
def is_ssrc : Obj :=
  ⟨"is_ssrc", 0x2A000010, 256, 512, 1, .u32, .ro, false, .obs, .none, .const 0, .any, "", false⟩

/-- R495, object 2A:0000.11 … 2A:01FF.11. -/
def is_status : Obj :=
  ⟨"is_status", 0x2A000011, 256, 512, 1, .u16, .ro, false, .obs, .none, .const 0, .any, "", false⟩

/-- R496, object 2A:1000.00 … 2A:11FF.00. -/
def es_kind : Obj :=
  ⟨"es_kind", 0x2A100000, 256, 512, 1, .enum8, .rs, true, .ins, .staged, .const 0, .enum [(0, "OFF"), (1, "AES67"), (2, "FABRIC")], "", true⟩

/-- R496, object 2A:1000.01 … 2A:11FF.01. -/
def es_port : Obj :=
  ⟨"es_port", 0x2A100001, 256, 512, 1, .enum8, .rs, true, .ins, .staged, .const 6, .enum [(0, "FAB0"), (1, "FAB1"), (2, "FAB2"), (3, "FAB3"), (4, "FAB4"), (5, "FAB5"), (6, "MGT")], "", true⟩

/-- R496, object 2A:1000.02 … 2A:11FF.02. -/
def es_addr : Obj :=
  ⟨"es_addr", 0x2A100002, 256, 512, 1, .u32, .rs, true, .ins, .staged, .const 0, .any, "", true⟩

/-- R496, object 2A:1000.03 … 2A:11FF.03. -/
def es_udp_port : Obj :=
  ⟨"es_udp_port", 0x2A100003, 256, 512, 1, .u16, .rs, true, .ins, .staged, .const 5004, .ivals [(1024, 65535)], "", true⟩

/-- R496, object 2A:1000.04 … 2A:11FF.04. -/
def es_fab_stream : Obj :=
  ⟨"es_fab_stream", 0x2A100004, 256, 512, 1, .u32, .rs, true, .ins, .staged, .const 0, .any, "", true⟩

/-- R496, object 2A:1000.05 … 2A:11FF.05. -/
def es_encoding : Obj :=
  ⟨"es_encoding", 0x2A100005, 256, 512, 1, .enum8, .rs, true, .ins, .staged, .const 1, .enum [(0, "L16"), (1, "L24")], "", true⟩

/-- R496, object 2A:1000.06 … 2A:11FF.06. -/
def es_ptime : Obj :=
  ⟨"es_ptime", 0x2A100006, 256, 512, 1, .enum8, .rs, true, .ins, .staged, .const 2, .enum [(0, "P125"), (1, "P250"), (2, "P1000")], "", true⟩

/-- R496, object 2A:1000.07 … 2A:11FF.07. -/
def es_channels : Obj :=
  ⟨"es_channels", 0x2A100007, 256, 512, 1, .u8, .rs, true, .ins, .staged, .const 2, .ivals [(1, 64)], "", true⟩

/-- R496, object 2A:1000.08 … 2A:11FF.08. -/
def es_first_ch : Obj :=
  ⟨"es_first_ch", 0x2A100008, 256, 512, 1, .u16, .rs, true, .ins, .staged, .const 0, .ivals [(0, 4095)], "", true⟩

/-- R496, object 2A:1000.09 … 2A:11FF.09. -/
def es_payload_type : Obj :=
  ⟨"es_payload_type", 0x2A100009, 256, 512, 1, .u8, .rs, true, .ins, .staged, .const 96, .ivals [(96, 127)], "", true⟩

/-- R496, object 2A:1000.0A … 2A:11FF.0A. -/
def es_rtp_offset : Obj :=
  ⟨"es_rtp_offset", 0x2A10000A, 256, 512, 1, .u32, .rs, true, .ins, .staged, .const 0, .any, "samples", true⟩

/-- R496, object 2A:1000.0B … 2A:11FF.0B. -/
def es_ssrc : Obj :=
  ⟨"es_ssrc", 0x2A10000B, 256, 512, 1, .u32, .rs, true, .ins, .staged, .const 0, .any, "", true⟩

/-- R496, object 2A:1000.0C … 2A:11FF.0C. -/
def es_dscp : Obj :=
  ⟨"es_dscp", 0x2A10000C, 256, 512, 1, .u8, .rs, true, .ins, .staged, .const 34, .ivals [(0, 63)], "", true⟩

/-- R496, object 2A:1000.0D … 2A:11FF.0D. -/
def es_ttl : Obj :=
  ⟨"es_ttl", 0x2A10000D, 256, 512, 1, .u8, .rs, true, .ins, .staged, .const 16, .ivals [(1, 255)], "", true⟩

/-- R496, object 2A:1000.0E … 2A:11FF.0E. -/
def es_vid : Obj :=
  ⟨"es_vid", 0x2A10000E, 256, 512, 1, .u16, .rs, true, .ins, .staged, .const 65535, .ivals [(0, 4094), (0xFFFF, 0xFFFF)], "", true⟩

/-- R496, object 2A:1000.0F … 2A:11FF.0F. -/
def es_pcp : Obj :=
  ⟨"es_pcp", 0x2A10000F, 256, 512, 1, .u8, .rs, true, .ins, .staged, .const 5, .ivals [(0, 7)], "", true⟩

/-- R496, object 2A:1000.10 … 2A:11FF.10. -/
def es_launch_offset : Obj :=
  ⟨"es_launch_offset", 0x2A100010, 256, 512, 1, .u32, .rs, true, .ins, .staged, .const 0, .ivals [(0, 1000000)], "ns", true⟩

/-- R496, object 2A:1000.11 … 2A:11FF.11. -/
def es_packets : Obj :=
  ⟨"es_packets", 0x2A100011, 256, 512, 1, .u64, .ro, false, .obs, .none, .const 0, .any, "", true⟩

/-- R496, object 2A:1000.12 … 2A:11FF.12. -/
def es_late : Obj :=
  ⟨"es_late", 0x2A100012, 256, 512, 1, .u32, .ro, false, .obs, .none, .const 0, .any, "", true⟩

/-- R496, object 2A:1000.13 … 2A:11FF.13. -/
def es_unresolved : Obj :=
  ⟨"es_unresolved", 0x2A100013, 256, 512, 1, .u32, .ro, false, .obs, .none, .const 0, .any, "", true⟩

/-- The objects of this file, for the search by address. -/
def objsPorts : List Obj :=
  [port_personality, port_speed, port_tx_swing, port_pause, port_ipv4, port_ipv4_mask, port_default, port_default_ring, port_mac, port_link, rx_frames, tx_frames, rx_fcs_errors, rx_oversize, rx_unclaimed, rx_personality_drops, pause_rx, pause_time_total, rx_mac_control, wake_enable] ++
  [wake_enable_mgt, wake_magic, wake_magic_mgt, wake_state, wake_state_mgt, wake_cause, wake_cause_mgt, wake_pat, wake_pat_mgt, wake_pat_mask, wake_pat_mask_mgt, wake_pat_enable, wake_pat_enable_mgt, ring_base, ring_size, ring_port, ring_timebase, ring_priority, ring_tail, ring_head] ++
  [ring_done, ring_nobuf, ring_discards, filt_enable, filt_ports, filt_vlan, filt_vid, filt_ethertype, filt_action, filt_ring, filt_hits, is_kind, is_ports, is_addr, is_udp_port, is_fab_stream, is_encoding, is_ptime, is_channels, is_first_ch] ++
  [is_payload_type, is_rtp_offset, is_conceal, is_packets, is_missing, is_late, is_early, is_ssrc, is_status, es_kind, es_port, es_addr, es_udp_port, es_fab_stream, es_encoding, es_ptime, es_channels, es_first_ch, es_payload_type, es_rtp_offset] ++
  [es_ssrc, es_dscp, es_ttl, es_vid, es_pcp, es_launch_offset, es_packets, es_late, es_unresolved]

end Sys2Proof.Machine.D
end

