-- ==== Sys2Proof/Machine/DictProof.lean ====
section
/-! DEFINITION. The dictionary objects of chapter 10: one definition per row of its
object tables, in the order of the rows. The rule in each docstring is the rule whose
table lists the object. -/

namespace Sys2Proof.Machine.D

/-- R432, object 60:0000.00 … 60:03FF.00. -/
def pf_enable : Obj :=
  ⟨"pf_enable", 0x60000000, 256, 1024, 1, .bool, .rs, true, .ins, .staged, .const 1, .any, "", true⟩

/-- R432, object 60:0000.01 … 60:03FF.01. -/
def pf_code : Obj :=
  ⟨"pf_code", 0x60000001, 256, 1024, 1, .u8, .rs, true, .ins, .staged, .modIdx 255, .ivals [(0, 254)], "", true⟩

/-- R432, object 60:0000.02 … 60:03FF.02. -/
def pf_probe : Obj :=
  ⟨"pf_probe", 0x60000002, 256, 1024, 1, .u8, .rs, true, .ins, .staged, .const 255, .ivals [(0, 31), (0xFF, 0xFF)], "", true⟩

/-- R432, object 60:0000.03 … 60:03FF.03. -/
def pf_lag : Obj :=
  ⟨"pf_lag", 0x60000003, 256, 1024, 1, .u16, .rs, true, .ins, .staged, .const 0, .ivals [(0, 16383)], "samples", true⟩

/-- R432, object 60:0000.04 … 60:03FF.04. -/
def pf_amb_floor : Obj :=
  ⟨"pf_amb_floor", 0x60000004, 256, 1024, 1, .g16, .rs, true, .ins, .staged, .const 61696, .ivals [(-7680, 0)], "dBFS", true⟩

/-- R432, object 60:0000.05 … 60:03FF.05. -/
def pf_tracker : Obj :=
  ⟨"pf_tracker", 0x60000005, 256, 1024, 1, .u8, .rs, true, .ins, .staged, .const 255, .ivals [(0, 0xFE), (0xFF, 0xFF)], "", true⟩

/-- R432, object 60:0000.06 … 60:03FF.06. -/
def pf_ref : Obj :=
  ⟨"pf_ref", 0x60000006, 256, 1024, 1, .blob, .rw, true, .ins, .live, .const 0, .blob 0 16384 4, "", true⟩

/-- R432, object 60:0000.07 … 60:03FF.07. -/
def pf_ref_capture : Obj :=
  ⟨"pf_ref_capture", 0x60000007, 256, 1024, 1, .bool, .wo, false, .ins, .liveSample, .const 0, .ivals [(1, 1)], "", false⟩

/-- R432, object 60:0000.08 … 60:03FF.08. -/
def pf_ref_state : Obj :=
  ⟨"pf_ref_state", 0x60000008, 256, 1024, 1, .enum8, .ro, false, .obs, .none, .const 0, .enum [(0, "NONE"), (1, "PENDING"), (2, "VALID"), (3, "FAILED")], "", true⟩

/-- R432, object 60:0000.09 … 60:03FF.09. -/
def pf_verdict : Obj :=
  ⟨"pf_verdict", 0x60000009, 256, 1024, 1, .enum8, .ro, false, .obs, .none, .const 0, .enum [(0, "NONE"), (1, "PASS"), (2, "INCONCLUSIVE"), (3, "DEAD"), (4, "MISROUTE"), (5, "POLARITY"), (6, "DELAY"), (7, "LEVEL"), (8, "HF_LOSS")], "", true⟩

/-- R432, object 60:0000.0A … 60:03FF.0A. -/
def pf_delta_level : Obj :=
  ⟨"pf_delta_level", 0x6000000A, 256, 1024, 1, .f32, .ro, false, .obs, .none, .const 0, .any, "dB", false⟩

/-- R432, object 60:0000.0B … 60:03FF.0B. -/
def pf_quality : Obj :=
  ⟨"pf_quality", 0x6000000B, 256, 1024, 1, .f32, .ro, false, .obs, .none, .const 0, .any, "dB", false⟩

/-- R432, object 60:0000.0C … 60:03FF.0C. -/
def pf_rho : Obj :=
  ⟨"pf_rho", 0x6000000C, 256, 1024, 1, .f32, .ro, false, .obs, .none, .const 0, .any, "", false⟩

/-- R432, object 60:0000.0D … 60:03FF.0D. -/
def pf_shift : Obj :=
  ⟨"pf_shift", 0x6000000D, 256, 1024, 1, .i16, .ro, false, .obs, .none, .const 0, .any, "samples", false⟩

/-- R432, object 60:0000.0E … 60:03FF.0E. -/
def pf_hf_drop : Obj :=
  ⟨"pf_hf_drop", 0x6000000E, 256, 1024, 1, .f32, .ro, false, .obs, .none, .const 0, .any, "dB", false⟩

/-- R432, object 60:0000.0F … 60:03FF.0F. -/
def pf_strongest_code : Obj :=
  ⟨"pf_strongest_code", 0x6000000F, 256, 1024, 1, .u8, .ro, false, .obs, .none, .const 0, .any, "", false⟩

/-- R432, object 60:0000.10 … 60:03FF.10. -/
def pf_runs : Obj :=
  ⟨"pf_runs", 0x60000010, 256, 1024, 1, .u16, .ro, false, .obs, .none, .const 0, .any, "", true⟩

/-- R432, object 60:0000.11 … 60:03FF.11. -/
def pf_stipple_level : Obj :=
  ⟨"pf_stipple_level", 0x60000011, 256, 1024, 1, .g16, .ro, false, .obs, .none, .const 0, .any, "", false⟩

/-- R432, object 60:0000.12 … 60:03FF.12. -/
def pf_window_block : Obj :=
  ⟨"pf_window_block", 0x60000012, 256, 1024, 1, .u64, .ro, false, .obs, .none, .const 0, .any, "", false⟩

/-- R432, object 60:0000.13 … 60:03FF.13. -/
def pf_ir : Obj :=
  ⟨"pf_ir", 0x60000013, 256, 1024, 1, .blob, .ro, false, .obs, .none, .const 0, .any, "", true⟩

/-- R432, object 60:1000.00 … 60:101F.00. -/
def pr_kind : Obj :=
  ⟨"pr_kind", 0x60100000, 256, 32, 1, .enum8, .rs, true, .ins, .staged, .const 0, .enum [(0, "NONE"), (1, "MIC"), (2, "LINE")], "", true⟩

/-- R432, object 60:1000.01 … 60:101F.01. -/
def pr_ch : Obj :=
  ⟨"pr_ch", 0x60100001, 256, 32, 1, .u16, .rs, true, .ins, .staged, .const 0, .ivals [(0, 4095)], "", true⟩

/-- R432, object 60:1000.02 … 60:101F.02. -/
def pr_noise : Obj :=
  ⟨"pr_noise", 0x60100002, 256, 32, 1, .f32, .ro, false, .obs, .none, .const 0, .any, "dBFS", false⟩

/-- R432, object 60:FFF1.00. -/
def pf_mode : Obj :=
  ⟨"pf_mode", 0x60FFF100, 256, 1, 1, .enum8, .rs, true, .ins, .staged, .const 0, .enum [(0, "OFF"), (1, "NIGHT"), (2, "CONTINUOUS")], "", true⟩

/-- R432, object 60:FFF1.01. -/
def pf_margin_day : Obj :=
  ⟨"pf_margin_day", 0x60FFF101, 256, 1, 1, .g16, .rs, true, .ins, .staged, .const 1280, .ivals [(0, 3840)], "dB", true⟩

/-- R432, object 60:FFF1.02. -/
def pf_margin_night : Obj :=
  ⟨"pf_margin_night", 0x60FFF102, 256, 1, 1, .g16, .rs, true, .ins, .staged, .const 640, .ivals [(0, 3840)], "dB", true⟩

/-- R432, object 60:FFF1.03. -/
def pf_level_min : Obj :=
  ⟨"pf_level_min", 0x60FFF103, 256, 1, 1, .g16, .rs, true, .ins, .staged, .const 59136, .ivals [(-7680, -1280)], "dBFS", true⟩

/-- R432, object 60:FFF1.04. -/
def pf_level_max : Obj :=
  ⟨"pf_level_max", 0x60FFF104, 256, 1, 1, .g16, .rs, true, .ins, .staged, .const 62976, .ivals [(-7680, -1280)], "dBFS", true⟩

/-- R432, object 60:FFF1.05. -/
def pf_slew : Obj :=
  ⟨"pf_slew", 0x60FFF105, 256, 1, 1, .u16, .rs, true, .ins, .staged, .const 8, .ivals [(1, 640)], "", true⟩

/-- R432, object 60:FFF1.06. -/
def pf_ls_pause : Obj :=
  ⟨"pf_ls_pause", 0x60FFF106, 256, 1, 1, .bool, .rs, true, .own, .staged, .const 1, .any, "", true⟩

/-- R432, object 60:FFF1.07. -/
def pf_periods : Obj :=
  ⟨"pf_periods", 0x60FFF107, 256, 1, 1, .u8, .rs, true, .ins, .staged, .const 1, .ivals [(1, 16)], "", true⟩

/-- R432, object 60:FFF1.08. -/
def pf_ir_len : Obj :=
  ⟨"pf_ir_len", 0x60FFF108, 256, 1, 1, .enum8, .rs, true, .ins, .staged, .const 2, .enum [(0, "L512"), (1, "L1024"), (2, "L2048"), (3, "L4096")], "", true⟩

/-- R432, object 60:FFF1.09. -/
def pf_snr_min : Obj :=
  ⟨"pf_snr_min", 0x60FFF109, 256, 1, 1, .f32, .rs, true, .ins, .staged, .const 0x41A00000, .f32 0x40C00000 0x42700000 false, "dB", true⟩

/-- R432, object 60:FFF1.0A. -/
def pf_dead_db : Obj :=
  ⟨"pf_dead_db", 0x60FFF10A, 256, 1, 1, .f32, .rs, true, .ins, .staged, .const 0x41700000, .f32 0x40400000 0x42200000 false, "dB", true⟩

/-- R432, object 60:FFF1.0B. -/
def pf_level_tol : Obj :=
  ⟨"pf_level_tol", 0x60FFF10B, 256, 1, 1, .f32, .rs, true, .ins, .staged, .const 0x40C00000, .f32 0x3F000000 0x41A00000 false, "dB", true⟩

/-- R432, object 60:FFF1.0C. -/
def pf_hf_tol : Obj :=
  ⟨"pf_hf_tol", 0x60FFF10C, 256, 1, 1, .f32, .rs, true, .ins, .staged, .const 0x40C00000, .f32 0x3F000000 0x41A00000 false, "dB", true⟩

/-- R432, object 60:FFF1.0D. -/
def pf_rho_min : Obj :=
  ⟨"pf_rho_min", 0x60FFF10D, 256, 1, 1, .f32, .rs, true, .ins, .staged, .const 0x3F333333, .f32 0x3DCCCCCD 0x3F7D70A4 false, "", true⟩

/-- R432, object 60:FFF1.0E. -/
def pf_delay_tol : Obj :=
  ⟨"pf_delay_tol", 0x60FFF10E, 256, 1, 1, .u16, .rs, true, .ins, .staged, .const 24, .ivals [(1, 4800)], "samples", true⟩

/-- R432, object 60:FFF1.0F. -/
def pf_shift_max : Obj :=
  ⟨"pf_shift_max", 0x60FFF10F, 256, 1, 1, .u16, .rs, true, .ins, .staged, .const 480, .ivals [(1, 4800)], "samples", true⟩

/-- R432, object 60:FFF1.10. -/
def pf_fail_windows : Obj :=
  ⟨"pf_fail_windows", 0x60FFF110, 256, 1, 1, .u8, .rs, true, .ins, .staged, .const 3, .ivals [(1, 32)], "", true⟩

/-- R432, object 60:FFF1.11. -/
def pf_pass_windows : Obj :=
  ⟨"pf_pass_windows", 0x60FFF111, 256, 1, 1, .u8, .rs, true, .ins, .staged, .const 2, .ivals [(1, 32)], "", true⟩

/-- R432, object 60:FFF1.12. -/
def pf_window_open : Obj :=
  ⟨"pf_window_open", 0x60FFF112, 256, 1, 1, .u32, .wo, false, .opr, .staged, .const 0, .ivals [(0, 0), (1, 86400)], "s", false⟩

/-- R432, object 60:FFF1.13. -/
def pf_window_state : Obj :=
  ⟨"pf_window_state", 0x60FFF113, 256, 1, 1, .enum8, .ro, false, .obs, .none, .const 0, .enum [(0, "CLOSED"), (1, "OPEN")], "", true⟩

/-- R432, object 60:FFF1.14. -/
def pf_window_end : Obj :=
  ⟨"pf_window_end", 0x60FFF114, 256, 1, 1, .u64, .ro, false, .obs, .none, .const 0, .any, "", false⟩

/-- R432, object 60:FFF1.15. -/
def pf_windows_missed : Obj :=
  ⟨"pf_windows_missed", 0x60FFF115, 256, 1, 1, .u32, .ro, false, .obs, .none, .const 0, .any, "", true⟩

/-- R433, object 61:0000.00 … 61:000F.00. -/
def ls_enable : Obj :=
  ⟨"ls_enable", 0x61000000, 256, 16, 1, .bool, .rs, true, .ins, .staged, .const 0, .any, "", true⟩

/-- R433, object 61:0000.01 … 61:000F.01. -/
def ls_sense_ch : Obj :=
  ⟨"ls_sense_ch", 0x61000001, 256, 16, 1, .u16, .rs, true, .ins, .staged, .const 0, .ivals [(0, 4095)], "", true⟩

/-- R433, object 61:0000.02 … 61:000F.02. -/
def ls_output : Obj :=
  ⟨"ls_output", 0x61000002, 256, 16, 1, .u16, .rs, true, .ins, .staged, .const 0, .ivals [(0, 0x3FF)], "", true⟩

/-- R433, object 61:0000.03 … 61:000F.03. -/
def ls_i_low : Obj :=
  ⟨"ls_i_low", 0x61000003, 256, 16, 1, .u16, .rs, true, .ins, .staged, .const 1000, .ivals [(0, 24000)], "µA", true⟩

/-- R433, object 61:0000.04 … 61:000F.04. -/
def ls_i_high : Obj :=
  ⟨"ls_i_high", 0x61000004, 256, 16, 1, .u16, .rs, true, .ins, .staged, .const 3000, .ivals [(100, 24000)], "µA", true⟩

/-- R433, object 61:0000.05 … 61:000F.05. -/
def ls_scale : Obj :=
  ⟨"ls_scale", 0x61000005, 256, 16, 1, .f32, .rs, true, .ins, .staged, .const 0x41200000, .f32 0x3DCCCCCD 0x447A0000 false, "V", true⟩

/-- R433, object 61:0000.06 … 61:000F.06. -/
def ls_ref_ohm : Obj :=
  ⟨"ls_ref_ohm", 0x61000006, 256, 16, 1, .f32, .rs, true, .ins, .staged, .const 0x42C80000, .f32 0x3DCCCCCD 0x47C35000 false, "Ω", true⟩

/-- R433, object 61:0000.07 … 61:000F.07. -/
def ls_open_ratio : Obj :=
  ⟨"ls_open_ratio", 0x61000007, 256, 16, 1, .f32, .rs, true, .ins, .staged, .const 0x3FC00000, .f32 0x3F866666 0x41200000 false, "", true⟩

/-- R433, object 61:0000.08 … 61:000F.08. -/
def ls_short_ratio : Obj :=
  ⟨"ls_short_ratio", 0x61000008, 256, 16, 1, .f32, .rs, true, .ins, .staged, .const 0x3F000000, .f32 0x3C23D70A 0x3F733333 false, "", true⟩

/-- R433, object 61:0000.09 … 61:000F.09. -/
def ls_fail_count : Obj :=
  ⟨"ls_fail_count", 0x61000009, 256, 16, 1, .u8, .rs, true, .ins, .staged, .const 3, .ivals [(1, 30)], "", true⟩

/-- R433, object 61:0000.0A … 61:000F.0A. -/
def ls_learn : Obj :=
  ⟨"ls_learn", 0x6100000A, 256, 16, 1, .bool, .wo, false, .ins, .liveSample, .const 0, .ivals [(1, 1)], "", false⟩

/-- R433, object 61:0000.0B … 61:000F.0B. -/
def ls_z : Obj :=
  ⟨"ls_z", 0x6100000B, 256, 16, 1, .f32, .ro, false, .obs, .none, .const 0, .any, "Ω", false⟩

/-- R433, object 61:0000.0C … 61:000F.0C. -/
def ls_state : Obj :=
  ⟨"ls_state", 0x6100000C, 256, 16, 1, .enum8, .ro, false, .obs, .none, .const 0, .enum [(0, "OFF"), (1, "OK"), (2, "OPEN"), (3, "SHORT"), (4, "NO_VERDICT")], "", true⟩

/-- The objects of this file, for the search by address. -/
def objsProof : List Obj :=
  [pf_enable, pf_code, pf_probe, pf_lag, pf_amb_floor, pf_tracker, pf_ref, pf_ref_capture, pf_ref_state, pf_verdict, pf_delta_level, pf_quality, pf_rho, pf_shift, pf_hf_drop, pf_strongest_code, pf_runs, pf_stipple_level, pf_window_block, pf_ir] ++
  [pr_kind, pr_ch, pr_noise, pf_mode, pf_margin_day, pf_margin_night, pf_level_min, pf_level_max, pf_slew, pf_ls_pause, pf_periods, pf_ir_len, pf_snr_min, pf_dead_db, pf_level_tol, pf_hf_tol, pf_rho_min, pf_delay_tol, pf_shift_max, pf_fail_windows] ++
  [pf_pass_windows, pf_window_open, pf_window_state, pf_window_end, pf_windows_missed, ls_enable, ls_sense_ch, ls_output, ls_i_low, ls_i_high, ls_scale, ls_ref_ohm, ls_open_ratio, ls_short_ratio, ls_fail_count, ls_learn, ls_z, ls_state]

end Sys2Proof.Machine.D
end

