-- ==== Sys2Proof/Machine/DictScene.lean ====
section
/-! DEFINITION. The dictionary objects of chapter 05: one definition per row of its
object tables, in the order of the rows. The rule in each docstring is the rule whose
table lists the object. -/

namespace Sys2Proof.Machine.D

/-- R225, object 30:0000.00 … 30:03FF.00. -/
def obj_mode : Obj :=
  ⟨"obj_mode", 0x30000000, 256, 1024, 1, .enum8, .rs, true, .opr, .staged, .const 0, .enum [(0, "OFF"), (1, "POINT"), (2, "PAN"), (3, "SPREAD"), (4, "ZONE"), (5, "PLANE")], "", true⟩

/-- R225, object 30:0000.01 … 30:03FF.01. -/
def obj_source_kind : Obj :=
  ⟨"obj_source_kind", 0x30000001, 256, 1024, 1, .enum8, .rs, true, .opr, .staged, .const 0, .enum [(0, "NONE"), (1, "STREAM"), (2, "LOCAL"), (3, "CLIP"), (4, "GRAVER")], "", true⟩

/-- R225, object 30:0000.02 … 30:03FF.02. -/
def obj_source_ch : Obj :=
  ⟨"obj_source_ch", 0x30000002, 256, 1024, 1, .u16, .rs, true, .opr, .staged, .const 0, .ivals [(0, 4095)], "", true⟩

/-- R225, object 30:0000.03 … 30:03FF.03. -/
def obj_gain : Obj :=
  ⟨"obj_gain", 0x30000003, 256, 1024, 1, .g16, .rw, true, .opr, .live, .const 0, .ivals [(-32768, -32768), (-9216, 1536)], "dB", true⟩

/-- R225, object 30:0000.04 … 30:03FF.04. -/
def obj_pos : Obj :=
  ⟨"obj_pos", 0x30000004, 256, 1024, 1, .pos3, .rw, true, .opr, .live, .const 0, .pos3 (some 0x461C4000), "m", true⟩

/-- R225, object 30:0000.05 … 30:03FF.05. -/
def obj_delay : Obj :=
  ⟨"obj_delay", 0x30000005, 256, 1024, 1, .f32, .rw, true, .opr, .live, .const 0x0, .f32 0x0 0x3E2E147B false, "s", true⟩

/-- R225, object 30:0000.06 … 30:03FF.06. -/
def obj_ref_dist : Obj :=
  ⟨"obj_ref_dist", 0x30000006, 256, 1024, 1, .f32, .rw, true, .opr, .live, .const 0x3F800000, .f32 0x3DCCCCCD 0x447A0000 false, "m", true⟩

/-- R225, object 30:0000.07 … 30:03FF.07. -/
def obj_near : Obj :=
  ⟨"obj_near", 0x30000007, 256, 1024, 1, .f32, .rw, true, .opr, .live, .const 0x3F000000, .f32 0x3DCCCCCD 0x42C80000 false, "m", true⟩

/-- R225, object 30:0000.08 … 30:03FF.08. -/
def obj_rolloff : Obj :=
  ⟨"obj_rolloff", 0x30000008, 256, 1024, 1, .f32, .rw, true, .opr, .live, .const 0x3F800000, .f32 0x0 0x40000000 false, "", true⟩

/-- R225, object 30:0000.09 … 30:03FF.09. -/
def obj_air : Obj :=
  ⟨"obj_air", 0x30000009, 256, 1024, 1, .bool, .rw, true, .opr, .live, .const 1, .any, "", true⟩

/-- R225, object 30:0000.0A … 30:03FF.0A. -/
def obj_window : Obj :=
  ⟨"obj_window", 0x3000000A, 256, 1024, 1, .bool, .rw, true, .opr, .live, .const 0, .any, "", true⟩

/-- R225, object 30:0000.0B … 30:03FF.0B. -/
def obj_spread : Obj :=
  ⟨"obj_spread", 0x3000000B, 256, 1024, 1, .f32, .rw, true, .opr, .live, .const 0x0, .f32 0x0 0x43340000 false, "°", true⟩

/-- R225, object 30:0000.0C … 30:03FF.0C. -/
def obj_zone : Obj :=
  ⟨"obj_zone", 0x3000000C, 256, 1024, 1, .u8, .rw, true, .opr, .live, .const 0, .ivals [(0, 255)], "", true⟩

/-- R225, object 30:0000.0D … 30:03FF.0D. -/
def obj_outside : Obj :=
  ⟨"obj_outside", 0x3000000D, 256, 1024, 1, .enum8, .rw, true, .opr, .live, .const 0, .enum [(0, "MUTE"), (1, "EDGE")], "", true⟩

/-- R225, object 30:0000.0E … 30:03FF.0E. -/
def obj_rung : Obj :=
  ⟨"obj_rung", 0x3000000E, 256, 1024, 1, .u8, .rs, true, .opr, .staged, .const 5, .ivals [(1, 7)], "", true⟩

/-- R225, object 30:0000.0F … 30:03FF.0F. -/
def obj_keep_nearest : Obj :=
  ⟨"obj_keep_nearest", 0x3000000F, 256, 1024, 1, .u16, .rs, true, .opr, .staged, .const 8, .ivals [(1, 1024)], "", true⟩

/-- R225, object 30:0000.10 … 30:03FF.10. -/
def obj_local_only : Obj :=
  ⟨"obj_local_only", 0x30000010, 256, 1024, 1, .bool, .rs, true, .ins, .staged, .const 0, .any, "", true⟩

/-- R225, object 30:0000.11 … 30:03FF.11. -/
def obj_traj : Obj :=
  ⟨"obj_traj", 0x30000011, 256, 1024, 1, .u16, .rs, true, .opr, .staged, .const 65535, .ivals [(0, 0x3FF), (0xFFFF, 0xFFFF)], "", true⟩

/-- R225, object 30:0000.12 … 30:03FF.12. -/
def obj_pos_now : Obj :=
  ⟨"obj_pos_now", 0x30000012, 256, 1024, 1, .pos3, .ro, false, .obs, .none, .const 0, .any, "m", false⟩

/-- R225, object 30:0000.13 … 30:03FF.13. -/
def obj_status : Obj :=
  ⟨"obj_status", 0x30000013, 256, 1024, 1, .u16, .ro, false, .obs, .none, .const 0, .any, "", false⟩

/-- R248, object 31:0000.00 … 31:3FFF.00. -/
def kf_traj : Obj :=
  ⟨"kf_traj", 0x31000000, 256, 16384, 1, .u16, .rs, true, .opr, .staged, .const 65535, .ivals [(0, 0x3FF), (0xFFFF, 0xFFFF)], "", true⟩

/-- R248, object 31:0000.01 … 31:3FFF.01. -/
def kf_time : Obj :=
  ⟨"kf_time", 0x31000001, 256, 16384, 1, .st64, .rs, true, .opr, .staged, .const 0, .any, "ns", true⟩

/-- R248, object 31:0000.02 … 31:3FFF.02. -/
def kf_pos : Obj :=
  ⟨"kf_pos", 0x31000002, 256, 16384, 1, .pos3, .rs, true, .opr, .staged, .const 0, .pos3 (some 0x461C4000), "m", true⟩

/-- R248, object 31:0000.03 … 31:3FFF.03. -/
def kf_interp : Obj :=
  ⟨"kf_interp", 0x31000003, 256, 16384, 1, .enum8, .rs, true, .opr, .staged, .const 1, .enum [(0, "STEP"), (1, "LINEAR"), (2, "CUBIC")], "", true⟩

/-- R248, object 31:8000.00 … 31:83FF.00. -/
def traj_loop : Obj :=
  ⟨"traj_loop", 0x31800000, 256, 1024, 1, .enum8, .rs, true, .opr, .staged, .const 0, .enum [(0, "NONE"), (1, "LOOP")], "", true⟩

/-- R248, object 31:8000.01 … 31:83FF.01. -/
def traj_period : Obj :=
  ⟨"traj_period", 0x31800001, 256, 1024, 1, .u64, .rs, true, .opr, .staged, .const 0, .ivals [(0, 0), (1000000, 10000000000000000)], "ns", true⟩

/-- R248, object 31:8000.02 … 31:83FF.02. -/
def traj_join : Obj :=
  ⟨"traj_join", 0x31800002, 256, 1024, 1, .u16, .rs, true, .opr, .staged, .const 150, .ivals [(0, 30000)], "blocks", true⟩

/-- R248, object 31:8000.03 … 31:83FF.03. -/
def traj_kf_count : Obj :=
  ⟨"traj_kf_count", 0x31800003, 256, 1024, 1, .u16, .ro, false, .obs, .none, .const 0, .ivals [(0, 4096)], "", true⟩

/-- R248, object 31:8000.04 … 31:83FF.04. -/
def traj_state : Obj :=
  ⟨"traj_state", 0x31800004, 256, 1024, 1, .enum8, .ro, false, .obs, .none, .const 6, .enum [(0, "IDLE"), (1, "BEFORE"), (2, "MOVING"), (3, "AFTER"), (4, "FROZEN"), (5, "JOINING"), (6, "EMPTY")], "", true⟩

/-- R248, object 31:9000.00. -/
def kf_free : Obj :=
  ⟨"kf_free", 0x31900000, 256, 1, 1, .u16, .ro, false, .obs, .none, .const 16384, .any, "", true⟩

/-- R249, object 38:0000.00 … 38:03FF.00. -/
def lst_pos : Obj :=
  ⟨"lst_pos", 0x38000000, 256, 1024, 1, .pos3, .rs, true, .ins, .staged, .const 0, .pos3 (some 0x461C4000), "m", true⟩

/-- R249, object 38:0000.01 … 38:03FF.01. -/
def lst_aim_az : Obj :=
  ⟨"lst_aim_az", 0x38000001, 256, 1024, 1, .f32, .rs, true, .ins, .staged, .const 0x0, .f32 0xC3340000 0x43340000 true, "°", true⟩

/-- R249, object 38:0000.02 … 38:03FF.02. -/
def lst_aim_el : Obj :=
  ⟨"lst_aim_el", 0x38000002, 256, 1024, 1, .f32, .rs, true, .ins, .staged, .const 0x0, .f32 0xC2B40000 0x42B40000 false, "°", true⟩

/-- R249, object 38:0000.03 … 38:03FF.03. -/
def lst_type : Obj :=
  ⟨"lst_type", 0x38000003, 256, 1024, 1, .enum8, .rs, true, .ins, .staged, .const 0, .enum [(0, "NONE"), (1, "FULL"), (2, "SUB"), (3, "FILL")], "", true⟩

/-- R249, object 38:0000.04 … 38:03FF.0B. -/
def lst_zones : Obj :=
  ⟨"lst_zones", 0x38000004, 256, 1024, 8, .bits32, .rs, true, .ins, .staged, .const 0, .any, "", true⟩

/-- R249, object 38:0000.0C … 38:03FF.0C. -/
def lst_max_level : Obj :=
  ⟨"lst_max_level", 0x3800000C, 256, 1024, 1, .g16, .rs, true, .ins, .staged, .const 0, .ivals [(-3840, 1536)], "dBFS", true⟩

/-- R249, object 38:0000.0D … 38:03FF.0D. -/
def lst_service : Obj :=
  ⟨"lst_service", 0x3800000D, 256, 1024, 1, .enum8, .rs, true, .ins, .staged, .const 0, .enum [(0, "IN"), (1, "OUT")], "", true⟩

/-- R249, object 38:0000.0E … 38:03FF.0E. -/
def lst_delay_base : Obj :=
  ⟨"lst_delay_base", 0x3800000E, 256, 1024, 1, .u32, .rs, true, .ins, .staged, .const 0, .ivals [(0, 192000)], "samples", true⟩

/-- R249, object 38:0000.10 … 38:03FF.10. -/
def lst_status : Obj :=
  ⟨"lst_status", 0x38000010, 256, 1024, 1, .enum8, .ro, false, .obs, .none, .const 0, .enum [(0, "OK"), (1, "SUSPECT"), (2, "FAILED"), (3, "OUT"), (4, "NONE")], "", false⟩

/-- R249, object 38:0000.11 … 38:03FF.11. -/
def lst_clear_fail : Obj :=
  ⟨"lst_clear_fail", 0x38000011, 256, 1024, 1, .bool, .wo, false, .ins, .staged, .const 0, .ivals [(1, 1)], "", false⟩

/-- R249, object 38:0000.12 … 38:03FF.12. -/
def lst_clamps : Obj :=
  ⟨"lst_clamps", 0x38000012, 256, 1024, 1, .u32, .ro, false, .obs, .none, .const 0, .any, "blocks", true⟩

/-- R249, object 38:0000.13 … 38:03FF.13. -/
def lst_tri_count : Obj :=
  ⟨"lst_tri_count", 0x38000013, 256, 1024, 1, .u16, .ro, false, .obs, .none, .const 0, .any, "", false⟩

/-- R250, object 38:1000.00. -/
def venue_temp : Obj :=
  ⟨"venue_temp", 0x38100000, 256, 1, 1, .f32, .rs, true, .ins, .staged, .const 0x41A00000, .f32 0xC1F00000 0x42480000 false, "°C", true⟩

/-- R250, object 38:1000.01. -/
def sound_speed : Obj :=
  ⟨"sound_speed", 0x38100001, 256, 1, 1, .f32, .ro, false, .obs, .none, .const 0, .any, "m/s", false⟩

/-- R250, object 38:1000.02. -/
def pan_origin : Obj :=
  ⟨"pan_origin", 0x38100002, 256, 1, 1, .pos3, .rs, true, .ins, .staged, .const 0, .pos3 none, "m", true⟩

/-- R250, object 38:1000.03. -/
def align_radius : Obj :=
  ⟨"align_radius", 0x38100003, 256, 1, 1, .f32, .rs, true, .ins, .staged, .const 0x42C80000, .f32 0x3F800000 0x44FA0000 false, "m", true⟩

/-- R250, object 38:1000.04. -/
def air_db_per_m : Obj :=
  ⟨"air_db_per_m", 0x38100004, 256, 1, 1, .f32, .rs, true, .ins, .staged, .const 0x3DCCCCCD, .f32 0x0 0x3F000000 false, "dB/m", true⟩

/-- R250, object 38:1000.05. -/
def tri_max_span : Obj :=
  ⟨"tri_max_span", 0x38100005, 256, 1, 1, .f32, .rs, true, .ins, .staged, .const 0x42F00000, .f32 0x41F00000 0x43340000 false, "°", true⟩

/-- R250, object 38:1000.06. -/
def heal_enable : Obj :=
  ⟨"heal_enable", 0x38100006, 256, 1, 1, .bool, .rw, true, .ins, .live, .const 1, .any, "", true⟩

/-- R250, object 38:1000.07. -/
def tri_state : Obj :=
  ⟨"tri_state", 0x38100007, 256, 1, 1, .enum8, .ro, false, .obs, .none, .const 0, .enum [(0, "NONE"), (1, "VALID"), (2, "RING")], "", false⟩

/-- R250, object 38:1000.08. -/
def tri_count : Obj :=
  ⟨"tri_count", 0x38100008, 256, 1, 1, .u16, .ro, false, .obs, .none, .const 0, .ivals [(0, 2048)], "", false⟩

/-- R250, object 38:1000.09. -/
def tri_gaps : Obj :=
  ⟨"tri_gaps", 0x38100009, 256, 1, 1, .u16, .ro, false, .obs, .none, .const 0, .any, "", false⟩

/-- R250, object 38:1000.0A. -/
def tri_generation : Obj :=
  ⟨"tri_generation", 0x3810000A, 256, 1, 1, .u32, .ro, false, .obs, .none, .const 0, .any, "", true⟩

/-- R250, object 38:1100.00 … 38:11FF.00. -/
def zone_ref : Obj :=
  ⟨"zone_ref", 0x38110000, 256, 256, 1, .pos3, .rs, true, .ins, .staged, .const 0, .pos3 none, "m", true⟩

/-- R250, object 38:1100.01 … 38:11FF.01. -/
def zone_radius : Obj :=
  ⟨"zone_radius", 0x38110001, 256, 256, 1, .f32, .rs, true, .ins, .staged, .const 0x42480000, .f32 0x0 0x44FA0000 false, "m", true⟩

/-- R250, object 38:2000.00 … 38:27FF.00. -/
def tri_vertices : Obj :=
  ⟨"tri_vertices", 0x38200000, 256, 2048, 1, .u64, .ro, false, .obs, .none, .const 0, .any, "V", false⟩

/-- The objects of this file, for the search by address. -/
def objsScene : List Obj :=
  [obj_mode, obj_source_kind, obj_source_ch, obj_gain, obj_pos, obj_delay, obj_ref_dist, obj_near, obj_rolloff, obj_air, obj_window, obj_spread, obj_zone, obj_outside, obj_rung, obj_keep_nearest, obj_local_only, obj_traj, obj_pos_now, obj_status] ++
  [kf_traj, kf_time, kf_pos, kf_interp, traj_loop, traj_period, traj_join, traj_kf_count, traj_state, kf_free, lst_pos, lst_aim_az, lst_aim_el, lst_type, lst_zones, lst_max_level, lst_service, lst_delay_base, lst_status, lst_clear_fail] ++
  [lst_clamps, lst_tri_count, venue_temp, sound_speed, pan_origin, align_radius, air_db_per_m, tri_max_span, heal_enable, tri_state, tri_count, tri_gaps, tri_generation, zone_ref, zone_radius, tri_vertices]

end Sys2Proof.Machine.D
end

