-- ==== Sys2Proof/Machine/DictServices.lean ====
section
/-! DEFINITION. The dictionary objects of chapter 09: one definition per row of its
object tables, in the order of the rows. The rule in each docstring is the rule whose
table lists the object. -/

namespace Sys2Proof.Machine.D

/-- R407, object 50:0000.00 … 50:00FF.00. -/
def zn_gain : Obj :=
  ⟨"zn_gain", 0x50000000, 256, 256, 1, .g16, .rw, true, .opr, .live, .const 0, .ivals [(-32768, -32768), (-9216, 0)], "dB", true⟩

/-- R407, object 50:0000.01 … 50:00FF.01. -/
def zn_mute : Obj :=
  ⟨"zn_mute", 0x50000001, 256, 256, 1, .bool, .rw, true, .opr, .live, .const 0, .any, "", true⟩

/-- R407, object 50:0000.02 … 50:00FF.02. -/
def zn_policy : Obj :=
  ⟨"zn_policy", 0x50000002, 256, 256, 1, .enum8, .rs, true, .ins, .staged, .const 1, .enum [(0, "MIX"), (1, "EXCLUSIVE")], "", true⟩

/-- R407, object 50:0000.03 … 50:00FF.03. -/
def zn_duck_page : Obj :=
  ⟨"zn_duck_page", 0x50000003, 256, 256, 1, .g16, .rs, true, .ins, .staged, .const 64256, .ivals [(-32768, -32768), (-9216, 0)], "dB", true⟩

/-- R407, object 50:0000.04 … 50:00FF.04. -/
def zn_duck_ls : Obj :=
  ⟨"zn_duck_ls", 0x50000004, 256, 256, 1, .g16, .rs, true, .ins, .staged, .const 32768, .ivals [(-32768, -32768), (-9216, 0)], "", true⟩

/-- R407, object 50:0000.05 … 50:00FF.05. -/
def zn_ls_override : Obj :=
  ⟨"zn_ls_override", 0x50000005, 256, 256, 1, .bool, .rs, true, .own, .staged, .const 1, .any, "", true⟩

/-- R407, object 50:0000.08 … 50:00FF.0F. -/
def zn_covers : Obj :=
  ⟨"zn_covers", 0x50000008, 256, 256, 8, .bits32, .rs, true, .ins, .staged, .const 0, .any, "", true⟩

/-- R407, object 50:0000.10 … 50:00FF.10. -/
def zn_name : Obj :=
  ⟨"zn_name", 0x50000010, 256, 256, 1, .str32, .rw, true, .ins, .liveSample, .const 0, .any, "", true⟩

/-- R407, object 50:0000.11 … 50:00FF.11. -/
def zn_owner : Obj :=
  ⟨"zn_owner", 0x50000011, 256, 256, 1, .u16, .ro, false, .obs, .none, .const 0, .any, "", false⟩

/-- R407, object 50:1000.00 … 50:13FF.00. -/
def in_hpf : Obj :=
  ⟨"in_hpf", 0x50100000, 256, 1024, 1, .enum8, .rs, true, .opr, .staged, .const 0, .enum [(0, "OFF"), (1, "HP10"), (2, "HP20"), (3, "HP40"), (4, "HP80"), (5, "HP120")], "", true⟩

/-- R407, object 50:1000.01 … 50:13FF.01. -/
def arb_state : Obj :=
  ⟨"arb_state", 0x50100001, 256, 1024, 1, .enum8, .ro, false, .obs, .none, .const 0, .enum [(0, "NONE"), (1, "WINNING"), (2, "PREEMPTED"), (3, "DUCKED")], "", false⟩

/-- R407, object 50:1000.02 … 50:13FF.02. -/
def arb_since : Obj :=
  ⟨"arb_since", 0x50100002, 256, 1024, 1, .u64, .ro, false, .obs, .none, .const 0, .any, "blocks", false⟩

/-- R407, object 50:1000.03 … 50:13FF.03. -/
def in_gain_now : Obj :=
  ⟨"in_gain_now", 0x50100003, 256, 1024, 1, .g16, .ro, false, .obs, .none, .const 0, .any, "", false⟩

/-- R407, object 50:FFF1.00. -/
def arb_attack : Obj :=
  ⟨"arb_attack", 0x50FFF100, 256, 1, 1, .u16, .rs, true, .ins, .staged, .const 16, .ivals [(1, 3840)], "", true⟩

/-- R407, object 50:FFF1.01. -/
def arb_release : Obj :=
  ⟨"arb_release", 0x50FFF101, 256, 1, 1, .u16, .rs, true, .ins, .staged, .const 4, .ivals [(1, 3840)], "", true⟩

/-- R407, object 50:FFF1.02. -/
def arb_preempts : Obj :=
  ⟨"arb_preempts", 0x50FFF102, 256, 1, 1, .u32, .ro, false, .obs, .none, .const 0, .any, "", true⟩

/-- R408, object 51:0000.00 … 51:00FF.00. -/
def amb_owner : Obj :=
  ⟨"amb_owner", 0x51000000, 256, 256, 1, .u16, .rs, true, .ins, .staged, .const 0, .ivals [(0, 4095)], "", true⟩

/-- R408, object 51:0000.01 … 51:00FF.01. -/
def amb_mic_ch : Obj :=
  ⟨"amb_mic_ch", 0x51000001, 256, 256, 1, .u16, .rs, true, .ins, .staged, .const 0, .ivals [(0, 4095)], "", true⟩

/-- R408, object 51:0000.02 … 51:00FF.02. -/
def amb_mic_hpf : Obj :=
  ⟨"amb_mic_hpf", 0x51000002, 256, 256, 1, .enum8, .rs, true, .ins, .staged, .const 4, .enum [(0, "OFF"), (1, "HP10"), (2, "HP20"), (3, "HP40"), (4, "HP80"), (5, "HP120")], "", true⟩

/-- R408, object 51:0000.03 … 51:00FF.03. -/
def amb_zone : Obj :=
  ⟨"amb_zone", 0x51000003, 256, 256, 1, .u8, .rs, true, .ins, .staged, .const 0, .ivals [(0, 255)], "", true⟩

/-- R408, object 51:0000.04 … 51:00FF.04. -/
def amb_rungs : Obj :=
  ⟨"amb_rungs", 0x51000004, 256, 256, 1, .bits32, .rs, true, .ins, .staged, .const 10, .mask 0xFE, "", true⟩

/-- R408, object 51:0000.05 … 51:00FF.05. -/
def amb_ref : Obj :=
  ⟨"amb_ref", 0x51000005, 256, 256, 1, .f32, .rs, true, .ins, .staged, .const 0xC2480000, .f32 0xC2F00000 0x0 false, "dBFS", true⟩

/-- R408, object 51:0000.06 … 51:00FF.06. -/
def amb_slope : Obj :=
  ⟨"amb_slope", 0x51000006, 256, 256, 1, .f32, .rs, true, .ins, .staged, .const 0x3F000000, .f32 0x0 0x40000000 false, "dB/dB", true⟩

/-- R408, object 51:0000.07 … 51:00FF.07. -/
def amb_max : Obj :=
  ⟨"amb_max", 0x51000007, 256, 256, 1, .g16, .rs, true, .ins, .staged, .const 640, .ivals [(0, 768)], "dB", true⟩

/-- R408, object 51:0000.08 … 51:00FF.08. -/
def amb_window : Obj :=
  ⟨"amb_window", 0x51000008, 256, 256, 1, .u16, .rs, true, .ins, .staged, .const 300, .ivals [(30, 3000)], "blocks", true⟩

/-- R408, object 51:0000.09 … 51:00FF.09. -/
def amb_windows : Obj :=
  ⟨"amb_windows", 0x51000009, 256, 256, 1, .u16, .rs, true, .ins, .staged, .const 100, .ivals [(10, 1000)], "", true⟩

/-- R408, object 51:0000.0A … 51:00FF.0A. -/
def amb_percentile : Obj :=
  ⟨"amb_percentile", 0x5100000A, 256, 256, 1, .u8, .rs, true, .ins, .staged, .const 10, .ivals [(0, 100)], "%", true⟩

/-- R408, object 51:0000.0B … 51:00FF.0B. -/
def amb_hysteresis : Obj :=
  ⟨"amb_hysteresis", 0x5100000B, 256, 256, 1, .u16, .rs, true, .ins, .staged, .const 32, .ivals [(8, 384)], "", true⟩

/-- R408, object 51:0000.0C … 51:00FF.0C. -/
def amb_interval : Obj :=
  ⟨"amb_interval", 0x5100000C, 256, 256, 1, .u16, .rs, true, .ins, .staged, .const 3000, .ivals [(300, 60000)], "blocks", true⟩

/-- R408, object 51:0000.0D … 51:00FF.0D. -/
def amb_publish_scope : Obj :=
  ⟨"amb_publish_scope", 0x5100000D, 256, 256, 1, .enum8, .rs, true, .ins, .staged, .const 1, .enum [(0, "LOCAL"), (1, "FABRIC")], "", true⟩

/-- R408, object 51:0000.0E … 51:00FF.0E. -/
def amb_gain : Obj :=
  ⟨"amb_gain", 0x5100000E, 256, 256, 1, .g16, .rs, true, .opr, .staged, .const 0, .ivals [(0, 768)], "dB", true⟩

/-- R408, object 51:0000.0F … 51:00FF.0F. -/
def amb_estimate : Obj :=
  ⟨"amb_estimate", 0x5100000F, 256, 256, 1, .f32, .ro, false, .obs, .none, .const 0, .any, "dBFS", false⟩

/-- R409, object 52:0000.00 … 52:03FF.00. -/
def clip_blob : Obj :=
  ⟨"clip_blob", 0x52000000, 256, 1024, 1, .blob, .rs, true, .ins, .staged, .const 0, .blob 0 16777216 3, "", true⟩

/-- R409, object 52:0000.01 … 52:03FF.01. -/
def clip_rate : Obj :=
  ⟨"clip_rate", 0x52000001, 256, 1024, 1, .enum8, .rs, true, .ins, .staged, .const 0, .enum [(0, "FS_48K"), (1, "FS_96K")], "", true⟩

/-- R409, object 52:0000.02 … 52:03FF.02. -/
def clip_boot : Obj :=
  ⟨"clip_boot", 0x52000002, 256, 1024, 1, .bool, .rs, true, .ins, .staged, .const 0, .any, "", true⟩

/-- R409, object 52:0000.03 … 52:03FF.03. -/
def clip_state : Obj :=
  ⟨"clip_state", 0x52000003, 256, 1024, 1, .enum8, .ro, false, .obs, .none, .const 0, .enum [(0, "EMPTY"), (1, "STORED"), (2, "LOADING"), (3, "LOADED")], "", true⟩

/-- R409, object 52:0000.04 … 52:03FF.04. -/
def clip_digest : Obj :=
  ⟨"clip_digest", 0x52000004, 256, 1024, 1, .u64, .ro, false, .obs, .none, .const 0, .any, "", false⟩

/-- R409, object 52:1000.00 … 52:103F.00. -/
def voice_clip : Obj :=
  ⟨"voice_clip", 0x52100000, 256, 64, 1, .u16, .rs, true, .opr, .staged, .const 0, .ivals [(0, 0x3FF)], "", true⟩

/-- R409, object 52:1000.01 … 52:103F.01. -/
def voice_loops : Obj :=
  ⟨"voice_loops", 0x52100001, 256, 64, 1, .u16, .rs, true, .opr, .staged, .const 1, .ivals [(0, 0), (1, 65535)], "", true⟩

/-- R409, object 52:1000.02 … 52:103F.02. -/
def voice_bind : Obj :=
  ⟨"voice_bind", 0x52100002, 256, 64, 1, .enum8, .rs, true, .opr, .staged, .const 0, .enum [(0, "NETWORK"), (1, "SHOW")], "", true⟩

/-- R409, object 52:1000.03 … 52:103F.03. -/
def voice_cmd : Obj :=
  ⟨"voice_cmd", 0x52100003, 256, 64, 1, .enum8, .wo, false, .opr, .staged, .const 0, .enum [(0, "STOP"), (1, "START")], "", false⟩

/-- R409, object 52:1000.04 … 52:103F.04. -/
def voice_state : Obj :=
  ⟨"voice_state", 0x52100004, 256, 64, 1, .enum8, .ro, false, .obs, .none, .const 0, .enum [(0, "IDLE"), (1, "PLAYING"), (2, "PAUSED")], "", true⟩

/-- R409, object 52:1000.05 … 52:103F.05. -/
def voice_pos : Obj :=
  ⟨"voice_pos", 0x52100005, 256, 64, 1, .u32, .ro, false, .obs, .none, .const 0, .any, "samples", true⟩

/-- R409, object 52:FFF1.00. -/
def clip_store_free : Obj :=
  ⟨"clip_store_free", 0x52FFF100, 256, 1, 1, .u32, .ro, false, .obs, .none, .const 0, .any, "", false⟩

/-- R410, object 53:0000.00 … 53:03FF.00. -/
def mtr_tap : Obj :=
  ⟨"mtr_tap", 0x53000000, 256, 1024, 1, .enum8, .rw, true, .opr, .live, .const 4, .enum [(0, "FEED"), (1, "POST_DELAY"), (2, "POST_ETCHER"), (3, "POST_EQ"), (4, "POST_LIMIT"), (5, "OUT")], "", true⟩

/-- R410, object 53:0000.01 … 53:13FF.01. -/
def mtr_peak : Obj :=
  ⟨"mtr_peak", 0x53000001, 256, 5120, 1, .f32, .ro, false, .obs, .none, .const 0, .any, "dBFS", false⟩

/-- R410, object 53:0000.02 … 53:13FF.02. -/
def mtr_hold : Obj :=
  ⟨"mtr_hold", 0x53000002, 256, 5120, 1, .f32, .ro, false, .obs, .none, .const 0, .any, "dBFS", false⟩

/-- R410, object 53:0000.03 … 53:13FF.03. -/
def mtr_rms : Obj :=
  ⟨"mtr_rms", 0x53000003, 256, 5120, 1, .f32, .ro, false, .obs, .none, .const 0, .any, "dBFS", false⟩

/-- R410, object 53:0000.04 … 53:13FF.04. -/
def mtr_overs : Obj :=
  ⟨"mtr_overs", 0x53000004, 256, 5120, 1, .u32, .ro, false, .obs, .none, .const 0, .any, "", true⟩

/-- R410, object 53:0000.05 … 53:03FF.05. -/
def sil_threshold : Obj :=
  ⟨"sil_threshold", 0x53000005, 256, 1024, 1, .g16, .rw, true, .ins, .live, .const 59776, .ivals [(-9216, 0)], "dBFS", true⟩

/-- R410, object 53:0000.06 … 53:03FF.06. -/
def sil_state : Obj :=
  ⟨"sil_state", 0x53000006, 256, 1024, 1, .enum8, .ro, false, .obs, .none, .const 0, .enum [(0, "SOUND"), (1, "SILENT")], "", true⟩

/-- R410, object 53:2000.00 … 53:2007.00. -/
def sb_enable : Obj :=
  ⟨"sb_enable", 0x53200000, 256, 8, 1, .bool, .rs, true, .ins, .staged, .const 0, .any, "", true⟩

/-- R410, object 53:2000.01 … 53:2007.01. -/
def sb_zone : Obj :=
  ⟨"sb_zone", 0x53200001, 256, 8, 1, .u8, .rs, true, .ins, .staged, .const 0, .ivals [(0, 255)], "", true⟩

/-- R410, object 53:2000.02 … 53:2007.02. -/
def sb_pin : Obj :=
  ⟨"sb_pin", 0x53200002, 256, 8, 1, .enum8, .rs, true, .ins, .staged, .const 0, .enum [(0, "NONE"), (1, "GPIO0"), (2, "GPIO1"), (3, "GPIO2"), (4, "GPIO3"), (5, "GPIO4"), (6, "GPIO5"), (7, "GPIO6"), (8, "GPIO7")], "", true⟩

/-- R410, object 53:2000.03 … 53:2007.03. -/
def sb_level : Obj :=
  ⟨"sb_level", 0x53200003, 256, 8, 1, .enum8, .rs, true, .ins, .staged, .const 0, .enum [(0, "HIGH"), (1, "LOW")], "", true⟩

/-- R410, object 53:2000.04 … 53:2007.04. -/
def sb_state : Obj :=
  ⟨"sb_state", 0x53200004, 256, 8, 1, .enum8, .ro, false, .obs, .none, .const 0, .enum [(0, "RUN"), (1, "STANDBY")], "", true⟩

/-- R410, object 53:FFF1.00. -/
def mtr_hold_time : Obj :=
  ⟨"mtr_hold_time", 0x53FFF100, 256, 1, 1, .u16, .rw, true, .opr, .live, .const 2000, .ivals [(0, 60000)], "ms", true⟩

/-- R410, object 53:FFF1.01. -/
def mtr_decay : Obj :=
  ⟨"mtr_decay", 0x53FFF101, 256, 1, 1, .f32, .rw, true, .opr, .live, .const 0x41A00000, .f32 0x3F800000 0x43480000 false, "dB/s", true⟩

/-- R410, object 53:FFF1.02. -/
def mtr_rms_tc : Obj :=
  ⟨"mtr_rms_tc", 0x53FFF102, 256, 1, 1, .f32, .rw, true, .opr, .live, .const 0x3E99999A, .f32 0x3C23D70A 0x41200000 false, "s", true⟩

/-- R410, object 53:FFF1.03. -/
def mtr_reset : Obj :=
  ⟨"mtr_reset", 0x53FFF103, 256, 1, 1, .bool, .wo, false, .opr, .live, .const 0, .ivals [(1, 1)], "", false⟩

/-- R410, object 53:FFF1.04. -/
def sil_time : Obj :=
  ⟨"sil_time", 0x53FFF104, 256, 1, 1, .u16, .rw, true, .ins, .live, .const 10, .ivals [(1, 3600)], "s", true⟩

/-- R410, object 53:FFF1.05. -/
def sil_hyst : Obj :=
  ⟨"sil_hyst", 0x53FFF105, 256, 1, 1, .g16, .rw, true, .ins, .live, .const 384, .ivals [(0, 1536)], "dB", true⟩

/-- R410, object 53:FFF1.06. -/
def sil_obj_threshold : Obj :=
  ⟨"sil_obj_threshold", 0x53FFF106, 256, 1, 1, .g16, .rw, true, .ins, .live, .const 59776, .ivals [(-9216, 0)], "dBFS", true⟩

/-- The objects of this file, for the search by address. -/
def objsServices : List Obj :=
  [zn_gain, zn_mute, zn_policy, zn_duck_page, zn_duck_ls, zn_ls_override, zn_covers, zn_name, zn_owner, in_hpf, arb_state, arb_since, in_gain_now, arb_attack, arb_release, arb_preempts, amb_owner, amb_mic_ch, amb_mic_hpf, amb_zone] ++
  [amb_rungs, amb_ref, amb_slope, amb_max, amb_window, amb_windows, amb_percentile, amb_hysteresis, amb_interval, amb_publish_scope, amb_gain, amb_estimate, clip_blob, clip_rate, clip_boot, clip_state, clip_digest, voice_clip, voice_loops, voice_bind] ++
  [voice_cmd, voice_state, voice_pos, clip_store_free, mtr_tap, mtr_peak, mtr_hold, mtr_rms, mtr_overs, sil_threshold, sil_state, sb_enable, sb_zone, sb_pin, sb_level, sb_state, mtr_hold_time, mtr_decay, mtr_rms_tc, mtr_reset] ++
  [sil_time, sil_hyst, sil_obj_threshold]

end Sys2Proof.Machine.D
end

