-- ==== Sys2Proof/Machine/DictShank.lean ====
section
/-! DEFINITION. The dictionary objects of chapter 16: one definition per row of its
object tables, in the order of the rows. The rule in each docstring is the rule whose
table lists the object. -/

namespace Sys2Proof.Machine.D

/-- R628, object 7E:0000.00 … 7E:0007.00. -/
def sens_die_temp : Obj :=
  ⟨"sens_die_temp", 0x7E000000, 256, 8, 1, .f32, .ro, false, .obs, .none, .const 0, .any, "°C", false⟩

/-- R628, object 7E:0010.00. -/
def sens_module_temp : Obj :=
  ⟨"sens_module_temp", 0x7E001000, 256, 1, 1, .f32, .ro, false, .obs, .none, .const 0, .any, "°C", false⟩

/-- R628, object 7E:0010.01. -/
def sens_dram_temp : Obj :=
  ⟨"sens_dram_temp", 0x7E001001, 256, 1, 1, .f32, .ro, false, .obs, .none, .const 0, .any, "°C", false⟩

/-- R628, object 7E:0010.02. -/
def sens_vin : Obj :=
  ⟨"sens_vin", 0x7E001002, 256, 1, 1, .f32, .ro, false, .obs, .none, .const 0, .any, "V", false⟩

/-- R628, object 7E:0010.03. -/
def sens_iin : Obj :=
  ⟨"sens_iin", 0x7E001003, 256, 1, 1, .f32, .ro, false, .obs, .none, .const 0, .any, "A", false⟩

/-- R628, object 7E:0010.04. -/
def sens_vio : Obj :=
  ⟨"sens_vio", 0x7E001004, 256, 1, 1, .f32, .ro, false, .obs, .none, .const 0, .any, "V", false⟩

/-- R628, object 7E:0010.05. -/
def sens_vao : Obj :=
  ⟨"sens_vao", 0x7E001005, 256, 1, 1, .f32, .ro, false, .obs, .none, .const 0, .any, "V", false⟩

/-- R628, object 7E:0010.06. -/
def sens_vdac : Obj :=
  ⟨"sens_vdac", 0x7E001006, 256, 1, 1, .f32, .ro, false, .obs, .none, .const 0, .any, "V", false⟩

/-- R628, object 7E:0010.07. -/
def sens_module_warn : Obj :=
  ⟨"sens_module_warn", 0x7E001007, 256, 1, 1, .f32, .rw, true, .ins, .liveSample, .const 0x42AA0000, .f32 0x42480000 0x42BE0000 false, "°C", true⟩

/-- R628, object 7E:0020.00 … 7E:0027.00. -/
def rail_v : Obj :=
  ⟨"rail_v", 0x7E002000, 256, 8, 1, .f32, .ro, false, .obs, .none, .const 0, .any, "V", false⟩

/-- R628, object 7E:0030.00 … 7E:0038.00. -/
def eye_margin : Obj :=
  ⟨"eye_margin", 0x7E003000, 256, 9, 1, .f32, .ro, false, .obs, .none, .const 0, .any, "%", false⟩

/-- R628, object 7E:0040.00. -/
def life_used : Obj :=
  ⟨"life_used", 0x7E004000, 256, 1, 1, .f32, .ro, false, .obs, .none, .const 0, .any, "%", false⟩

/-- R628, object 7E:0040.01. -/
def life_remaining : Obj :=
  ⟨"life_remaining", 0x7E004001, 256, 1, 1, .f32, .ro, false, .obs, .none, .const 0, .any, "years", false⟩

/-- R628, object 7E:0100.00. -/
def log_first : Obj :=
  ⟨"log_first", 0x7E010000, 256, 1, 1, .u32, .ro, false, .obs, .none, .const 0, .any, "", false⟩

/-- R628, object 7E:0100.01. -/
def log_next : Obj :=
  ⟨"log_next", 0x7E010001, 256, 1, 1, .u32, .ro, false, .obs, .none, .const 0, .any, "", false⟩

/-- R628, object 7E:0100.02. -/
def log_min_severity : Obj :=
  ⟨"log_min_severity", 0x7E010002, 256, 1, 1, .enum8, .rw, true, .ins, .liveSample, .const 1, .enum [(0, "INFO"), (1, "WARN"), (2, "DEGRADED"), (3, "FAILED")], "", true⟩

/-- R628, object 7E:0100.03. -/
def log_window_start : Obj :=
  ⟨"log_window_start", 0x7E010003, 256, 1, 1, .u32, .rw, false, .obs, .liveSample, .const 0, .any, "", true⟩

/-- R628, object 7E:0100.04. -/
def log_window : Obj :=
  ⟨"log_window", 0x7E010004, 256, 1, 1, .blob, .ro, false, .obs, .none, .const 0, .any, "", false⟩

/-- R628, object 7E:0100.05. -/
def log_overwritten : Obj :=
  ⟨"log_overwritten", 0x7E010005, 256, 1, 1, .u32, .ro, false, .obs, .none, .const 0, .any, "", true⟩

/-- R628, object 7E:0100.06. -/
def log_clear : Obj :=
  ⟨"log_clear", 0x7E010006, 256, 1, 1, .bool, .wo, false, .own, .liveSample, .const 0, .ivals [(1, 1)], "", false⟩

/-- R629, object 7F:0000.00. -/
def dev_chain : Obj :=
  ⟨"dev_chain", 0x7F000000, 256, 1, 1, .blob, .ro, false, .obs, .none, .const 0, .any, "", false⟩

/-- R629, object 7F:0000.01. -/
def dev_fp_hi : Obj :=
  ⟨"dev_fp_hi", 0x7F000001, 256, 1, 1, .u64, .ro, false, .obs, .none, .const 0, .any, "", false⟩

/-- R629, object 7F:0000.02. -/
def dev_fp_lo : Obj :=
  ⟨"dev_fp_lo", 0x7F000002, 256, 1, 1, .u64, .ro, false, .obs, .none, .const 0, .any, "", false⟩

/-- R629, object 7F:0000.03. -/
def dev_key : Obj :=
  ⟨"dev_key", 0x7F000003, 256, 1, 1, .keyref, .ro, false, .obs, .none, .const 0, .any, "", true⟩

/-- R629, object 7F:0010.00. -/
def owner_cert : Obj :=
  ⟨"owner_cert", 0x7F001000, 256, 1, 1, .blob, .rw, false, .own, .live, .const 0, .blob 0 2048 1, "", true⟩

/-- R629, object 7F:0010.01. -/
def owner_state : Obj :=
  ⟨"owner_state", 0x7F001001, 256, 1, 1, .enum8, .ro, false, .obs, .none, .const 0, .enum [(0, "NONE"), (1, "ENROLLED")], "", true⟩

/-- R629, object 7F:0010.02. -/
def owner_clear : Obj :=
  ⟨"owner_clear", 0x7F001002, 256, 1, 1, .bool, .wo, false, .own, .liveSample, .const 0, .ivals [(1, 1)], "", false⟩

/-- R629, object 7F:0010.03. -/
def owner_fp_hi : Obj :=
  ⟨"owner_fp_hi", 0x7F001003, 256, 1, 1, .u64, .ro, false, .obs, .none, .const 0, .any, "", true⟩

/-- R629, object 7F:0010.04. -/
def owner_fp_lo : Obj :=
  ⟨"owner_fp_lo", 0x7F001004, 256, 1, 1, .u64, .ro, false, .obs, .none, .const 0, .any, "", true⟩

/-- R629, object 7F:0020.00. -/
def rollback_fuses : Obj :=
  ⟨"rollback_fuses", 0x7F002000, 256, 1, 1, .u8, .ro, false, .obs, .none, .const 0, .ivals [(0, 64)], "", false⟩

/-- R629, object 7F:0100.00 … 7F:0101.00. -/
def fw_image : Obj :=
  ⟨"fw_image", 0x7F010000, 256, 2, 1, .blob, .rw, false, .own, .live, .const 0, .blob 0 16777216 1, "", false⟩

/-- R629, object 7F:0100.01 … 7F:0101.01. -/
def fw_slot_state : Obj :=
  ⟨"fw_slot_state", 0x7F010001, 256, 2, 1, .enum8, .ro, false, .obs, .none, .const 0, .enum [(0, "EMPTY"), (1, "LOADING"), (2, "VALID"), (3, "BAD"), (4, "TRIAL"), (5, "CONFIRMED"), (6, "PREVIOUS")], "", false⟩

/-- R629, object 7F:0100.02 … 7F:0101.02. -/
def fw_version : Obj :=
  ⟨"fw_version", 0x7F010002, 256, 2, 1, .u32, .ro, false, .obs, .none, .const 0, .any, "", false⟩

/-- R629, object 7F:0200.00. -/
def fw_running : Obj :=
  ⟨"fw_running", 0x7F020000, 256, 1, 1, .enum8, .ro, false, .obs, .none, .const 0, .enum [(0, "A"), (1, "B"), (2, "RECOVERY")], "", false⟩

/-- R629, object 7F:0200.01. -/
def fw_activate : Obj :=
  ⟨"fw_activate", 0x7F020001, 256, 1, 1, .enum8, .wo, false, .own, .staged, .const 0, .enum [(0, "A"), (1, "B")], "", false⟩

/-- R629, object 7F:0200.02. -/
def fw_trial_time : Obj :=
  ⟨"fw_trial_time", 0x7F020002, 256, 1, 1, .u32, .rw, true, .own, .liveSample, .const 600, .ivals [(60, 86400)], "s", true⟩

/-- R629, object 7F:0200.03. -/
def fw_attempts : Obj :=
  ⟨"fw_attempts", 0x7F020003, 256, 1, 1, .u8, .ro, false, .obs, .none, .const 0, .ivals [(0, 2)], "", true⟩

/-- R630, object 08:0000.00. -/
def pw_request : Obj :=
  ⟨"pw_request", 0x8000000, 256, 1, 1, .enum8, .wo, false, .ins, .staged, .const 0, .enum [(0, "ON"), (1, "QUIET"), (2, "DORMANT")], "", false⟩

/-- R630, object 08:0000.01. -/
def pw_state : Obj :=
  ⟨"pw_state", 0x8000001, 256, 1, 1, .enum8, .ro, false, .obs, .none, .const 0, .enum [(0, "ON"), (1, "QUIET"), (2, "TO_QUIET"), (3, "TO_DORMANT")], "", true⟩

/-- R630, object 08:0000.02. -/
def pw_auto_on : Obj :=
  ⟨"pw_auto_on", 0x8000002, 256, 1, 1, .bool, .rs, true, .own, .staged, .const 1, .any, "", true⟩

/-- R630, object 08:0000.03. -/
def pw_wake_cause : Obj :=
  ⟨"pw_wake_cause", 0x8000003, 256, 1, 1, .enum8, .ro, false, .obs, .none, .const 0, .enum [(0, "NONE"), (1, "ALARM0"), (2, "ALARM1"), (3, "ALARM2"), (4, "ALARM3"), (5, "WCMP0"), (6, "WCMP1"), (7, "WAKE0"), (8, "WAKE1"), (9, "MGT"), (10, "FAB0"), (11, "HSPI"), (12, "PARTNER")], "", true⟩

/-- R630, object 08:0000.04. -/
def pw_wake_block : Obj :=
  ⟨"pw_wake_block", 0x8000004, 256, 1, 1, .u64, .ro, false, .obs, .none, .const 0, .any, "", false⟩

/-- R630, object 08:0000.05. -/
def pw_return_pending : Obj :=
  ⟨"pw_return_pending", 0x8000005, 256, 1, 1, .bool, .ro, false, .obs, .none, .const 0, .any, "", true⟩

/-- R630, object 08:0000.06. -/
def hspi_wake : Obj :=
  ⟨"hspi_wake", 0x8000006, 256, 1, 1, .bool, .rw, true, .ins, .liveSample, .const 0, .any, "", true⟩

/-- R630, object 08:0010.00. -/
def aod_time : Obj :=
  ⟨"aod_time", 0x8001000, 256, 1, 1, .nt64, .ro, false, .obs, .none, .const 0, .any, "ns", false⟩

/-- R630, object 08:0010.01. -/
def aod_trim : Obj :=
  ⟨"aod_trim", 0x8001001, 256, 1, 1, .i32, .ro, false, .obs, .none, .const 0, .any, "ppb", true⟩

/-- R630, object 08:0020.00 … 08:0023.00. -/
def aod_alarm : Obj :=
  ⟨"aod_alarm", 0x8002000, 256, 4, 1, .nt64, .rw, true, .ins, .liveSample, .const 0, .any, "ns", true⟩

/-- R630, object 08:0020.01 … 08:0023.01. -/
def aod_alarm_enable : Obj :=
  ⟨"aod_alarm_enable", 0x8002001, 256, 4, 1, .bool, .rw, true, .ins, .liveSample, .const 0, .any, "", true⟩

/-- R630, object 08:0030.00 … 08:0031.00. -/
def wcmp_mv : Obj :=
  ⟨"wcmp_mv", 0x8003000, 256, 2, 1, .u16, .rw, true, .ins, .liveSample, .const 600, .ivals [(0, 1200)], "mV", true⟩

/-- R630, object 08:0030.01 … 08:0031.01. -/
def wcmp_wake : Obj :=
  ⟨"wcmp_wake", 0x8003001, 256, 2, 1, .enum8, .rw, true, .ins, .liveSample, .const 0, .enum [(0, "OFF"), (1, "ABOVE"), (2, "BELOW")], "", true⟩

/-- R630, object 08:0030.02 … 08:0031.02. -/
def wcmp_state : Obj :=
  ⟨"wcmp_state", 0x8003002, 256, 2, 1, .enum8, .ro, false, .obs, .none, .const 0, .enum [(0, "BELOW"), (1, "ABOVE")], "", false⟩

/-- R630, object 08:0040.00 … 08:0041.00. -/
def wake_in_edge : Obj :=
  ⟨"wake_in_edge", 0x8004000, 256, 2, 1, .enum8, .rw, true, .ins, .liveSample, .const 0, .enum [(0, "OFF"), (1, "RISE"), (2, "FALL"), (3, "BOTH")], "", true⟩

/-- R630, object 08:0040.01 … 08:0041.01. -/
def wake_in_state : Obj :=
  ⟨"wake_in_state", 0x8004001, 256, 2, 1, .bool, .ro, false, .obs, .none, .const 0, .any, "", false⟩

/-- The objects of this file, for the search by address. -/
def objsShank : List Obj :=
  [sens_die_temp, sens_module_temp, sens_dram_temp, sens_vin, sens_iin, sens_vio, sens_vao, sens_vdac, sens_module_warn, rail_v, eye_margin, life_used, life_remaining, log_first, log_next, log_min_severity, log_window_start, log_window, log_overwritten, log_clear] ++
  [dev_chain, dev_fp_hi, dev_fp_lo, dev_key, owner_cert, owner_state, owner_clear, owner_fp_hi, owner_fp_lo, rollback_fuses, fw_image, fw_slot_state, fw_version, fw_running, fw_activate, fw_trial_time, fw_attempts, pw_request, pw_state, pw_auto_on] ++
  [pw_wake_cause, pw_wake_block, pw_return_pending, hspi_wake, aod_time, aod_trim, aod_alarm, aod_alarm_enable, wcmp_mv, wcmp_wake, wcmp_state, wake_in_edge, wake_in_state]

end Sys2Proof.Machine.D
end

