-- ==== Sys2Proof/Machine/DictShow.lean ====
section
/-! DEFINITION. The dictionary objects of chapter 04: one definition per row of its
object tables, in the order of the rows. The rule in each docstring is the rule whose
table lists the object. -/

namespace Sys2Proof.Machine.D

/-- R190, object 18:0000.00. -/
def show_source : Obj :=
  ⟨"show_source", 0x18000000, 256, 1, 1, .enum8, .rs, true, .ins, .staged, .const 2, .enum [(0, "LTC"), (1, "NETWORK"), (2, "INTERNAL")], "", true⟩

/-- R190, object 18:0000.01. -/
def show_state : Obj :=
  ⟨"show_state", 0x18000001, 256, 1, 1, .enum8, .ro, false, .obs, .none, .const 0, .enum [(0, "PAUSED"), (1, "RUNNING")], "", false⟩

/-- R190, object 18:0000.02. -/
def show_time : Obj :=
  ⟨"show_time", 0x18000002, 256, 1, 1, .st64, .ro, false, .obs, .none, .const 0, .any, "ns", false⟩

/-- R190, object 18:0000.03. -/
def show_rate_now : Obj :=
  ⟨"show_rate_now", 0x18000003, 256, 1, 1, .u32, .ro, false, .obs, .none, .const 0, .any, "", false⟩

/-- R190, object 18:0000.04. -/
def show_jumps : Obj :=
  ⟨"show_jumps", 0x18000004, 256, 1, 1, .u32, .ro, false, .obs, .none, .const 0, .any, "", true⟩

/-- R190, object 18:0000.05. -/
def show_jump_threshold : Obj :=
  ⟨"show_jump_threshold", 0x18000005, 256, 1, 1, .u32, .rw, true, .ins, .live, .const 0x989680, .ivals [(0, 10000000000)], "ns", true⟩

/-- R190, object 18:0000.06. -/
def cue_last : Obj :=
  ⟨"cue_last", 0x18000006, 256, 1, 1, .u32, .ro, false, .obs, .none, .const 0, .any, "", true⟩

/-- R190, object 18:0000.07. -/
def cue_count : Obj :=
  ⟨"cue_count", 0x18000007, 256, 1, 1, .u32, .ro, false, .obs, .none, .const 0, .any, "", true⟩

/-- R190, object 18:0001.00. -/
def show_map_st : Obj :=
  ⟨"show_map_st", 0x18000100, 256, 1, 1, .st64, .rs, true, .ins, .staged, .const 0, .any, "ns", true⟩

/-- R190, object 18:0001.01. -/
def show_map_nt : Obj :=
  ⟨"show_map_nt", 0x18000101, 256, 1, 1, .nt64, .rs, true, .ins, .staged, .const 0, .any, "ns", true⟩

/-- R190, object 18:0001.02. -/
def show_map_rate : Obj :=
  ⟨"show_map_rate", 0x18000102, 256, 1, 1, .u32, .rs, true, .ins, .staged, .const 0, .ivals [(0, 0), (0x400000, 0x4000000)], "", true⟩

/-- R190, object 18:0001.03. -/
def show_resume_rate : Obj :=
  ⟨"show_resume_rate", 0x18000103, 256, 1, 1, .u32, .rs, true, .ins, .staged, .const 0x1000000, .ivals [(0x400000, 0x4000000)], "", true⟩

/-- R190, object 18:0002.00. -/
def show_run : Obj :=
  ⟨"show_run", 0x18000200, 256, 1, 1, .bool, .wo, false, .opr, .staged, .const 0, .any, "", false⟩

/-- R190, object 18:0002.01. -/
def show_jump : Obj :=
  ⟨"show_jump", 0x18000201, 256, 1, 1, .st64, .wo, false, .opr, .staged, .const 0, .any, "ns", false⟩

/-- R190, object 18:0002.02. -/
def show_set_rate : Obj :=
  ⟨"show_set_rate", 0x18000202, 256, 1, 1, .u32, .wo, false, .opr, .staged, .const 0, .ivals [(0x400000, 0x4000000)], "", false⟩

/-- R190, object 18:0003.00. -/
def ltc_rate : Obj :=
  ⟨"ltc_rate", 0x18000300, 256, 1, 1, .enum8, .rw, true, .ins, .live, .const 1, .enum [(0, "FR24"), (1, "FR25"), (2, "FR2997DF"), (3, "FR2997ND"), (4, "FR30")], "", true⟩

/-- R190, object 18:0003.01. -/
def ltc_offset : Obj :=
  ⟨"ltc_offset", 0x18000301, 256, 1, 1, .st64, .rw, true, .ins, .live, .const 0, .any, "ns", true⟩

/-- R190, object 18:0003.02. -/
def ltc_tolerance : Obj :=
  ⟨"ltc_tolerance", 0x18000302, 256, 1, 1, .u32, .rw, true, .ins, .live, .const 0x1E8480, .ivals [(100000, 40000000)], "ns", true⟩

/-- R190, object 18:0003.03. -/
def ltc_window : Obj :=
  ⟨"ltc_window", 0x18000303, 256, 1, 1, .u8, .rw, true, .ins, .live, .const 25, .ivals [(4, 250)], "frames", true⟩

/-- R190, object 18:0003.04. -/
def ltc_lock_frames : Obj :=
  ⟨"ltc_lock_frames", 0x18000304, 256, 1, 1, .u8, .rw, true, .ins, .live, .const 3, .ivals [(2, 25)], "frames", true⟩

/-- R190, object 18:0003.05. -/
def ltc_loss_frames : Obj :=
  ⟨"ltc_loss_frames", 0x18000305, 256, 1, 1, .u8, .rw, true, .ins, .live, .const 3, .ivals [(1, 25)], "frames", true⟩

/-- R190, object 18:0003.06. -/
def ltc_freewheel_frames : Obj :=
  ⟨"ltc_freewheel_frames", 0x18000306, 256, 1, 1, .u16, .rw, true, .ins, .live, .const 25, .ivals [(0, 7500)], "frames", true⟩

/-- R190, object 18:0003.07. -/
def ltc_publish : Obj :=
  ⟨"ltc_publish", 0x18000307, 256, 1, 1, .bool, .rw, true, .ins, .live, .const 0, .any, "", true⟩

/-- R190, object 18:0003.08. -/
def ltc_state : Obj :=
  ⟨"ltc_state", 0x18000308, 256, 1, 1, .enum8, .ro, false, .obs, .none, .const 0, .enum [(0, "NONE"), (1, "LOCKING"), (2, "LOCKED"), (3, "FREEWHEEL"), (4, "LOST")], "", false⟩

/-- R190, object 18:0003.09. -/
def ltc_last : Obj :=
  ⟨"ltc_last", 0x18000309, 256, 1, 1, .u32, .ro, false, .obs, .none, .const 0, .any, "", false⟩

/-- R190, object 18:0003.0A. -/
def ltc_user_bits : Obj :=
  ⟨"ltc_user_bits", 0x1800030A, 256, 1, 1, .u32, .ro, false, .obs, .none, .const 0, .any, "", false⟩

/-- R190, object 18:0004.00. -/
def ltc_out_enable : Obj :=
  ⟨"ltc_out_enable", 0x18000400, 256, 1, 1, .bool, .rw, true, .ins, .live, .const 0, .any, "", true⟩

/-- R190, object 18:0004.01. -/
def ltc_out_rate : Obj :=
  ⟨"ltc_out_rate", 0x18000401, 256, 1, 1, .enum8, .rw, true, .ins, .live, .const 1, .enum [(0, "FR24"), (1, "FR25"), (2, "FR2997DF"), (3, "FR2997ND"), (4, "FR30")], "", true⟩

/-- R190, object 18:0004.02. -/
def ltc_out_offset : Obj :=
  ⟨"ltc_out_offset", 0x18000402, 256, 1, 1, .st64, .rw, true, .ins, .live, .const 0, .any, "ns", true⟩

/-- R190, object 18:0004.03. -/
def ltc_out_user_bits : Obj :=
  ⟨"ltc_out_user_bits", 0x18000403, 256, 1, 1, .u32, .rw, true, .ins, .live, .const 0, .any, "", true⟩

/-- R198, object 18:0100.00 … 18:04FF.00. -/
def act_kind : Obj :=
  ⟨"act_kind", 0x18010000, 256, 1024, 1, .enum8, .rs, true, .opr, .staged, .const 0, .enum [(0, "EMPTY"), (1, "TXN"), (2, "CUE"), (3, "CLIP_START"), (4, "PROOF_WINDOW")], "", true⟩

/-- R198, object 18:0100.01 … 18:04FF.01. -/
def act_timebase : Obj :=
  ⟨"act_timebase", 0x18010001, 256, 1024, 1, .enum8, .rs, true, .opr, .staged, .const 0, .enum [(0, "BLOCK"), (1, "SHOW")], "", true⟩

/-- R198, object 18:0100.02 … 18:04FF.02. -/
def act_block : Obj :=
  ⟨"act_block", 0x18010002, 256, 1024, 1, .u64, .rs, true, .opr, .staged, .const 0, .any, "blocks", true⟩

/-- R198, object 18:0100.03 … 18:04FF.03. -/
def act_show : Obj :=
  ⟨"act_show", 0x18010003, 256, 1024, 1, .st64, .rs, true, .opr, .staged, .const 0, .any, "ns", true⟩

/-- R198, object 18:0100.04 … 18:04FF.04. -/
def act_repeat : Obj :=
  ⟨"act_repeat", 0x18010004, 256, 1024, 1, .u32, .rs, true, .opr, .staged, .const 0, .ivals [(0, 0), (1, 259200000)], "blocks", true⟩

/-- R198, object 18:0100.05 … 18:04FF.05. -/
def act_arg : Obj :=
  ⟨"act_arg", 0x18010005, 256, 1024, 1, .u32, .rs, true, .opr, .staged, .const 0, .any, "", true⟩

/-- R198, object 18:0100.06 … 18:04FF.06. -/
def act_payload : Obj :=
  ⟨"act_payload", 0x18010006, 256, 1024, 1, .blob, .rs, true, .opr, .staged, .const 0, .blob 0 65536 1, "", true⟩

/-- R198, object 18:0100.07 … 18:04FF.07. -/
def act_late : Obj :=
  ⟨"act_late", 0x18010007, 256, 1024, 1, .enum8, .rs, true, .opr, .staged, .byKind [0, 0, 0, 1, 0], .enum [(0, "APPLY_NEXT"), (1, "DROP")], "", true⟩

/-- R198, object 18:0100.08 … 18:04FF.08. -/
def act_on_skip : Obj :=
  ⟨"act_on_skip", 0x18010008, 256, 1024, 1, .enum8, .rs, true, .opr, .staged, .byKind [0, 0, 0, 1, 1], .enum [(0, "FIRE"), (1, "SKIP")], "", true⟩

/-- R198, object 18:0100.09 … 18:04FF.09. -/
def act_on_back : Obj :=
  ⟨"act_on_back", 0x18010009, 256, 1024, 1, .enum8, .rs, true, .opr, .staged, .const 0, .enum [(0, "REARM"), (1, "KEEP")], "", true⟩

/-- R198, object 18:0100.0A … 18:04FF.0A. -/
def act_wake : Obj :=
  ⟨"act_wake", 0x1801000A, 256, 1024, 1, .bool, .rs, true, .opr, .staged, .const 0, .any, "", true⟩

/-- R198, object 18:0100.0B … 18:04FF.0B. -/
def act_state : Obj :=
  ⟨"act_state", 0x1801000B, 256, 1024, 1, .enum8, .ro, false, .obs, .none, .const 0, .enum [(0, "IDLE"), (1, "ARMED"), (2, "FIRED"), (3, "MISSED"), (4, "SKIPPED")], "", true⟩

/-- R198, object 18:0100.0C … 18:04FF.0C. -/
def act_fired_block : Obj :=
  ⟨"act_fired_block", 0x1801000C, 256, 1024, 1, .u64, .ro, false, .obs, .none, .const 0, .any, "blocks", false⟩

/-- R198, object 18:0100.0D … 18:04FF.0D. -/
def act_late_count : Obj :=
  ⟨"act_late_count", 0x1801000D, 256, 1024, 1, .u32, .ro, false, .obs, .none, .const 0, .any, "", true⟩

/-- R222, object 19:0000.00. -/
def txn_lead : Obj :=
  ⟨"txn_lead", 0x19000000, 256, 1, 1, .u16, .rw, true, .ins, .liveSample, .const 9, .ivals [(6, 3000)], "blocks", true⟩

/-- R222, object 19:0000.01. -/
def admit_ceiling : Obj :=
  ⟨"admit_ceiling", 0x19000001, 256, 1, 1, .u8, .rw, true, .own, .liveSample, .const 90, .ivals [(50, 100)], "%", true⟩

/-- R222, object 19:0000.02. -/
def txn_commit_wait : Obj :=
  ⟨"txn_commit_wait", 0x19000002, 256, 1, 1, .u16, .rw, true, .ins, .liveSample, .const 1000, .ivals [(0, 60000)], "ms", true⟩

/-- R222, object 19:0000.03. -/
def txn_indoubt_alarm : Obj :=
  ⟨"txn_indoubt_alarm", 0x19000003, 256, 1, 1, .u16, .rw, true, .ins, .liveSample, .const 1000, .ivals [(10, 60000)], "ms", true⟩

/-- R222, object 19:0000.04. -/
def txn_outcome_keep : Obj :=
  ⟨"txn_outcome_keep", 0x19000004, 256, 1, 1, .u16, .rw, true, .ins, .liveSample, .const 60, .ivals [(10, 3600)], "s", true⟩

/-- R222, object 19:0000.05. -/
def txn_open : Obj :=
  ⟨"txn_open", 0x19000005, 256, 1, 1, .u8, .ro, false, .obs, .none, .const 0, .ivals [(0, 16)], "", false⟩

/-- R222, object 19:0000.06. -/
def txn_applied : Obj :=
  ⟨"txn_applied", 0x19000006, 256, 1, 1, .u32, .ro, false, .obs, .none, .const 0, .any, "", true⟩

/-- R222, object 19:0000.07. -/
def txn_aborted : Obj :=
  ⟨"txn_aborted", 0x19000007, 256, 1, 1, .u32, .ro, false, .obs, .none, .const 0, .any, "", true⟩

/-- R222, object 19:0000.08. -/
def txn_late : Obj :=
  ⟨"txn_late", 0x19000008, 256, 1, 1, .u32, .ro, false, .obs, .none, .const 0, .any, "", true⟩

/-- R222, object 19:0000.09. -/
def txn_in_doubt : Obj :=
  ⟨"txn_in_doubt", 0x19000009, 256, 1, 1, .u8, .ro, false, .obs, .none, .const 0, .ivals [(0, 16)], "", false⟩

/-- R222, object 19:0000.0A. -/
def txn_resolved : Obj :=
  ⟨"txn_resolved", 0x1900000A, 256, 1, 1, .u32, .ro, false, .obs, .none, .const 0, .any, "", true⟩

/-- R222, object 19:0001.00. -/
def pres_offset : Obj :=
  ⟨"pres_offset", 0x19000100, 256, 1, 1, .u8, .rw, true, .own, .stopped, .const 3, .ivals [(3, 60)], "blocks", true⟩

/-- R222, object 19:0001.01. -/
def pres_fast_path : Obj :=
  ⟨"pres_fast_path", 0x19000101, 256, 1, 1, .bool, .rw, true, .ins, .stopped, .const 1, .any, "", true⟩

/-- R222, object 19:0001.02. -/
def pres_latency : Obj :=
  ⟨"pres_latency", 0x19000102, 256, 1, 1, .f32, .ro, false, .obs, .none, .const 0, .any, "µs", false⟩

/-- R222, object 19:0020.00. -/
def txn_resolve_commit : Obj :=
  ⟨"txn_resolve_commit", 0x19002000, 256, 1, 1, .u32, .wo, false, .own, .liveSample, .const 0, .any, "", false⟩

/-- R222, object 19:0020.01. -/
def txn_resolve_abort : Obj :=
  ⟨"txn_resolve_abort", 0x19002001, 256, 1, 1, .u32, .wo, false, .own, .liveSample, .const 0, .any, "", false⟩

/-- R222, object 19:0100.00 … 19:010F.00. -/
def slot_txn_id : Obj :=
  ⟨"slot_txn_id", 0x19010000, 256, 16, 1, .u32, .ro, false, .obs, .none, .const 0, .any, "", true⟩

/-- R222, object 19:0100.01 … 19:010F.01. -/
def slot_state : Obj :=
  ⟨"slot_state", 0x19010001, 256, 16, 1, .enum8, .ro, false, .obs, .none, .const 0, .enum [(1, "OPEN"), (2, "PREPARING"), (3, "PREPARED"), (4, "COMMITTED"), (5, "APPLIED"), (6, "ABORTED"), (7, "IN_DOUBT"), (8, "APPLIED_LATE")], "", false⟩

/-- R222, object 19:0100.02 … 19:010F.02. -/
def slot_scope : Obj :=
  ⟨"slot_scope", 0x19010002, 256, 16, 1, .enum8, .ro, false, .obs, .none, .const 0, .enum [(0, "LOCAL"), (1, "FABRIC")], "", false⟩

/-- R222, object 19:0100.03 … 19:010F.03. -/
def slot_apply_block : Obj :=
  ⟨"slot_apply_block", 0x19010003, 256, 16, 1, .u64, .ro, false, .obs, .none, .const 0, .any, "blocks", false⟩

/-- R222, object 19:0100.04 … 19:010F.04. -/
def slot_reason : Obj :=
  ⟨"slot_reason", 0x19010004, 256, 16, 1, .enum8, .ro, false, .obs, .none, .const 0, .enum [(0, "NONE"), (1, "BUDGET"), (2, "VALIDATION"), (3, "INCOMPLETE"), (4, "CONFLICT"), (5, "LATE"), (6, "NOT_ELIGIBLE"), (7, "TXN_FULL"), (8, "MISSING"), (9, "USER_ABORT"), (10, "NO_COMMIT"), (11, "RESOLVED"), (12, "INTEGRITY")], "", false⟩

/-- The objects of this file, for the search by address. -/
def objsShow : List Obj :=
  [show_source, show_state, show_time, show_rate_now, show_jumps, show_jump_threshold, cue_last, cue_count, show_map_st, show_map_nt, show_map_rate, show_resume_rate, show_run, show_jump, show_set_rate, ltc_rate, ltc_offset, ltc_tolerance, ltc_window, ltc_lock_frames] ++
  [ltc_loss_frames, ltc_freewheel_frames, ltc_publish, ltc_state, ltc_last, ltc_user_bits, ltc_out_enable, ltc_out_rate, ltc_out_offset, ltc_out_user_bits, act_kind, act_timebase, act_block, act_show, act_repeat, act_arg, act_payload, act_late, act_on_skip, act_on_back] ++
  [act_wake, act_state, act_fired_block, act_late_count, txn_lead, admit_ceiling, txn_commit_wait, txn_indoubt_alarm, txn_outcome_keep, txn_open, txn_applied, txn_aborted, txn_late, txn_in_doubt, txn_resolved, pres_offset, pres_fast_path, pres_latency, txn_resolve_commit, txn_resolve_abort] ++
  [slot_txn_id, slot_state, slot_scope, slot_apply_block, slot_reason]

end Sys2Proof.Machine.D
end

