-- ==== Sys2Proof/Machine/DictStart.lean ====
section
/-! DEFINITION. The dictionary objects of chapter 01: one definition per row of its
object tables, in the order of the rows. The rule in each docstring is the rule whose
table lists the object. -/

namespace Sys2Proof.Machine.D

/-- R39, object 02:0100.00. -/
def boot_strap : Obj :=
  ⟨"boot_strap", 0x2010000, 256, 1, 1, .enum8, .ro, false, .obs, .none, .const 0, .enum [(0, "NAND"), (1, "HSPI"), (2, "MGT"), (3, "CONSOLE")], "", false⟩

/-- R39, object 02:0100.01. -/
def twin_slot : Obj :=
  ⟨"twin_slot", 0x2010001, 256, 1, 1, .u8, .ro, false, .obs, .none, .const 0, .ivals [(0, 1)], "", false⟩

/-- R39, object 02:0100.02. -/
def reset_cause : Obj :=
  ⟨"reset_cause", 0x2010002, 256, 1, 1, .enum8, .ro, false, .obs, .none, .const 0, .enum [(0, "POWER_ON"), (1, "NRESET"), (2, "UVLO"), (3, "THERMAL"), (4, "WATCHDOG"), (5, "SOFTWARE")], "", false⟩

/-- The objects of this file, for the search by address. -/
def objsStart : List Obj :=
  [boot_strap, twin_slot, reset_cause]

end Sys2Proof.Machine.D
end

