-- ==== Sys2Proof/Machine/DictTime.lean ====
section
/-! DEFINITION. The dictionary objects of chapter 03: one definition per row of its
object tables, in the order of the rows. The rule in each docstring is the rule whose
table lists the object. -/

namespace Sys2Proof.Machine.D

/-- R136, object 10:0010.00. -/
def dom_enable : Obj :=
  ⟨"dom_enable", 0x10001000, 256, 2, 1, .bool, .rw, true, .ins, .liveSample, .idx [1, 0], .any, "", true⟩

/-- R136, object 10:0010.01. -/
def dom_profile : Obj :=
  ⟨"dom_profile", 0x10001001, 256, 2, 1, .enum8, .rw, true, .ins, .stopped, .idx [2, 1], .enum [(0, "DEFAULT_E2E"), (1, "DEFAULT_P2P"), (2, "GPTP")], "", true⟩

/-- R136, object 10:0010.02. -/
def dom_number : Obj :=
  ⟨"dom_number", 0x10001002, 256, 2, 1, .u8, .rw, true, .ins, .stopped, .idx [0, 1], .ivals [(0, 127)], "", true⟩

/-- R136, object 10:0010.03. -/
def dom_transport : Obj :=
  ⟨"dom_transport", 0x10001003, 256, 2, 1, .enum8, .rw, true, .ins, .stopped, .const 0, .enum [(0, "L2"), (1, "UDP_IPV4")], "", true⟩

/-- R136, object 10:0010.04. -/
def dom_ports : Obj :=
  ⟨"dom_ports", 0x10001004, 256, 2, 1, .bits32, .rw, true, .ins, .stopped, .const 63, .mask 0x7F, "", true⟩

/-- R136, object 10:0010.05. -/
def dom_slave_only : Obj :=
  ⟨"dom_slave_only", 0x10001005, 256, 2, 1, .bool, .rw, true, .ins, .stopped, .const 1, .any, "", true⟩

/-- R136, object 10:0010.06. -/
def dom_priority1 : Obj :=
  ⟨"dom_priority1", 0x10001006, 256, 2, 1, .u8, .rw, true, .ins, .liveSample, .const 248, .ivals [(0, 255)], "", true⟩

/-- R136, object 10:0010.07. -/
def dom_priority2 : Obj :=
  ⟨"dom_priority2", 0x10001007, 256, 2, 1, .u8, .rw, true, .ins, .liveSample, .const 248, .ivals [(0, 255)], "", true⟩

/-- R136, object 10:0010.08. -/
def dom_log_sync : Obj :=
  ⟨"dom_log_sync", 0x10001008, 256, 2, 1, .i16, .rw, true, .ins, .stopped, .const 65533, .ivals [(-7, 0)], "s", true⟩

/-- R136, object 10:0010.09. -/
def dom_announce_timeout : Obj :=
  ⟨"dom_announce_timeout", 0x10001009, 256, 2, 1, .u8, .rw, true, .ins, .stopped, .const 3, .ivals [(2, 10)], "", true⟩

/-- R136, object 10:0010.0A. -/
def dom_holdover_limit : Obj :=
  ⟨"dom_holdover_limit", 0x1000100A, 256, 2, 1, .u16, .rw, true, .ins, .liveSample, .const 60, .ivals [(1, 3600)], "s", true⟩

/-- R136, object 10:0010.0B. -/
def dom_lock_threshold : Obj :=
  ⟨"dom_lock_threshold", 0x1000100B, 256, 2, 1, .u16, .rw, true, .ins, .liveSample, .const 50, .ivals [(10, 10000)], "ns", true⟩

/-- R136, object 10:0010.0C. -/
def dom_servo_enable : Obj :=
  ⟨"dom_servo_enable", 0x1000100C, 256, 2, 1, .bool, .rw, true, .own, .liveSample, .const 1, .any, "", true⟩

/-- R136, object 10:0010.0D. -/
def dom_rate : Obj :=
  ⟨"dom_rate", 0x1000100D, 256, 2, 1, .i32, .rw, false, .own, .liveSample, .const 0, .ivals [(-2147483, 2147483)], "ppm", true⟩

/-- R136, object 10:0010.0E. -/
def dom_adjust : Obj :=
  ⟨"dom_adjust", 0x1000100E, 256, 2, 1, .i32, .wo, false, .own, .liveSample, .const 0, .ivals [(-1000000000, 1000000000)], "ns", false⟩

/-- R136, object 10:0010.10. -/
def dom_state : Obj :=
  ⟨"dom_state", 0x10001010, 256, 2, 1, .enum8, .ro, false, .obs, .none, .const 0, .enum [(0, "DISABLED"), (1, "LISTENING"), (2, "ACQUIRING"), (3, "LOCKED"), (4, "HOLDOVER"), (5, "LOST"), (6, "GRANDMASTER")], "", false⟩

/-- R136, object 10:0010.11. -/
def dom_time : Obj :=
  ⟨"dom_time", 0x10001011, 256, 2, 1, .t80, .ro, false, .obs, .none, .const 0, .any, "ns", false⟩

/-- R136, object 10:0010.12. -/
def dom_offset_from_master : Obj :=
  ⟨"dom_offset_from_master", 0x10001012, 256, 2, 1, .f32, .ro, false, .obs, .none, .const 0, .any, "ns", false⟩

/-- R136, object 10:0010.13. -/
def dom_gm_identity : Obj :=
  ⟨"dom_gm_identity", 0x10001013, 256, 2, 1, .u64, .ro, false, .obs, .none, .const 0, .any, "", false⟩

/-- R136, object 10:0010.14. -/
def dom_steps_removed : Obj :=
  ⟨"dom_steps_removed", 0x10001014, 256, 2, 1, .u16, .ro, false, .obs, .none, .const 0, .any, "hops", false⟩

/-- R136, object 10:0010.15. -/
def dom_parent_port : Obj :=
  ⟨"dom_parent_port", 0x10001015, 256, 2, 1, .enum8, .ro, false, .obs, .none, .const 7, .enum [(0, "FAB0"), (1, "FAB1"), (2, "FAB2"), (3, "FAB3"), (4, "FAB4"), (5, "FAB5"), (6, "MGT"), (7, "NONE")], "", false⟩

/-- R140, object 10:0100.00 … 10:0106.00. -/
def ts_tx_adjust : Obj :=
  ⟨"ts_tx_adjust", 0x10010000, 256, 7, 1, .i32, .rw, true, .ins, .liveSample, .const 0, .ivals [(-100000, 100000)], "ps", true⟩

/-- R140, object 10:0100.01 … 10:0106.01. -/
def ts_rx_adjust : Obj :=
  ⟨"ts_rx_adjust", 0x10010001, 256, 7, 1, .i32, .rw, true, .ins, .liveSample, .const 0, .ivals [(-100000, 100000)], "ps", true⟩

/-- R140, object 10:0100.02 … 10:0106.02. -/
def ts_delay_asymmetry : Obj :=
  ⟨"ts_delay_asymmetry", 0x10010002, 256, 7, 1, .i32, .rw, true, .ins, .liveSample, .const 0, .ivals [(-1000000, 1000000)], "ps", true⟩

/-- R140, object 10:0100.03 … 10:0106.03. -/
def ts_resolution : Obj :=
  ⟨"ts_resolution", 0x10010003, 256, 7, 1, .u16, .ro, false, .obs, .none, .const 0, .any, "ps", false⟩

/-- R140, object 10:0100.04 … 10:0106.04. -/
def ts_link_delay : Obj :=
  ⟨"ts_link_delay", 0x10010004, 256, 7, 1, .f32, .ro, false, .obs, .none, .const 0, .any, "ns", false⟩

/-- R147, object 10:0000.00. -/
def local_time : Obj :=
  ⟨"local_time", 0x10000000, 256, 1, 1, .t80, .ro, false, .obs, .none, .const 0, .any, "ns", false⟩

/-- R147, object 10:0000.01. -/
def tb_increment : Obj :=
  ⟨"tb_increment", 0x10000001, 256, 1, 1, .u64, .rw, false, .own, .liveSample, .const 0x666666666, .ivals [(27474046799, 27501534589)], "ns", true⟩

/-- R147, object 10:0000.02. -/
def synt_source : Obj :=
  ⟨"synt_source", 0x10000002, 256, 1, 1, .enum8, .rw, true, .ins, .liveSample, .const 0, .enum [(0, "AUTO"), (1, "OFF"), (2, "FAB0"), (3, "FAB1"), (4, "FAB2"), (5, "FAB3"), (6, "FAB4"), (7, "FAB5")], "", true⟩

/-- R147, object 10:0000.03. -/
def synt_state : Obj :=
  ⟨"synt_state", 0x10000003, 256, 1, 1, .enum8, .ro, false, .obs, .none, .const 0, .enum [(0, "OFF"), (1, "FREE"), (2, "ACQUIRING"), (3, "LOCKED"), (4, "HOLDOVER")], "", false⟩

/-- R147, object 10:0000.04. -/
def synt_port : Obj :=
  ⟨"synt_port", 0x10000004, 256, 1, 1, .enum8, .ro, false, .obs, .none, .const 0, .enum [(0, "AUTO"), (1, "OFF"), (2, "FAB0"), (3, "FAB1"), (4, "FAB2"), (5, "FAB3"), (6, "FAB4"), (7, "FAB5")], "", false⟩

/-- R147, object 10:0000.05. -/
def synt_freq_offset : Obj :=
  ⟨"synt_freq_offset", 0x10000005, 256, 1, 1, .f32, .ro, false, .obs, .none, .const 0, .any, "ppm", false⟩

/-- R158, object 10:0000.10. -/
def media_source : Obj :=
  ⟨"media_source", 0x10000010, 256, 1, 1, .enum8, .rs, true, .ins, .staged, .const 0, .enum [(0, "DOMAIN_A"), (1, "DOMAIN_B"), (2, "WORD_CLOCK"), (3, "FREE_RUN")], "", true⟩

/-- R158, object 10:0000.11. -/
def media_failover : Obj :=
  ⟨"media_failover", 0x10000011, 256, 1, 1, .enum8, .rw, true, .ins, .live, .const 1, .enum [(0, "OFF"), (1, "A_TO_B"), (2, "EITHER")], "", true⟩

/-- R158, object 10:0000.12. -/
def media_revert : Obj :=
  ⟨"media_revert", 0x10000012, 256, 1, 1, .bool, .rw, true, .ins, .live, .const 0, .any, "", true⟩

/-- R158, object 10:0000.13. -/
def media_slew : Obj :=
  ⟨"media_slew", 0x10000013, 256, 1, 1, .u16, .rw, true, .ins, .live, .const 1000, .ivals [(100, 10000)], "ppb", true⟩

/-- R158, object 10:0000.14. -/
def media_step_threshold : Obj :=
  ⟨"media_step_threshold", 0x10000014, 256, 1, 1, .u32, .rw, true, .ins, .live, .const 0xF4240, .ivals [(1000, 100000000)], "ns", true⟩

/-- R158, object 10:0000.15. -/
def media_source_now : Obj :=
  ⟨"media_source_now", 0x10000015, 256, 1, 1, .enum8, .ro, false, .obs, .none, .const 0, .enum [(0, "DOMAIN_A"), (1, "DOMAIN_B"), (2, "WORD_CLOCK"), (3, "FREE_RUN"), (4, "FALLBACK")], "", false⟩

/-- R158, object 10:0000.16. -/
def media_bridge : Obj :=
  ⟨"media_bridge", 0x10000016, 256, 1, 1, .i32, .ro, false, .obs, .none, .const 0, .any, "ns", false⟩

/-- R158, object 10:0000.17. -/
def media_time : Obj :=
  ⟨"media_time", 0x10000017, 256, 1, 1, .t80, .ro, false, .obs, .none, .const 0, .any, "ns", false⟩

/-- R158, object 10:0000.18. -/
def media_sample : Obj :=
  ⟨"media_sample", 0x10000018, 256, 1, 1, .msi64, .ro, false, .obs, .none, .const 0, .any, "samples", false⟩

/-- R158, object 10:0000.19. -/
def media_block : Obj :=
  ⟨"media_block", 0x10000019, 256, 1, 1, .u64, .ro, false, .obs, .none, .const 0, .any, "blocks", false⟩

/-- R158, object 10:0000.1A. -/
def media_steps : Obj :=
  ⟨"media_steps", 0x1000001A, 256, 1, 1, .u32, .ro, false, .obs, .none, .const 0, .any, "", true⟩

/-- R158, object 10:0000.1B. -/
def media_switches : Obj :=
  ⟨"media_switches", 0x1000001B, 256, 1, 1, .u32, .ro, false, .obs, .none, .const 0, .any, "", true⟩

/-- R158, object 12:0010.00. -/
def wclk_state : Obj :=
  ⟨"wclk_state", 0x12001000, 256, 1, 1, .enum8, .ro, false, .obs, .none, .const 0, .enum [(0, "NONE"), (1, "VALID"), (2, "LOST")], "", false⟩

/-- R158, object 12:0010.01. -/
def wclk_in_freq : Obj :=
  ⟨"wclk_in_freq", 0x12001001, 256, 1, 1, .f32, .ro, false, .obs, .none, .const 0, .any, "Hz", false⟩

/-- R158, object 12:0010.02. -/
def wclk_loss_periods : Obj :=
  ⟨"wclk_loss_periods", 0x12001002, 256, 1, 1, .u8, .rw, true, .ins, .liveSample, .const 4, .ivals [(2, 64)], "", true⟩

/-- R158, object 12:0010.03. -/
def wclk_out_enable : Obj :=
  ⟨"wclk_out_enable", 0x12001003, 256, 1, 1, .bool, .rw, true, .ins, .liveSample, .const 1, .any, "", true⟩

/-- R158, object 12:0010.04. -/
def wclk_out_offset : Obj :=
  ⟨"wclk_out_offset", 0x12001004, 256, 1, 1, .i32, .rw, true, .ins, .liveSample, .const 0, .ivals [(-10000, 10000)], "ns", true⟩

/-- R164, object 11:0000.00 … 11:0005.00. -/
def ev_mode : Obj :=
  ⟨"ev_mode", 0x11000000, 256, 6, 1, .enum8, .rw, true, .ins, .liveSample, .idx [0, 0, 0, 0, 2, 0], .enum [(0, "OFF"), (1, "ONCE"), (2, "PERIODIC"), (3, "PERIODIC_SAMPLES"), (4, "CAPTURE_RISE"), (5, "CAPTURE_FALL"), (6, "CAPTURE_BOTH")], "", true⟩

/-- R164, object 11:0000.01 … 11:0005.01. -/
def ev_timebase : Obj :=
  ⟨"ev_timebase", 0x11000001, 256, 6, 1, .enum8, .rw, true, .ins, .liveSample, .const 3, .enum [(0, "LOCAL"), (1, "DOMAIN_A"), (2, "DOMAIN_B"), (3, "MEDIA")], "", true⟩

/-- R164, object 11:0000.02 … 11:0005.02. -/
def ev_start : Obj :=
  ⟨"ev_start", 0x11000002, 256, 6, 1, .t80, .rw, true, .ins, .liveSample, .const 0, .any, "ns", true⟩

/-- R164, object 11:0000.03 … 11:0005.03. -/
def ev_period : Obj :=
  ⟨"ev_period", 0x11000003, 256, 6, 1, .u64, .rw, true, .ins, .liveSample, .const 0x3B9ACA000000, .ivals [(6553600, 235929600000000000)], "ns", true⟩

/-- R164, object 11:0000.04 … 11:0005.04. -/
def ev_start_sample : Obj :=
  ⟨"ev_start_sample", 0x11000004, 256, 6, 1, .msi64, .rw, true, .ins, .liveSample, .const 0, .any, "samples", true⟩

/-- R164, object 11:0000.05 … 11:0005.05. -/
def ev_period_samples : Obj :=
  ⟨"ev_period_samples", 0x11000005, 256, 6, 1, .u32, .rw, true, .ins, .liveSample, .const 48000, .ivals [(1, 345600000)], "samples", true⟩

/-- R164, object 11:0000.06 … 11:0005.06. -/
def ev_width : Obj :=
  ⟨"ev_width", 0x11000006, 256, 6, 1, .u64, .rw, true, .ins, .liveSample, .const 0x186A0, .ivals [(20, 3600000000000)], "ns", true⟩

/-- R164, object 11:0000.07 … 11:0005.07. -/
def ev_polarity : Obj :=
  ⟨"ev_polarity", 0x11000007, 256, 6, 1, .enum8, .rw, true, .ins, .liveSample, .const 0, .enum [(0, "HIGH"), (1, "LOW")], "", true⟩

/-- R164, object 11:0000.08 … 11:0005.08. -/
def ev_late : Obj :=
  ⟨"ev_late", 0x11000008, 256, 6, 1, .enum8, .rw, true, .ins, .liveSample, .const 0, .enum [(0, "DROP"), (1, "FIRE_NOW")], "", true⟩

/-- R164, object 11:0000.09 … 11:0005.09. -/
def ev_adjust : Obj :=
  ⟨"ev_adjust", 0x11000009, 256, 6, 1, .i32, .rw, true, .ins, .liveSample, .const 0, .ivals [(-100000, 100000)], "ps", true⟩

/-- R164, object 11:0000.0A … 11:0005.0A. -/
def ev_status : Obj :=
  ⟨"ev_status", 0x1100000A, 256, 6, 1, .bits32, .ro, false, .obs, .none, .const 0, .any, "", false⟩

/-- R164, object 11:0000.0B … 11:0005.0B. -/
def ev_skipped : Obj :=
  ⟨"ev_skipped", 0x1100000B, 256, 6, 1, .u32, .ro, false, .obs, .none, .const 0, .any, "", true⟩

/-- R164, object 11:0000.0C … 11:0005.0C. -/
def ev_count : Obj :=
  ⟨"ev_count", 0x1100000C, 256, 6, 1, .u8, .ro, false, .obs, .none, .const 0, .ivals [(0, 16)], "", true⟩

/-- R164, object 11:0000.0D … 11:0005.0D. -/
def ev_head : Obj :=
  ⟨"ev_head", 0x1100000D, 256, 6, 1, .t80, .ro, false, .obs, .none, .const 0, .any, "ns", false⟩

/-- R164, object 11:0000.0E … 11:0005.0E. -/
def ev_head_edge : Obj :=
  ⟨"ev_head_edge", 0x1100000E, 256, 6, 1, .enum8, .ro, false, .obs, .none, .const 0, .enum [(0, "RISE"), (1, "FALL")], "", false⟩

/-- R164, object 11:0000.0F … 11:0005.0F. -/
def ev_pop : Obj :=
  ⟨"ev_pop", 0x1100000F, 256, 6, 1, .bool, .wo, false, .opr, .liveSample, .const 0, .ivals [(1, 1)], "", false⟩

/-- R164, object 11:0000.10 … 11:0005.10. -/
def ev_merged : Obj :=
  ⟨"ev_merged", 0x11000010, 256, 6, 1, .u32, .ro, false, .obs, .none, .const 0, .any, "", true⟩

/-- R164, object 11:0000.11 … 11:0005.11. -/
def ev_lost : Obj :=
  ⟨"ev_lost", 0x11000011, 256, 6, 1, .u32, .ro, false, .obs, .none, .const 0, .any, "", true⟩

/-- R168, object 11:0010.00 … 11:0016.00. -/
def launch_guard : Obj :=
  ⟨"launch_guard", 0x11001000, 256, 7, 1, .bool, .rw, true, .ins, .liveSample, .const 1, .any, "", true⟩

/-- R168, object 11:0010.01 … 11:0016.01. -/
def launch_late : Obj :=
  ⟨"launch_late", 0x11001001, 256, 7, 1, .u32, .ro, false, .obs, .none, .const 0, .any, "", true⟩

/-- R168, object 11:0010.02 … 11:0016.02. -/
def launch_drops : Obj :=
  ⟨"launch_drops", 0x11001002, 256, 7, 1, .u32, .ro, false, .obs, .none, .const 0, .any, "", true⟩

/-- R175, object 12:0000.00. -/
def render_rate : Obj :=
  ⟨"render_rate", 0x12000000, 256, 1, 1, .enum8, .rw, true, .own, .stopped, .const 0, .enum [(0, "FS_48K"), (1, "FS_96K")], "", true⟩

/-- R175, object 12:0000.01. -/
def apll_mult : Obj :=
  ⟨"apll_mult", 0x12000001, 256, 1, 1, .enum8, .rw, true, .ins, .stopped, .const 0, .enum [(0, "AUTO"), (1, "X3072"), (2, "X6144")], "", true⟩

/-- R175, object 12:0000.02. -/
def mclk1_div : Obj :=
  ⟨"mclk1_div", 0x12000002, 256, 1, 1, .enum8, .rw, true, .ins, .stopped, .const 0, .enum [(0, "DIV1"), (1, "DIV2")], "", true⟩

/-- R175, object 12:0000.03. -/
def mclk0_enable : Obj :=
  ⟨"mclk0_enable", 0x12000003, 256, 1, 1, .bool, .rw, true, .ins, .liveSample, .const 1, .any, "", true⟩

/-- R175, object 12:0000.04. -/
def mclk1_enable : Obj :=
  ⟨"mclk1_enable", 0x12000004, 256, 1, 1, .bool, .rw, true, .ins, .liveSample, .const 0, .any, "", true⟩

/-- R175, object 12:0000.05. -/
def apll_state : Obj :=
  ⟨"apll_state", 0x12000005, 256, 1, 1, .enum8, .ro, false, .obs, .none, .const 0, .enum [(0, "OFF"), (1, "ACQUIRING"), (2, "LOCKED")], "", false⟩

/-- R175, object 12:0000.06. -/
def apll_phase_error : Obj :=
  ⟨"apll_phase_error", 0x12000006, 256, 1, 1, .f32, .ro, false, .obs, .none, .const 0, .any, "ns", false⟩

/-- R175, object 12:0000.07. -/
def apll_unlocks : Obj :=
  ⟨"apll_unlocks", 0x12000007, 256, 1, 1, .u32, .ro, false, .obs, .none, .const 0, .any, "", true⟩

/-- R175, object 12:0000.08. -/
def apll_cp_current : Obj :=
  ⟨"apll_cp_current", 0x12000008, 256, 1, 1, .u8, .ro, false, .obs, .none, .const 0, .any, "µA", false⟩

/-- The objects of this file, for the search by address. -/
def objsTime : List Obj :=
  [dom_enable, dom_profile, dom_number, dom_transport, dom_ports, dom_slave_only, dom_priority1, dom_priority2, dom_log_sync, dom_announce_timeout, dom_holdover_limit, dom_lock_threshold, dom_servo_enable, dom_rate, dom_adjust, dom_state, dom_time, dom_offset_from_master, dom_gm_identity, dom_steps_removed] ++
  [dom_parent_port, ts_tx_adjust, ts_rx_adjust, ts_delay_asymmetry, ts_resolution, ts_link_delay, local_time, tb_increment, synt_source, synt_state, synt_port, synt_freq_offset, media_source, media_failover, media_revert, media_slew, media_step_threshold, media_source_now, media_bridge, media_time] ++
  [media_sample, media_block, media_steps, media_switches, wclk_state, wclk_in_freq, wclk_loss_periods, wclk_out_enable, wclk_out_offset, ev_mode, ev_timebase, ev_start, ev_period, ev_start_sample, ev_period_samples, ev_width, ev_polarity, ev_late, ev_adjust, ev_status] ++
  [ev_skipped, ev_count, ev_head, ev_head_edge, ev_pop, ev_merged, ev_lost, launch_guard, launch_late, launch_drops, render_rate, apll_mult, mclk1_div, mclk0_enable, mclk1_enable, apll_state, apll_phase_error, apll_unlocks, apll_cp_current]

end Sys2Proof.Machine.D
end

