-- ==== Sys2Proof/Machine/DictTwin.lean ====
section
/-! DEFINITION. The dictionary objects of chapter 14: one definition per row of its
object tables, in the order of the rows. The rule in each docstring is the rule whose
table lists the object. -/

namespace Sys2Proof.Machine.D

/-- R563, object 68:0000.00. -/
def twin_enable : Obj :=
  ⟨"twin_enable", 0x68000000, 256, 1, 1, .bool, .rw, true, .own, .reset, .const 0, .any, "", true⟩

/-- R563, object 68:0000.01. -/
def twin_role : Obj :=
  ⟨"twin_role", 0x68000001, 256, 1, 1, .enum8, .ro, false, .obs, .none, .const 0, .enum [(0, "SOLO"), (1, "ACTIVE"), (2, "STANDBY"), (3, "RESYNC"), (4, "FAILED")], "", false⟩

/-- R563, object 68:0000.02. -/
def twin_partner_role : Obj :=
  ⟨"twin_partner_role", 0x68000002, 256, 1, 1, .enum8, .ro, false, .obs, .none, .const 0, .enum [(0, "SOLO"), (1, "ACTIVE"), (2, "STANDBY"), (3, "RESYNC"), (4, "FAILED"), (5, "ABSENT")], "", false⟩

/-- R563, object 68:0000.03. -/
def twin_health : Obj :=
  ⟨"twin_health", 0x68000003, 256, 1, 1, .bits32, .ro, false, .obs, .none, .const 0, .any, "", true⟩

/-- R563, object 68:0000.04. -/
def twin_switch : Obj :=
  ⟨"twin_switch", 0x68000004, 256, 1, 1, .bool, .wo, false, .own, .staged, .const 0, .ivals [(1, 1)], "", false⟩

/-- R563, object 68:0000.05. -/
def twin_rejoin : Obj :=
  ⟨"twin_rejoin", 0x68000005, 256, 1, 1, .bool, .wo, false, .ins, .liveSample, .const 0, .ivals [(1, 1)], "", false⟩

/-- R563, object 68:0000.06. -/
def twin_selftest_period : Obj :=
  ⟨"twin_selftest_period", 0x68000006, 256, 1, 1, .u16, .rw, true, .ins, .liveSample, .const 60, .ivals [(10, 3600)], "s", true⟩

/-- R563, object 68:0000.07. -/
def twin_warm_blocks : Obj :=
  ⟨"twin_warm_blocks", 0x68000007, 256, 1, 1, .u32, .ro, false, .obs, .none, .const 0, .any, "blocks", false⟩

/-- R563, object 68:0000.08. -/
def twin_eligible_block : Obj :=
  ⟨"twin_eligible_block", 0x68000008, 256, 1, 1, .u64, .ro, false, .obs, .none, .const 0, .any, "", false⟩

/-- R563, object 68:0000.09. -/
def twin_takeovers : Obj :=
  ⟨"twin_takeovers", 0x68000009, 256, 1, 1, .u32, .ro, false, .obs, .none, .const 0, .any, "", true⟩

/-- R563, object 68:0000.0A. -/
def twin_last_cause : Obj :=
  ⟨"twin_last_cause", 0x6800000A, 256, 1, 1, .enum8, .ro, false, .obs, .none, .const 0, .enum [(0, "NONE"), (1, "ROLE_LINE"), (2, "HEARTBEAT"), (3, "SWITCH"), (4, "SELFTEST"), (5, "ELECTION")], "", true⟩

/-- R563, object 68:0000.0B. -/
def twin_last_block : Obj :=
  ⟨"twin_last_block", 0x6800000B, 256, 1, 1, .u64, .ro, false, .obs, .none, .const 0, .any, "", false⟩

/-- R563, object 68:0000.0C. -/
def twin_mismatches : Obj :=
  ⟨"twin_mismatches", 0x6800000C, 256, 1, 1, .u32, .ro, false, .obs, .none, .const 0, .any, "blocks", true⟩

/-- R563, object 68:0000.0D. -/
def twin_diverged : Obj :=
  ⟨"twin_diverged", 0x6800000D, 256, 1, 1, .u32, .ro, false, .obs, .none, .const 0, .any, "", true⟩

/-- R563, object 68:0000.0E. -/
def twin_selftest_unit : Obj :=
  ⟨"twin_selftest_unit", 0x6800000E, 256, 1, 1, .u8, .ro, false, .obs, .none, .const 255, .any, "", true⟩

/-- R563, object 68:0000.0F. -/
def twin_resyncs : Obj :=
  ⟨"twin_resyncs", 0x6800000F, 256, 1, 1, .u32, .ro, false, .obs, .none, .const 0, .any, "", true⟩

/-- R563, object 68:0000.10. -/
def twin_resync_restarts : Obj :=
  ⟨"twin_resync_restarts", 0x68000010, 256, 1, 1, .u32, .ro, false, .obs, .none, .const 0, .any, "", true⟩

/-- R563, object 68:0000.11. -/
def twin_journal_pending : Obj :=
  ⟨"twin_journal_pending", 0x68000011, 256, 1, 1, .u16, .ro, false, .obs, .none, .const 0, .any, "", true⟩

/-- R563, object 68:0000.12. -/
def twin_time_offset : Obj :=
  ⟨"twin_time_offset", 0x68000012, 256, 1, 1, .f32, .ro, false, .obs, .none, .const 0, .any, "ns", false⟩

/-- R563, object 68:0000.13. -/
def repair_sent : Obj :=
  ⟨"repair_sent", 0x68000013, 256, 1, 1, .u32, .ro, false, .obs, .none, .const 0, .any, "samples", true⟩

/-- R563, object 68:0000.14. -/
def repair_received : Obj :=
  ⟨"repair_received", 0x68000014, 256, 1, 1, .u32, .ro, false, .obs, .none, .const 0, .any, "samples", true⟩

/-- R563, object 68:0000.15. -/
def repair_overflow : Obj :=
  ⟨"repair_overflow", 0x68000015, 256, 1, 1, .u32, .ro, false, .obs, .none, .const 0, .any, "samples", true⟩

/-- R563, object 68:0000.16. -/
def repair_lost : Obj :=
  ⟨"repair_lost", 0x68000016, 256, 1, 1, .u32, .ro, false, .obs, .none, .const 0, .any, "frames", true⟩

/-- R563, object 68:0010.00 … 68:0011.00. -/
def lace_state : Obj :=
  ⟨"lace_state", 0x68001000, 256, 2, 1, .enum8, .ro, false, .obs, .none, .const 0, .enum [(0, "DOWN"), (1, "TRAINING"), (2, "UP"), (3, "REFUSED")], "", true⟩

/-- R563, object 68:0010.01 … 68:0011.01. -/
def lace_crc_errors : Obj :=
  ⟨"lace_crc_errors", 0x68001001, 256, 2, 1, .u32, .ro, false, .obs, .none, .const 0, .any, "", true⟩

/-- R563, object 68:0010.02 … 68:0011.02. -/
def lace_retransmits : Obj :=
  ⟨"lace_retransmits", 0x68001002, 256, 2, 1, .u32, .ro, false, .obs, .none, .const 0, .any, "", true⟩

/-- R563, object 68:0010.03 … 68:0011.03. -/
def lace_delay_asymmetry : Obj :=
  ⟨"lace_delay_asymmetry", 0x68001003, 256, 2, 1, .i32, .rw, true, .ins, .liveSample, .const 0, .ivals [(-100000, 100000)], "ps", true⟩

/-- The objects of this file, for the search by address. -/
def objsTwin : List Obj :=
  [twin_enable, twin_role, twin_partner_role, twin_health, twin_switch, twin_rejoin, twin_selftest_period, twin_warm_blocks, twin_eligible_block, twin_takeovers, twin_last_cause, twin_last_block, twin_mismatches, twin_diverged, twin_selftest_unit, twin_resyncs, twin_resync_restarts, twin_journal_pending, twin_time_offset, repair_sent] ++
  [repair_received, repair_overflow, repair_lost, lace_state, lace_crc_errors, lace_retransmits, lace_delay_asymmetry]

end Sys2Proof.Machine.D
end

