-- ==== Sys2Proof/Machine/DictWelt.lean ====
section
/-! DEFINITION. The dictionary objects of chapter 06: one definition per row of its
object tables, in the order of the rows. The rule in each docstring is the rule whose
table lists the object. -/

namespace Sys2Proof.Machine.D

/-- R290, object 39:0000.00. -/
def welt_interp : Obj :=
  ⟨"welt_interp", 0x39000000, 256, 1, 1, .enum8, .rs, true, .ins, .staged, .const 1, .enum [(0, "P4"), (1, "P8"), (2, "P16")], "", true⟩

/-- R290, object 39:0000.01. -/
def welt_out_ceiling : Obj :=
  ⟨"welt_out_ceiling", 0x39000001, 256, 1, 1, .g16, .rs, true, .ins, .staged, .const 1536, .ivals [(0, 1920)], "dBFS", true⟩

/-- R290, object 39:0000.02. -/
def welt_util : Obj :=
  ⟨"welt_util", 0x39000002, 256, 1, 1, .f32, .ro, false, .obs, .none, .const 0, .any, "%", false⟩

/-- R290, object 39:0000.03. -/
def welt_util_unshed : Obj :=
  ⟨"welt_util_unshed", 0x39000003, 256, 1, 1, .f32, .ro, false, .obs, .none, .const 0, .any, "%", false⟩

/-- R290, object 39:0000.04. -/
def welt_last_delivery : Obj :=
  ⟨"welt_last_delivery", 0x39000004, 256, 1, 1, .f32, .ro, false, .obs, .none, .const 0, .any, "µs", false⟩

/-- R290, object 39:0000.05. -/
def welt_misses : Obj :=
  ⟨"welt_misses", 0x39000005, 256, 1, 1, .u32, .ro, false, .obs, .none, .const 0, .any, "blocks", true⟩

/-- R290, object 39:0000.06. -/
def welt_shed_objects : Obj :=
  ⟨"welt_shed_objects", 0x39000006, 256, 1, 1, .u16, .ro, false, .obs, .none, .const 0, .ivals [(0, 1024)], "", true⟩

/-- R290, object 39:0000.07. -/
def welt_shed_events : Obj :=
  ⟨"welt_shed_events", 0x39000007, 256, 1, 1, .u32, .ro, false, .obs, .none, .const 0, .any, "", true⟩

/-- R290, object 39:0000.08. -/
def welt_gain_clamps : Obj :=
  ⟨"welt_gain_clamps", 0x39000008, 256, 1, 1, .u32, .ro, false, .obs, .none, .const 0, .any, "", true⟩

/-- R290, object 39:0000.09. -/
def welt_product_clamps : Obj :=
  ⟨"welt_product_clamps", 0x39000009, 256, 1, 1, .u32, .ro, false, .obs, .none, .const 0, .any, "", true⟩

/-- R290, object 39:0000.0A. -/
def welt_nonfinite : Obj :=
  ⟨"welt_nonfinite", 0x3900000A, 256, 1, 1, .u32, .ro, false, .obs, .none, .const 0, .any, "samples", true⟩

/-- R290, object 39:0010.00 … 39:001F.00. -/
def tile_util : Obj :=
  ⟨"tile_util", 0x39001000, 256, 16, 1, .f32, .ro, false, .obs, .none, .const 0, .any, "%", false⟩

/-- R290, object 39:0010.01 … 39:001F.01. -/
def tile_objects : Obj :=
  ⟨"tile_objects", 0x39001001, 256, 16, 1, .u8, .ro, false, .obs, .none, .const 0, .ivals [(0, 64)], "", false⟩

/-- R290, object 39:0010.02 … 39:001F.02. -/
def tile_corrected : Obj :=
  ⟨"tile_corrected", 0x39001002, 256, 16, 1, .u32, .ro, false, .obs, .none, .const 0, .any, "", true⟩

/-- The objects of this file, for the search by address. -/
def objsWelt : List Obj :=
  [welt_interp, welt_out_ceiling, welt_util, welt_util_unshed, welt_last_delivery, welt_misses, welt_shed_objects, welt_shed_events, welt_gain_clamps, welt_product_clamps, welt_nonfinite, tile_util, tile_objects, tile_corrected]

end Sys2Proof.Machine.D
end

