-- ==== Sys2Proof/Machine/Dict.lean ====
section
/-! DEFINITION. The whole object dictionary (R57, R59): the object tables of every
chapter, joined. -/

namespace Sys2Proof.Machine

/-- Every object of the dictionary, chapter by chapter (R59). -/
def Dict.table : List Obj :=
  D.objsStart ++ D.objsCore ++ D.objsTime ++ D.objsShow ++ D.objsScene ++ D.objsWelt ++ D.objsChain ++ D.objsGraver ++ D.objsServices ++ D.objsProof ++ D.objsLocalIo ++ D.objsPorts ++ D.objsFabric ++ D.objsTwin ++ D.objsMemory ++ D.objsShank ++ D.objsMonitor

end Sys2Proof.Machine
end

