-- ==== Sys2Proof/Machine/PartsTime.lean ====
section
/-! DEFINITION. The parts of the state that belong to time (chapter 3) and to monitors and
errors (chapter 17). Times are integers in units of 2⁻³² ns unless a field says otherwise. -/

namespace Sys2Proof.Machine

/-- The peer delay measurement that runs on a port (R133): the sequence of the Pdelay_Req sent, t1, and t2 and t4 of the
response that waits for its follow-up; local times. -/
structure Pdelay where
  port : Nat
  seq : Nat
  t1 : Int
  resp : Option (Int × Int) := none
  deriving DecidableEq, Repr

/-- One PTP domain beside its dictionary objects (R130, R134). -/
structure Domain where
  /-- O_d. -/
  offset : Int := 0
  /-- A_d. -/
  anchor : Int := 0
  /-- The dom_state from which ACQUIRING was entered. -/
  entered : Nat := 1
  /-- The master best master selection chose. -/
  master : Option Master := none
  /-- Consecutive Syncs within the threshold. -/
  near : Nat := 0
  /-- Consecutive Syncs beyond four times the threshold. -/
  far : Nat := 0
  /-- The mean path delay of each port that has measured one. -/
  paths : List (Nat × Int) := []
  /-- A two-step Sync that waits for its Follow_Up: sequence and domain time of receipt. -/
  syncWait : Option (Nat × Int) := none
  /-- Origin and receipt of the last Sync, in domain time (for the delay request exchange). -/
  lastSync : Option (Int × Int) := none
  /-- A Delay_Req sent: sequence and domain time of sending. -/
  delayReq : Option (Nat × Int) := none
  /-- The peer delay measurements that run. -/
  pdelays : List Pdelay := []
  /-- The next sequence number of this domain's own messages. -/
  seq : Nat := 0
  /-- The wake join of R155: a Sync with an offset within 1 µs has been processed. -/
  wakeReady : Bool := false
  deriving DecidableEq, Repr

/-- One event pin beside its dictionary objects (R159–R163). -/
structure EventPin where
  /-- The index of the next pulse. -/
  next : Nat := 0
  /-- A ONCE pulse already done, or a pin not armed. -/
  done : Bool := true
  /-- The capture queue, oldest first: T80 of the edge and its direction. -/
  queue : List (Nat × Edge) := []
  /-- Local time of the last captured edge. -/
  lastEdge : Option Int := none
  /-- The last pulse produced: the instants of its leading and its trailing edge, in T80 of the pin's timebase, and
  whether it is high (R159, R164). -/
  produced : Option Nat := none
  ends : Nat := 0
  high : Bool := true
  deriving DecidableEq, Repr

/-- The word clock input (R157). -/
structure WordClock where
  /-- The sample index of the last edge, once one is assigned. -/
  index : Option Nat := none
  /-- Local time of the last edge. -/
  lastEdge : Option Int := none
  /-- The last measured edge period. -/
  period : Int := 0
  /-- Media time and local time when the source was entered. -/
  entry : Int × Int := (0, 0)
  /-- Edges since the last reference edge of the APLL (R169). -/
  divided : Nat := 0
  deriving DecidableEq, Repr

/-- The APLL and the clock lands (R169–R174, R157). -/
structure ApllState where
  /-- The reference edges: of media time, those of the present block, as T80; in WORD_CLOCK the last one, as local time in
  2⁻³² ns. -/
  refs : List Nat := []
  wclkRef : Option Int := none
  /-- The feedback divider divides by this, and the count it was last preset to. -/
  divides : Nat := 3072
  preset : Nat := 0
  /-- The frequencies of MCLK0 and MCLK1, in Hz; 0 while the land is driven low. -/
  mclk0 : Nat := 0
  mclk1 : Nat := 0
  /-- The rising edges of WCLK_OUT in the present block, as T80 of media time. -/
  wclkOut : List Int := []
  deriving DecidableEq, Repr

/-- Local time, domains, media time, pins and the APLL (chapter 3). -/
structure TimeState where
  /-- LT: the local counter (R125). -/
  local_ : Int := 0
  /-- LT at reset release. -/
  released : Int := 0
  domains : List Domain := [{}, {}]
  /-- b: the bridge (R150). -/
  bridge : Int := 0
  /-- The bridge that the ACTIVE last reported, moved on as it moves there (R545). -/
  reported : Option Int := none
  /-- The block index of the last boundary, once there was one since reset release. -/
  block : Option Nat := none
  /-- The boundary at which media time steps (R152). -/
  stepAt : Option Nat := none
  /-- The boundary at which media time has stepped, until the block after the step has left (R152). -/
  rampUp : Option Nat := none
  /-- The sources that have been usable since the last reset, by their code (R155). -/
  usable : List Bool := [false, false, false, false]
  /-- The media_source that governed at the last boundary (R153). -/
  configured : Nat := 0
  /-- Whether the next join is the first after a wake from DORMANT (R155). -/
  wakeJoin : Bool := false
  /-- The test of R156 at the last boundary. -/
  degraded : Bool := false
  wclk : WordClock := {}
  apll : ApllState := {}
  pins : List EventPin := [{}, {}, {}, {}, {}, {}]
  /-- The condition of R633 held at the last boundary. -/
  unshared : Bool := false
  deriving DecidableEq, Repr

/-- The severities of R646. -/
inductive Severity
  | info | warn | degraded | failed
  deriving DecidableEq, Repr

/-- An error record (R645). -/
structure ErrRec where
  time : Nat
  area : Nat
  index : Nat
  code : Nat
  sev : Severity
  repeats : Nat
  seq : Nat
  deriving DecidableEq, Repr

/-- A key of a rate-limited code whose second runs, with the occurrences held (R649). -/
structure HeldKey where
  area : Nat
  index : Nat
  code : Nat
  sev : Severity
  held : Nat
  deriving DecidableEq, Repr

/-- The error queue and what Shank keeps of it (R645–R654). -/
structure ErrState where
  /-- The hardware queue, oldest first. -/
  queue : List ErrRec := []
  /-- The sequence of the last record raised. -/
  seq : Nat := 0
  /-- Records lost since the last ERR_OVERFLOW record. -/
  lost : Nat := 0
  held : List HeldKey := []
  /-- The last 64 records handled, oldest first. -/
  recent : List ErrRec := []
  lastFailed : Option ErrRec := none
  /-- Whether a LOG_WRITE_FAIL record was raised in the running second (R651). -/
  logFailSecond : Bool := false
  /-- nFAULT, true when asserted (low). -/
  nfault : Bool := true
  deriving DecidableEq, Repr

/-- The live contents of a histogram unit (R640, R641). -/
structure HistUnit where
  start : Nat := 0
  count : Nat := 0
  least : BitVec 32 := 0x7F800000#32
  greatest : BitVec 32 := 0xFF800000#32
  /-- Bins that are not zero: bin and count, by rising bin. -/
  bins : List (Nat × Nat) := []
  /-- A change of source, select, scale or range waits to clear the contents (R642). -/
  clear : Bool := false
  /-- A snapshot command waits for its boundary (R641). -/
  snap : Bool := false
  deriving DecidableEq, Repr

end Sys2Proof.Machine
end

