-- ==== Sys2Proof/Machine/PartsCore.lean ====
section
/-! DEFINITION. What NAND keeps across a loss of power beside the log: the persistent image
(R72–R79) and the BLOBs of the clip store and the reserve region (R313, R397, R423). -/

namespace Sys2Proof.Machine

/-- A BLOB value in force, with its generation, and the object's generation counter (R657). -/
structure Blob where
  addr : Nat
  counter : Nat
  gen : Nat
  data : List Byte
  deriving DecidableEq, Repr

/-- A change that waits to be appended to the persistent image: the local time at which it took effect, the object and
its value, and the BLOB that a handle names (R75). -/
structure Change where
  since : Int
  addr : Nat
  val : Nat
  blob : Option Blob := none
  deriving DecidableEq, Repr

/-- The NAND. -/
structure NandState where
  /-- The persistent image: address and value, by rising address (R73). -/
  image : List (Nat × Nat) := []
  /-- The BLOBs of the image. -/
  imageBlobs : List Blob := []
  /-- Changes that took effect and are not in the image yet, oldest first (R75). -/
  journal : List Change := []
  /-- The half of the region that the journal fills, and how many of its 8 MiB are filled (R75). -/
  half : Fin 2 := 0
  filled : Nat := 0
  /-- The generations of the bytes that persist_image and log_window show (R657). -/
  imageGen : Nat := 0
  logGen : Nat := 0
  /-- Clips, Etcher sets and references that are persisted. -/
  store : List Blob := []
  /-- The appends of the last 24 h, newest first: local time and journal bytes (R76). -/
  appends : List (Int × Nat) := []
  /-- R76 has been reported for the excess that lasts. -/
  warned : Bool := false
  /-- The last write of the image failed (R78). -/
  fault : Bool := false
  /-- persist_reset was written: defaults come at the next reset (R79). -/
  toDefaults : Bool := false
  /-- The image written to persist_image, which replaces every value at the next reset (R79). -/
  replace : Option (List (Nat × Nat) × List (Nat × List Byte)) := none
  /-- The persistent log: index and record, oldest first (R603). -/
  log : List (Nat × ErrRec) := []
  /-- Seconds lived in each lid temperature band of R53, coolest first (R602). -/
  life : List Nat := [0, 0, 0, 0, 0, 0]
  deriving DecidableEq, Repr

end Sys2Proof.Machine
end

