-- ==== Sys2Proof/Machine/PartsFabric.lean ====
section
/-! DEFINITION. The parts of the state that belong to the Yalinary fabric (chapter 13). -/

namespace Sys2Proof.Machine

/-- One direction of an admitted link: its key and salt, and the highest link_seq sent or accepted, with those accepted
in the window below it (R112, R501). -/
structure LinkDir where
  key : List (BitVec 8)
  salt : List (BitVec 8)
  top : Nat := 0
  seen : List Nat := []
  deriving DecidableEq, Repr

/-- The handshake that runs on a link (R505): who started it, its session ID, the nonces and ephemeral keys of both
sides, the private half of our own, and the other's chain as far as it has come. -/
structure LinkShake where
  initiator : Bool
  id : Nat := 0
  secret : Nat
  nonceP : List (BitVec 8) := []
  keyP : List (BitVec 8) := []
  nonceM : List (BitVec 8) := []
  keyM : List (BitVec 8) := []
  chain : List (BitVec 8) := []
  total : Nat := 0
  deriving DecidableEq, Repr

/-- A neighbour beside its objects (R504–R506). -/
structure Neighbour where
  port : Nat
  peerMac : Nat := 0
  /-- The keys of the two directions, and what we received under before the last handshake. -/
  tx : Option LinkDir := none
  rx : Option LinkDir := none
  rxOld : Option LinkDir := none
  shake : Option LinkShake := none
  /-- A new handshake runs while TWO_WAY (R506). -/
  rekey : Bool := false
  /-- Its digests differ from our own (R512). -/
  differs : Bool := false
  /-- The remote port its HELLOs name. -/
  remotePort : Nat := 0
  deriving DecidableEq, Repr

/-- An LSA held, and the local time of its last refresh (R508). -/
structure HeldLsa where
  lsa : Lsa
  time : Int
  deriving DecidableEq, Repr

/-- A branch of a tree: child and parent vertices, and the ports of their link. -/
structure TreeBranch where
  child : Nat
  parent : Nat
  childPort : Nat
  parentPort : Nat
  deriving DecidableEq, Repr

/-- A tree of an origin (R513, R553). -/
structure Tree where
  root : Nat
  treeB : Bool
  branches : List TreeBranch
  deriving DecidableEq, Repr

/-- One generation of trees (R520). -/
structure Generation where
  num : Nat
  trees : List Tree
  deriving DecidableEq, Repr

/-- The elimination window of an ingress context, or of an originating node's TXN frames
(R519). -/
structure ElimWindow where
  /-- Contexts by their number; node n as 512 + n. -/
  key : Nat
  top : Nat
  /-- The sequences of the window that arrived: on tree A, on tree B. -/
  seen : List (Nat × Bool × Bool)
  last : Int
  deriving DecidableEq, Repr

/-- A stream seen on the fabric: its ID, origin vertex and channels, and when last (R524). -/
structure Flow where
  streamId : Nat
  source : Nat
  channels : Nat
  time : Int
  deriving DecidableEq, Repr

/-- The fabric. -/
structure FabricState where
  neighbours : List Neighbour := []
  lsdb : List HeldLsa := []
  /-- lsa_seq of the own LSA. -/
  seq : Nat := 0
  /-- LSAs sent and not acknowledged: port, vertex, sequence (R508). -/
  waiting : List (Nat × Nat × Nat) := []
  /-- The generations held, newest first (R520). -/
  gens : List Generation := []
  /-- The generations own frames use on tree A and on tree B (R521). -/
  genA : Nat := 0
  genB : Nat := 0
  /-- The graph changed while a switch of the origin runs (R520). -/
  dirty : Bool := false
  windows : List ElimWindow := []
  flows : List Flow := []
  /-- HELLO stopped after LEAVING (R511). -/
  quiet : Bool := false
  /-- The session ID of the next handshake on a link. -/
  nextShake : Nat := 1
  /-- The next TXN sequence of this node (R500), and the end of the granted range (R546). -/
  txnSeq : Nat := 0
  granted : Nat := 0
  deriving DecidableEq, Repr

end Sys2Proof.Machine
end

