-- ==== Sys2Proof/Machine/PartsLocal.lean ====
section
/-! DEFINITION. The parts of the state that belong to the local ports and the current outputs
(chapter 11). -/

namespace Sys2Proof.Machine

/-- A receiver or transmitter clock domain: serial side 2p + d at 0–15, AES3 receiver r at
0x10 + r (R440, R444, R452). -/
structure SideNow where
  side : Nat
  /-- The index assigned to the last frame. -/
  last : Option Nat := none
  /-- Consecutive frames farther than a quarter period from their instant. -/
  far : Nat := 0
  /-- The boundary at which the side started. -/
  start : Nat := 0
  /-- A frame has been seen since the start. -/
  present : Bool := false
  /-- The mask latched at the last frame (R442). -/
  mask : Option Nat := none
  /-- The last ratio estimate, and whether the side ramps down after a loss (R448). -/
  ratio : Word32 := 0x3F800000#32
  ramp : Bool := false
  /-- Slots of the last frame sent: a word, or high impedance. -/
  frame : List (Option Nat) := []
  deriving DecidableEq, Repr

/-- A receiver's block in progress: its bits, newest first (R453). -/
structure AesRx where
  rx : Nat
  /-- The media time of the last preamble (R444). -/
  edge : Option Int := none
  /-- How many preambles in a row have come at the expected rate (R444). -/
  good : Nat := 0
  /-- A Z preamble has been seen. -/
  inBlock : Bool := false
  count : Nat := 0
  csA : List Bool := []
  csB : List Bool := []
  userA : List Bool := []
  userB : List Bool := []
  deriving DecidableEq, Repr

/-- Buffers of a transmitter, and the presentation block from which they serve (R451). -/
structure AesBuf where
  block : Nat
  csA : List Byte
  csB : List Byte
  user : List Byte
  deriving DecidableEq, Repr

structure AesTx where
  tx : Nat
  /-- Buffers committed, newest first. -/
  bufs : List AesBuf := []
  /-- The buffers of the channel status block being sent. -/
  cur : AesBuf := ⟨0, [], [], []⟩
  /-- The last frame sent: whether it is a Z frame, and its subframes. -/
  z : Bool := false
  a : AesSub := ⟨0, false, false, false, true⟩
  b : AesSub := ⟨0, false, false, false, true⟩
  deriving DecidableEq, Repr

/-- A decimator channel (R455–R458). -/
structure PdmCh where
  ch : Nat
  /-- The boundary of its last synchronising reset. -/
  start : Nat := 0
  /-- d of the DC blocker. -/
  d : Word32 := 0#32
  deriving DecidableEq, Repr

/-- A current output (R460, R461): its present current in 1/96 µA, the value its mode asks
for in µA, and its queue by rising index. -/
structure IdacNow where
  idac : Nat
  cur : Nat := 0
  target : Nat := 0
  queue : List (Nat × Nat) := []
  deriving DecidableEq, Repr

/-- The local ports and the current outputs. -/
structure LocalState where
  sides : List SideNow := []
  aesRx : List AesRx := []
  aesTx : List AesTx := []
  pdm : List PdmCh := []
  idac : List IdacNow := []
  /-- Sides that the commits of this boundary changed (R444). -/
  restart : List Nat := []
  deriving DecidableEq, Repr

end Sys2Proof.Machine
end

