-- ==== Sys2Proof/Machine/PartsMdap.lean ====
section
/-! DEFINITION. The parts of the state that belong to MDAP: sessions, subscriptions, shadows,
reply caches and the host SPI queues (chapter 2). -/

namespace Sys2Proof.Machine

/-- An open session (R110–R120). Times are local time. -/
structure Session where
  id : Nat
  src : Source
  role : Role
  /-- The first 16 bytes of the SHA-256 of the peer's leaf certificate (R115). -/
  fp : Nat := 0
  /-- The keys and salts of the peer's direction and of the module's (R112). -/
  keyPm : List (BitVec 8) := []
  keyMp : List (BitVec 8) := []
  ivPm : List (BitVec 8) := []
  ivMp : List (BitVec 8) := []
  /-- The peer's chain verified to the enrolled owner certificate (R113, R606). -/
  ownerChain : Bool := false
  opened : Int := 0
  last : Int := 0
  /-- The highest sequence accepted, and those accepted in the window below it (R117). -/
  top : Nat := 0
  seen : List Nat := []
  /-- Consecutive frames whose tag failed (R109). -/
  bad : Nat := 0
  /-- Frames received and sent (R118). -/
  received : Nat := 0
  sent : Nat := 0
  deriving DecidableEq, Repr

/-- A handshake in progress (R110, R121). -/
structure Handshake where
  id : Nat
  src : Source
  started : Int := 0
  /-- The nonces, the peer's ephemeral key, and the private half of the module's. -/
  nonceP : List (BitVec 8) := []
  keyP : List (BitVec 8) := []
  nonceM : List (BitVec 8) := []
  secret : Nat := 1
  /-- The bytes of the peer's chain received so far, and its total length. -/
  chain : List (BitVec 8) := []
  total : Nat := 0
  deriving DecidableEq, Repr

/-- A reply kept for a repeated request: the type and ID of the request, and the body (R92). -/
structure Kept where
  kind : Nat
  id : Nat
  body : List (BitVec 8)
  deriving DecidableEq, Repr

/-- The reply cache of one source of requests: a session, an unprotected network source, or the
host SPI port (R92). -/
structure ReplyCache where
  src : Source
  session : Nat
  /-- Newest first, at most 32. -/
  replies : List Kept
  deriving DecidableEq, Repr

/-- A subscription (R99–R102). -/
structure Sub where
  id : Nat
  src : Source
  session : Nat
  addr : Nat
  /-- ON_CHANGE 1, PERIODIC 2. -/
  mode : Nat
  interval : Nat
  /-- The block of the last NOTIFY, or of the creation. -/
  last : Nat
  /-- The value last notified, and the value at the last boundary. -/
  notified : Option Nat := none
  seen : Nat
  changes : Nat := 0
  deriving DecidableEq, Repr

/-- A shadow of a BLOB object (R103–R106). -/
structure Shadow where
  addr : Nat
  src : Source
  session : Nat
  total : Nat
  data : List (BitVec 8)
  /-- Its generation once complete. -/
  gen : Nat := 0
  complete : Bool := false
  /-- Local time of its last chunk. -/
  last : Int := 0
  deriving DecidableEq, Repr

/-- A frame in the output queue of the host SPI port: whether it is a NOTIFY, and its bytes (R88). -/
structure SpiFrame where
  notify : Bool
  bytes : List (BitVec 8)
  deriving DecidableEq, Repr

/-- MDAP. -/
structure MdapState where
  sessions : List Session := []
  handshakes : List Handshake := []
  /-- Most recently heard first. -/
  caches : List ReplyCache := []
  subs : List Sub := []
  shadows : List Shadow := []
  nextSession : Nat := 1
  /-- The frames that wait in the input queue of the host SPI port, oldest first (R88). -/
  spiIn : List (List (BitVec 8)) := []
  /-- The replies and notifications in its output queue, oldest first: at most 32. -/
  spiOut : List SpiFrame := []
  /-- Replies that wait for a place in it, oldest first. -/
  spiLate : List SpiFrame := []
  /-- The requests that wait in the dispatcher, oldest first: at most 64 (R91). -/
  waiting : List (Req × Msg) := []
  /-- The sequence of the last unprotected frame sent. -/
  sentSeq : Nat := 0
  deriving DecidableEq, Repr

end Sys2Proof.Machine
end

