-- ==== Sys2Proof/Machine/PartsMemory.lean ====
section
/-! DEFINITION. The parts of the state that belong to memory, DMA and the PLLs
(chapter 15). -/

namespace Sys2Proof.Machine

/-- The bytes of the matrix address space that are not zero, by rising address (R572,
R582); an address that is not listed reads as zero (log entry 23). -/
abbrev Memory := List Host.Cell

/-- A DMA channel beside its objects (R587–R590). -/
structure DmaChan where
  /-- A trigger came while it ran. -/
  again : Bool := false
  /-- Destinations written since the last FENCE: address and count (R588). -/
  recent : List (Nat × Nat) := []
  deriving DecidableEq, Repr

/-- A request that waits at the DMC (R574, R575). Classes: BULK 0, NRT 1, RT 2. -/
structure DmcRequest where
  id : Nat
  port : Nat
  cls : Nat
  line : Nat
  /-- Local time of arrival, in 2⁻³² ns, and the target it got, in ns. -/
  arrival : Int
  target : Nat
  deriving DecidableEq, Repr

/-- A request served within the last second: when, at which port, and its latency in ns. -/
structure DmcServed where
  time : Int
  port : Nat
  latency : Int
  deriving DecidableEq, Repr

/-- A training in progress (R579–R581). -/
structure Training where
  setPoint : Nat
  step : Nat := 1
  /-- Failures of step 6 so far. -/
  fails : Nat := 0
  /-- It was asked for by dmc_retrain. -/
  asked : Bool := false
  deriving DecidableEq, Repr

/-- Memory, DMA, the DMC and the PLLs. -/
structure MemState where
  cells : Memory := []
  /-- Uncorrectable words of the matrix address space, poisoned ones among them, by word
  address (R565, R566). -/
  bad : List Nat := []
  /-- Uncorrectable words of the memories without a matrix address: unit and word. -/
  badUnit : List (MemUnit × Nat) := []
  dma : List DmaChan := List.replicate 8 {}
  waiting : List DmcRequest := []
  nextRequest : Nat := 0
  served : List DmcServed := []
  /-- Refreshes postponed, and pulled in ahead of time (R577). -/
  postponed : Nat := 0
  ahead : Nat := 0
  training : Option Training := none
  /-- Set point changes deferred by a training step (R580). -/
  deferred : List Nat := []
  /-- Words Burnish has read in the present DRAM pass (R568). -/
  burnished : Nat := 0
  /-- The points of a ramp that are still to come: PLL, then N and dwell (R593). -/
  ramps : List (Nat × List (Nat × Nat)) := []
  /-- The master that each target of the matrix granted last (R585). -/
  turns : List Nat := List.replicate 6 7
  deriving DecidableEq, Repr

end Sys2Proof.Machine
end

