-- ==== Sys2Proof/Machine/PartsPorts.lean ====
section
/-! DEFINITION. The parts of the state that belong to ports, rings and the stream engine
(chapter 12). -/

namespace Sys2Proof.Machine

/-- What carries a message out of the module. -/
inductive Via
  /-- HSPI_MISO, within a transaction of the host (R87). -/
  | miso
  /-- UDP over IPv4: the peer's address and port, and the module's port (R84). -/
  | udp (addr port own : Nat)
  /-- Layer 2, to a MAC address (R85). -/
  | l2 (mac : Nat)
  /-- A network port, FAB0–FAB5 (0–5) or MGT (6). -/
  | port (n : Nat)
  /-- A sideband land (R531, R532). -/
  | sideband
  /-- A Lace lane. -/
  | lace (lane : Nat)
  deriving DecidableEq, Repr

/-- A message the module has sent: its kind by name, and its fields in order; of an MDAP frame, its bytes. -/
structure Sent where
  via : Via
  kind : String
  fields : List Nat
  deriving DecidableEq, Repr

/-- A running pause of a port: since and until when, in local time (R475). -/
structure PauseRun where
  port : Nat
  since : Int
  until_ : Int
  deriving DecidableEq, Repr

/-- The head frame of a transmit ring that carries a launch time, once examined: the extended
launch time in the ring's timebase, in ns (R165–R167). -/
structure LaunchHold where
  ring : Nat
  at_ : Int
  late : Bool := false
  deriving DecidableEq, Repr

/-- An ingress context since its start: the block of its first placed sample (R489). -/
structure StreamIn where
  ctx : Nat
  placed : Option Nat := none
  deriving DecidableEq, Repr

/-- An address that ARP has resolved. -/
structure ArpEntry where
  port : Nat
  ip : Nat
  mac : Nat
  deriving DecidableEq, Repr

/-- Ports, rings and streams. -/
structure PortsState where
  pauses : List PauseRun := []
  /-- The messages that wait at a port that is paused, in the order in which they leave (R475, R483, R502). -/
  queued : List Sent := []
  launches : List LaunchHold := []
  /-- The ring that sent last on a port, for the round-robin of R483. -/
  lastRing : List (Nat × Nat) := []
  streams : List StreamIn := []
  arp : List ArpEntry := []
  /-- Ingress contexts that the commits of this boundary changed, with the kind, ports and
  address they had (R491). -/
  restart : List (Nat × Nat × Nat × Nat) := []
  deriving DecidableEq, Repr

end Sys2Proof.Machine
end

