-- ==== Sys2Proof/Machine/PartsTwin.lean ====
section
/-! DEFINITION. The parts of the state that belong to twin operation (chapter 14). -/

namespace Sys2Proof.Machine

/-- A journal entry that waits for its JOURNAL_ACK, with what it holds back; none for an entry
that holds nothing back (R543). -/
structure JournalEntry where
  index : Nat
  block : Nat
  held : Option Held := none
  act : JournalAct
  deriving DecidableEq, Repr

/-- A journal entry received, which applies at its block (R543). -/
structure JournalHeld where
  index : Nat
  block : Nat
  act : JournalAct
  deriving DecidableEq, Repr

/-- A presence map: ingress context and bits by sample (R550). -/
structure Presence where
  block : Nat
  own : Bool
  maps : List (Nat × Nat)
  deriving DecidableEq, Repr

/-- A Lace lane beside its objects. -/
structure LaceLane where
  /-- The sequence of the last frame sent. -/
  seq : Nat := 0
  /-- The partner's chain as far as its HELLOs on this lane have brought it. -/
  chain : List Byte := []
  deriving DecidableEq, Repr

/-- The twin beside its objects. -/
structure TwinState where
  /-- The unit drives the pair-driven lands (R528, R535); a SOLO unit always does. -/
  drive : Bool := true
  /-- A wiring fault keeps it from driving until its next reset (R537, fault 3). -/
  noDrive : Bool := false
  /-- The level at TW_ROLE_I. -/
  roleIn : Bool := false
  /-- The level this unit drives at TW_HB_O. -/
  hbOut : Bool := false
  /-- The heartbeat paths: whether the partner has been seen since reset, and whether the
  path is lost now (R533). -/
  hbSeen : Bool := false
  laceSeen : Bool := false
  hbLost : Bool := true
  laceLost : Bool := true
  lanes : List LaceLane := [{}, {}]
  partner : Option LaceHello := none
  /-- The last HEARTBEAT: the partner's last boundary and its last sent block (R540). -/
  partnerBlock : Nat := 0
  partnerSent : Nat := 0
  /-- The pair_id of the pair, once it has formed (R499, R542). -/
  pairId : Option Nat := none
  /-- The unit acts as this slot: its strap, but for wiring fault 1 (R537). -/
  slotZero : Bool := true
  /-- Entries sent that wait for their acknowledgement, oldest first, and the last index. -/
  journal : List JournalEntry := []
  index : Nat := 0
  /-- Indices of entries received from the partner, newest first. -/
  heard : List Nat := []
  /-- Entries received that wait for their block, oldest first. -/
  held : List JournalHeld := []
  /-- The ends of the granted sequence ranges (R546). -/
  frameGrant : Nat := 0
  txnGrant : Nat := 0
  /-- Whether Shank's cores agree, the boot check passed and the Commit Unit keeps up (R528). -/
  sound : Bool := true
  /-- From a journaled DORMANT to the first boundary after waking (R548). -/
  asleep : Bool := false
  /-- Neither the block of a planned switch nor its instant has passed. -/
  switchAt : Option Nat := none
  presence : List Presence := []
  /-- A local event of the block, and a repair lost (R550, R551). -/
  event : Bool := false
  repairLost : Bool := false
  /-- The tile and record digests of the slot last rendered (R551). -/
  slotTiles : List Nat := []
  slotRecords : List Nat := []
  /-- Digests sent and received, newest first. -/
  own : List Digest := []
  theirs : List Digest := []
  /-- Consecutive mismatched blocks, and the unit the first of them involves (R552). -/
  mismatches : Nat := 0
  involved : Nat := 0xFF
  /-- A self-test requested under R552 runs, and the results held. -/
  testing : Bool := false
  ownResult : Option Bool := none
  theirResult : Option Bool := none
  /-- Resync: how far R556 has come, the checkpoint block and the bytes held or acknowledged. An
  ACTIVE has done nothing 0, sent values and BLOBs 1, sent the checkpoint 2; a unit in RESYNC has
  loaded it 3. -/
  step : Nat := 0
  checkpoint : Option Nat := none
  held_ : Nat := 0
  /-- BLOB values being received: address, generation and the data so far. -/
  blobs : List (Nat × Nat × List Byte) := []
  /-- The last TIME messages: own send stamp, and the receive stamp of the partner's last. -/
  timeSent : Option Int := none
  timeReceived : Option Int := none
  /-- The take-over of R560 waits for the safe scene to be loaded. -/
  loading : Bool := false
  /-- The safe scene is loaded: the outputs unmute at the next boundary. -/
  loaded : Bool := false
  /-- Repairs that the partner's map promises for a block: context and samples (R550). -/
  expected : List (Nat × Nat × Nat) := []
  deriving DecidableEq, Repr

end Sys2Proof.Machine
end

