-- ==== Sys2Proof/Machine/State.lean ====
section
/-! DEFINITION. The state of the module, as plain data, and the state right after reset. -/

namespace Sys2Proof.Machine

/-- Where the model stops with a fault. -/
inductive Fault
  /-- Raised by nothing: no command of the spec stops the module; safe. -/
  | notRaised
  deriving DecidableEq, Repr

/-- Where the model refuses a command. -/
inductive Refusal
  /-- Raised by `exec` for a command without a meaning; safe: nothing is claimed of it. -/
  | notModelled (mnemonic : String)
  deriving DecidableEq, Repr

structure State where
  /-- The values of the dictionary objects that differ from their default or were set:
  address and value, by rising address. -/
  dict : List (Nat × Nat) := []
  /-- The contents of BLOB objects that are not empty, by rising address. -/
  blobs : List Blob := []
  err : ErrState := {}
  hist : List HistUnit := List.replicate 32 {}
  time : TimeState := {}
  timeline : ShowState := {}
  cu : CommitUnit := {}
  render : RenderState := {}
  svc : ServiceState := {}
  nand : NandState := {}
  power : PowerState := {}
  io : LocalState := {}
  mem : MemState := {}
  ports : PortsState := {}
  twin : TwinState := {}
  fabric : FabricState := {}
  graver : GraverState := {}
  mdap : MdapState := {}
  /-- The messages sent, newest first. -/
  wire : List Sent := []
  /-- The model's own counter of free values met (log entry 1). -/
  free : Nat := 0
  /-- The commands that wait, first in first out. -/
  pending : List Instr := []
  deriving DecidableEq, Repr

/-- A text set on each unit, as a STR32 value of at most 32 bytes (R60, R122). -/
def unitStr (a : Nat) : Nat :=
  let l := (Config.unitText a).take 32
  if l.isEmpty then 0 else l.foldl (fun n b => n * 256 + b.toNat) l.length

/-- The handle of the module's certificate chain: its length, at generation 0 (R60, R657). -/
def chainHandle : Nat := Config.deviceChain.length * 2 ^ 32

/-- The objects that do not hold their default right after reset release: what is set on each unit
when it is made (R122, R605), media time on FALLBACK (R155), sound_speed of the default venue_temp
(R237), the power-up state of every current output (R463), and that no partner is known. -/
def resetDict : List (Nat × Nat) :=
  [(0x00000003, unitStr 0x3), (0x00000004, Config.unitValue 0x4 % 2 ^ 16), (0x00000005, Config.unitValue 0x5 % 2 ^ 32),
    (0x00000008, unitStr 0x8), (0x10000015, 4)] ++
    ((List.range 7).map fun p => (0x22000008 + p * 0x1000000, Config.unitValue (0x22000008 + p * 0x1000000) % 2 ^ 48)) ++
    [(0x38100001, 0x43AB9B79)] ++ ((List.range 16).map fun l => (0x4C00000B + 256 * l, 1)) ++
    [(0x58010000, unitStr 0x58010000), (0x68000002, 5), (0x7F000000, chainHandle),
      (0x7F000001, Config.unitValue 0x7F000001 % 2 ^ 64), (0x7F000002, Config.unitValue 0x7F000002 % 2 ^ 64)]

/-- The state right after reset release from power-on, with empty NAND and every supply good:
the boot ROM runs, and nFAULT is asserted (R36, R40, R42, R155, R463). DESIGN CHOICE (log entry 120): the straps read
boot_strap NAND and twin_slot 0, where R39 has them as strapped. -/
def State.reset : State :=
  { dict := resetDict, blobs := [⟨0x7F000000, 0, 0, Config.deviceChain⟩], render := { triDirty := true, loadDirty := true } }

end Sys2Proof.Machine
end

