-- ==== Sys2Proof/Machine/Ops.lean ====
section
/-! DEFINITION. The operations every chapter shares: reading and writing dictionary objects
and BLOBs, reading the times, free values, sending messages, raising error records and
recording histogram values. -/

namespace Sys2Proof.Machine

open Sys2Proof

/-! ### Sparse stores -/

/-- The entry of a sparse store at a key. -/
def look : List (Nat × Nat) → Nat → Option Nat
  | [], _ => none
  | (k, v) :: rest, a => if k = a then some v else if a < k then none else look rest a

/-- Set the entry of a sparse store at a key, keeping the keys strictly rising. -/
def put : List (Nat × Nat) → Nat → Nat → List (Nat × Nat)
  | [], a, v => [(a, v)]
  | (k, w) :: rest, a, v =>
    if k = a then (a, v) :: rest
    else if a < k then (a, v) :: (k, w) :: rest
    else (k, w) :: put rest a v

/-- Remove the entry of a sparse store at a key. -/
def drop : List (Nat × Nat) → Nat → List (Nat × Nat)
  | [], _ => []
  | (k, w) :: rest, a => if k = a then rest else if a < k then (k, w) :: rest else (k, w) :: drop rest a

/-- The keys of a store rise strictly. -/
def keysRise : List (Nat × Nat) → Bool
  | [] => true
  | [_] => true
  | (a, _) :: (b, w) :: rest => decide (a < b) && keysRise ((b, w) :: rest)

/-! ### Dictionary objects -/

/-- The default of sub `k` of instance `i` of an object, with the values it depends on read
from the store (R655). -/
def dfltValue (m : List (Nat × Nat)) (o : Obj) (i k : Nat) : Nat :=
  match o.dflt with
  | .const n => n
  | .idx l => l.getD i 0
  | .modIdx n => i % n
  | .halfIdx => i / 2
  | .byRate a b => if (look m D.render_rate.base).getD 0 = 1 then b else a
  | .byKind l => l.getD ((look m (D.act_kind.addr i)).getD 0) 0
  | .byPort a b =>
    if (look m (D.port_speed.addr i)).getD (if i = 6 then 1 else 0) = 0 then a else b
  | .bq => if k % 5 = 0 then 0x3F800000 else 0

/-- The value of a dictionary object, as its encoding (R60). -/
def State.get (s : State) (o : Obj) (i : Nat := 0) (k : Nat := 0) : Nat :=
  match look s.dict (o.addr i k) with
  | some v => v
  | none => dfltValue s.dict o i k

/-- Set a dictionary object. -/
def State.set (s : State) (o : Obj) (v : Nat) (i : Nat := 0) (k : Nat := 0) : State :=
  { s with dict := put s.dict (o.addr i k) v }

/-- Note a value for the persistent image, and the BLOB that a handle names (R74, R75). -/
def State.keep (s : State) (a v : Nat) (b : Option Blob := none) : State :=
  { s with nand := { s.nand with
    journal := s.nand.journal ++ [⟨s.time.local_, a, v, b⟩], imageGen := s.nand.imageGen + 1 } }

/-- Set a +P object and note its value for the persistent image. -/
def State.keepValue (s : State) (o : Obj) (v : Nat) (i : Nat := 0) (k : Nat := 0) : State :=
  (s.set o v i k).keep (o.addr i k) v

/-- Return a dictionary object to its default. -/
def State.unset (s : State) (o : Obj) (i : Nat := 0) (k : Nat := 0) : State :=
  { s with dict := drop s.dict (o.addr i k) }

/-- A dictionary object as the integer it denotes. -/
def State.getI (s : State) (o : Obj) (i : Nat := 0) (k : Nat := 0) : Int := tyInt o.ty (s.get o i k)

/-- A BOOL object. -/
def State.getB (s : State) (o : Obj) (i : Nat := 0) (k : Nat := 0) : Bool := s.get o i k != 0

/-- An F32 object. -/
def State.getF (s : State) (o : Obj) (i : Nat := 0) (k : Nat := 0) : F32 :=
  BitVec.ofNat 32 (s.get o i k)

/-- Set an object from an integer. -/
def State.setI (s : State) (o : Obj) (z : Int) (i : Nat := 0) (k : Nat := 0) : State :=
  s.set o (ofSigned (8 * tyBytes o.ty) z) i k

/-- Set an F32 object. -/
def State.setF (s : State) (o : Obj) (x : F32) (i : Nat := 0) (k : Nat := 0) : State :=
  s.set o x.toNat i k

/-- Set a BOOL object. -/
def State.setB (s : State) (o : Obj) (b : Bool) (i : Nat := 0) (k : Nat := 0) : State :=
  s.set o (if b then 1 else 0) i k

/-- Raise a counter by `n`; it wraps at the width of its type (log entry 2). -/
def State.count (s : State) (o : Obj) (i : Nat := 0) (n : Nat := 1) : State :=
  s.set o ((s.get o i + n) % 2 ^ (8 * tyBytes o.ty)) i

/-- Raise a counter that saturates. -/
def State.countSat (s : State) (o : Obj) (i : Nat := 0) (n : Nat := 1) : State :=
  s.set o (min (s.get o i + n) (2 ^ (8 * tyBytes o.ty) - 1)) i

/-- The three coordinates of a POS3 value (R5). -/
def posOf (v : Nat) : F32 × F32 × F32 :=
  (BitVec.ofNat 32 (v / 2 ^ 64), BitVec.ofNat 32 (v / 2 ^ 32), BitVec.ofNat 32 v)

/-- A POS3 value from its coordinates. -/
def posPack (p : F32 × F32 × F32) : Nat :=
  p.1.toNat * 2 ^ 64 + p.2.1.toNat * 2 ^ 32 + p.2.2.toNat

def State.getPos (s : State) (o : Obj) (i : Nat := 0) : F32 × F32 × F32 := posOf (s.get o i)

/-- Find an object of the dictionary that an address names, with instance and sub (R59). -/
def findObj : List Obj → Nat → Option (Obj × Nat × Nat)
  | [], _ => none
  | o :: rest, a =>
    match o.locate a with
    | some (i, k) => some (o, i, k)
    | none => findObj rest a

/-- The object an address names (R59). -/
def objAt (a : Nat) : Option (Obj × Nat × Nat) := findObj Dict.table a

/-! ### Bytes -/

/-- `n` bytes of a number, big end first (R4). -/
def beBytes : Nat → Nat → List Byte
  | 0, _ => []
  | n + 1, v => BitVec.ofNat 8 (v / 256 ^ n) :: beBytes n v

/-- The number that bytes spell, big end first. -/
def beNat (l : List Byte) : Nat := l.foldl (fun a b => a * 256 + b.toNat) 0

/-- `n` bytes of a number, little end first. -/
def leBytes : Nat → Nat → List Byte
  | 0, _ => []
  | n + 1, v => BitVec.ofNat 8 v :: leBytes n (v / 256)

/-- The number that bytes spell, little end first. -/
def leNat : List Byte → Nat
  | [] => 0
  | b :: l => b.toNat + 256 * leNat l

/-- The bytes of a STR32 value, its length first (R60); the empty string is value 0. -/
def strBytes (v : Nat) : List Byte := if v = 0 then [0#8] else beBytes (Nat.log2 v / 8 + 1) v

/-- The encoded bytes of a value of a type (R60). -/
def tyEncode (t : Ty) (v : Nat) : List Byte :=
  match t with
  | .str32 => strBytes v
  | _ => beBytes (tyBytes t) v

/-- The bytes of an ASCII text. -/
def textBytes (t : String) : List Byte := t.toList.map fun c => BitVec.ofNat 8 c.toNat

/-- A text as a STR32 value. -/
def textBytesVal (t : String) : Nat :=
  let b := textBytes t
  if b.isEmpty then 0 else beNat (BitVec.ofNat 8 b.length :: b)

/-! ### BLOB contents (R657) -/

/-- The record of a BLOB object; one that no shadow has replaced is empty at generation 0. -/
def blobAt : List Blob → Nat → Blob
  | [], a => ⟨a, 0, 0, []⟩
  | b :: rest, a => if b.addr = a then b else blobAt rest a

/-- Replace the record of a BLOB object, by rising address. -/
def blobPut : List Blob → Blob → List Blob
  | [], b => [b]
  | c :: rest, b =>
    if c.addr = b.addr then b :: rest
    else if b.addr < c.addr then b :: c :: rest
    else c :: blobPut rest b

def State.blob (s : State) (o : Obj) (i : Nat := 0) : Blob := blobAt s.blobs (o.addr i)

/-- The handle of a BLOB value: its length, then its generation (R60). -/
def handleOf (len gen : Nat) : Nat := len * 2 ^ 32 + gen

/-- Put a value of the next generation in force in a BLOB object, its handle with it. -/
def State.setBlob (s : State) (o : Obj) (data : List Byte) (i : Nat := 0) : State :=
  let b := s.blob o i
  let g := b.counter + 1
  { s with
    dict := put s.dict (o.addr i) (handleOf data.length g)
    blobs := blobPut s.blobs ⟨o.addr i, g, g, data⟩ }

/-! ### Lists of fixed length -/

/-- Change the entry at an index. -/
def modAt {α : Type} : List α → Nat → (α → α) → List α
  | [], _, _ => []
  | x :: l, 0, f => f x :: l
  | x :: l, n + 1, f => x :: modAt l n f

/-! ### Free values (log entry 1) -/

/-- The free value of the next place. -/
def State.freeHere (s : State) : Nat := Config.freeValue s.free

/-- Pass one place. -/
def State.pass (s : State) : State := { s with free := s.free + 1 }

/-- A free value held within the bounds the manual states. -/
def boundFree (v : Nat) (lo hi : Int) : Int := lo + ((v : Int) % (hi - lo + 1))

/-- A free F32. -/
def State.freeF32 (s : State) : F32 := Config.freeSample s.free 0

/-! ### Times -/

/-- One nanosecond in units of 2⁻³² ns. -/
def ns32 : Int := 2 ^ 32

/-- The render rate in force, in Hz (R6). -/
def State.fs (s : State) : Nat := if s.get D.render_rate = 1 then 96000 else 48000

/-- The samples of a block: L of R7. -/
def State.blockLen (s : State) : Nat := if s.get D.render_rate = 1 then 32 else 16

def State.domain (s : State) (d : Nat) : Domain := s.time.domains.getD d {}

def State.modDomain (s : State) (d : Nat) (f : Domain → Domain) : State :=
  { s with time := { s.time with domains := modAt s.time.domains d f } }

/-- T_d at a local time (R130). -/
def State.domainAt (s : State) (d : Nat) (lt : Int) : Int :=
  let x := s.domain d
  lt + x.offset + (s.getI D.dom_rate d * (lt - x.anchor)) / ns32

/-- The time of domain `d` now. -/
def State.domainTime (s : State) (d : Nat) : Int := s.domainAt d s.time.local_

/-- The time of the word clock: its sample count, interpolated at the last measured edge rate (R157). DESIGN CHOICE (log
entry 109): before the first indexed edge it runs on from media time on entry, at the rate of local time. -/
def State.wclkTime (s : State) : Int :=
  let w := s.time.wclk
  match w.index, w.lastEdge with
  | some n, some e =>
    let base : Int := n * 1000000000 * ns32 / s.fs
    if w.period ≤ 0 then base
    else base + (s.time.local_ - e) * (1000000000 * ns32 / s.fs) / w.period
  | _, _ => w.entry.1 + (s.time.local_ - w.entry.2)

/-- The time of a source: DOMAIN_A 0, DOMAIN_B 1, WORD_CLOCK 2, FREE_RUN 3, FALLBACK 4
(R150, R155). -/
def State.sourceTime (s : State) (src : Nat) : Int :=
  if src = 0 || src = 1 then s.domainTime src
  else if src = 2 then s.wclkTime
  else s.time.local_

/-- S: the time of the source in effect. -/
def State.sourceNow (s : State) : Int := s.sourceTime (s.get D.media_source_now)

/-- M, in units of 2⁻³² ns (R150). -/
def State.media (s : State) : Int := s.sourceNow + s.time.bridge

/-- A time as T80: the fraction truncated to its upper 16 bits (R125). -/
def toT80 (t : Int) : Nat := (t / 2 ^ 16 % 2 ^ 80).toNat

/-- A time as NT64. -/
def toNT64 (t : Int) : Nat := (t / ns32 % 2 ^ 64).toNat

/-- The media sample index of a time, fraction of 2⁻¹⁶ ns included (R6). -/
def sampleIndex (t : Int) (fs : Nat) : Nat := (t / 2 ^ 16 * fs / (1000000000 * 2 ^ 16)).toNat

/-- The media sample index now. -/
def State.sampleNow (s : State) : Nat := sampleIndex s.media s.fs

/-- The block of the last boundary; before the first one, the block media time lies in. -/
def State.blockNow (s : State) : Nat :=
  match s.time.block with
  | some k => k
  | none => s.sampleNow / s.blockLen

/-- The instant of a media sample index, rounded up to the 2⁻¹⁶ ns grid (R149), as T80. -/
def sampleInstant (n fs : Nat) : Nat := (n * 1000000000 * 2 ^ 16 + fs - 1) / fs

/-- Run a change of time while media time stays continuous (R151). -/
def State.keepMedia (s : State) (f : State → State) : State :=
  let t := f s
  { t with time := { t.time with bridge := t.time.bridge - (t.sourceNow - s.sourceNow) } }

/-- A unit in STANDBY or RESYNC follows the media time of its ACTIVE (R545). -/
def State.followsTime (s : State) : Bool :=
  (s.get D.twin_role == 2 || s.get D.twin_role == 3) && (s.get D.twin_health).testBit 0 &&
    s.get D.twin_partner_role == 1

/-- The bridge that media_bridge shows. -/
def State.bridgeNow (s : State) : Int := if s.followsTime then s.time.reported.getD s.time.bridge else s.time.bridge

/-! ### Spread (R594, R595) -/

/-- f_min of a spread setting against the nominal frequency, in 1/10,000 (R594). -/
def spreadScale (v : Nat) : Nat :=
  match v with
  | 1 => 9950 | 2 => 9900 | 3 => 9975 | 4 => 9950 | _ => 10000

/-- s of R595 in 1/10,000: the scale of the budgets under the core spread. -/
def State.budgetScale (s : State) : Nat := spreadScale (s.get D.pll_spread 0)

/-- aod_time in ns (R622). -/
def State.aodTime (s : State) : Nat := toNT64 s.media

/-- The type that a code names (R60). -/
def tyOfCode (c : Nat) : Option Ty :=
  [Ty.bool, .u8, .u16, .u32, .u64, .i16, .i32, .f32, .bits32, .enum8, .str32, .blob, .keyref, .g16, .nt64,
    .nt32, .t80, .st64, .msi64, .pos3].find? fun t => tyCode t == c

/-- A value after its type code. -/
def codedValue (c v : Nat) : List Byte :=
  match tyOfCode c with
  | some t => tyEncode t v
  | none => []

/-! ### Status codes (R108) -/

def scOk : Nat := 0x00
def scNoObject : Nat := 0x01
def scType : Nat := 0x02
def scRange : Nat := 0x03
def scAccess : Nat := 0x04
def scRole : Nat := 0x05
def scRunning : Nat := 0x06
def scBusy : Nat := 0x07
def scTxnFull : Nat := 0x08
def scLate : Nat := 0x09
def scAborted : Nat := 0x0A
def scInDoubt : Nat := 0x0B
def scAuth : Nat := 0x0C
def scIntegrity : Nat := 0x0D
def scNotEligible : Nat := 0x0E
def scInternal : Nat := 0x0F

/-! ### Messages sent -/

/-- A port holds its frames back (R475). -/
def State.paused (s : State) (port : Nat) : Bool := s.ports.pauses.any fun p => p.port == port

/-- The place of a message among those that wait at its port: PTP event messages; fabric frames but STREAM, as queued;
STREAM frames by first index and then stream ID; then the rest, as queued (R483, R502; log entry 115). -/
def Sent.place (m : Sent) : List Nat :=
  if ["PTP_SYNC", "PTP_DELAY_REQ", "PTP_PDELAY_REQ", "PTP_PDELAY_RESP"].contains m.kind then [0]
  else if ["HELLO", "ADMIT", "LSA", "LSA_ACK", "TXN"].contains m.kind then [1]
  else if m.kind = "STREAM" then
    (let field (at_ n : Nat) : Nat := ((m.fields.drop at_).take n).foldl (fun a b => a * 256 + b) 0
     [2, field 30 8, field 22 4])
  else [3]

/-- A message takes its place among those that wait, behind those of the same place. -/
def Sent.into (m : Sent) : List Sent → List Sent
  | [] => [m]
  | x :: l => if decide (List.lex m.place x.place) then m :: x :: l else x :: m.into l

/-- A message goes out at a port that is paused (R475). -/
def State.waits (s : State) (m : Sent) : Bool :=
  match m.via with
  | .port p => s.paused p
  | _ => false

/-- A message leaves; at a port that is paused it waits (R475). -/
def State.send (s : State) (m : Sent) : State :=
  if s.waits m then { s with ports := { s.ports with queued := m.into s.ports.queued } }
  else { s with wire := m :: s.wire }

/-- The messages that wait at a port leave (R475, R502). -/
def State.drainPort (s : State) (p : Nat) : State :=
  { s with
    wire := (s.ports.queued.filter fun m => m.via == .port p).reverse ++ s.wire
    ports := { s.ports with queued := s.ports.queued.filter fun m => m.via != .port p } }

/-- A local event of the block, which an OUT_DIGEST reports (R551). -/
def State.localEvent (s : State) : State := { s with twin := { s.twin with event := true } }

/-! ### Error records (R645–R653) -/

def Severity.rank : Severity → Nat
  | .info => 0 | .warn => 1 | .degraded => 2 | .failed => 3

/-- The codes marked 1/s in R647. -/
def rateLimited (code : Nat) : Bool :=
  [0x0201, 0x0501, 0x0502, 0x0505, 0x0506, 0x0601, 0x0603, 0x0901].contains code

/-- Whether the queue has room for a record of a severity (R650). -/
def queueRoom (q : List ErrRec) (sev : Severity) : Bool :=
  if sev = .failed then q.length < 64 else q.length < 60

def sameKey (r : ErrRec) (area index code : Nat) : Bool :=
  r.area == area && r.index == index && r.code == code

/-- Fold an occurrence into the queued record of its key (R648). -/
def foldRec : List ErrRec → Nat → Nat → Nat → List ErrRec
  | [], _, _, _ => []
  | r :: l, area, index, code =>
    if sameKey r area index code then { r with repeats := min 255 (r.repeats + 1) } :: l
    else r :: foldRec l area index code

/-- The time of a record: media time, or local time before media time runs (R645). -/
def State.errTime (s : State) : Nat :=
  toNT64 (if s.time.block.isSome then s.media else s.time.local_)

/-- Raise a record: it takes a sequence, is queued or lost, and escalates (R645, R650,
R652, R653). -/
def State.raiseRec (s : State) (area index code : Nat) (sev : Severity) (repeats : Nat) :
    State :=
  let seq := (s.err.seq + 1) % 256
  let r : ErrRec := ⟨s.errTime, area, index, code, sev, repeats, seq⟩
  let room := queueRoom s.err.queue sev
  let q := if room then s.err.queue ++ [r] else s.err.queue
  let s1 : State := { s with err := { s.err with
    seq := seq
    queue := q
    lost := if room then s.err.lost else s.err.lost + 1
    nfault := s.err.nfault || sev == .failed } }
  let s2 := s1.set D.err_sequence seq
  let s3 := if room then s2 else s2.count D.err_overflow
  let s4 := s3.set D.err_queue_max (max (s3.get D.err_queue_max) q.length)
  if s.get D.err_alarm_severity ≤ sev.rank then s4.countSat D.err_alarm_pending else s4

/-- One occurrence of an error: folded, held, or raised as a record (R648, R649). -/
def State.error (s : State) (area index code : Nat) (sev : Severity) : State :=
  if s.err.queue.any (fun r => sameKey r area index code) then
    { s with err := { s.err with queue := foldRec s.err.queue area index code } }
  else if s.err.held.any (fun h => h.area == area && h.index == index && h.code == code) then
    { s with err := { s.err with
      held := s.err.held.map fun h =>
        if h.area == area && h.index == index && h.code == code then
          { h with held := h.held + 1 } else h } }
  else
    let t := s.raiseRec area index code sev 0
    if rateLimited code then
      { t with err := { t.err with held := t.err.held ++ [⟨area, index, code, sev, 0⟩] } }
    else t

/-! ### Histogram units (R637–R643) -/

/-- The configuration of a unit is invalid (R642). -/
def State.histInvalid (s : State) (u : Nat) : Bool :=
  F32.le (s.getF D.hist_hi u) (s.getF D.hist_lo u) ||
    (s.get D.hist_scale u == 1 && F32.le (s.getF D.hist_lo u) F32.zero)

/-- The bin of a value (R639). -/
def histBin (log : Bool) (lo hi v : F32) : Nat :=
  if v.isNaN then 63
  else
    let t0 :=
      if log then
        F32.div (F32.log10 (F32.div v.abs lo)) (F32.log10 (F32.div hi lo))
      else F32.div (F32.sub v lo) (F32.sub hi lo)
    let t := F32.mul t0 0x42780000#32
    if F32.lt t F32.zero then 0
    else if F32.le 0x42780000#32 t then 63
    else if t.isNaN then 63
    else (1 + t.floor).toNat

/-- Record a value in one unit (R640). -/
def histAdd (h : HistUnit) (bin : Nat) (v : F32) : HistUnit :=
  let n := (look h.bins bin).getD 0
  { h with
    count := (h.count + 1) % 2 ^ 64
    bins := put h.bins bin (min (n + 1) 0xFFFFFFFF)
    least := if v.isNaN then h.least else F32.min h.least v
    greatest := if v.isNaN then h.greatest else F32.max h.greatest v }

/-- Record a value in every unit from `u` on that records its source and selection. -/
def State.histFrom (s : State) (src sel : Nat) (v : F32) : Nat → Nat → State
  | 0, _ => s
  | n + 1, u =>
    let t :=
      if s.get D.hist_source u == src && s.get D.hist_select u == sel && !s.histInvalid u then
        let bin := histBin (s.get D.hist_scale u == 1) (s.getF D.hist_lo u) (s.getF D.hist_hi u) v
        { s with hist := modAt s.hist u fun h => histAdd h bin v }
      else s
    State.histFrom t src sel v n (u + 1)

/-- Record a value of a histogram source (R638): STREAM_SLACK 1, DMC_LATENCY 2, BLOCK_TIME 3,
PTP_OFFSET 4, OUT_LEVEL 5, MIC_LEVEL 6. -/
def State.histRecord (s : State) (src sel : Nat) (v : F32) : State := s.histFrom src sel v 32 0

/-- The bins of a snapshot from bin `b` on. -/
def binBytes (bins : List (Nat × Nat)) : Nat → Nat → List Byte
  | 0, _ => []
  | n + 1, b => beBytes 4 ((look bins b).getD 0) ++ binBytes bins n (b + 1)

/-- The bytes of a snapshot taken at a boundary (R643). -/
def histBytes (h : HistUnit) (block : Nat) : List Byte :=
  beBytes 8 h.start ++ beBytes 8 block ++ beBytes 8 h.count ++ beBytes 4 h.least.toNat ++
    beBytes 4 h.greatest.toNat ++ binBytes h.bins 64 0

/-- Copy the live contents of a unit into its snapshot and clear them (R641). -/
def State.histSnap (s : State) (u block : Nat) : State :=
  let h := s.hist.getD u {}
  let t := s.setBlob D.hist_snapshot (histBytes h block) u
  { t with hist := modAt t.hist u fun h => { start := block, clear := h.clear } }

/-! ### Proof windows (R419) -/

/-- The window in progress becomes INCONCLUSIVE for outputs (R419). -/
def State.spoilOutputs (s : State) (p : Nat → Bool) : State :=
  let l := s.svc.stipple.map fun x => if p x.out then { x with spoiled := true } else x
  { s with svc := { s.svc with stipple := l } }

end Sys2Proof.Machine
end

