-- ==== Sys2Proof/Machine/Hash.lean ====
section
/-! DEFINITION. The digests that the spec names: SHA-256 (R499, R512, R609), CRC-32 of IEEE
802.3 and the CRC-64 of R551, over bytes. -/

namespace Sys2Proof.Machine

open Sys2Proof

/-! ### SHA-256 (FIPS 180-4; log entry 29) -/

/-- The round constants. -/
def shaK : List Word32 :=
  [0x428A2F98#32, 0x71374491#32, 0xB5C0FBCF#32, 0xE9B5DBA5#32, 0x3956C25B#32, 0x59F111F1#32,
   0x923F82A4#32, 0xAB1C5ED5#32, 0xD807AA98#32, 0x12835B01#32, 0x243185BE#32, 0x550C7DC3#32,
   0x72BE5D74#32, 0x80DEB1FE#32, 0x9BDC06A7#32, 0xC19BF174#32, 0xE49B69C1#32, 0xEFBE4786#32,
   0x0FC19DC6#32, 0x240CA1CC#32, 0x2DE92C6F#32, 0x4A7484AA#32, 0x5CB0A9DC#32, 0x76F988DA#32,
   0x983E5152#32, 0xA831C66D#32, 0xB00327C8#32, 0xBF597FC7#32, 0xC6E00BF3#32, 0xD5A79147#32,
   0x06CA6351#32, 0x14292967#32, 0x27B70A85#32, 0x2E1B2138#32, 0x4D2C6DFC#32, 0x53380D13#32,
   0x650A7354#32, 0x766A0ABB#32, 0x81C2C92E#32, 0x92722C85#32, 0xA2BFE8A1#32, 0xA81A664B#32,
   0xC24B8B70#32, 0xC76C51A3#32, 0xD192E819#32, 0xD6990624#32, 0xF40E3585#32, 0x106AA070#32,
   0x19A4C116#32, 0x1E376C08#32, 0x2748774C#32, 0x34B0BCB5#32, 0x391C0CB3#32, 0x4ED8AA4A#32,
   0x5B9CCA4F#32, 0x682E6FF3#32, 0x748F82EE#32, 0x78A5636F#32, 0x84C87814#32, 0x8CC70208#32,
   0x90BEFFFA#32, 0xA4506CEB#32, 0xBEF9A3F7#32, 0xC67178F2#32]

/-- The initial hash value. -/
def shaInit : List Word32 :=
  [0x6A09E667#32, 0xBB67AE85#32, 0x3C6EF372#32, 0xA54FF53A#32, 0x510E527F#32, 0x9B05688C#32, 0x1F83D9AB#32, 0x5BE0CD19#32]

def rotr (x : Word32) (n : Nat) : Word32 := x.rotateRight n

/-- The words of the message schedule, newest first. -/
def shaExtend : Nat → List Word32 → List Word32
  | 0, w => w
  | n + 1, w =>
    let a := w.getD 1 0#32
    let b := w.getD 14 0#32
    let s1 := rotr a 17 ^^^ rotr a 19 ^^^ (a >>> 10)
    let s0 := rotr b 7 ^^^ rotr b 18 ^^^ (b >>> 3)
    shaExtend n ((w.getD 15 0#32 + s0 + w.getD 6 0#32 + s1) :: w)

/-- One round on the working variables a … h. -/
def shaRound (v : List Word32) (kw : Word32) : List Word32 :=
  match v with
  | [a, b, c, d, e, f, g, h] =>
    let t1 := h + (rotr e 6 ^^^ rotr e 11 ^^^ rotr e 25) + ((e &&& f) ^^^ (~~~e &&& g)) + kw
    let t2 := (rotr a 2 ^^^ rotr a 13 ^^^ rotr a 22) +
      ((a &&& b) ^^^ (a &&& c) ^^^ (b &&& c))
    [t1 + t2, a, b, c, d + t1, e, f, g]
  | _ => v

/-- The words of bytes, big end first. -/
def wordsOf : List Byte → List Word32
  | a :: b :: c :: d :: l => BitVec.ofNat 32 (beNat [a, b, c, d]) :: wordsOf l
  | _ => []

/-- One block of 64 bytes. -/
def shaBlock (h : List Word32) (block : List Byte) : List Word32 :=
  let w := (shaExtend 48 (wordsOf block).reverse).reverse
  let v := (List.zipWith (· + ·) shaK w).foldl shaRound h
  List.zipWith (· + ·) h v

/-- The blocks of a padded message. -/
def shaBlocks : Nat → List Word32 → List Byte → List Word32
  | 0, h, _ => h
  | n + 1, h, l => shaBlocks n (shaBlock h (l.take 64)) (l.drop 64)

/-- The SHA-256 of bytes, as 32 bytes. -/
def sha256 (m : List Byte) : List Byte :=
  let zeros := (119 - m.length % 64) % 64
  let p := m ++ 0x80#8 :: List.replicate zeros 0#8 ++ beBytes 8 (8 * m.length)
  (shaBlocks (p.length / 64) shaInit p).flatMap fun w => beBytes 4 w.toNat

/-! ### CRCs -/

/-- One bit of a reflected CRC. -/
def crcBit (poly r : Nat) : Nat := if r % 2 = 1 then r / 2 ^^^ poly else r / 2

def crcBits (poly : Nat) : Nat → Nat → Nat
  | 0, r => r
  | n + 1, r => crcBits poly n (crcBit poly r)

/-- A reflected CRC with initial value and final XOR all ones. -/
def crcOf (poly ones : Nat) (m : List Byte) : Nat :=
  (m.foldl (fun r b => crcBits poly 8 (r ^^^ b.toNat)) ones) ^^^ ones

/-- CRC-32 of IEEE 802.3 (R539, R551). -/
def crc32 (m : List Byte) : Nat := crcOf 0xEDB88320 0xFFFFFFFF m

/-- The CRC-64 of R551: polynomial 0x42F0_E1EB_A9EA_3693, reflected. -/
def crc64 (m : List Byte) : Nat := crcOf 0xC96C5795D7870F42 0xFFFFFFFFFFFFFFFF m

end Sys2Proof.Machine
end

