-- ==== Sys2Proof/Machine/Ecc.lean ====
section
/-! DEFINITION. The curve P-256: key agreement (R112) and ECDSA over SHA-256 (R110, R608). -/

namespace Sys2Proof.Machine

open Sys2Proof

/-! ### The curve (FIPS 186-4; log entry 29) -/

/-- The prime of the field, the order of the group, and the coefficient b. -/
def eccP : Nat := 0xFFFFFFFF00000001000000000000000000000000FFFFFFFFFFFFFFFFFFFFFFFF
def eccN : Nat := 0xFFFFFFFF00000000FFFFFFFFFFFFFFFFBCE6FAADA7179E84F3B9CAC2FC632551
def eccB : Nat := 0x5AC635D8AA3A93E7B3EBBD55769886BC651D06B0CC53B0F63BCE3C3E27D2604B

/-- The generator. -/
def eccG : Nat × Nat :=
  (0x6B17D1F2E12C4247F8BCE6E563A440F277037D812DEB33A0F4A13945D898C296,
   0x4FE342E2FE1A7F9B8EE7EB4A7C0F9E162BCE33576B315ECECBB6406837BF51F5)

/-- A power modulo `m`, over the low bits of the exponent. -/
def powMod (m : Nat) : Nat → Nat → Nat → Nat
  | 0, _, _ => 1 % m
  | n + 1, b, e =>
    let r := powMod m n (b * b % m) (e / 2)
    if e % 2 = 1 then r * b % m else r

/-- The inverse modulo a prime below 2²⁵⁶. -/
def invMod (m a : Nat) : Nat := powMod m 256 (a % m) (m - 2)

def subMod (a b : Nat) : Nat := (a + eccP - b % eccP) % eccP

/-- A point with both coordinates in the field that satisfies y² = x³ − 3x + b. -/
def onCurve (q : Nat × Nat) : Bool :=
  decide (q.1 < eccP) && decide (q.2 < eccP) && decide (q.2 * q.2 % eccP = (subMod (q.1 * q.1 * q.1) (3 * q.1) + eccB) % eccP)

/-- The point on the line of slope `l` through two points, mirrored. -/
def eccThird (l : Nat) (a : Nat × Nat) (bx : Nat) : Nat × Nat :=
  let x := subMod (subMod (l * l) a.1) bx
  (x, subMod (l * subMod a.1 x) a.2)

/-- The sum of two points; none is the point at infinity. -/
def eccAdd : Option (Nat × Nat) → Option (Nat × Nat) → Option (Nat × Nat)
  | none, b => b
  | a, none => a
  | some a, some b =>
    if a.1 ≠ b.1 then some (eccThird (subMod b.2 a.2 * invMod eccP (subMod b.1 a.1)) a b.1)
    else if a.2 = b.2 && a.2 ≠ 0 then some (eccThird (subMod (3 * a.1 * a.1) 3 * invMod eccP (2 * a.2)) a b.1)
    else none

/-- A multiple of a point, over the low bits of the factor. -/
def eccMul : Nat → Nat → Option (Nat × Nat) → Option (Nat × Nat)
  | 0, _, _ => none
  | n + 1, k, q =>
    let r := eccMul n (k / 2) (eccAdd q q)
    if k % 2 = 1 then eccAdd r q else r

def eccTimes (k : Nat) (q : Nat × Nat) : Option (Nat × Nat) := eccMul 256 k (some q)

/-! ### Keys and signatures -/

/-- An uncompressed public key of 65 bytes (R110). -/
def keyBytes (q : Nat × Nat) : List Byte := 0x04#8 :: (beBytes 32 q.1 ++ beBytes 32 q.2)

/-- The point that 65 bytes spell; none where they are no key of the curve. -/
def keyOf (l : List Byte) : Option (Nat × Nat) :=
  let q := (beNat ((l.drop 1).take 32), beNat (l.drop 33))
  if l.length = 65 && l.headD 0#8 = 0x04#8 && onCurve q then some q else none

/-- The public key of a private one. -/
def publicKey (d : Nat) : Nat × Nat := (eccTimes d eccG).getD (0, 0)

/-- The x-coordinate that two sides agree on, as 32 bytes (R112). -/
def sharedSecret (d : Nat) (q : Nat × Nat) : List Byte := beBytes 32 ((eccTimes d q).getD (0, 0)).1

/-- A signature (r, s) over a digest verifies with a key. -/
def ecdsaVerify (q : Nat × Nat) (digest : List Byte) (r s : Nat) : Bool :=
  let w := invMod eccN s
  let z := beNat digest
  decide (0 < r) && decide (r < eccN) && decide (0 < s) && decide (s < eccN) &&
    match eccAdd (eccTimes (z * w % eccN) eccG) (eccTimes (r * w % eccN) q) with
    | some x => x.1 % eccN == r
    | none => false

/-- The signature of a digest with a private key and a nonce, r then s. -/
def ecdsaSign (d k : Nat) (digest : List Byte) : List Byte :=
  let r := (publicKey k).1 % eccN
  beBytes 32 r ++ beBytes 32 (invMod eccN k * ((beNat digest + r * d) % eccN) % eccN)

/-- A signature of 64 bytes, r then s, over a digest verifies with a key. -/
def signed (q : Nat × Nat) (digest sig : List Byte) : Bool :=
  decide (sig.length = 64) && ecdsaVerify q digest (beNat (sig.take 32)) (beNat (sig.drop 32))

/-- A private key, or a nonce of a signature, that a free value gives. -/
def scalarOf (free : Nat) : Nat := 1 + free % (eccN - 1)

end Sys2Proof.Machine
end

