-- ==== Sys2Proof/Machine/Cert.lean ====
section
/-! DEFINITION. X.509 v3 certificates and chains of them, in DER (R111, R113, R606, R609). -/

namespace Sys2Proof.Machine

open Sys2Proof

/-! ### DER (ITU-T X.690; log entry 98) -/

/-- An element: its tag, its contents, and its bytes whole. -/
structure Der where
  tag : Nat
  body : List Byte
  whole : List Byte
  deriving DecidableEq, Repr

/-- The first element of bytes, and what follows it; lengths have at most two bytes, as within 8 KiB. -/
def derFirst (l : List Byte) : Option (Der × List Byte) :=
  let tag := (l.headD 0#8).toNat
  let n := (l.getD 1 0#8).toNat
  let long (k : Nat) : Option (Der × List Byte) :=
    let len := beNat ((l.drop 2).take k)
    if l.length < 2 + k + len then none
    else some (⟨tag, ((l.drop (2 + k)).take len), l.take (2 + k + len)⟩, l.drop (2 + k + len))
  if l.length < 2 then none
  else if n < 0x80 then (if l.length < 2 + n then none else some (⟨tag, (l.drop 2).take n, l.take (2 + n)⟩, l.drop (2 + n)))
  else if n = 0x81 then long 1
  else if n = 0x82 then long 2
  else none

/-- The elements that bytes are made of, at most `n`. -/
def derList : Nat → List Byte → Option (List Der)
  | 0, l => if l.isEmpty then some [] else none
  | n + 1, l =>
    if l.isEmpty then some []
    else
      match derFirst l with
      | none => none
      | some (d, rest) => (derList n rest).map fun m => d :: m

/-- The elements inside a SEQUENCE or SET. -/
def Der.inside (d : Der) : List Der := (derList 64 d.body).getD []

def Der.at_ (d : Der) (n : Nat) : Der := d.inside.getD n ⟨0, [], []⟩

/-! ### Times -/

/-- The days from 1970-01-01 to a date of the Gregorian calendar, the year taken from March on. -/
def daysOf (y m d : Nat) : Nat :=
  let y' := if m ≤ 2 then y - 1 else y
  let doy := (153 * (if m ≤ 2 then m + 9 else m - 3) + 2) / 5 + d - 1
  y' * 365 + y' / 4 - y' / 100 + y' / 400 + doy - 719468

/-- The number that ASCII digits spell. -/
def digits (l : List Byte) : Nat := l.foldl (fun n b => 10 * n + (b.toNat - 48)) 0

/-- The seconds since 1970-01-01 UTC of a UTCTime (tag 0x17) or GeneralizedTime (RFC 5280). -/
def derTime (d : Der) : Nat :=
  let two (n : Nat) : Nat := digits ((d.body.drop n).take 2)
  let short := d.tag == 0x17
  let y := if short then (if two 0 < 50 then 2000 + two 0 else 1900 + two 0) else digits (d.body.take 4)
  let o := if short then 2 else 4
  ((daysOf y (two o) (two (o + 2)) * 24 + two (o + 4)) * 60 + two (o + 6)) * 60 + two (o + 8)

/-! ### Certificates (RFC 5280) -/

/-- What the checks use of a certificate. -/
structure Cert where
  /-- The signed part, and the signature (r, s) over its SHA-256. -/
  tbs : List Byte
  sig : Nat × Nat
  issuer : List Byte
  subject : List Byte
  notBefore : Nat
  notAfter : Nat
  /-- Its P-256 public key. -/
  key : Nat × Nat
  /-- Its extensions: keyUsage digitalSignature, and basicConstraints CA. -/
  signs : Bool
  ca : Bool
  /-- The object identifiers of its extended key usages. -/
  purposes : List (List Byte)
  deriving DecidableEq, Repr

/-- The contents of an extension, by its object identifier. -/
def extension (l : List Der) (oid : List Byte) : Option (List Byte) :=
  match l.find? fun e => (e.at_ 0).body == oid with
  | some e => some ((e.inside.getLast?.map fun d => d.body).getD [])
  | none => none

/-- The object identifiers keyUsage, basicConstraints and extKeyUsage. -/
def oidKeyUsage : List Byte := [0x55#8, 0x1D#8, 0x0F#8]
def oidConstraints : List Byte := [0x55#8, 0x1D#8, 0x13#8]
def oidPurposes : List Byte := [0x55#8, 0x1D#8, 0x25#8]

/-- A certificate as its element spells it: version 3 with a P-256 key. -/
def certOf (d : Der) : Option Cert :=
  let tbs := d.at_ 0
  let sig := match derFirst ((d.at_ 2).body.drop 1) with
    | some (e, _) => (beNat (e.at_ 0).body, beNat (e.at_ 1).body)
    | none => (0, 0)
  let exts := (((tbs.inside.drop 7).find? fun e => e.tag == 0xA3).map fun e => (e.at_ 0).inside).getD []
  let bits := (extension exts oidKeyUsage).map fun b => (((b.drop 3).headD 0#8).toNat)
  let ca := match (extension exts oidConstraints).bind derFirst with
    | some (e, _) => (e.at_ 0).tag == 0x01 && (e.at_ 0).body != [0#8]
    | none => false
  let purposes := match (extension exts oidPurposes).bind derFirst with
    | some (e, _) => e.inside.map fun x => x.body
    | none => []
  if d.tag != 0x30 || d.inside.length != 3 || (tbs.at_ 0).tag != 0xA0 || (tbs.at_ 0).body != [0x02#8, 0x01#8, 0x02#8] then none
  else
    (keyOf (((tbs.at_ 6).at_ 1).body.drop 1)).map fun q =>
      { tbs := tbs.whole, sig := sig, issuer := (tbs.at_ 3).whole, subject := (tbs.at_ 5).whole,
        notBefore := derTime ((tbs.at_ 4).at_ 0), notAfter := derTime ((tbs.at_ 4).at_ 1), key := q,
        signs := bits.any fun n => n.testBit 7, ca := ca, purposes := purposes }

/-- The certificates of a chain, leaf first: at most 8 KiB and a depth of at most 4 (R111). -/
def certChain (l : List Byte) : Option (List Cert) :=
  if 8192 < l.length || l.isEmpty then none
  else (derList 4 l).bind fun m => m.mapM certOf

/-- A certificate is signed by another, which is the one it names as its issuer. -/
def Cert.signedBy (c by_ : Cert) : Bool := c.issuer == by_.subject && ecdsaVerify by_.key (sha256 c.tbs) c.sig.1 c.sig.2

/-- Each certificate of a chain is signed by the next, a CA, and the last by the anchor. -/
def chainVerifies (anchor : Cert) : List Cert → Bool
  | [] => false
  | [c] => c == anchor || c.signedBy anchor
  | c :: d :: l => d.ca && c.signedBy d && chainVerifies anchor (d :: l)

/-- A chain verifies to the certificate that an anchor's bytes spell. -/
def verifiesTo (anchor : List Byte) (l : List Cert) : Bool :=
  match derFirst anchor with
  | some (d, []) => (certOf d).any fun a => chainVerifies a l
  | _ => false

/-- Every validity period of a chain holds at a time in seconds. -/
def chainValidAt (now : Nat) (l : List Cert) : Bool := l.all fun c => decide (c.notBefore ≤ now) && decide (now ≤ c.notAfter)

/-- An owner certificate: self-signed, with a P-256 key and basicConstraints CA true (R606). -/
def ownerCertOk (l : List Byte) : Bool :=
  match derFirst l with
  | some (d, []) => (certOf d).any fun c => c.ca && c.signedBy c
  | _ => false

/-- A firmware image whose rollback is at least the number of blown fuses is valid (R608, R609). -/
def firmwareOk (fuses : Nat) (l : List Byte) : Bool :=
  let field (at_ n : Nat) : List Byte := (l.drop at_).take n
  let num (at_ n : Nat) : Nat := beNat (field at_ n)
  let zero (at_ n : Nat) : Bool := (field at_ n).all fun b => b == 0#8
  let len := num 16 4
  let chainLen := num 52 2
  let chain := field 120 chainLen
  decide (l.length = 4096 + len) && num 0 4 == 0x53484B31 && num 4 2 == 1 && num 6 2 == 0x0400 &&
    decide (num 12 1 ≤ 64) && zero 13 3 && decide (1 ≤ len) && decide (len ≤ 16773120) &&
    decide (1 ≤ chainLen) && decide (chainLen ≤ 3072) && zero 54 2 && zero (120 + chainLen) (3976 - chainLen) &&
    decide (fuses ≤ num 12 1) && field 20 32 == sha256 (l.drop 4096) &&
    (match certChain chain with
     | some (leaf :: m) =>
       verifiesTo Config.firmwareRoot (leaf :: m) && leaf.purposes.contains Config.firmwareUsage &&
         signed leaf.key (sha256 (l.take 56 ++ chain)) (field 56 64)
     | _ => false)

/-- The first 16 bytes of the SHA-256 of a chain's leaf certificate (R115). -/
def leafPrint (chain : List Byte) : Nat :=
  match derFirst chain with
  | some (d, _) => beNat ((sha256 d.whole).take 16)
  | none => 0

end Sys2Proof.Machine
end

