-- ==== Sys2Proof/Machine/Aes.lean ====
section
/-! DEFINITION. AES-128-GCM, which protects the frames of a session (R116), and HKDF-SHA-256, which
derives its keys (R112). -/

namespace Sys2Proof.Machine

open Sys2Proof

/-! ### The field of AES (FIPS 197; log entry 29) -/

/-- Times x, modulo x⁸ + x⁴ + x³ + x + 1. -/
def aesDouble (a : Nat) : Nat := if a < 128 then 2 * a else (2 * a) ^^^ 0x11B

/-- The product of two field elements, over the bits of the second. -/
def aesTimes : Nat → Nat → Nat → Nat
  | 0, _, _ => 0
  | n + 1, a, b => (if b % 2 = 1 then a else 0) ^^^ aesTimes n (aesDouble a) (b / 2)

/-- The product of the powers of `a` that the 2nd, 4th, … 128th are: its inverse, the 254th. -/
def aesInverse (a : Nat) : Nat :=
  ((List.range 7).foldl (fun (e : Nat × Nat) _ =>
    let q := aesTimes 8 e.2 e.2
    (aesTimes 8 e.1 q, q)) (1, a)).1

/-- The substitution of a byte. -/
def aesSub (x : Byte) : Byte :=
  let b : Byte := BitVec.ofNat 8 (aesInverse x.toNat)
  b ^^^ b.rotateLeft 1 ^^^ b.rotateLeft 2 ^^^ b.rotateLeft 3 ^^^ b.rotateLeft 4 ^^^ 0x63#8

/-! ### The cipher -/

def xorBytes (a b : List Byte) : List Byte := List.zipWith (· ^^^ ·) a b

/-- The round keys that follow a round key: `n` more, with the constant of the first of them. -/
def aesKeys : Nat → Nat → List Byte → List (List Byte)
  | 0, _, _ => []
  | n + 1, rcon, k =>
    let t := (k.drop 13 ++ (k.drop 12).take 1).map aesSub
    let a := xorBytes (k.take 4) (xorBytes t [BitVec.ofNat 8 rcon, 0#8, 0#8, 0#8])
    let b := xorBytes ((k.drop 4).take 4) a
    let c := xorBytes ((k.drop 8).take 4) b
    let d := xorBytes ((k.drop 12).take 4) c
    let next := a ++ b ++ c ++ d
    next :: aesKeys n (aesDouble rcon) next

/-- The rows of the state, its columns being four bytes each, turn left by their number. -/
def aesShift (s : List Byte) : List Byte :=
  (List.range 16).map fun n => s.getD ((n + 4 * (n % 4)) % 16) 0#8

/-- One column is multiplied by the fixed polynomial. -/
def aesColumn (c : List Byte) : List Byte :=
  let at_ (n : Nat) : Nat := (c.getD (n % 4) 0#8).toNat
  (List.range 4).map fun n =>
    BitVec.ofNat 8 (aesDouble (at_ n) ^^^ aesDouble (at_ (n + 1)) ^^^ at_ (n + 1) ^^^ at_ (n + 2) ^^^ at_ (n + 3))

def aesMix (s : List Byte) : List Byte :=
  (List.range 4).flatMap fun n => aesColumn ((s.drop (4 * n)).take 4)

/-- The rounds after the first key addition; the last one does not mix. -/
def aesRounds : List (List Byte) → List Byte → List Byte
  | [], s => s
  | [k], s => xorBytes (aesShift (s.map aesSub)) k
  | k :: l, s => aesRounds l (xorBytes (aesMix (aesShift (s.map aesSub))) k)

/-- A block of 16 bytes under a key of 16 bytes. -/
def aesBlock (key block : List Byte) : List Byte := aesRounds (aesKeys 10 1 key) (xorBytes block key)

/-! ### Galois/counter mode (NIST SP 800-38D; log entry 29) -/

/-- The product in the field of GHASH, bit 127 being the first bit of a block, over the bits of the
first factor from there on. -/
def ghashTimes : Nat → Nat → Nat → Nat
  | 0, _, _ => 0
  | n + 1, x, v =>
    (if x.testBit n then v else 0) ^^^
      ghashTimes n x (if v % 2 = 1 then (v / 2) ^^^ (0xE1 * 2 ^ 120) else v / 2)

/-- The 16-byte blocks of bytes, the last one filled with zeros, as numbers. -/
def gcmBlocks : Nat → List Byte → List Nat
  | 0, _ => []
  | n + 1, l => if l.isEmpty then [] else beNat ((l.take 16 ++ List.replicate 15 0#8).take 16) :: gcmBlocks n (l.drop 16)

def ghash (h : Nat) (l : List Nat) : Nat := l.foldl (fun y x => ghashTimes 128 (y ^^^ x) h) 0

/-- The stream of counter mode from a counter on, over a text. -/
def gcmStream (key nonce : List Byte) : Nat → Nat → List Byte → List Byte
  | 0, _, _ => []
  | n + 1, c, l =>
    if l.isEmpty then []
    else xorBytes (l.take 16) (aesBlock key (nonce ++ beBytes 4 c)) ++ gcmStream key nonce n (c + 1) (l.drop 16)

/-- The ciphertext of a text; the text of a ciphertext. -/
def gcmCrypt (key nonce text : List Byte) : List Byte := gcmStream key nonce (text.length + 1) 2 text

/-- The tag over the additional data and the ciphertext. -/
def gcmTag (key nonce aad cipher : List Byte) : List Byte :=
  let h := beNat (aesBlock key (List.replicate 16 0#8))
  let blocks := gcmBlocks (aad.length + 1) aad ++ gcmBlocks (cipher.length + 1) cipher ++
    [8 * aad.length * 2 ^ 64 + 8 * cipher.length]
  xorBytes (beBytes 16 (ghash h blocks)) (aesBlock key (nonce ++ beBytes 4 1))

/-! ### HKDF-SHA-256 (RFC 5869; log entry 29) -/

/-- HMAC-SHA-256 (RFC 2104). -/
def hmac (key m : List Byte) : List Byte :=
  let k := if 64 < key.length then sha256 key else key
  let k := k ++ List.replicate (64 - k.length) 0#8
  sha256 (k.map (· ^^^ 0x5C#8) ++ sha256 (k.map (· ^^^ 0x36#8) ++ m))

/-- The output of so many steps of the expansion, the first numbered `i`. -/
def hkdfExpand (prk info : List Byte) : Nat → Nat → List Byte → List Byte
  | 0, _, _ => []
  | n + 1, i, t =>
    let next := hmac prk (t ++ info ++ [BitVec.ofNat 8 i])
    next ++ hkdfExpand prk info n (i + 1) next

def hkdf (salt ikm info : List Byte) (len : Nat) : List Byte :=
  (hkdfExpand (hmac salt ikm) info ((len + 31) / 32) 1 []).take len

end Sys2Proof.Machine
end

