-- ==== Sys2Proof/Machine/Errors.lean ====
section
/-! DEFINITION. Handling of error records: the log, the escalation and the rate limit
(R603, R604, R648–R654). -/

namespace Sys2Proof.Machine

open Sys2Proof Host

/-! ### The log (R603, R604) -/

/-- The records the log holds (R603). -/
def logSize : Nat := 1048576

/-- Append a record; a full log loses its oldest 8192 records at once. -/
def State.logAppend (s : State) (r : ErrRec) : State :=
  let full := decide (logSize ≤ s.nand.log.length)
  let kept := if full then s.nand.log.drop 8192 else s.nand.log
  let n := s.get D.log_next
  let t : State := { s with nand := { s.nand with log := kept ++ [(n, r)], logGen := s.nand.logGen + 1 } }
  let t := if full then t.count D.log_overwritten 0 8192 else t
  let t := t.set D.log_next ((n + 1) % 2 ^ 32)
  t.set D.log_first (((kept ++ [(n, r)]).headD (n, r)).1)

/-- A record as its 16 bytes (R645). -/
def recBytes (r : ErrRec) : List Byte :=
  beBytes 8 r.time ++ beBytes 1 r.area ++ beBytes 2 r.index ++ beBytes 2 r.code ++
    beBytes 1 r.sev.rank ++ beBytes 1 r.repeats ++ beBytes 1 r.seq

/-- The contents of log_window: up to 1024 records from index `i` on (R604). -/
def State.logWindow (s : State) (i : Nat) : List Byte :=
  (((s.nand.log.filter fun e => decide (i ≤ e.1)).take 1024).flatMap fun e => recBytes e.2)

/-- LOG_CLEAR erases the log; the index goes on (R604). -/
def State.logClear (s : State) : State :=
  ({ s with nand := { s.nand with log := [], logGen := s.nand.logGen + 1 } } : State).set D.log_first (s.get D.log_next)

/-! ### Handling a record (R650–R653) -/

/-- A severity from its code. -/
def sevOf (n : Nat) : Severity :=
  match n % 4 with
  | 0 => .info | 1 => .warn | 2 => .degraded | _ => .failed

def countObj : Severity → Obj
  | .info => D.err_count_info | .warn => D.err_count_warn
  | .degraded => D.err_count_degraded | .failed => D.err_count_failed

/-- The record handled next: the highest severity, then the earliest (R651). -/
def nextRec : List ErrRec → Option ErrRec
  | [] => none
  | r :: l =>
    match nextRec l with
    | none => some r
    | some q => if r.sev.rank < q.sev.rank then some q else some r

/-- The record that a full queue owes, once it has room (R650). -/
def State.owed (s : State) : State :=
  if s.err.lost != 0 && queueRoom s.err.queue .warn then
    (let n := s.err.lost
     ({ s with err := { s.err with lost := 0 } } : State).raiseRec 0x7C 0 0x0C04 .warn (min 255 n))
  else s

/-- A failure of the logging path: one record per second, of a severity the manual does not
give (R651, log entry 1). -/
def State.logFail (s : State) : State :=
  if s.err.logFailSecond then s
  else
    (({ s with err := { s.err with logFailSecond := true } } : State).raiseRec 0x7C 0 0x0C05
      (sevOf s.freeHere) 0).pass

/-- Log a record that is severe enough; LOG_WRITE_FAIL itself is not logged (R651). -/
def State.logRec (s : State) (r : ErrRec) (ok : Bool) : State :=
  if r.sev.rank < s.get D.log_min_severity || r.code == 0x0C05 then s
  else if ok then s.logAppend r
  else s.logFail

/-- Handle one record: log it, show it and count it (R651). -/
def State.handleRec (s : State) (r : ErrRec) (ok : Bool) : State :=
  let recent := (s.err.recent ++ [r]).drop ((s.err.recent.length + 1) - 64)
  let t : State := { s with err := { s.err with
    queue := s.err.queue.filter fun q => q.seq != r.seq || !sameKey q r.area r.index r.code
    recent := recent
    lastFailed := if r.sev = .failed then some r else s.err.lastFailed } }
  let t := t.setBlob D.err_recent (recent.flatMap recBytes)
  let t := if r.sev = .failed then t.setBlob D.err_last_failed (recBytes r) else t
  ((t.count (countObj r.sev)).logRec r ok).owed

/-- ERROR_HANDLE: Shank takes the next record; `ok` says whether the log was written (R651). -/
def execErrorHandle (ok : Bool) (s : State) : Outcome State Fault Refusal :=
  match nextRec s.err.queue with
  | none => .next s
  | some r => .next (s.handleRec r ok)

/-- Write the FAILED records of the queue to the log (R30, R603). -/
def State.drainFailed (s : State) : State :=
  ((s.err.queue.filter fun r => r.sev == .failed).foldl (fun t r => t.handleRec r true) s)

/-- RATE_LIMIT_SECOND_END: the second of a rate-limited key ends; what was held becomes one
record, which starts the next second (R649). The second of LOG_WRITE_FAIL ends with its code
(R651). -/
def execRateLimitSecondEnd (area index code : Nat) (s : State) : Outcome State Fault Refusal :=
  if code = 0x0C05 then .next { s with err := { s.err with logFailSecond := false } }
  else
    match s.err.held.find? fun h => h.area == area && h.index == index && h.code == code with
    | none => .next s
    | some h =>
      let rest := s.err.held.filter fun x => !(x.area == area && x.index == index && x.code == code)
      if h.held = 0 then .next { s with err := { s.err with held := rest } }
      else
        .next (({ s with err := { s.err with held := rest ++ [{ h with held := 0 }] } } : State).raiseRec
          area index code h.sev (min 255 (h.held - 1)))

/-! ### Acknowledgement (R652, R653) -/

/-- ERR_ALARM_ACK (R653). -/
def State.alarmAck (s : State) : State := s.set D.err_alarm_pending 0

/-- ERR_FAULT_CLEAR (R652). -/
def State.faultClear (s : State) : State := { s with err := { s.err with nfault := false } }

end Sys2Proof.Machine
end

