-- ==== Sys2Proof/Machine/Bundle.lean ====
section
/-! DEFINITION. The bundles of the Graver cores (R340–R345, R348): their slots, their encoding
and its decoder. -/

namespace Sys2Proof.Machine

/-- A load slot (R341). -/
structure LoadSlot where
  en : BitVec 1
  f : BitVec 4
  a : BitVec 3
  m : BitVec 2
  deriving DecidableEq, Repr

/-- A store slot (R341). -/
structure StoreSlot where
  en : BitVec 1
  sp : BitVec 1
  src : BitVec 5
  a : BitVec 3
  m : BitVec 2
  deriving DecidableEq, Repr

/-- Bits [35:0] of DUAL, ALU and ACC (R341). -/
structure Moves where
  ldx : LoadSlot
  ldy : LoadSlot
  st : StoreSlot
  ctl : BitVec 4
  deriving DecidableEq, Repr

/-- A MAC slot (R342): none 0, MAC 1, MSU 2. -/
structure MacSlot where
  op : BitVec 2
  acc : BitVec 2
  fs : BitVec 4
  ft : BitVec 4
  deriving DecidableEq, Repr

/-- A DFMA slot (R343): none 0, FMA 1, FMS 2, FADD 3. -/
structure FmaSlot where
  op : BitVec 2
  fd : BitVec 4
  fs : BitVec 4
  ft : BitVec 4
  deriving DecidableEq, Repr

/-- A bundle by its class (R340, R342–R344). -/
inductive Bundle
  | nop
  | dual (m0 m1 : MacSlot) (mv : Moves)
  | dfma (a b : FmaSlot) (ldx ldy : LoadSlot) (ctl : BitVec 4)
  | alu (op d s t : BitVec 6) (mv : Moves)
  | imm (d : BitVec 6) (value : BitVec 32)
  | acc (op : BitVec 4) (ad as_ : BitVec 2) (f : BitVec 4) (mv : Moves)
  | flow (op cond : BitVec 4) (level : BitVec 1) (count : BitVec 6) (target : BitVec 13)
      (n : BitVec 16)
  | sys (op : BitVec 4) (arg : BitVec 16)
  deriving DecidableEq, Repr

def LoadSlot.encode (l : LoadSlot) : BitVec 10 := l.en ++ l.f ++ l.a ++ l.m

def StoreSlot.encode (s : StoreSlot) : BitVec 12 := s.en ++ s.sp ++ s.src ++ s.a ++ s.m

def Moves.encode (m : Moves) : BitVec 36 := m.ldx.encode ++ m.ldy.encode ++ m.st.encode ++ m.ctl

def MacSlot.encode (m : MacSlot) : BitVec 12 := m.op ++ m.acc ++ m.fs ++ m.ft

def FmaSlot.encode (m : FmaSlot) : BitVec 14 := m.op ++ m.fd ++ m.fs ++ m.ft

/-- The word of a bundle; every reserved field is zero (R340–R344). -/
def Bundle.encode : Bundle → BitVec 64
  | .nop => 0#64
  | .dual m0 m1 mv => 1#4 ++ m0.encode ++ m1.encode ++ mv.encode
  | .dfma a b ldx ldy ctl => 2#4 ++ a.encode ++ b.encode ++ ldx.encode ++ ldy.encode ++ 0#8 ++ ctl
  | .alu op d s t mv => 3#4 ++ op ++ d ++ s ++ t ++ mv.encode
  | .imm d v => 4#4 ++ d ++ 0#22 ++ v
  | .acc op ad as_ f mv => 5#4 ++ op ++ ad ++ as_ ++ f ++ 0#12 ++ mv.encode
  | .flow op cond level count target n =>
    6#4 ++ op ++ cond ++ level ++ count ++ target ++ n ++ 0#16
  | .sys op arg => 7#4 ++ op ++ 0#24 ++ arg ++ 0#16

def loadAt (w : BitVec 64) (lo : Nat) : LoadSlot :=
  ⟨w.extractLsb' (lo + 9) 1, w.extractLsb' (lo + 5) 4, w.extractLsb' (lo + 2) 3, w.extractLsb' lo 2⟩

def movesOf (w : BitVec 64) : Moves :=
  ⟨loadAt w 26, loadAt w 16,
    ⟨w.extractLsb' 15 1, w.extractLsb' 14 1, w.extractLsb' 9 5, w.extractLsb' 6 3,
      w.extractLsb' 4 2⟩, w.extractLsb' 0 4⟩

def macAt (w : BitVec 64) (lo : Nat) : MacSlot :=
  ⟨w.extractLsb' (lo + 10) 2, w.extractLsb' (lo + 8) 2, w.extractLsb' (lo + 4) 4, w.extractLsb' lo 4⟩

def fmaAt (w : BitVec 64) (lo : Nat) : FmaSlot :=
  ⟨w.extractLsb' (lo + 12) 2, w.extractLsb' (lo + 8) 4, w.extractLsb' (lo + 4) 4, w.extractLsb' lo 4⟩

/-- The fields of a word by its class, whatever its reserved fields hold. -/
def parseBundle (w : BitVec 64) : Option Bundle :=
  match (w.extractLsb' 60 4).toNat with
  | 0 => some .nop
  | 1 => some (.dual (macAt w 48) (macAt w 36) (movesOf w))
  | 2 => some (.dfma (fmaAt w 46) (fmaAt w 32) (loadAt w 22) (loadAt w 12) (w.extractLsb' 0 4))
  | 3 => some (.alu (w.extractLsb' 54 6) (w.extractLsb' 48 6) (w.extractLsb' 42 6)
      (w.extractLsb' 36 6) (movesOf w))
  | 4 => some (.imm (w.extractLsb' 54 6) (w.extractLsb' 0 32))
  | 5 => some (.acc (w.extractLsb' 56 4) (w.extractLsb' 54 2) (w.extractLsb' 52 2)
      (w.extractLsb' 48 4) (movesOf w))
  | 6 => some (.flow (w.extractLsb' 56 4) (w.extractLsb' 52 4) (w.extractLsb' 51 1)
      (w.extractLsb' 45 6) (w.extractLsb' 32 13) (w.extractLsb' 16 16))
  | 7 => some (.sys (w.extractLsb' 56 4) (w.extractLsb' 16 16))
  | _ => none

/-! ### What makes a bundle ILLEGAL (R340) -/

/-- CTL codes that are listed (R341). -/
def ctlOk (c : BitVec 4) : Bool := [0, 1, 2, 4, 5, 6, 7].contains c.toNat

/-- A unified number that names a register (R337). -/
def regOk (r : BitVec 6) : Bool := r != 0x2E#6 && r != 0x2F#6

/-- Operation codes of ALU (R345). -/
def aluOps : List Nat :=
  [0x00, 0x01, 0x02, 0x08, 0x09, 0x0A, 0x0B, 0x0C, 0x0D, 0x0E, 0x0F, 0x10, 0x11, 0x18, 0x19, 0x1A,
    0x1B, 0x1C, 0x1D, 0x1E]

/-- A reserved source of a store (R341). -/
def StoreSlot.ok (s : StoreSlot) : Bool := s.en == 0#1 || decide (s.src.toNat < 20)

/-- The f registers a list of loads writes, without a repeat. -/
def loadsOk (ldx ldy : LoadSlot) : Bool := !(ldx.en == 1#1 && ldy.en == 1#1 && ldx.f == ldy.f)

/-- A load writes f register `r`. -/
def LoadSlot.writes (l : LoadSlot) (r : Nat) : Bool := l.en == 1#1 && l.f.toNat == r

def Moves.ok (m : Moves) : Bool := ctlOk m.ctl && m.st.ok && loadsOk m.ldx m.ldy

/-- A slot of the moves post-modifies the address register of a unified number (R350; log
entry 32). -/
def Moves.modifies (m : Moves) (r : Nat) : Bool :=
  (m.ldx.en == 1#1 && m.ldx.m != 0#2 && r == 0x10 + m.ldx.a.toNat) ||
  (m.ldy.en == 1#1 && m.ldy.m != 0#2 && r == 0x18 + m.ldy.a.toNat) ||
  (m.st.en == 1#1 && m.st.m != 0#2 && r == (if m.st.sp == 1#1 then 0x18 else 0x10) + m.st.a.toNat)

/-- The moves leave the destination of another slot alone (R340). -/
def Moves.spares (m : Moves) (r : Nat) : Bool :=
  !m.ldx.writes r && !m.ldy.writes r && !m.modifies r

/-- The accumulator that CTL clears. -/
def clears (ctl : BitVec 4) : Option Nat := if ctl.toNat ≥ 4 then some (ctl.toNat - 4) else none

/-- Two DFMA slots and the loads name different destinations (R340). -/
def dfmaOk (a b : FmaSlot) (ldx ldy : LoadSlot) : Bool :=
  let spare (s : FmaSlot) : Bool := s.op == 0#2 ||
    (!ldx.writes s.fd.toNat && !ldy.writes s.fd.toNat)
  loadsOk ldx ldy && spare a && spare b && !(a.op != 0#2 && b.op != 0#2 && a.fd == b.fd)

/-- A bundle that is not ILLEGAL, its reserved fields apart (R340–R345, R348). -/
def Bundle.legal : Bundle → Bool
  | .nop => true
  | .dual m0 m1 mv => m0.op != 3#2 && m1.op != 3#2 && mv.ok
  | .dfma a b ldx ldy ctl => ctlOk ctl && dfmaOk a b ldx ldy
  | .alu op d s t mv => aluOps.contains op.toNat && regOk d && regOk s && regOk t && mv.ok &&
      (op == 0x0F#6 || mv.spares d.toNat)
  | .imm d _ => regOk d
  | .acc op ad _ f mv => decide (op.toNat ≤ 5) && mv.ok &&
      (if op == 5#4 then !mv.ldx.writes f.toNat && !mv.ldy.writes f.toNat
       else clears mv.ctl != some ad.toNat)
  | .flow op cond _ count _ n => decide (op.toNat ≤ 5) &&
      (if op == 1#4 then decide (cond.toNat ≤ 9) else cond == 0#4) &&
      (if op == 5#4 then regOk count else count == 0#6) && (op == 4#4 || n == 0#16)
  | .sys op arg => decide (op.toNat ≤ 4) &&
      (if op == 2#4 then decide (1 ≤ arg.toNat) && decide (arg.toNat ≤ 4800)
       else op == 4#4 || arg == 0#16)

/-- Decode a word; none is ILLEGAL (R340). -/
def decodeBundle (w : BitVec 64) : Option Bundle :=
  match parseBundle w with
  | none => none
  | some b => if b.encode = w && b.legal then some b else none

end Sys2Proof.Machine
end

