-- ==== Sys2Proof/Machine/Kernel.lean ====
section
/-! DEFINITION. What one bundle does to the registers of its context (R337–R353): operands,
results, accumulators, flags, post-modification, loops and the scoreboard. -/

namespace Sys2Proof.Machine

open Sys2Proof

/-! ### Registers by their unified number (R337, R338) -/

/-- sr as a word; `ctx` is the context that issues (R338). -/
def GravCtx.sr (r : GravCtx) (ctx : Nat) : BitVec 32 :=
  BitVec.ofNat 32 ((if ctx = 1 then 2 ^ 23 else 0) + (if r.preq then 2 ^ 19 else 0) +
    (if r.lv1.isSome then 2 ^ 18 else 0) + (if r.lv0.isSome then 2 ^ 17 else 0) +
    (if r.inv then 2 ^ 7 else 0) + (if r.nanr then 2 ^ 6 else 0) + (if r.sat then 2 ^ 5 else 0) +
    r.cmp.toNat)

/-- Read a register by its unified number (R337). -/
def Inst.readReg (i : Inst) (n : Nat) : BitVec 32 :=
  let r := i.regs
  let k := n % 8
  if n < 0x10 then r.f.getD n 0#32
  else if n < 0x18 then (r.x.getD k 0#16).setWidth 32
  else if n < 0x20 then (r.y.getD k 0#16).setWidth 32
  else if n < 0x28 then (r.m.getD k 0#16).signExtend 32
  else if n < 0x2A then (r.lc.getD k 0#16).setWidth 32
  else if n = 0x2A then r.sr i.ctx
  else if n = 0x2B then BitVec.ofNat 32 i.block
  else if n = 0x2C then BitVec.ofNat 32 (i.block / 2 ^ 32)
  else if n = 0x2D then BitVec.ofNat 32 i.node
  else if n < 0x30 then 0#32
  else if n < 0x38 then r.amx.getD k 0#32
  else r.amy.getD k 0#32

/-- Write a register by its unified number; read-only registers ignore it (R337, R338). -/
def GravCtx.writeReg (r : GravCtx) (n : Nat) (v : BitVec 32) : GravCtx :=
  let k := n % 8
  let h := v.setWidth 16
  if n < 0x10 then { r with f := r.f.set n v }
  else if n < 0x18 then { r with x := r.x.set k h }
  else if n < 0x20 then { r with y := r.y.set k h }
  else if n < 0x28 then { r with m := r.m.set k h }
  else if n < 0x2A then { r with lc := r.lc.set k h }
  else if n = 0x2A then
    { r with inv := v.getLsbD 7, nanr := v.getLsbD 6, sat := v.getLsbD 5, cmp := v.extractLsb' 0 4 }
  else if n < 0x30 then r
  else if n < 0x38 then { r with amx := r.amx.set k v }
  else { r with amy := r.amy.set k v }

/-! ### Addresses (R339, R349, R350) -/

/-- The bits of `v` in reverse order, `k` of them. -/
def revBits : Nat → Nat → Nat
  | 0, _ => 0
  | k + 1, v => v % 2 * 2 ^ k + revBits k (v / 2)

/-- The least j with 2^j at or above `n`. -/
def ceilLog2 (n : Nat) : Nat := if n ≤ 1 then 0 else Nat.log2 (n - 1) + 1

/-- An address register after an increment, as its configuration word decides (R350). -/
def postModify (cfg : BitVec 32) (a : BitVec 16) (i : Int) : BitVec 16 :=
  let v := a.toNat
  match (cfg.extractLsb' 30 2).toNat with
  | 1 =>
    let n := (cfg.extractLsb' 0 16).toNat + 1
    let size : Nat := 2 ^ ceilLog2 n
    let b := v / size * size
    BitVec.ofInt 16 (b + (((v - b : Nat) : Int) + i) % (n : Int))
  | 2 =>
    let k := (cfg.extractLsb' 16 4).toNat + 1
    let size : Nat := 2 ^ k
    let inc := (i % (size : Int)).toNat
    let low := revBits k ((revBits k (v % size) + revBits k inc) % size)
    BitVec.ofNat 16 (v / size * size + low)
  | _ => BitVec.ofInt 16 (v + i)

/-- The increment of a post-modify code (R341). -/
def GravCtx.increment (r : GravCtx) (mode : BitVec 2) (reg : Nat) : Int :=
  let m := (r.m.getD reg 0#16).toInt
  match mode.toNat with
  | 1 => 1
  | 2 => m
  | 3 => -m
  | _ => 0

/-- Post-modify an x register by a slot's code; `old` gives modifiers and configuration. -/
def GravCtx.bumpX (r old : GravCtx) (reg : Nat) (mode : BitVec 2) : GravCtx :=
  if mode = 0#2 then r
  else
    let a := postModify (old.amx.getD reg 0#32) (r.x.getD reg 0#16) (old.increment mode reg)
    { r with x := r.x.set reg a }

/-- Post-modify a y register by a slot's code. -/
def GravCtx.bumpY (r old : GravCtx) (reg : Nat) (mode : BitVec 2) : GravCtx :=
  if mode = 0#2 then r
  else
    let a := postModify (old.amy.getD reg 0#32) (r.y.getD reg 0#16) (old.increment mode reg)
    { r with y := r.y.set reg a }

/-- The post-modifications of a bundle's slots in the order LDX, LDY, ST (R349). -/
def GravCtx.bump (r old : GravCtx) (ldx ldy : LoadSlot) (st : Option StoreSlot) : GravCtx :=
  let a := if ldx.en = 1#1 then r.bumpX old ldx.a.toNat ldx.m else r
  let b := if ldy.en = 1#1 then a.bumpY old ldy.a.toNat ldy.m else a
  match st with
  | none => b
  | some t =>
    if t.en = 0#1 then b
    else if t.sp = 1#1 then b.bumpY old t.a.toNat t.m
    else b.bumpX old t.a.toNat t.m

/-! ### Results -/

/-- Set the sticky bits that a bundle raised (R338). -/
def GravCtx.raise (r : GravCtx) (inv nan sat : Bool) : GravCtx :=
  { r with inv := r.inv || inv, nanr := r.nanr || nan, sat := r.sat || sat }

/-- Add the product of a MAC slot to its accumulator, negated for MSU (R347). -/
def GravCtx.mac (r old : GravCtx) (m : MacSlot) : GravCtx :=
  if m.op = 0#2 then r
  else
    let t := termMul (old.f.getD m.fs.toNat 0#32) (old.f.getD m.ft.toNat 0#32)
    let a := if m.op = 2#2 then -t.a else t.a
    let n := m.acc.toNat
    ({ r with acc := r.acc.set n ((r.acc.getD n {}).addRaw a 0) } : GravCtx).raise t.nonfinite false t.clamped

/-- CLRA of CTL (R341, R342). -/
def GravCtx.clear (r : GravCtx) (ctl : BitVec 4) : GravCtx :=
  match clears ctl with
  | some n => { r with acc := r.acc.set n {} }
  | none => r

/-- The two MACs of a bundle, after CLRA (R342, R347). -/
def GravCtx.dual (r old : GravCtx) (m0 m1 : MacSlot) (ctl : BitVec 4) : GravCtx :=
  ((r.clear ctl).mac old m0).mac old m1

/-- A DFMA slot (R343). -/
def GravCtx.fmaSlot (r old : GravCtx) (s : FmaSlot) : GravCtx :=
  let d := old.f.getD s.fd.toNat 0#32
  let a := old.f.getD s.fs.toNat 0#32
  let b := old.f.getD s.ft.toNat 0#32
  let v := match s.op.toNat with
    | 1 => F32.fma a b d
    | 2 => F32.fma (F32.neg a) b d
    | _ => F32.add a b
  if s.op = 0#2 then r
  else ({ r with f := r.f.set s.fd.toNat v } : GravCtx).raise false (F32.isNaN v) false

/-- FCMP: EQ, LT, GT, UN (R338, R345). -/
def cmpFlags (a b : F32) : BitVec 4 :=
  if a.isNaN || b.isNaN then 8#4
  else if F32.lt a b then 2#4
  else if F32.lt b a then 4#4
  else 1#4

/-- FTOI: nearest, ties to even, saturating; NaN gives 0 (R345). -/
def ftoi (a : F32) : BitVec 32 :=
  if a.isNaN then 0#32
  else if a.isInf then (if a.neg? then 0x80000000#32 else 0x7FFFFFFF#32)
  else
    let z := a.toInt
    if z > 2 ^ 31 - 1 then 0x7FFFFFFF#32
    else if z < -(2 ^ 31) then 0x80000000#32
    else BitVec.ofInt 32 z

/-- The result of an ALU operation (R345). -/
def aluResult (op : Nat) (a b : BitVec 32) : BitVec 32 :=
  match op with
  | 0x00 => a
  | 0x01 => a + b
  | 0x02 => a - b
  | 0x08 => F32.add a b
  | 0x09 => F32.sub a b
  | 0x0A => F32.mul a b
  | 0x0B => F32.min a b
  | 0x0C => F32.max a b
  | 0x0D => F32.abs a
  | 0x0E => F32.neg a
  | 0x10 => ftoi a
  | 0x11 => F32.ofInt a.toInt
  | 0x18 => F32.div a b
  | 0x19 => F32.sqrt a
  | 0x1A => F32.sin a
  | 0x1B => F32.cos a
  | 0x1C => F32.exp10 a
  | 0x1D => F32.log10 a
  | 0x1E => F32.pow a b
  | _ => 0#32

/-- The ALU operations whose result is an FP result: a NaN of theirs sets NANR (R345, R346). -/
def aluFloat (op : Nat) : Bool :=
  [0x08, 0x09, 0x0A, 0x0B, 0x0C, 0x18, 0x19, 0x1A, 0x1B, 0x1C, 0x1D, 0x1E].contains op

/-- An ALU operation: destination, sources and their old values (R345, R346). -/
def GravCtx.alu (r : GravCtx) (op d : Nat) (a b : BitVec 32) : GravCtx :=
  if op = 0x0F then { r with cmp := cmpFlags a b }
  else
    let v := aluResult op a b
    (r.writeReg d v).raise false (aluFloat op && F32.isNaN v) false

/-- An ACC operation (R348). -/
def GravCtx.accOp (r old : GravCtx) (op ad as_ f : Nat) : GravCtx :=
  let d := old.acc.getD ad {}
  let s := old.acc.getD as_ {}
  let put (x : Accum) : GravCtx := { r with acc := r.acc.set ad x }
  match op with
  | 0 => put {}
  | 1 => put s
  | 2 => put (d.add s)
  | 3 => put (d.addRaw (-s.a) (-s.w))
  | 4 =>
    let t := termF32 (old.f.getD f 0#32)
    (put ⟨t.a, 0⟩).raise t.nonfinite false t.clamped
  | _ => ({ r with f := r.f.set f d.store.1 } : GravCtx).raise false false d.store.2

/-- The word a store slot writes, and whether it saturated (R341, R348). -/
def GravCtx.storeWord (old : GravCtx) (t : StoreSlot) : BitVec 32 × Bool :=
  let n := t.src.toNat
  if n < 16 then (old.f.getD n 0#32, false) else (old.acc.getD (n - 16) {}).store

/-- The condition of a BRC (R344). -/
def GravCtx.cond (r : GravCtx) (c : Nat) : Bool :=
  let eq := r.cmp.getLsbD 0
  let lt := r.cmp.getLsbD 1
  let gt := r.cmp.getLsbD 2
  match c with
  | 0 => true
  | 1 => eq
  | 2 => !eq
  | 3 => lt
  | 4 => gt || eq
  | 5 => gt
  | 6 => lt || eq
  | 7 => r.cmp.getLsbD 3
  | 8 => r.preq
  | _ => r.sat

/-! ### The order of execution (R351, R352) -/

def LoopLevel.holds (l : LoopLevel) (pc : Nat) : Bool := decide (l.first ≤ pc) && decide (pc ≤ l.last)

/-- A bundle is the end of an active body. -/
def GravCtx.atEnd (r : GravCtx) : Bool :=
  (r.lv0.any fun l => l.last == r.pc) || (r.lv1.any fun l => l.last == r.pc)

/-- A taken branch ends the levels whose body it leaves, and any level inside them (R351). -/
def GravCtx.leave (r : GravCtx) (target : Nat) : GravCtx :=
  let out0 := r.lv0.any fun l => !l.holds target
  let out1 := r.lv1.any fun l => !l.holds target
  { r with lv0 := if out0 then none else r.lv0, lv1 := if out0 || out1 then none else r.lv1 }

/-- The end of a body: the count falls, and the body repeats while iterations are left (R351). -/
def GravCtx.loopEnd (r : GravCtx) (level : Nat) (l : LoopLevel) : GravCtx :=
  let n := (r.lc.getD level 0#16).toNat - 1
  let t : GravCtx := { r with lc := r.lc.set level (BitVec.ofNat 16 n) }
  if n = 0 then
    (if level = 0 then { t with lv0 := none, lv1 := none, pc := l.last + 1 }
     else { t with lv1 := none, pc := l.last + 1 })
  else { t with pc := l.first }

/-- Where execution goes after a bundle that is no FLOW bundle (R351, R352). -/
def GravCtx.advance (r : GravCtx) : GravCtx :=
  match r.delay with
  | some (t, br) =>
    let u := if br then r.leave t else r
    { u with pc := t, delay := none }
  | none =>
    match r.lv1 with
    | some l =>
      if l.last = r.pc then r.loopEnd 1 l
      else (match r.lv0 with
        | some k => if k.last = r.pc then r.loopEnd 0 k else { r with pc := r.pc + 1 }
        | none => { r with pc := r.pc + 1 })
    | none =>
      match r.lv0 with
      | some k => if k.last = r.pc then r.loopEnd 0 k else { r with pc := r.pc + 1 }
      | none => { r with pc := r.pc + 1 }

/-- A bundle that must not stand in a delay slot or at the end of a body (R351, R352). -/
def Bundle.isControl : Bundle → Bool
  | .flow .. => true
  | .sys .. => true
  | _ => false

/-- ILLEGAL by its place (R351, R352). -/
def GravCtx.misplaced (r : GravCtx) (b : Bundle) : Bool :=
  (b.isControl && (r.delay.isSome || r.atEnd)) || (r.delay.isSome && r.atEnd)

/-- The outcome of a bundle on its registers: they, or the exception it raises. -/
inductive Ran
  | ok (r : GravCtx)
  | exception (kind : Nat)
  deriving DecidableEq, Repr

/-- A jump after the delay slot; a target outside the image is PM_BOUND (R352). -/
def GravCtx.jump (r : GravCtx) (len target : Nat) (branch : Bool) : Ran :=
  if len ≤ target then .exception 1
  else .ok { r with pc := r.pc + 1, delay := some (target, branch) }

/-- Set up a loop (R351). -/
def GravCtx.loop (r : GravCtx) (len level count last : Nat) : Ran :=
  let first := r.pc + 1
  let nested := r.lv0.any fun l => decide (l.first < first) && decide (last < l.last)
  let active := if level = 0 then r.lv0.isSome else r.lv1.isSome
  if active || (level = 1 && !nested) || last < first then .exception 0
  else if len ≤ last then .exception 1
  else if count = 0 then .ok { r with pc := last + 1 }
  else
    let t : GravCtx := { r with lc := r.lc.set level (BitVec.ofNat 16 count), pc := first }
    .ok (if level = 0 then { t with lv0 := some ⟨first, last⟩ } else { t with lv1 := some ⟨first, last⟩ })

/-- A FLOW bundle (R344, R351, R352). -/
def Inst.flow (i : Inst) (op cond level : Nat) (count target n : Nat) : Ran :=
  let r := i.regs
  let len := i.code.length
  match op with
  | 0 => r.jump len target true
  | 1 =>
    if r.cond cond then r.jump len target true
    else .ok { r with pc := r.pc + 1, delay := some (r.pc + 2, false) }
  | 2 =>
    if r.stack.length ≥ 4 then .exception 0
    else ({ r with stack := (r.pc + 2) :: r.stack } : GravCtx).jump len target false
  | 3 =>
    match r.stack with
    | [] => .exception 0
    | t :: rest => .ok { r with pc := r.pc + 1, delay := some (t, false), stack := rest }
  | 4 => r.loop len level n target
  | _ => r.loop len level ((i.readReg count).toNat % 2 ^ 16) target

/-- What a bundle of classes NOP to SYS does to the registers, with the words its loads met
(R349). -/
def Inst.run (i : Inst) (b : Bundle) (x y : BitVec 32) : Ran :=
  let old := i.regs
  let load (r : GravCtx) (ldx ldy : LoadSlot) : GravCtx :=
    let a : GravCtx := if ldx.en = 1#1 then { r with f := r.f.set ldx.f.toNat x } else r
    if ldy.en = 1#1 then { a with f := a.f.set ldy.f.toNat y } else a
  let moves (r : GravCtx) (m : Moves) : GravCtx :=
    let a := (load r m.ldx m.ldy).bump old m.ldx m.ldy (some m.st)
    a.raise false false (m.st.en == 1#1 && (old.storeWord m.st).2)
  match b with
  | .nop => .ok old.advance
  | .dual m0 m1 mv => .ok ((moves old mv).dual old m0 m1 mv.ctl).advance
  | .dfma a b ldx ldy ctl =>
    let r := (load old ldx ldy).bump old ldx ldy none
    .ok (((r.clear ctl).fmaSlot old a).fmaSlot old b).advance
  | .alu op d s t mv =>
    .ok (((moves old mv).clear mv.ctl).alu op.toNat d.toNat (i.readReg s.toNat)
      (i.readReg t.toNat)).advance
  | .imm d v => .ok (old.writeReg d.toNat v).advance
  | .acc op ad as_ f mv =>
    .ok (((moves old mv).clear mv.ctl).accOp old op.toNat ad.toNat as_.toNat f.toNat).advance
  | .flow op cond level count target n =>
    i.flow op.toNat cond.toNat level.toNat count.toNat target.toNat n.toNat
  | .sys op _ => if op = 4#4 then .exception 4 else .ok old.advance

/-! ### The scoreboard (R345, R353) -/

/-- Latency of an ALU operation (R345). -/
def aluLatency (op : Nat) : Nat :=
  if op < 0x08 || op = 0x0F then 2
  else if op < 0x18 then 3
  else if op < 0x1A then 12
  else if op < 0x1E then 20
  else 28

/-- Resources: a register for any use (its unified number), as an address or modifier (64 +),
as the configuration of a post-modification (128 +), an accumulator for a MAC (192 +) and for
any other use (200 +), a loop counter for LOOPR (208 +), the special-function unit (212). -/
def sfuResource : Nat := 212

def loadUses (l : LoadSlot) (x : Bool) : List Nat :=
  if l.en = 0#1 then []
  else
    let a := l.a.toNat
    let base := if x then 0x10 else 0x18
    let cfg := if x then 0x30 else 0x38
    [64 + base + a] ++ (if l.m = 0#2 then [] else [128 + cfg + a]) ++
      (if l.m.toNat ≥ 2 then [64 + 0x20 + a] else [])

def storeUses (t : StoreSlot) : List Nat :=
  if t.en = 0#1 then []
  else
    (if t.src.toNat < 16 then [t.src.toNat] else [200 + (t.src.toNat - 16)]) ++
      loadUses ⟨1#1, 0#4, t.a, t.m⟩ (t.sp == 0#1)

def Moves.uses (m : Moves) : List Nat := loadUses m.ldx true ++ loadUses m.ldy false ++ storeUses m.st

def macUses (m : MacSlot) : List Nat :=
  if m.op = 0#2 then [] else [m.fs.toNat, m.ft.toNat, 192 + m.acc.toNat]

def fmaUses (m : FmaSlot) : List Nat :=
  if m.op = 0#2 then []
  else [m.fs.toNat, m.ft.toNat] ++ (if m.op = 3#2 then [] else [m.fd.toNat])

/-- ALU operations with a second source. -/
def aluTwo (op : Nat) : Bool :=
  [0x01, 0x02, 0x08, 0x09, 0x0A, 0x0B, 0x0C, 0x0F, 0x18, 0x1E].contains op

/-- The resources a bundle uses. -/
def Bundle.uses : Bundle → List Nat
  | .nop => []
  | .dual m0 m1 mv => macUses m0 ++ macUses m1 ++ mv.uses
  | .dfma a b ldx ldy _ => fmaUses a ++ fmaUses b ++ loadUses ldx true ++ loadUses ldy false
  | .alu op _ s t mv =>
    [s.toNat] ++ (if aluTwo op.toNat then [t.toNat] else []) ++
      (if op.toNat ≥ 0x18 then [sfuResource] else []) ++ mv.uses
  | .imm _ _ => []
  | .acc op ad as_ f mv =>
    (match op.toNat with
      | 0 => []
      | 1 => [200 + as_.toNat]
      | 4 => [f.toNat]
      | 5 => [200 + ad.toNat]
      | _ => [200 + ad.toNat, 200 + as_.toNat]) ++ mv.uses
  | .flow op cond _ count _ _ =>
    if op = 1#4 && cond != 0#4 && cond != 8#4 then [0x2A]
    else if op = 5#4 then [count.toNat] ++
      (if count.toNat = 0x28 || count.toNat = 0x29 then [208 + count.toNat % 8] else [])
    else []
  | .sys _ _ => []

/-- What a write of a register by ALU or IMM makes wait, with latencies (R345, R353). -/
def writeWaits (d lat : Nat) : List (Nat × Nat) :=
  [(d, lat)] ++
    (if 0x10 ≤ d && d < 0x28 then [(64 + d, max 2 lat)] else []) ++
    (if d = 0x28 || d = 0x29 then [(208 + d % 8, max 2 lat)] else []) ++
    (if 0x30 ≤ d then [(128 + d, max 3 lat)] else [])

def loadWaits (l : LoadSlot) : List (Nat × Nat) := if l.en = 0#1 then [] else [(l.f.toNat, 1)]

def macWaits (m : MacSlot) : List (Nat × Nat) :=
  if m.op = 0#2 then [] else [(192 + m.acc.toNat, 1), (200 + m.acc.toNat, 2)]

def fmaWaits (m : FmaSlot) : List (Nat × Nat) := if m.op = 0#2 then [] else [(m.fd.toNat, 3)]

/-- The resources a bundle makes wait, with latencies (R345, R353). -/
def Bundle.waits : Bundle → List (Nat × Nat)
  | .nop => []
  | .dual m0 m1 mv => macWaits m0 ++ macWaits m1 ++ loadWaits mv.ldx ++ loadWaits mv.ldy
  | .dfma a b ldx ldy _ => fmaWaits a ++ fmaWaits b ++ loadWaits ldx ++ loadWaits ldy
  | .alu op d _ _ mv =>
    let lat := aluLatency op.toNat
    (if op = 0x0F#6 then [(0x2A, lat)] else writeWaits d.toNat lat) ++
      (if op.toNat ≥ 0x18 then [(sfuResource, lat)] else []) ++ loadWaits mv.ldx ++ loadWaits mv.ldy
  | .imm d _ => writeWaits d.toNat 1
  | .acc op ad _ f mv =>
    (if op = 5#4 then [(f.toNat, 1)] else [(192 + ad.toNat, 2), (200 + ad.toNat, 2)]) ++
      loadWaits mv.ldx ++ loadWaits mv.ldy
  | .flow op _ level _ _ _ => if op.toNat ≥ 4 then [(208 + level.toNat, 2)] else []
  | .sys _ _ => []

/-- The cycle a bundle issues in, after its stalls (R353). -/
def GravCtx.issueCycle (r : GravCtx) (b : Bundle) : Nat :=
  b.uses.foldl (fun c u =>
    match r.ready.find? fun e => e.1 == u with
    | some e => max c e.2
    | none => c) r.cycles

/-- Note what the bundle makes wait; the end of a body writes lc (R353). -/
def GravCtx.note (r : GravCtx) (b : Bundle) (c : Nat) : GravCtx :=
  let ends := (if (r.lv0.any fun l => l.last == r.pc) then [(208, 2)] else []) ++
    (if (r.lv1.any fun l => l.last == r.pc) then [(209, 2)] else [])
  let l := (b.waits ++ ends).foldl (fun m e => (e.1, c + e.2) :: m.filter fun x => x.1 != e.1) r.ready
  { r with cycles := c + 1, ready := l.filter fun e => decide (c + 1 < e.2) }

end Sys2Proof.Machine
end

