-- ==== Sys2Proof/Machine/Memory.lean ====
section
/-! DEFINITION. Memory, interconnect, DMA and clocks (chapter 15): the DEC-TED code, the bytes
of the matrix address space, Burnish, the DMC, training, the DMA engine and the PLLs. -/

namespace Sys2Proof.Machine

open Sys2Proof Host

/-! ### Bytes of the matrix address space -/

/-- The canonical form: addresses rise strictly and no listed byte is zero. -/
def Memory.wf : Memory → Bool
  | [] => true
  | [(_, b)] => b != 0#8
  | (a, b) :: (c, d) :: m => b != 0#8 && decide (a < c) && Memory.wf ((c, d) :: m)

/-- The byte at an address; one that is not listed reads as zero (log entry 23). -/
def Memory.read : Memory → Nat → Byte
  | [], _ => 0#8
  | (c, b) :: m, a => if c = a then b else Memory.read m a

/-- The listed bytes of `n` addresses from `a` on, counted from `a`. -/
def Memory.slice : Memory → Nat → Nat → Memory
  | [], _, _ => []
  | (c, b) :: m, a, n =>
    if a ≤ c && c < a + n then (c - a, b) :: Memory.slice m a n else Memory.slice m a n

/-- Listed bytes moved up by `a`. -/
def Memory.shift : Memory → Nat → Memory
  | [], _ => []
  | (c, b) :: m, a => (c + a, b) :: Memory.shift m a

/-- The listed bytes below an address. -/
def Memory.below : Memory → Nat → Memory
  | [], _ => []
  | (c, b) :: m, a => if c < a then (c, b) :: Memory.below m a else Memory.below m a

/-- The listed bytes at and above an address. -/
def Memory.above : Memory → Nat → Memory
  | [], _ => []
  | (c, b) :: m, a => if a ≤ c then (c, b) :: Memory.above m a else Memory.above m a

/-- Replace the `n` bytes from `a` on by bytes counted from `a`. -/
def Memory.splice (m : Memory) (a n : Nat) (x : Memory) : Memory :=
  m.below a ++ ((x.slice 0 n).shift a ++ m.above (a + n))

/-- The bytes of a list that are not zero, counted from `p`. -/
def cellsFrom : List Byte → Nat → Memory
  | [], _ => []
  | b :: l, p => if b = 0#8 then cellsFrom l (p + 1) else (p, b) :: cellsFrom l (p + 1)

/-- Write bytes from an address on. -/
def Memory.write (m : Memory) (a : Nat) (l : List Byte) : Memory :=
  m.splice a l.length (cellsFrom l 0)

/-- Read `n` bytes from an address on. -/
def Memory.bytes (m : Memory) (a : Nat) : Nat → List Byte
  | 0 => []
  | n + 1 => m.read a :: m.bytes (a + 1) n

/-- The bad words left after bytes `a` … `a + n − 1` are written: a word written in part stays
bad. -/
def badAfter (bad : List Nat) (a n : Nat) : List Nat :=
  bad.filter fun w => !(decide (a ≤ 8 * w) && decide (8 * w + 8 ≤ a + n))

/-- A write to memory; a word it covers is a correct codeword again (R565). -/
def State.writeMem (s : State) (a : Nat) (l : List Byte) : State :=
  { s with mem := { s.mem with
    cells := s.mem.cells.write a l, bad := badAfter s.mem.bad a l.length } }

/-- Some word that holds bytes `a` … `a + n − 1` is uncorrectable. -/
def State.badIn (s : State) (a n : Nat) : Bool :=
  s.mem.bad.any fun w => decide (8 * w < a + n) && decide (a < 8 * w + 8)

/-- Words are written poisoned (R566). -/
def State.poison (s : State) (ws : List Nat) : State :=
  { s with mem := { s.mem with bad := ws ++ s.mem.bad.filter fun w => !ws.contains w } }

/-- USER, the region for rings and user DMA (R572). -/
def userBase : Nat := 0xEC000000
def userEnd : Nat := 0x200000000

/-- `n` bytes from `a` on lie wholly in USER (R572, R573). -/
def inUser (a n : Nat) : Bool := decide (userBase ≤ a) && decide (a + n ≤ userEnd)

/-- `n` bytes from `a` on lie wholly in the lower half of the X or the Y memory of one Graver
core (R573, R582). -/
def inGraver (a n : Nat) : Bool :=
  decide (0x200000000 ≤ a) && decide (a < 0x200800000) &&
    (let o := a % 0x100000
     decide (o + n ≤ 0x20000) || (decide (0x40000 ≤ o) && decide (o + n ≤ 0x60000)))

/-- The target that decodes an address (R582). -/
def matrixTarget (a : Nat) : Option Nat :=
  if a < 0x200000000 then some 0
  else if a < 0x200800000 then some 1
  else if 0x210000000 ≤ a && a < 0x210100000 then some 2
  else if 0x220000000 ≤ a && a < 0x220010000 then some 3
  else if 0x300000000 ≤ a && a < 0x301000000 then some 4
  else if 0x310000000 ≤ a && a < 0x311000000 then some 5
  else none

/-- A master reaches an address without a decode error (R584). -/
def matrixDecodes (master a : Nat) : Bool :=
  match matrixTarget a with
  | none => false
  | some t => t != 2 || master == 0

/-! ### What lies where in DRAM (R567, R572). DESIGN CHOICE (log entry 129): the places within the regions. -/

/-- The TWIN region: checkpoint and replay store. -/
def twinBase : Nat := 0x20000000
def twinSize : Nat := 0x40000000

/-- Blocks of `l` samples from which Dispatch stages: 64 of every channel, after one another, in the upper half of SYSTEM.
-/
def stagePlace (kind ch l k : Nat) : Nat := 0x10000000 + (kind * 4096 + ch % 4096) * 8192 + k % 64 * (4 * l)

/-- The samples of a block whose words are uncorrectable where Dispatch reads them. -/
def State.stageBad (s : State) (kind ch k : Nat) : List Nat :=
  let a := stagePlace kind ch s.blockLen k
  (List.range s.blockLen).filter fun p => s.badIn (a + 4 * p) 4

/-- At boundary `k` its block takes the place of the one 64 blocks before: the words written are correct again (R565). -/
def State.stageRewrite (s : State) (k : Nat) : State :=
  if s.mem.bad.isEmpty then s
  else
    let old (w : Nat) : Bool := decide (0x10000000 ≤ 8 * w) && decide (8 * w < twinBase) &&
      8 * w % 8192 / (4 * s.blockLen) == k % 64
    { s with mem := { s.mem with bad := s.mem.bad.filter fun w => !old w } }

/-- Bytes of an output's delay line, which the BULK region holds one after another (R298). -/
def State.bulkBytes (s : State) : Nat := 8 * s.fs

/-- The samples of an output's delay line whose words are uncorrectable, by their distance before presentation block `m`.
-/
def State.bulkBad (s : State) (m j : Nat) : List Nat :=
  let base := 0xA0000000 + j * s.bulkBytes
  let n := 2 * s.fs
  (s.mem.bad.filter fun w => decide (base ≤ 8 * w) && decide (8 * w < base + s.bulkBytes)).flatMap fun w =>
    let i := (8 * w - base) / 4
    [i, i + 1].map fun i => (m * s.blockLen + (n - 1 - i)) % n + 1

/-- An output's part of the ETCHER region holds an uncorrectable word: 445 MiB, one after another (R307). -/
def State.etchPart (s : State) (j : Nat) : Nat × Nat :=
  let size := 466616320 / (if s.get D.render_rate = 1 then 512 else 1024)
  (0xB8000000 + j * size, size)

/-! ### The DEC-TED code (R564–R566) -/

/-- The remainder of a polynomial of `n` coefficients modulo g(x), the highest first. -/
def bchRemainder (bits : Nat) : Nat → Nat → Nat
  | 0, r => r
  | n + 1, r =>
    let r2 := 2 * r + bits / 2 ^ n % 2
    bchRemainder bits n (if r2 ≥ 0x8000 then r2 ^^^ 0xC599 else r2)

/-- The check bits c[14:0] of a data word (R564). -/
def checkBits (d : BitVec 64) : Nat := bchRemainder (d.toNat * 2 ^ 15) 79 0

/-- The number of ones of a number of `n` bits. -/
def onesIn (v : Nat) : Nat → Nat
  | 0 => 0
  | n + 1 => v / 2 ^ n % 2 + onesIn v n

/-- The stored codeword of a word: c[14:0] lowest, then the data, then c15, the even parity of
the word's address (R564). -/
def codeword (d : BitVec 64) (word : Nat) : BitVec 80 :=
  BitVec.ofNat 80 (checkBits d + d.toNat * 2 ^ 15 + onesIn word 40 % 2 * 2 ^ 79)

/-- The poisoned codeword: c[2:0] inverted (R566). -/
def poisoned (d : BitVec 64) (word : Nat) : BitVec 80 := codeword d word ^^^ 7#80

/-- What a read of a codeword finds. -/
inductive Decoded
  /-- No error: the data. -/
  | clean (d : BitVec 64)
  /-- One or two bits were in error: the corrected data. -/
  | corrected (d : BitVec 64)
  | uncorrectable
  deriving DecidableEq, Repr

/-- The first bit position from `p` on whose error alone has a syndrome. -/
def oneBit (syn : Nat) : Nat → Nat → Option Nat
  | 0, _ => none
  | n + 1, p => if bchRemainder (2 ^ p) 79 0 = syn then some p else oneBit syn n (p + 1)

/-- The first two bit positions whose errors together have a syndrome. -/
def twoBits (syn : Nat) : Nat → Nat → Option (Nat × Nat)
  | 0, _ => none
  | n + 1, p =>
    match oneBit (syn ^^^ bchRemainder (2 ^ p) 79 0) n (p + 1) with
    | some q => some (p, q)
    | none => twoBits syn n (p + 1)

/-- The data of a codeword. -/
def codeData (c : Nat) : BitVec 64 := BitVec.ofNat 64 (c / 2 ^ 15)

/-- Decode a codeword read at a word address (R565): one or two bits of d and c[14:0] are
corrected; anything else, and every mismatch of c15, is uncorrectable (log entry 24). -/
def decTed (code : BitVec 80) (word : Nat) : Decoded :=
  let body := code.toNat % 2 ^ 79
  let syn := bchRemainder body 79 0
  if code.toNat / 2 ^ 79 ≠ onesIn word 40 % 2 then .uncorrectable
  else if syn = 0 then .clean (codeData body)
  else
    match oneBit syn 79 0 with
    | some p => .corrected (codeData (body ^^^ 2 ^ p))
    | none =>
      match twoBits syn 79 0 with
      | some (p, q) => .corrected (codeData (body ^^^ 2 ^ p ^^^ 2 ^ q))
      | none => .uncorrectable

/-! ### Burnish (R567–R570) -/

/-- The area that stands for a memory in records (log entry 25). -/
def MemUnit.area : MemUnit → Nat
  | .dram => 0x70 | .history => 0x39 | .pairs => 0x39 | .graver => 0x58 | .etcher => 0x41
  | .shank => 0x7E

/-- The tile that a word of the Object History Memory or of the pair memory belongs to: 2 MiB and 1 MiB each (R258, R261).
-/
def MemUnit.tile (m : MemUnit) (word : Nat) : Option Nat :=
  match m with
  | .history => some (word / 262144 % 16)
  | .pairs => some (word / 131072 % 16)
  | _ => none

/-- A memory whose words have matrix addresses (R582). -/
def MemUnit.mapped : MemUnit → Bool
  | .dram | .graver | .shank => true
  | _ => false

/-- The data word at a word address. -/
def State.wordAt (s : State) (w : Nat) : BitVec 64 :=
  BitVec.ofNat 64 (leNat (s.mem.cells.bytes (8 * w) 8))

/-- One more word of the DRAM pass: 2³⁰ words (R568). -/
def State.burnishPass (s : State) : State :=
  let n := s.mem.burnished + 1
  let s := s.setF D.bn_dram_progress (F32.ofQuot (100 * n) (2 ^ 30))
  if n ≥ 2 ^ 30 then
    ({ s with mem := { s.mem with burnished := 0 } }).count D.bn_dram_passes
  else { s with mem := { s.mem with burnished := n } }

/-- BURNISH_READ: Burnish reads a word of a memory, with the bits of its codeword that are in
error; `newer` when a write to the same line was accepted before the write-back, `lastOfPass`
when the word ends a pass over the SRAMs (R565, R568, R569). -/
def execBurnishRead (m : MemUnit) (word : Nat) (flips : BitVec 80) (newer lastOfPass : Bool)
    (s : State) : Outcome State Fault Refusal :=
  let s0 := if m = .dram then s.burnishPass
    else if lastOfPass then s.count D.bn_sram_passes else s
  let d := s.wordAt word
  let known := if m.mapped then s.mem.bad.contains word
    else s.mem.badUnit.contains (m, word)
  let r := if known then .uncorrectable else decTed (codeword d word ^^^ flips) word
  let oc := if m = .dram then D.bn_dram_corrected else D.bn_sram_corrected
  let ou := if m = .dram then D.bn_dram_uncorrectable else D.bn_sram_uncorrectable
  match r with
  | .clean _ => .next s0
  | .corrected x =>
    let t := (s0.count oc).error m.area 0 0x0201 .info
    let t := match m.tile word with
      | some n => t.count D.tile_corrected n
      | none => t
    .next (if newer || !m.mapped || x = d then t
      else t.writeMem (8 * word) (leBytes 8 x.toNat))
  | .uncorrectable =>
    let t := (s0.count ou).error m.area 0 0x0202 .degraded
    .next (if m.mapped then t.poison [word]
      else { t with mem := { t.mem with
        badUnit := (m, word) :: t.mem.badUnit.filter fun e => e != (m, word) } })

/-! ### The DMC (R574–R578) -/

/-- The class of a port: BULK 0, NRT 1, RT 2; port 4 takes the channel's (R574). -/
def portClass (port cls : Nat) : Nat :=
  match port with
  | 0 | 1 | 2 | 3 => 2
  | 4 => cls
  | 7 => 0
  | _ => 1

/-- The port that serves a requester (R574, R582). -/
def Requester.port : Requester → Nat
  | .etcher => 0
  | .bulk => 1
  | .burnish => 7
  | .master m _ =>
    match m.val with
    | 1 | 2 => 4
    | 3 => 3
    | 4 => 2
    | 5 | 6 => 5
    | _ => 6

/-- The master that a request comes from. -/
def Requester.master? : Requester → Option Nat
  | .master m _ => some m.val
  | _ => none

/-- The dma_class of a requester. -/
def Requester.dmaClass : Requester → Nat
  | .master _ cls => cls.val
  | _ => 0

/-- The class of a request at the matrix and at the DMC. -/
def MemRequest.class_ (r : MemRequest) : Nat := portClass r.who.port r.who.dmaClass

/-- A request reaches the DMC: it waits there, and its deadline is its arrival plus the port's target (R574). -/
def State.dmcArrive (s : State) (r : MemRequest) : State :=
  let x : DmcRequest := ⟨s.mem.nextRequest, r.who.port, r.class_, r.addr / 64, s.time.local_,
    s.get D.dmc_port_target r.who.port⟩
  { s with mem := { s.mem with waiting := s.mem.waiting ++ [x], nextRequest := s.mem.nextRequest + 1 } }

/-- A decode error of a master (R584). -/
def State.decodeError (s : State) (master a : Nat) : State :=
  (s.count D.mtx_decode_errors master).set D.mtx_last_decode_addr a master

/-- How far a master stands behind the one granted last (R585). -/
def turnDistance (last m : Nat) : Nat := (m + 15 - last) % 8

/-- Request `a` is granted before `b`: the greater class, then the nearer turn (R585). -/
def MemRequest.wins (last : Nat) (a b : MemRequest) : Bool :=
  match a.who.master?, b.who.master? with
  | some m, some n => decide (b.class_ < a.class_) || (a.class_ == b.class_ && decide (turnDistance last m < turnDistance last n))
  | _, _ => false

/-- The request that a target grants next; `park` is the master it is parked on while none was waiting. DESIGN CHOICE (log
entry 119): that master, which needs no arbitration, is granted before any other. -/
def grantNext (park : Option Nat) (last : Nat) (l : List MemRequest) : Option MemRequest :=
  match park.bind fun p => l.find? fun r => r.who.master? == some p with
  | some r => some r
  | none =>
    l.foldl (fun best r =>
      match best with
      | none => some r
      | some b => if r.wins last b then some r else some b) none

/-- A target grants the requests that masters present, one after another (R585). -/
def State.matrixGrant (s : State) (target : Nat) : Nat → Option Nat → List MemRequest → State
  | 0, _, _ => s
  | n + 1, park, l =>
    match grantNext park (s.mem.turns.getD target 7) l with
    | none => s
    | some r =>
      let t : State := { s with mem := { s.mem with
        turns := modAt s.mem.turns target fun last => r.who.master?.getD last } }
      State.matrixGrant (if target = 0 then t.dmcArrive r else t) target n none (l.erase r)

/-- The requests of a master that no target decodes (R584). -/
def MemRequest.lost (r : MemRequest) : Bool := r.who.master?.any fun m => !matrixDecodes m r.addr

/-- The requests of masters to one target. -/
def requestsTo (target : Nat) (l : List MemRequest) : List MemRequest :=
  l.filter fun r => r.who.master?.isSome && !r.lost && matrixTarget r.addr == some target

/-- Requests presented in one cycle. Those of the Etcher, of the bulk delay and of Burnish have ports of their
own; those of masters pass the matrix, which turns away what no target decodes and grants the rest target by target, and
those for DRAM arrive at the DMC in that order (R574, R582, R584, R585). -/
def State.presentRequests (s : State) (l : List MemRequest) : State :=
  let t := (l.filter fun r => r.who.master?.isNone).foldl State.dmcArrive s
  let t := (l.filter MemRequest.lost).foldl (fun t r =>
    match r.who.master? with
    | some m => t.decodeError m r.addr
    | none => t) t
  (List.range 6).foldl (fun t n =>
    let q := requestsTo n l
    t.matrixGrant n q.length (some (t.get D.mtx_park n)) q) t

/-- DMC_REQUEST: a request, and those that others present in the same cycle (R574, R585). -/
def execDmcRequest (who : Requester) (addr : Nat) (others : List MemRequest) (s : State) : Outcome State Fault Refusal :=
  .next (s.presentRequests (⟨who, addr⟩ :: others))

/-- The age of a request, in units of 2⁻³² ns. -/
def DmcRequest.age (r : DmcRequest) (now : Int) : Int := now - r.arrival

/-- How urgent a request is (R575). -/
def DmcRequest.urgency (r : DmcRequest) (now : Int) : Nat :=
  let a := 4 * r.age now
  let t := (r.target : Int) * ns32
  if a ≥ 4 * t then 3 else if a ≥ 3 * t then 2 else if a ≥ 2 * t then 1 else 0

/-- Request `a` comes before `b`: the keys of R575 in order; equal keys go by arrival. -/
def DmcRequest.before (hits : List Nat) (now : Int) (a b : DmcRequest) : Bool :=
  let ka : List Nat := [a.cls, a.urgency now, if hits.contains a.id then 1 else 0]
  let kb : List Nat := [b.cls, b.urgency now, if hits.contains b.id then 1 else 0]
  decide (List.lex kb ka) || (ka == kb &&
    (decide (a.age now > b.age now) || (a.age now == b.age now && decide (a.id < b.id))))

/-- A request can be served: no earlier request to its line waits (R576). -/
def dmcFree (l : List DmcRequest) (r : DmcRequest) : Bool :=
  l.all fun x => x.line != r.line || decide (r.id ≤ x.id)

/-- The request that R575 serves. -/
def dmcPick (hits : List Nat) (now : Int) (l : List DmcRequest) : Option DmcRequest :=
  (l.filter (dmcFree l)).foldl (fun best r =>
    match best with
    | none => some r
    | some b => if r.before hits now b then some r else some b) none

/-- The requests served within the last second. -/
def keepSecond (l : List DmcServed) (now : Int) : List DmcServed :=
  l.filter fun x => decide (now - x.time ≤ 1000000000 * ns32)

/-- The average latency and the bandwidth of the last second (R596). -/
def State.dmcAverages (s : State) : State :=
  let l := s.mem.served
  let s := (List.range 8).foldl (fun t p =>
    let q := l.filter fun x => x.port == p
    let sum := q.foldl (fun a x => a + x.latency) 0
    t.setF D.dmc_port_avg_latency
      (if q.isEmpty then F32.zero else F32.ofQuot sum q.length) p) s
  s.setF D.dmc_bandwidth (F32.ofQuot ((64 * l.length : Nat) : Int) 1000000000)

/-- DMC_SERVE: a scheduling decision; `hits` names the waiting requests that are row hits
(R575, R576, R638). -/
def execDmcServe (hits : List Nat) (s : State) : Outcome State Fault Refusal :=
  let now := s.time.local_
  match dmcPick hits now s.mem.waiting with
  | none => .next s
  | some r =>
    let lat := r.age now / ns32
    let t : State := { s with mem := { s.mem with
      waiting := s.mem.waiting.filter fun x => x.id != r.id
      served := ⟨now, r.port, lat⟩ :: keepSecond s.mem.served now } }
    .next ((t.histRecord 2 r.port (F32.ofInt lat)).dmcAverages)

/-- AGE_PROMOTION: the oldest request of a port reaches the port's age limit (R575). -/
def execAgePromotion (port : Fin 8) (s : State) : Outcome State Fault Refusal :=
  let due := s.mem.waiting.find? fun r => r.port == port.val && r.cls != 2 &&
    decide (r.age s.time.local_ ≥ (s.get D.dmc_port_age_limit port.val : Int) * ns32)
  match due with
  | none => .next s
  | some r =>
    .next ((({ s with mem := { s.mem with
      waiting := s.mem.waiting.map fun x => if x.id = r.id then { x with cls := 2 } else x } } :
        State).count D.dmc_port_promotions port.val))

/-- REFRESH_DUE: a refresh falls due; it was pulled in already, is postponed, forced or
performed, and an idle DMC catches up (R577, R578). -/
def execRefreshDue (s : State) : Outcome State Fault Refusal :=
  let m := s.mem
  if m.ahead > 0 then .next { s with mem := { m with ahead := m.ahead - 1 } }
  else if m.waiting.any fun r => r.cls == 2 then
    (if m.postponed < 8 then .next { s with mem := { m with postponed := m.postponed + 1 } }
     else .next (s.count D.dmc_forced_refresh))
  else if m.waiting.isEmpty then
    .next ({ s with mem := { m with
      postponed := 0, ahead := (boundFree s.freeHere 0 8).toNat } }).pass
  else .next s

/-! ### PLLs (R592–R595) -/

/-- f_min of a PLL in MHz: the spread lowers the nominal frequency of 25 MHz × N (R594);
suspended while a ramp runs. -/
def State.pllFmin (s : State) (p : Nat) : F32 :=
  let n := s.get D.pll_n p
  let k : Nat := if s.get D.pll_state p = 1 then 10000 else spreadScale (s.get D.pll_spread p)
  F32.ofQuot ((25 * n * k : Nat) : Int) 10000

/-- The points of a ramp profile: U16 N, U16 dwell, big end first (R599). -/
def rampPoints : List Byte → List (Nat × Nat)
  | a :: b :: c :: d :: l => (beNat [a, b], beNat [c, d]) :: rampPoints l
  | _ => []

/-- Steps of N from a start value differ by at most 2 (R593). -/
def rampSmooth : Nat → List (Nat × Nat) → Bool
  | _, [] => true
  | n, (m, _) :: l => decide (m ≤ n + 2) && decide (n ≤ m + 2) && rampSmooth m l

/-- A profile obeys R593: 1–32 points, steps of at most 2 from the start value, the last N
the target, dwells of 1–10,000 µs. -/
def rampValid (start target : Nat) (l : List (Nat × Nat)) : Bool :=
  l.length ≤ 32 && rampSmooth start l && l.all (fun p => decide (1 ≤ p.2) && decide (p.2 ≤ 10000))
    && (l.getLast?.any fun p => p.1 == target)

/-- The value a PLL's profile starts from, and its target: the core PLL from N = 12 to 48, the
DRAM PLL from N = 32 to 128 (R592, R593; log entry 26). -/
def pllSpan (p : Nat) : Nat × Nat := if p = 0 then (12, 48) else (32, 128)

/-- The default core profile: N = 12 to 48 in steps of 2 with dwells of 20 µs (R593). -/
def defaultRamp : List (Nat × Nat) := (List.range 18).map fun k => (14 + 2 * k, 20)

/-- The profile of a PLL in force. -/
def State.rampOf (s : State) (p : Nat) : List (Nat × Nat) :=
  let b := (s.blob D.pll_ramp p).data
  if b.isEmpty then (if p = 0 then defaultRamp else [(128, 1)]) else rampPoints b

/-- Start a ramp through points (R593). -/
def State.startRamp (s : State) (p : Nat) (l : List (Nat × Nat)) : State :=
  match l with
  | [] => s
  | (n, _) :: rest =>
    let t := (s.set D.pll_n n p).set D.pll_state 1 p
    let t : State := { t with mem := { t.mem with
      ramps := (p, rest) :: t.mem.ramps.filter fun r => r.1 != p } }
    t.setF D.pll_f_min (t.pllFmin p) p

/-- PLL_RAMP_STEP: the dwell of a ramp point expires; the divider moves on, or the PLL has
reached its target (R593, R594). -/
def execPllRampStep (p : Fin 2) (s : State) : Outcome State Fault Refusal :=
  match s.mem.ramps.find? fun r => r.1 == p.val with
  | none => .next s
  | some (_, l) =>
    let others := s.mem.ramps.filter fun r => r.1 != p.val
    match l with
    | (n, _) :: rest =>
      let t : State := { s with mem := { s.mem with ramps := (p.val, rest) :: others } }
      let t := t.set D.pll_n n p.val
      .next (t.setF D.pll_f_min (t.pllFmin p.val) p.val)
    | [] =>
      let t : State := { s with mem := { s.mem with ramps := others } }
      let t := t.set D.pll_state (if s.get D.pll_n p.val < (pllSpan p.val).1 then 0 else 2) p.val
      .next (t.setF D.pll_f_min (t.pllFmin p.val) p.val)

/-! ### Set points and training (R571, R579–R581) -/

/-- A training step that gathers data (R579). -/
def gathersData (step : Nat) : Bool := step != 1

/-- Change the set point (R571): the DRAM PLL moves with it (R592). -/
def State.changeSetPoint (s : State) (sp : Nat) : State :=
  let t := ((s.set D.dmc_setpoint_now sp).set D.pll_n (if sp = 0 then 128 else 32) 1).set
    D.pll_state 2 1
  t.setF D.pll_f_min (t.pllFmin 1) 1

/-- A set point change is asked for: refused with BUSY when it targets the set point being
trained, deferred while a step gathers data, done otherwise (R580). -/
def State.askSetPoint (s : State) (sp : Nat) : State :=
  match s.mem.training with
  | none => s.changeSetPoint sp
  | some t =>
    if t.setPoint = sp then s
    else if gathersData t.step then
      { s with mem := { s.mem with deferred := s.mem.deferred ++ [sp] } }
    else s.changeSetPoint sp

/-- SETPOINT_CHANGE (R571, R580). -/
def execSetpointChange (sp : Fin 2) (s : State) : Outcome State Fault Refusal :=
  .next (s.askSetPoint sp.val)

/-- Show where training stands. -/
def State.showTraining (s : State) (state : Nat) : State :=
  (s.set D.dmc_train_state state).set D.dmc_train_step
    (match s.mem.training with
     | some t => t.step
     | none => 0)

/-- Start a training (R579, R581). -/
def State.startTraining (s : State) (sp : Nat) (asked : Bool) : State :=
  ({ s with mem := { s.mem with training := some { setPoint := sp, asked := asked } } } :
    State).showTraining 1

/-- The object that holds the margin of a set point. -/
def marginObj (sp : Nat) : Obj := if sp = 0 then D.dmc_margin_sp0 else D.dmc_margin_sp1

/-- TRAIN_STEP_DONE: a step completes; step 6 passes or fails with its margin. Deferred set
point changes run before the next step (R579–R581; log entry 27). -/
def execTrainStepDone (passed : Bool) (margin : Word32) (s : State) :
    Outcome State Fault Refusal :=
  match s.mem.training with
  | none => .next s
  | some t =>
    let s1 := s.mem.deferred.foldl State.changeSetPoint
      { s with mem := { s.mem with deferred := [] } }
    let go (x : Training) : State :=
      ({ s1 with mem := { s1.mem with training := some x } } : State).showTraining 1
    let stop (u : State) (code : Nat) : State :=
      ({ u with mem := { u.mem with training := none } } : State).showTraining code
    if t.step < 6 then .next (go { t with step := t.step + 1 })
    else if passed then .next (stop (s1.setF (marginObj t.setPoint) margin) 0)
    else if t.fails = 0 then .next (go { t with step := 1, fails := 1 })
    else if t.asked then .next (stop (s1.error 0x70 0 0x0205 .warn) 2)
    else .next (stop (s1.error 0x70 0 0x0205 .failed) 2)

/-! ### The matrix and the DMA engine (R582–R591) -/

/-- MASTER_RESET: a master is reset mid-burst; its transactions complete at the target and it
is free to issue again (R586). -/
def execMasterReset (m : Fin 8) (s : State) : Outcome State Fault Refusal :=
  .next (s.count D.mtx_resets m.val)

/-- A descriptor of a DMA channel (R587). -/
structure DmaDesc where
  own : Bool
  event : Bool
  stop : Bool
  fence : Bool
  fill : Bool
  /-- The reserved fields are zero, and the pattern is where FILL is clear. -/
  clean : Bool
  count : Nat
  pattern : Nat
  dst : Nat
  src : Nat
  deriving DecidableEq, Repr

/-- A field of a descriptor word. -/
def bits (v lo width : Nat) : Nat := v / 2 ^ lo % 2 ^ width

/-- The descriptor at an address, little-endian (R4, R587). -/
def State.dmaDesc (s : State) (a : Nat) : DmaDesc :=
  let v := leNat (s.mem.cells.bytes a 32)
  let fill := bits v 195 1 = 1
  ⟨bits v 199 1 = 1, bits v 198 1 = 1, bits v 197 1 = 1, bits v 196 1 = 1, fill,
    bits v 200 16 = 0 && bits v 192 3 = 0 && (fill || bits v 128 32 = 0),
    bits v 160 32, bits v 128 32, bits v 64 64, bits v 0 64⟩

/-- Write a descriptor back: status, bytes_done, and OWN cleared (R480, R587). -/
def State.dmaWriteBack (s : State) (a status done : Nat) : State :=
  let v := leNat (s.mem.cells.bytes a 32)
  let v' := v % 2 ^ 199 % 2 ^ 200 + bits v 200 16 * 2 ^ 200
  s.writeMem a (leBytes 32 (v' % 2 ^ 216 + status * 2 ^ 216 + done * 2 ^ 224))

/-- A descriptor breaks R573 or R587. -/
def DmaDesc.bad (d : DmaDesc) : Bool :=
  let ok (a : Nat) : Bool := inUser a d.count || inGraver a d.count
  !d.clean || d.count == 0 || decide (d.count > 67108864) || !ok d.dst || (!d.fill && !ok d.src)

/-- The copy runs in descending address order (R588). -/
def DmaDesc.descends (d : DmaDesc) : Bool :=
  !d.fill && decide (d.src < d.dst) && decide (d.dst < d.src + d.count)

/-- `n` bytes of a pattern of four, from its byte `p` on. -/
def fillBytes (pattern : Nat) : Nat → Nat → List Byte
  | 0, _ => []
  | n + 1, p => BitVec.ofNat 8 (pattern / 256 ^ (p % 4)) :: fillBytes pattern n (p + 1)

/-- A byte a descriptor reads: free where an earlier descriptor without FENCE between may not
have written it yet (R588). -/
def State.dmaRead (s : State) (recent : List (Nat × Nat)) (a : Nat) (p : Nat) : Byte :=
  if recent.any fun r => decide (r.1 ≤ a) && decide (a < r.1 + r.2) then
    Config.freeByte s.free p
  else s.mem.cells.read a

/-- The bytes a descriptor moves from position `p` on, `n` of them, as they stood before it
began. -/
def State.dmaSource (s : State) (recent : List (Nat × Nat)) (d : DmaDesc) : Nat → Nat → List Byte
  | 0, _ => []
  | n + 1, p => s.dmaRead recent (d.src + p) p :: s.dmaSource recent d n (p + 1)

/-- An access of a DMA engine that no target decodes: the source by the read engine, the destination by the write engine
(R582, R584). -/
def DmaDesc.lost (d : DmaDesc) : Option (Nat × Nat) :=
  if !d.fill && !matrixDecodes 1 d.src then some (1, d.src)
  else if !matrixDecodes 2 d.dst then some (2, d.dst)
  else none

/-- Move `n` bytes of a descriptor, in the order of its copy (R588). -/
def State.dmaMove (s : State) (recent : List (Nat × Nat)) (d : DmaDesc) (n : Nat) : State :=
  let first := if d.descends then d.count - n else 0
  let l := if d.fill then fillBytes d.pattern n 0 else s.dmaSource recent d n first
  (s.writeMem (d.dst + first) l).pass

/-- The first uncorrectable word of a source in the order of the copy, and the bytes moved
before it (R567). -/
def State.dmaBadWord (s : State) (d : DmaDesc) : Option (Nat × Nat) :=
  if d.fill then none
  else
    let ws := s.mem.bad.filter fun w =>
      decide (8 * w < d.src + d.count) && decide (d.src < 8 * w + 8)
    let w0 := if d.descends then ws.foldl max 0 else ws.foldl min (2 ^ 64)
    if ws.isEmpty then none
    else some (w0, if d.descends then d.src + d.count - min (d.src + d.count) (8 * w0 + 8)
      else 8 * w0 - d.src)

/-- The words at the destination that hold the bytes of a source word (R567). -/
def DmaDesc.destWords (d : DmaDesc) (w : Nat) : List Nat :=
  let lo := max (8 * w) d.src - d.src + d.dst
  let hi := min (8 * w + 8) (d.src + d.count) - 1 - d.src + d.dst
  if lo / 8 = hi / 8 then [lo / 8] else [lo / 8, hi / 8]

def State.dmaChan (s : State) (c : Nat) : DmaChan := s.mem.dma.getD c {}

def State.modDma (s : State) (c : Nat) (f : DmaChan → DmaChan) : State :=
  { s with mem := { s.mem with dma := modAt s.mem.dma c f } }

/-- The descriptors a user channel owns, `c` counted from channel 8 (R481, R587). -/
def State.dmaOwned (s : State) (c : Nat) : Nat :=
  let n := s.get D.dma_size c
  if n = 0 then 0 else (s.get D.dma_tail c + n - s.get D.dma_head (c + 8)) % n

/-- Where the head descriptor of a user channel lies. -/
def State.dmaAt (s : State) (c : Nat) : Nat :=
  s.get D.dma_base c + 32 * s.get D.dma_head (c + 8)

def State.dmaAdvance (s : State) (c : Nat) : State :=
  s.set D.dma_head ((s.get D.dma_head (c + 8) + 1) % max 1 (s.get D.dma_size c)) (c + 8)

/-- A trigger reaches a user channel: it starts, or is remembered once (R589). -/
def State.dmaTrigger (s : State) (c : Nat) : State :=
  let st := s.get D.dma_state (c + 8)
  if s.get D.runDma c ≠ 1 || s.get D.dma_size c = 0 then s
  else if st = 1 || st = 2 then s.modDma c fun x => { x with again := true }
  else if s.dmaOwned c = 0 then s
  else (s.set D.dma_state 1 (c + 8)).modDma c fun x => { x with recent := [] }

/-- DMA_TRIGGER: a BLOCK or NODE trigger of channel 8 + c (R589). -/
def execDmaTrigger (c : Fin 8) (s : State) : Outcome State Fault Refusal :=
  if s.get D.dma_trigger c.val = 0 then .next s else .next (s.dmaTrigger c.val)

/-- What a channel does after a descriptor: R590's stop first, then STOP with its remembered
trigger, then whether it owns another (R589). -/
def State.dmaNext (s : State) (c : Nat) (stop : Bool) : State :=
  let ch := c + 8
  let x := s.dmaChan c
  if s.get D.dma_state ch = 2 then
    (s.set D.dma_state 0 ch).modDma c fun y => { y with again := false, recent := [] }
  else if stop && !x.again then s.set D.dma_state 3 ch
  else
    let s := if stop then s.modDma c fun y => { y with again := false } else s
    if s.dmaOwned c = 0 then
      (s.set D.dma_state 0 ch).modDma c fun y => { y with again := false, recent := [] }
    else s

/-- The greatest number of transactions a DMA engine had outstanding rises to some number up
to 32 (R583, R598). -/
def State.dmaTraffic (s : State) : State :=
  let up (t : State) (m : Nat) : State :=
    (t.set D.mtx_outstanding_max
      (max (t.get D.mtx_outstanding_max m) (boundFree t.freeHere 1 32).toNat) m).pass
  up (up s 1) 2

/-- DMA_DESCRIPTOR_DONE: the descriptor in progress of channel 8 + c completes, is refused, or
stops at an uncorrectable word (R567, R573, R587–R590). -/
def execDmaDescriptorDone (c : Fin 8) (s : State) : Outcome State Fault Refusal :=
  let ch := c.val + 8
  let st := s.get D.dma_state ch
  if (st ≠ 1 && st ≠ 2) || s.dmaOwned c.val = 0 then .next s
  else
    let a := s.dmaAt c.val
    let d := s.dmaDesc a
    if d.bad then
      .next (((s.dmaWriteBack a 2 0).dmaAdvance c.val).dmaNext c.val d.stop)
    else if let some (m, x) := d.lost then
      .next ((((s.decodeError m x).dmaWriteBack a 3 0).dmaAdvance c.val).dmaNext c.val d.stop)
    else
      let recent := if d.fence then [] else (s.dmaChan c.val).recent
      match s.dmaBadWord d with
      | some (w, n) =>
        let s1 := ((s.dmaMove recent d n).poison (d.destWords w)).error 0x71 0 0x0202 .degraded
        let s2 := (s1.dmaWriteBack a 4 n).dmaAdvance c.val
        .next ((s2.count D.dma_bytes ch n).set D.dma_state 0 ch)
      | none =>
        let s1 := s.dmaMove recent d d.count
        let s2 := (s1.modDma c.val fun x => { x with recent := (d.dst, d.count) :: recent }).dmaTraffic
        let s3 := ((s2.dmaWriteBack a 0 d.count).dmaAdvance c.val).count D.dma_bytes ch d.count
        let s4 := if d.event then s3.count D.dma_events ch else s3
        .next (s4.dmaNext c.val d.stop)

/-- dma_start (R589). -/
def State.dmaStart (s : State) (c : Nat) : State :=
  if s.get D.dma_trigger c = 0 then s.dmaTrigger c else s

/-- dma_stop: the descriptor in progress completes (R590). -/
def State.dmaStop (s : State) (c : Nat) : State :=
  let st := s.get D.dma_state (c + 8)
  if st = 1 then s.set D.dma_state 2 (c + 8)
  else if st = 3 then s.set D.dma_state 0 (c + 8)
  else s

/-- Return every descriptor a channel still owns as ABORTED, in ring order (R590). -/
def State.dmaAbortAll (s : State) (c : Nat) : Nat → State
  | 0 => s
  | n + 1 => State.dmaAbortAll ((s.dmaWriteBack (s.dmaAt c) 1 0).dmaAdvance c) c n

/-- dma_reset, with the bytes of the descriptor in progress that were written (R586, R590). -/
def State.dmaReset (s : State) (c written : Nat) : State :=
  let ch := c + 8
  let st := s.get D.dma_state ch
  let owned := s.dmaOwned c
  let s1 :=
    if (st = 1 || st = 2) && owned > 0 then
      (let a := s.dmaAt c
       let d := s.dmaDesc a
       let n := if d.bad then 0 else min written d.count
       let t := if d.bad then s else s.dmaMove (s.dmaChan c).recent d n
       (((t.dmaWriteBack a 1 n).dmaAdvance c).count D.dma_bytes ch n).dmaAbortAll c (owned - 1))
    else s.dmaAbortAll c owned
  let s2 := (s1.set D.dma_state 0 ch).modDma c fun _ => {}
  (s2.count D.mtx_resets 1).count D.mtx_resets 2

end Sys2Proof.Machine
end

