-- ==== Sys2Proof/Machine/Time.lean ====
section
/-! DEFINITION. Network time, event pins and the media clock (chapter 3): the operations on
local, domain and media time, and the commands that are events of time. -/

namespace Sys2Proof.Machine

open Sys2Proof Host

/-! ### States by their codes (R134, R147, R158, R171) -/

def domDisabled : Nat := 0
def domListening : Nat := 1
def domAcquiring : Nat := 2
def domLocked : Nat := 3
def domHoldover : Nat := 4
def domLost : Nat := 5
def domGrandmaster : Nat := 6

/-- Picoseconds in units of 2⁻³² ns, rounded down. -/
def ofPs (ps : Int) : Int := ps * ns32 / 1000

/-- A time in 2⁻³² ns as nanoseconds in F32. -/
def nsF32 (t : Int) : F32 := F32.ofScaled t (-32)

/-! ### Syntonisation (R143–R147) -/

/-- A fabric port that can be a syntonisation source: its link is up at 10GBASE-R or
1000BASE-X (R143). -/
def State.syntCapable (s : State) (p : Nat) : Bool :=
  p < 6 && s.get D.port_link p == 1 && s.get D.port_speed p < 2

/-- The source port that R143 selects. -/
def State.syntSelect (s : State) : Option Nat :=
  let set := s.get D.synt_source
  let p :=
    if set = 0 then
      (let n := s.get D.media_source_now
       let d := if n < 2 then n else if s.get D.dom_state 0 = domLocked then 0 else 1
       s.get D.dom_parent_port d)
    else if set = 1 then 7 else set - 2
  if s.syntCapable p then some p else none

/-- Move to the source that R143 now selects (R146). -/
def State.syntUpdate (s : State) : State :=
  let st := s.get D.synt_state
  if s.get D.synt_source = 1 then (s.set D.synt_state 0).set D.synt_port 1
  else
    match s.syntSelect with
    | some p =>
      if s.get D.synt_port = p + 2 && (st = 2 || st = 3) then s
      else (s.set D.synt_state 2).set D.synt_port (p + 2)
    | none =>
      if st = 2 || st = 3 || st = 4 then (s.set D.synt_state 4).set D.synt_port 1
      else (s.set D.synt_state 1).set D.synt_port 1

/-- SYNT_SOURCE_LOSS: HOLDOVER, then the source that R143 selects without the lost port
(R146). -/
def execSyntSourceLoss (s : State) : Outcome State Fault Refusal :=
  let lost := s.get D.synt_port
  let t := s.set D.synt_state 4
  match t.syntSelect with
  | some p =>
    if p + 2 = lost then .next (t.set D.synt_port 1)
    else .next ((t.set D.synt_state 2).set D.synt_port (p + 2))
  | none => .next (t.set D.synt_port 1)

/-- SYNT_LOCK: acquisition finishes; the operand is the measured frequency offset (R146). -/
def execSyntLock (offset : F32) (s : State) : Outcome State Fault Refusal :=
  if s.get D.synt_state = 2 then .next ((s.set D.synt_state 3).setF D.synt_freq_offset offset)
  else .next s

/-- The multiplication in force (R170). -/
def State.apllMult (s : State) : Nat :=
  match s.get D.apll_mult with
  | 1 => 3072
  | 2 => 6144
  | _ => if s.get D.render_rate = 1 then 6144 else 3072

/-! ### Domains -/

/-- The write of r_d: re-anchor, so that T_d is continuous (R131). -/
def State.writeRate (s : State) (d : Nat) (r : Int) : State :=
  let lt := s.time.local_
  let old := s.getI D.dom_rate d
  (s.modDomain d fun x =>
    { x with offset := x.offset + (old * (lt - x.anchor)) / ns32, anchor := lt }).setI
      D.dom_rate r d

/-- A step of domain time (R132, R135); media time stays continuous (R151). -/
def State.stepDomain (s : State) (d : Nat) (delta : Int) : State :=
  s.keepMedia fun t => t.modDomain d fun x => { x with offset := x.offset + delta }

/-- The domain whose servo writes tb_increment (R135). -/
def State.freqOwner (s : State) : Nat := if s.get D.media_source_now = 1 then 1 else 0

/-- The bounds of tb_increment (R147) and of r_d (R136). -/
def incLow : Int := 27474046799
def incHigh : Int := 27501534589
def rateBound : Int := 2147483

/-- Keep an integer within bounds. -/
def clampInt (lo hi z : Int) : Int := max lo (min hi z)

/-- The frequency share moves between the domains when media time changes domain, under
R131, so that neither domain's rate changes (R135; log entry 14). -/
def State.moveShare (s : State) (from_ to_ : Nat) : State :=
  let inc : Int := s.get D.tb_increment
  let inc' := clampInt incLow incHigh (inc * (ns32 + s.getI D.dom_rate to_) / ns32)
  let rOld := inc * (ns32 + s.getI D.dom_rate from_) / inc' - ns32
  ((s.writeRate from_ (clampInt (-rateBound) rateBound rOld)).writeRate to_ 0).set
    D.tb_increment inc'.toNat

/-- Put another source in effect: M stays continuous through the bridge, and the syntonisation source is chosen anew
(R143, R150, R151). -/
def State.switchSource (s : State) (src : Nat) : State :=
  let old := s.get D.media_source_now
  if old = src then s
  else
    let t := s.keepMedia fun u =>
      let u1 := u.set D.media_source_now src
      if src = 2 then { u1 with time := { u1.time with
        wclk := { u1.time.wclk with index := none, entry := (s.media, s.time.local_), divided := 0 } } }
      else u1
    let o1 := if old = 1 then 1 else 0
    let o2 := if src = 1 then 1 else 0
    (if o1 = o2 then t else t.moveShare o1 o2).syntUpdate

/-- A switch of R154: counted and recorded. -/
def State.failoverTo (s : State) (src : Nat) : State :=
  ((s.switchSource src).count D.media_switches).error 0x10 0 0x0304 .info

/-- A source is usable now (R155). -/
def State.sourceUsable (s : State) (src : Nat) : Bool :=
  if src = 0 || src = 1 then
    s.get D.dom_state src == domLocked || s.get D.dom_state src == domGrandmaster ||
      (s.time.wakeJoin && (s.domain src).wakeReady)
  else if src = 2 then s.get D.wclk_state == 1
  else true

/-- Note which sources have become usable (R155). -/
def State.noteUsable (s : State) : State :=
  { s with time := { s.time with
    usable := (List.range 4).map fun i => s.time.usable.getD i false || s.sourceUsable i } }

/-- A domain no longer serves: HOLDOVER, LOST or DISABLED, or not usable since the last
reset (R154). -/
def State.sourceFailed (s : State) (d : Nat) : Bool :=
  let st := s.get D.dom_state d
  st == domHoldover || st == domLost || st == domDisabled || !s.time.usable.getD d false

/-- Failover is allowed away from domain `d` (R154). -/
def State.failoverAllowed (s : State) (d : Nat) : Bool :=
  let f := s.get D.media_failover
  (f == 1 && d == 0) || f == 2

/-- The source in effect after step 3 of a boundary: the committed source first, then
failover against it (R153, R154, R155). -/
def State.evalSource (s : State) : State :=
  let s0 := s.noteUsable
  let c := s0.get D.media_source
  let changed := c != s0.time.configured
  let now := s0.get D.media_source_now
  let ready := s0.time.usable.getD c false
  let s1 : State := { s0 with time := { s0.time with configured := c } }
  let s2 :=
    if changed then s1.switchSource (if ready then c else 4)
    else if now = 4 && ready then
      (let t := s1.switchSource c
       { t with time := { t.time with wakeJoin := false } })
    else s1
  let cur := s2.get D.media_source_now
  if c < 2 then
    let other := 1 - c
    if (cur == c || cur == 4) && s2.sourceFailed c && s2.failoverAllowed c &&
        s2.sourceUsable other && (s2.get D.dom_state other == domLocked || !ready) then
      s2.failoverTo other
    else if cur == other && s2.sourceFailed other && s2.failoverAllowed other &&
        s2.get D.dom_state c == domLocked then
      s2.failoverTo c
    else s2
  else s2

/-- The test of R156, made at a boundary after step 3 of R209. -/
def State.sourceDegraded (s : State) : Bool :=
  let n := s.get D.media_source_now
  if n = 4 then true
  else if n < 2 then
    s.get D.dom_state n == domHoldover || s.get D.dom_state n == domLost
  else if n = 2 then s.get D.wclk_state == 2
  else false

/-- Compare the bridge with the threshold at boundary `k` (R152). -/
def State.bridgeTest (s : State) (k : Nat) : State :=
  if s.time.stepAt.isNone &&
      (s.time.bridge.natAbs : Int) > (s.get D.media_step_threshold : Int) * ns32 then
    { s with time := { s.time with stepAt := some (k + 2) } }
  else s

/-- The count that the feedback divider is preset to for its next edge to fall on the next reference edge: how far
media time is into its 125,000 ns (R169, R174). -/
def presetFor (media : Int) (mult : Nat) : Nat := (media % (125000 * ns32) * mult / (125000 * ns32)).toNat

/-- Media time steps: b := 0, counted and recorded (R152). The feedback divider is preset; the APLL stays LOCKED (R174),
and a Proof window that contains the step is INCONCLUSIVE (R419). -/
def State.mediaStep (s : State) (k : Nat) : State :=
  let t : State := { s with time := { s.time with bridge := 0, stepAt := none, rampUp := some k } }
  let t := t.spoilOutputs fun _ => true
  (({ t with time := { t.time with apll := { t.time.apll with preset := presetFor t.media t.apllMult } } } : State).count
    D.media_steps).error 0x10 0 0x0303 .warn

/-- MEDIA_STEP: the step due at boundary k + 2 (R152). -/
def execMediaStep (s : State) : Outcome State Fault Refusal :=
  match s.time.stepAt with
  | some k => .next (s.mediaStep k)
  | none => .next s

/-- MEDIA_REVERT: the configured source has been LOCKED for 60 s (R154). -/
def execMediaRevert (s : State) : Outcome State Fault Refusal :=
  let c := s.get D.media_source
  if s.getB D.media_revert && c < 2 && s.get D.media_source_now != c &&
      s.get D.dom_state c == domLocked then .next (s.failoverTo c)
  else .next s

/-- The bridge moves toward zero by media_slew over an advance of S (R151). -/
def slewBridge (b adv slew thr : Int) : Int :=
  if b = 0 || (b.natAbs : Int) > thr then b
  else
    let m := adv * slew / 1000000000
    if b > 0 then max 0 (b - m) else min 0 (b + m)

/-- TIMEBASE_TICK: the counter adds tb_increment; media time follows its source, or moves as that of
the ACTIVE does (R125, R151, R545). -/
def execTimebaseTick (s : State) : Outcome State Fault Refusal :=
  let t : State := { s with time := { s.time with
    local_ := (s.time.local_ + (s.get D.tb_increment : Int)) % 2 ^ 96 } }
  let adv := t.sourceNow - s.sourceNow
  let move (b : Int) : Int :=
    slewBridge b adv (s.get D.media_slew) ((s.get D.media_step_threshold : Int) * ns32)
  if s.followsTime then
    (let r := t.time.reported.getD 0
     .next { t with time := { t.time with
       bridge := t.time.bridge + (move r - r), reported := t.time.reported.map fun _ => move r } })
  else .next { t with time := { t.time with bridge := move t.time.bridge } }

/-! ### PTP (R133–R135, R137–R139) -/

/-- Rank of two masters: the comparison of IEEE 1588 best master selection (log entry 15). -/
def Master.better (a b : Master) : Bool :=
  let ka := [a.priority1, a.clockClass, a.accuracy, a.variance, a.priority2, a.gm, a.steps,
    a.sender, a.port]
  let kb := [b.priority1, b.clockClass, b.accuracy, b.variance, b.priority2, b.gm, b.steps,
    b.sender, b.port]
  decide (List.lex ka kb)

/-- The identity of this clock: the EUI-64 of the MAC address of FAB0 (log entry 15). -/
def State.ownClock (s : State) : Nat :=
  let m := s.get D.port_mac 0
  m / 2 ^ 24 * 2 ^ 40 + 0xFFFE * 2 ^ 24 + m % 2 ^ 24

/-- This clock as a master of a domain. DESIGN CHOICE (log entry 108): its clockClass is 248, its clockAccuracy 0xFE and
its offsetScaledLogVariance 0xFFFF; the spec gives none of the three. -/
def State.ownMaster (s : State) (d : Nat) : Master :=
  ⟨s.ownClock, s.get D.dom_priority1 d, 248, 0xFE, 0xFFFF, s.get D.dom_priority2 d, 0,
    s.ownClock, 0⟩

/-- A domain sends and hears over UDP and not over Layer 2, which GPTP always uses (R133). -/
def State.ptpUdp (s : State) (d : Nat) : Bool := s.get D.dom_transport d == 1 && s.get D.dom_profile d != 2

/-- The domains run; in DORMANT they are held (R129). -/
def State.ptpRuns (s : State) (d : Nat) : Bool :=
  s.power.phase != .dormant && s.get D.dom_state d != domDisabled && s.get D.runDom d == 1

/-- A message of a domain is received: the domain runs, is enabled, and uses the port and the transport (R129, R133,
R134, R136). -/
def State.ptpHears (s : State) (d : Nat) (f : PtpIn) : Bool :=
  s.ptpRuns d && (s.get D.dom_ports d).testBit f.port && f.udp == s.ptpUdp d

/-- A PTP message leaves a port: its fields follow the UDP port or the EtherType that carries it (R133). -/
def State.ptpSend (s : State) (d port : Nat) (kind : String) (event : Bool) (fields : List Nat) : State :=
  s.send ⟨.port port, kind, (if s.ptpUdp d then (if event then 319 else 320) else 0x88F7) :: fields⟩

/-- Best master selection of a domain may choose a master: one that ranks above this clock, unless the domain is
slave-only (R134; log entry 15). -/
def State.ptpChooses (s : State) (d : Nat) (m : Master) : Bool :=
  (s.getB D.dom_slave_only d && s.get D.dom_state d != domGrandmaster) || m.better (s.ownMaster d)

/-- Enter ACQUIRING from the present state (R134). -/
def State.acquire (s : State) (d : Nat) : State :=
  let st := s.get D.dom_state d
  (s.modDomain d fun x => { x with entered := st, near := 0, far := 0, wakeReady := false }).set
    D.dom_state domAcquiring d

/-- Show the chosen master in the domain's objects. -/
def State.showMaster (s : State) (d : Nat) (m : Master) : State :=
  ((s.set D.dom_gm_identity m.gm d).set D.dom_steps_removed (min 65535 (m.steps + 1)) d).set
    D.dom_parent_port m.port d

/-- PTP_ANNOUNCE: best master selection (R134). -/
def execPtpAnnounce (d : Fin 2) (f : PtpIn) (m0 : Master) (s : State) :
    Outcome State Fault Refusal :=
  let m : Master := { m0 with port := f.port.val }
  let st := s.get D.dom_state d
  let x := s.domain d
  if !s.ptpHears d f || !s.ptpChooses d m then .next s
  else if st = domGrandmaster then
    (if x.master.all fun c => c.sender == m.sender || m.better c then
      .next (s.modDomain d fun y => { y with master := some m })
    else .next s)
  else
    match x.master with
    | none => .next (s.modDomain d fun y => { y with master := some m })
    | some c =>
      if (c.sender == m.sender && c.port == m.port) || m.better c then
        (let t := s.modDomain d fun y => { y with master := some m }
         let t1 := if st = domAcquiring || st = domLocked then t.showMaster d m else t
         if st = domLocked && c.gm != m.gm then
           .next (((t1.acquire d).error 0x10 0 0x0301 .warn).syntUpdate)
         else .next t1.syntUpdate)
      else .next s

/-- The bridge of T_d and the servo after an offset is measured (R135). The law of the
frequency correction is open: the increment or the rate written is a free value within its
range (log entry 16). -/
def State.servo (s : State) (d : Nat) (offset : Int) : State :=
  if !s.getB D.dom_servo_enable d then s
  else if s.get D.dom_state d = domAcquiring && (offset.natAbs : Int) > 1000 * ns32 then
    s.stepDomain d (-offset)
  else if s.freqOwner = d then
    (s.set D.tb_increment (boundFree s.freeHere incLow incHigh).toNat).pass
  else (s.writeRate d (boundFree s.freeHere (-rateBound) rateBound)).pass

/-- The state moves that a measured offset makes (R134). -/
def State.offsetMoves (s : State) (d : Nat) (offset : Int) : State :=
  let thr : Int := (s.get D.dom_lock_threshold d : Int) * ns32
  let a : Int := offset.natAbs
  let st := s.get D.dom_state d
  let x := s.domain d
  if st = domAcquiring then
    (if a ≤ thr then
      (if x.near + 1 ≥ 8 then
        (s.modDomain d fun y => { y with near := 0, far := 0 }).set D.dom_state domLocked d
       else s.modDomain d fun y => { y with near := y.near + 1 })
     else s.modDomain d fun y => { y with near := 0 })
  else if st = domLocked then
    (if a > 4 * thr then
      (if x.far + 1 ≥ 8 then (s.acquire d).error 0x10 0 0x0301 .warn
       else s.modDomain d fun y => { y with far := y.far + 1 })
     else s.modDomain d fun y => { y with far := 0 })
  else s

/-- The mean path delay of a port (R133). -/
def State.pathDelay (s : State) (d port : Nat) : Int := (((s.domain d).paths.find? fun e => e.1 == port).map (·.2)).getD 0

/-- A port has measured its mean path delay (R133, R140). -/
def State.setPath (s : State) (d port : Nat) (delay : Int) : State :=
  (s.modDomain d fun y => { y with paths := (port, delay) :: y.paths.filter fun e => e.1 != port }).setF
    D.ts_link_delay (nsF32 delay) port

/-- Process a Sync: origin and receipt in domain time, in 2⁻³² ns (R134, R135, R139). -/
def State.processSync (s : State) (d port : Nat) (origin receipt : Int) : State :=
  let offset := receipt - origin - s.pathDelay d port - ofPs (s.getI D.ts_delay_asymmetry port)
  let ns := nsF32 offset
  let s1 := (s.modDomain d fun y => { y with lastSync := some (origin, receipt) }).setF
    D.dom_offset_from_master ns d
  let s2 := s1.histRecord 4 d ns
  let stepped := s2.getB D.dom_servo_enable d && s2.get D.dom_state d == domAcquiring &&
    decide ((offset.natAbs : Int) > 1000 * ns32)
  let s3 := s2.servo d offset
  let s4 := if s3.get D.dom_state d = domAcquiring &&
      (stepped || decide ((offset.natAbs : Int) ≤ 1000 * ns32)) then
      s3.modDomain d fun y => { y with wakeReady := true } else s3
  (s4.offsetMoves d offset).syntUpdate

/-- The receipt stamp of a message in domain time: the local time at the land less
ts_rx_adjust (R137, R139, R141). -/
def State.rxStamp (s : State) (d port : Nat) (atLand : Int) : Int :=
  s.domainAt d (atLand * 2 ^ 16 - ofPs (s.getI D.ts_rx_adjust port))

/-- PTP_SYNC: a Sync with its sequence, origin time (2⁻¹⁶ ns, correction included) and local
time at the land; a two-step Sync waits for its Follow_Up (R133–R135). -/
def execPtpSync (d : Fin 2) (f : PtpIn) (sender seq : Nat) (twoStep : Bool)
    (origin atLand : Int) (s : State) : Outcome State Fault Refusal :=
  let x := s.domain d
  match x.master with
  | none => .next s
  | some m =>
    if !s.ptpHears d f || m.sender != sender || m.port != f.port.val then .next s
    else
      let st := s.get D.dom_state d
      let s1 := if st = domListening || st = domGrandmaster || st = domHoldover || st = domLost
        then (s.acquire d).showMaster d m else s
      let receipt := s1.rxStamp d f.port atLand
      if twoStep then
        .next ((s1.modDomain d fun y => { y with syncWait := some (seq, receipt) }).syntUpdate)
      else .next (s1.processSync d f.port (origin * 2 ^ 16) receipt)

/-- The state after an announce timeout, or after 3 sync intervals without a Sync (R134). -/
def State.domainTimeout (s : State) (d : Nat) : State :=
  let st := s.get D.dom_state d
  let e := (s.domain d).entered
  let s1 := s.modDomain d fun y => { y with near := 0, far := 0, syncWait := none }
  let s2 :=
    if st = domLocked || (st = domAcquiring && (e = domLocked || e = domHoldover)) then
      s1.set D.dom_state domHoldover d
    else if st = domAcquiring && e = domLost then s1.set D.dom_state domLost d
    else if st = domAcquiring then s1.set D.dom_state domListening d
    else s1
  if s2.get D.dom_state d = st then s2 else (s2.set D.dom_parent_port 7 d).syntUpdate

/-- ANNOUNCE_TIMEOUT (R134): the chosen master is gone. -/
def execAnnounceTimeout (d : Fin 2) (s : State) : Outcome State Fault Refusal :=
  let st := s.get D.dom_state d
  let s1 := s.modDomain d fun y => { y with master := none }
  if s.power.phase = .dormant then .next s
  else if st = domListening && !s.getB D.dom_slave_only d then
    .next ((s1.set D.dom_state domGrandmaster d).set D.dom_gm_identity s.ownClock d)
  else .next (s1.domainTimeout d)

/-- SYNC_TIMEOUT: no Sync for 3 sync intervals (R134). -/
def execSyncTimeout (d : Fin 2) (s : State) : Outcome State Fault Refusal :=
  if s.power.phase = .dormant then .next s else .next (s.domainTimeout d)

/-- HOLDOVER_LIMIT_EXPIRE (R134); dom_holdover_limit does not run in DORMANT (R622). -/
def execHoldoverLimitExpire (d : Fin 2) (s : State) : Outcome State Fault Refusal :=
  if s.get D.dom_state d = domHoldover && s.power.phase != .dormant then
    .next ((s.set D.dom_state domLost d).error 0x10 0 0x0302 .degraded)
  else .next s

/-- The ports of a bit mask. -/
def maskPorts (m : Nat) : List Nat := (List.range 7).filter fun p => m.testBit p

/-- The ports on which a domain serves as master: all its ports in GRANDMASTER; as a
boundary clock, every port but the parent (R133, R134). -/
def State.masterPorts (s : State) (d : Nat) : List Nat :=
  let st := s.get D.dom_state d
  let ports := maskPorts (s.get D.dom_ports d)
  if st = domGrandmaster then ports
  else if (st = domLocked || st = domAcquiring || st = domHoldover) && ports.length > 1 then
    ports.filter fun p => p != s.get D.dom_parent_port d
  else []

/-- Send one general message of a domain on each of several ports. -/
def State.ptpSendAll (s : State) (d : Nat) (ports : List Nat) (kind : String) (fields : List Nat) : State :=
  ports.foldl (fun t p => t.ptpSend d p kind false fields) s

/-- The egress stamp of a port in local time: the time now plus ts_tx_adjust (R139). -/
def State.txLocal (s : State) (port : Nat) : Int := s.time.local_ + ofPs (s.getI D.ts_tx_adjust port)

/-- The egress stamp of a port in T80 of a domain (R139). -/
def State.txStamp (s : State) (d port : Nat) : Nat := toT80 (s.domainAt d (s.txLocal port))

/-- A Pdelay_Req leaves on each port, with its egress stamp noted as t1 (R133, R139). -/
def State.sendPdelay (s : State) (d seq : Nat) (ports : List Nat) : State :=
  ports.foldl (fun t p => (t.ptpSend d p "PTP_PDELAY_REQ" true [d, seq]).modDomain d fun y =>
    { y with pdelays := ⟨p, seq, s.txLocal p, none⟩ :: y.pdelays.filter fun e => e.port != p }) s

/-- Sync and Follow_Up on each master port; transmit is two-step only (R133). -/
def State.sendSync (s : State) (d seq : Nat) (ports : List Nat) : State :=
  ports.foldl (fun t p => (t.ptpSend d p "PTP_SYNC" true [d, seq]).ptpSend d p "PTP_FOLLOW_UP" false
    [d, seq, t.txStamp d p]) s

/-- PTP_MASTER_TIMER: the interval of a domain expires (R134). -/
def execPtpMasterTimer (d : Fin 2) (timer : PtpTimer) (s : State) :
    Outcome State Fault Refusal :=
  let x := s.domain d
  let seq := x.seq
  let bump (t : State) : State := t.modDomain d fun y => { y with seq := (y.seq + 1) % 65536 }
  if !s.ptpRuns d then .next s
  else
    match timer with
    | .sync => .next (bump (s.sendSync d seq (s.masterPorts d)))
    | .announce =>
      let m := if s.get D.dom_state d = domGrandmaster then s.ownMaster d
        else (x.master.getD (s.ownMaster d))
      let steps := if s.get D.dom_state d = domGrandmaster then 0 else m.steps + 1
      .next (bump (s.ptpSendAll d (s.masterPorts d) "PTP_ANNOUNCE"
        [d, seq, m.gm, m.priority1, m.clockClass, m.accuracy, m.variance, m.priority2, steps]))
    | .delayRequest =>
      if s.get D.dom_profile d = 0 then
        (let p := s.get D.dom_parent_port d
         let st := s.get D.dom_state d
         if p < 7 && (st = domAcquiring || st = domLocked) then
           .next (bump ((s.ptpSend d p "PTP_DELAY_REQ" true [d, seq]).modDomain d fun y =>
             { y with delayReq := some (seq, s.domainAt d (s.txLocal p)) }))
         else .next s)
      else .next (bump (s.sendPdelay d seq (maskPorts (s.get D.dom_ports d))))

/-- PTP_PATH_DELAY_MESSAGE: the messages that measure the path delay, or ask for an answer
(R133). -/
def execPtpPathDelayMessage (d : Fin 2) (f : PtpIn) (msg : PtpMessage) (s : State) :
    Outcome State Fault Refusal :=
  let x := s.domain d
  let port := f.port
  let adj := ofPs (s.getI D.ts_rx_adjust port)
  let mine (e : Pdelay) (seq : Nat) : Bool := e.port == port.val && e.seq == seq
  if !s.ptpHears d f then .next s
  else
    match msg with
    | .followUp seq origin =>
      match x.syncWait with
      | some (q, receipt) =>
        if q = seq then
          .next ((s.modDomain d fun y => { y with syncWait := none }).processSync d port
            (origin * 2 ^ 16) receipt)
        else .next s
      | none => .next s
    | .delayReq seq requester atLand =>
      if s.get D.dom_profile d = 0 && (s.masterPorts d).contains port.val then
        .next (s.ptpSend d port "PTP_DELAY_RESP" false [d, seq, requester, toT80 (s.rxStamp d port atLand)])
      else .next s
    | .delayResp seq received =>
      match x.delayReq, x.lastSync with
      | some (q, t3), some (t1, t2) =>
        if q = seq && s.get D.dom_profile d = 0 then
          .next ((s.modDomain d fun y => { y with delayReq := none }).setPath d port
            (((t2 - t1) + (received * 2 ^ 16 - t3)) / 2))
        else .next s
      | _, _ => .next s
    | .pdelayReq seq requester atLand =>
      if s.get D.dom_profile d != 0 then
        .next ((s.ptpSend d port "PTP_PDELAY_RESP" true [d, seq, requester, toT80 (atLand * 2 ^ 16 - adj)]).ptpSend d port
          "PTP_PDELAY_RESP_FOLLOW_UP" false [d, seq, requester, toT80 (s.txLocal port)])
      else .next s
    | .pdelayResp seq received atLand =>
      .next (s.modDomain d fun y => { y with
        pdelays := y.pdelays.map fun e =>
          if mine e seq then { e with resp := some (received * 2 ^ 16, atLand * 2 ^ 16 - adj) } else e })
    | .pdelayRespFollowUp seq sent =>
      match x.pdelays.find? fun e => mine e seq with
      | some ⟨_, _, t1, some (t2, t4)⟩ =>
        .next ((s.modDomain d fun y => { y with pdelays := y.pdelays.filter fun e => !mine e seq }).setPath d port
          (((t4 - t1) - (sent * 2 ^ 16 - t2)) / 2))
      | _ => .next s

/-- A domain stops: DISABLED, with no master and no parent; O_d and r_d keep their values (R134). -/
def State.domStop (s : State) (d : Nat) : State :=
  (((s.set D.dom_state domDisabled d).set D.dom_parent_port 7 d).modDomain d fun y =>
    { y with master := none, near := 0, far := 0, syncWait := none, delayReq := none, pdelays := [] }).syntUpdate

/-- The effect of a write of dom_enable (R134). -/
def State.domEnable (s : State) (d v : Nat) : State :=
  let t := s.set D.dom_enable v d
  let st := s.get D.dom_state d
  if v = 0 then t.domStop d
  else if st = domDisabled then t.set D.dom_state domListening d
  else t

/-! ### The word clock (R157) -/

/-- A measured period lies within ±500 ppm of Fs. -/
def wclkValid (fs : Nat) (period : Int) : Bool :=
  decide (period > 0) &&
    decide (((1000000000 * ns32 - fs * period).natAbs : Int) * 2000 ≤ fs * period)

/-- The edges of WCLK_IN for one reference edge of the APLL (R169). -/
def State.wclkRatio (s : State) : Nat := if s.get D.render_rate = 1 then 12 else 6

/-- In WORD_CLOCK every 6th or 12th edge is a reference edge of the APLL (R169). -/
def State.wclkDivide (s : State) : State :=
  if s.get D.media_source_now ≠ 2 then s
  else
    let n := s.time.wclk.divided + 1
    if n < s.wclkRatio then { s with time := { s.time with wclk := { s.time.wclk with divided := n } } }
    else
      { s with time := { s.time with
        wclk := { s.time.wclk with divided := 0 }
        apll := { s.time.apll with wclkRef := some s.time.local_ } } }

/-- WCLK_EDGE: a rising edge, now (R157). DEDUCED (log entry 109): edges that return after a loss are indexed as on
entry. While VIO is lost the land counts as invalid (R33). -/
def execWclkEdge (s : State) : Outcome State Fault Refusal :=
  if !s.power.vio then .next s else
  let w := s.time.wclk
  let now := s.time.local_
  let period := match w.lastEdge with
    | some e => now - e
    | none => 0
  let lost := s.get D.wclk_state == 2
  let known := w.lastEdge.isSome && !lost
  let valid := wclkValid s.fs period
  let s1 := s.keepMedia fun t => { t with time := { t.time with wclk := {
    w with
    index := match w.index with
      | some n => some (if lost then s.sampleNow + 1 else n + 1)
      | none => if s.get D.media_source_now = 2 then some (s.sampleNow + 1) else none
    lastEdge := some now
    period := if known && valid then period else w.period } } }
  let s2 := if known then
      (s1.set D.wclk_state (if valid then 1 else 0)).setF D.wclk_in_freq
        (if period > 0 then F32.ofQuot (1000000000 * ns32) period.toNat else F32.zero)
    else s1.set D.wclk_state 0
  -- without a jump of S the bridge keeps its value
  if known && w.index.isSome && valid then
    .next { s2 with time := { s2.time with bridge := s.time.bridge } }.wclkDivide
  else .next s2.wclkDivide

/-- WCLK_LOST: wclk_loss_periods edges are missing (R157). -/
def execWclkLost (s : State) : Outcome State Fault Refusal :=
  if s.get D.wclk_state = 1 then .next (s.set D.wclk_state 2) else .next s

/-! ### The APLL and the clock lands (R157, R169–R174) -/

/-- The lands MCLK0 and MCLK1: the output of the APLL, 8 kHz times its multiplication, for MCLK1 divided as mclk1_div
says; driven low while the APLL is OFF or the land is not enabled (R170, R171). -/
def State.driveMclk (s : State) : State :=
  let f := if s.get D.apll_state = 0 then 0 else 8000 * s.apllMult
  { s with time := { s.time with apll := { s.time.apll with
    divides := s.apllMult
    mclk0 := if s.getB D.mclk0_enable then f else 0
    mclk1 := if s.getB D.mclk1_enable then (if s.get D.mclk1_div = 1 then f / 2 else f) else 0 } } }

/-- Start the APLL: ACQUIRING with the charge-pump current of the multiplication (R171). -/
def State.apllStart (s : State) : State :=
  let t := (s.set D.apll_state 1).set D.apll_cp_current (if s.apllMult = 6144 then 20 else 10)
  ({ t with time := { t.time with apll := { t.time.apll with preset := presetFor t.media t.apllMult } } } : State).driveMclk

/-- Stop the APLL; its lands are driven low (R171). -/
def State.apllStop (s : State) : State := (s.set D.apll_state 0).driveMclk

/-- The multiples of 125,000 ns from one media time up to another, as T80: at most `n` (R169). -/
def refsFrom : Nat → Nat → Nat → List Nat
  | 0, _, _ => []
  | n + 1, t, stop => if stop ≤ t then [] else t :: refsFrom n (t + 125000 * 2 ^ 16) stop

/-- The reference edges of the APLL and the edges of WCLK_OUT in block `k` (R149, R157, R169). -/
def State.clockBlock (s : State) (k : Nat) : State :=
  let l := s.blockLen
  let a := sampleInstant (k * l) s.fs
  let first := (a + 125000 * 2 ^ 16 - 1) / (125000 * 2 ^ 16) * (125000 * 2 ^ 16)
  let off := s.getI D.wclk_out_offset * 2 ^ 16
  { s with time := { s.time with apll := { s.time.apll with
    refs := if s.get D.media_source_now = 2 then [] else refsFrom 3 first (sampleInstant ((k + 1) * l) s.fs)
    wclkOut := if s.getB D.wclk_out_enable then (List.range l).map fun p => sampleInstant (k * l + p) s.fs + off else [] } } }

/-- APLL_LOCK: the phase error stayed within 20 ns for 256 reference periods (R171). -/
def execApllLock (phase : F32) (s : State) : Outcome State Fault Refusal :=
  let t := s.setF D.apll_phase_error phase
  if s.get D.apll_state = 1 then .next (t.set D.apll_state 2) else .next t

/-- APLL_UNLOCK: the phase error exceeded 100 ns for 8 reference periods (R171). -/
def execApllUnlock (phase : F32) (s : State) : Outcome State Fault Refusal :=
  let t := s.setF D.apll_phase_error phase
  if s.get D.apll_state = 2 then
    .next (((t.set D.apll_state 1).count D.apll_unlocks).error 0x12 0 0x0305 .warn)
  else .next t

/-! ### Event pins (R159–R163) -/

def State.pin (s : State) (p : Nat) : EventPin := s.time.pins.getD p {}

def State.modPin (s : State) (p : Nat) (f : EventPin → EventPin) : State :=
  { s with time := { s.time with pins := modAt s.time.pins p f } }

/-- The time of a pin's timebase (R159, R164); PERIODIC_SAMPLES is always media time. -/
def State.pinTime (s : State) (p : Nat) : Int :=
  if s.get D.ev_mode p = 3 then s.media
  else
    match s.get D.ev_timebase p with
    | 0 => s.time.local_
    | 1 => s.domainTime 0
    | 2 => s.domainTime 1
    | _ => s.media

/-- The programmed instant of pulse `j` of a pin, as T80 (R159). -/
def State.pulseInstant (s : State) (p j : Nat) : Nat :=
  match s.get D.ev_mode p with
  | 1 => s.get D.ev_start p
  | 2 => s.get D.ev_start p + j * s.get D.ev_period p
  | _ => sampleInstant (s.get D.ev_start_sample p + j * s.get D.ev_period_samples p) s.fs

/-- The instant at which an edge leaves the land: programmed time plus ev_adjust (R160). -/
def State.pulseLeaves (s : State) (p j : Nat) : Nat :=
  ((s.pulseInstant p j : Int) + s.getI D.ev_adjust p * 2 ^ 16 / 1000).toNat

/-- The status bits of a pin (R164). -/
def State.pinFlag (s : State) (p bit : Nat) : State :=
  s.set D.ev_status (s.get D.ev_status p ||| 2 ^ bit) p

/-- A pin produces a pulse whose leading edge lies at an instant; ev_width later its trailing edge follows. The pulse is
high, or low, as ev_polarity says (R159, R164). -/
def State.produce (s : State) (p at_ : Nat) : State :=
  (s.modPin p fun x => { x with
    produced := some at_, ends := at_ + s.get D.ev_width p * 2 ^ 16, high := s.get D.ev_polarity p == 0 }).pinFlag p 1

/-- Rearm a pin and apply the late rules (R162, R164). -/
def State.rearm (s : State) (p : Nat) : State :=
  let mode := s.get D.ev_mode p
  let s1 := (s.set D.ev_status (if mode = 0 then 0 else 1) p).modPin p fun x =>
    { x with next := 0, done := mode == 0 || mode ≥ 4 }
  let now := toT80 (s.pinTime p)
  let first := s.pulseInstant p 0
  if mode = 0 || mode ≥ 4 || first ≥ now then s1
  else if mode = 1 then
    let s2 := (s1.pinFlag p 2).modPin p fun x => { x with done := true }
    if s.get D.ev_late p = 1 then
      ((s2.produce p now).modPin p fun x => { x with next := 1 })
    else s2
  else
    let passed :=
      if mode = 2 then (now - first) / (max 1 (s.get D.ev_period p)) + 1
      else
        (sampleIndex (s.pinTime p) s.fs - s.get D.ev_start_sample p) /
          (max 1 (s.get D.ev_period_samples p)) + 1
    (s1.modPin p fun x => { x with next := passed }).count D.ev_skipped p passed

/-- EVENT_PULSE: a pulse time is reached and the pulse is produced, or a forward step passed
it and it is skipped (R161). -/
def execEventPulse (pin : Fin 6) (skipped : Bool) (s : State) : Outcome State Fault Refusal :=
  let mode := s.get D.ev_mode pin
  let x := s.pin pin
  if mode = 0 || mode ≥ 4 || x.done then .next s
  else
    let t := s.modPin pin fun y => { y with next := y.next + 1, done := mode == 1 }
    if skipped then .next (t.count D.ev_skipped pin)
    else .next (t.produce pin (s.pulseLeaves pin x.next))

/-- Show the head of a capture queue in the pin's objects. DESIGN CHOICE (log entry 110): once the queue is empty ev_head
and ev_head_edge keep the last value they showed. -/
def State.showCaptures (s : State) (p : Nat) : State :=
  let q := (s.pin p).queue
  let t := s.set D.ev_count q.length p
  match q with
  | [] => t
  | (time, e) :: _ => (t.set D.ev_head time p).set D.ev_head_edge (if e = .fall then 1 else 0) p

/-- A mode captures an edge (R159). -/
def captures (mode : Nat) (e : Edge) : Bool :=
  mode == 6 || (mode == 4 && e == .rise) || (mode == 5 && e == .fall)

/-- The instant of an edge at a land: so many quarters of a nanosecond after the last tick of the counter (R160). -/
def State.landTime (s : State) (quarters : Nat) : Int := s.time.local_ + quarters * (ns32 / 4)

/-- EVENT_CAPTURE: an edge at a capturing pin; it is queued, merged or lost (R160, R163). While VIO is lost the land counts
as invalid (R33). -/
def execEventCapture (pin : Fin 6) (e : PinEdge) (s : State) : Outcome State Fault Refusal :=
  let x := s.pin pin
  let now := s.landTime e.quarters
  let then_ : State := { s with time := { s.time with local_ := now } }
  if !s.power.vio || !captures (s.get D.ev_mode pin) e.edge then .next s
  else if x.lastEdge.any fun t => decide (now - t < 20 * ns32) then .next (s.count D.ev_merged pin)
  else if x.queue.length ≥ 16 then
    .next ((s.modPin pin fun y => { y with lastEdge := some now }).count D.ev_lost pin)
  else
    let time := toT80 (then_.pinTime pin - ofPs (s.getI D.ev_adjust pin))
    .next (((s.modPin pin fun y =>
      { y with lastEdge := some now, queue := y.queue ++ [(time, e.edge)] }).pinFlag pin 3).showCaptures
        pin)

/-- The effect of ev_pop: remove the oldest capture (R163). -/
def State.popCapture (s : State) (p : Nat) : State :=
  (s.modPin p fun y => { y with queue := y.queue.tail }).showCaptures p

/-- Extend an NT32 to a full NT64 against a reading of the same timebase (R142). -/
def extendStamp (ts32 ref : Nat) : Int :=
  let d : Int := ((ts32 : Int) - (ref % 2 ^ 32 : Nat)) % 2 ^ 32
  (ref : Int) + (if d ≥ 2 ^ 31 then d - 2 ^ 32 else d)

end Sys2Proof.Machine
end

