-- ==== Sys2Proof/Machine/Show.lean ====
section
/-! DEFINITION. Show time (chapter 4): the mapping, the transport commands and the LTC
tracker. -/

namespace Sys2Proof.Machine

open Sys2Proof Host

/-- The boundary of block `k` in integer ns (R181). -/
def State.tBoundary (s : State) (k : Nat) : Nat := k * s.blockLen * 1000000000 / s.fs

/-- Show time runs: the mapping's rate is not zero (R183). -/
def State.showRuns (s : State) : Bool := s.get D.show_map_rate != 0

/-- ST_B (R181). -/
def State.showTime (s : State) (k : Nat) : Int :=
  let st := s.getI D.show_map_st
  if s.showRuns then
    st + ((s.get D.show_map_rate : Int) *
      ((s.tBoundary k : Int) - (s.get D.show_map_nt : Int))) / 2 ^ 24
  else st

/-- Set the mapping, which is persisted as it applies (R183). -/
def State.setMap (s : State) (st : Int) (nt rate : Nat) : State :=
  ((s.keepValue D.show_map_st (ofSigned 64 st)).keepValue D.show_map_nt nt).keepValue D.show_map_rate rate

/-- show_run at boundary `k` (R183). -/
def State.showRun (s : State) (k : Nat) (v : Bool) : State :=
  if !v && s.showRuns then
    (let r := s.get D.show_map_rate
     (s.keepValue D.show_resume_rate r).setMap (s.showTime k) (s.get D.show_map_nt) 0)
  else if v && !s.showRuns then
    s.setMap (s.getI D.show_map_st) (s.tBoundary k) (s.get D.show_resume_rate)
  else s

/-- show_jump at boundary `k` (R183). -/
def State.showJump (s : State) (k : Nat) (j : Int) : State :=
  s.setMap j (s.tBoundary k) (s.get D.show_map_rate)

/-- show_set_rate at boundary `k` (R183). -/
def State.showSetRate (s : State) (k : Nat) (r : Nat) : State :=
  if s.showRuns then
    (if s.get D.show_map_rate = r then s
     else (s.setMap (s.showTime k) (s.tBoundary k) r).keepValue D.show_resume_rate r)
  else s.keepValue D.show_resume_rate r

/-- A transport command is obeyed with show_source INTERNAL only (R183). -/
def State.showInternal (s : State) : Bool := s.get D.show_source == 2

/-- SHOW_RUN: the command show_run at its commit boundary, the present one (R183). -/
def execShowRun (v : Bool) (s : State) : Outcome State Fault Refusal :=
  if s.showInternal then .next (s.showRun s.blockNow v) else .next s

/-- SHOW_SET_RATE: the command show_set_rate at its commit boundary (R183). -/
def execShowSetRate (r : Nat) (s : State) : Outcome State Fault Refusal :=
  if s.showInternal then .next (s.showSetRate s.blockNow r) else .next s

/-! ### Timecode (R186–R189) -/

/-- Frames counted per second for an ltc_rate (R186). -/
def ltcBase (rate : Nat) : Nat := match rate with
  | 0 => 24
  | 1 => 25
  | _ => 30

/-- The frame count of a timecode (R186). -/
def ltcCount (rate h mi sec f : Nat) : Nat :=
  let m := 60 * h + mi
  let n := (3600 * h + 60 * mi + sec) * ltcBase rate + f
  if rate = 2 then n - 2 * (m - m / 10) else n

/-- The frames of a day. -/
def ltcDay (rate : Nat) : Nat := ltcCount rate 24 0 0 0

/-- The time of a frame count, in 2⁻³² ns (R186). -/
def ltcTime (rate : Nat) (n : Int) : Int :=
  if rate = 2 || rate = 3 then n * 1001000000 * ns32 / 30000
  else n * 1000000000 * ns32 / ltcBase rate

/-- The least-squares rate of LTC time against media time, in units of 2⁻²⁴, limited to
0.25–4.0 (R187); rounded to nearest, ties to even (log entry 18). -/
def ltcRate (frames : List (Int × Int)) : Nat :=
  let n : Int := frames.length
  let sx := frames.foldl (fun a p => a + p.1) 0
  let sy := frames.foldl (fun a p => a + p.2) 0
  let sxx := frames.foldl (fun a p => a + p.1 * p.1) 0
  let sxy := frames.foldl (fun a p => a + p.1 * p.2) 0
  let num := n * sxy - sx * sy
  let den := n * sxx - sx * sx
  let r : Int := if den ≤ 0 || num ≤ 0 then 0 else rneDiv (num.toNat * 2 ^ 24) den.toNat
  (clampInt 0x400000 0x4000000 r).toNat

/-- The mapping a re-anchor at boundary `k` sets: ST, t and rate (R187). -/
def State.ltcMap (s : State) (k : Nat) : Int × Nat × Nat :=
  let fr := s.timeline.ltc.frames
  let r := ltcRate fr
  let t := s.tBoundary k
  match fr with
  | [] => (s.showTime k, t, r)
  | (m, l) :: _ =>
    (((l + ((t : Int) * ns32 - m) * r / 2 ^ 24) / ns32) - s.getI D.ltc_offset, t, r)

def State.modLtc (s : State) (f : LtcTracker → LtcTracker) : State :=
  { s with timeline := { s.timeline with ltc := f s.timeline.ltc } }

/-- Ask for a re-anchor at the next boundary; the tracker governs with show_source LTC only
(R182). -/
def State.askReanchor (s : State) : State :=
  if s.get D.show_source = 0 then s.modLtc fun x => { x with reanchor := true } else s

/-- A frame is consistent with the mapping: its time equals the prediction within
ltc_tolerance (R187). -/
def State.ltcConsistent (s : State) (start l : Int) : Bool :=
  let st := s.getI D.show_map_st * ns32
  let pred := if s.showRuns then
      st + (s.get D.show_map_rate : Int) *
        (start - (s.get D.show_map_nt : Int) * ns32) / 2 ^ 24
    else st
  let d := l - s.getI D.ltc_offset * ns32 - pred
  decide ((d.natAbs : Int) ≤ (s.get D.ltc_tolerance : Int) * ns32)

/-- Two decimal digits as BCD. -/
def bcd (n : Nat) : Nat := n / 10 * 16 + n % 10

/-- LTC_FRAME: a decoded frame, its user bits and the media time of its bit 0 in 2⁻³² ns
(R186, R187). While VIO is lost the land counts as invalid (R33). -/
def execLtcFrame (h mi sec f user : Nat) (start : Int) (s : State) :
    Outcome State Fault Refusal :=
  if !s.power.vio then .next s else
  let rate := s.get D.ltc_rate
  let x := s.timeline.ltc
  let n0 := ltcCount rate h mi sec f
  let day := ltcDay rate
  let wraps := x.last.any fun p => n0 == 0 && (p + 1) % (day : Int) == 0 && decide (p > 0)
  let days := if wraps then x.days + 1 else x.days
  let n : Int := (n0 + days * day : Nat)
  let follows := x.last.any fun p => p + 1 == n
  let l := ltcTime rate n
  let st := s.get D.ltc_state
  let window := (s.get D.ltc_window)
  let kept := if st = 1 && !follows then [] else x.frames
  let s1 := ((s.modLtc fun y => { y with
      last := some n, days := days, frames := ((start, l) :: kept).take window }).set
    D.ltc_last (bcd h * 2 ^ 24 + bcd mi * 2 ^ 16 + bcd sec * 2 ^ 8 + bcd f)).set
    D.ltc_user_bits user
  if st = 0 || st = 4 then
    .next ((s1.modLtc fun y => { y with run := 1, frames := [(start, l)] }).set D.ltc_state 1)
  else if st = 1 then
    (let run := if follows then x.run + 1 else 1
     if run ≥ s.get D.ltc_lock_frames then
       .next (((s1.modLtc fun y => { y with run := 0 }).set D.ltc_state 2).askReanchor)
     else .next (s1.modLtc fun y => { y with run := run }))
  else
    (let gone := x.published.any fun id => s.cu.finished.any fun t => t.id == id && t.st == 6
     let s2 := (s1.set D.ltc_state 2).modLtc fun y => { y with published := if gone then none else y.published }
     if s.ltcConsistent start l && !gone then .next s2 else .next s2.askReanchor)

/-- LTC_LOSS: ltc_loss_frames expected frames are missing (R187). -/
def execLtcLoss (s : State) : Outcome State Fault Refusal :=
  if s.get D.ltc_state = 2 then .next (s.set D.ltc_state 3) else .next s

/-- LTC_FREEWHEEL_EXPIRE: the tracker is LOST and show time pauses at the next boundary
(R185, R187). -/
def execLtcFreewheelExpire (s : State) : Outcome State Fault Refusal :=
  if s.get D.ltc_state = 3 then
    .next (((s.set D.ltc_state 4).modLtc fun x => { x with
      pause := s.get D.show_source == 0 || x.pause, frames := [], run := 0 }).error
        0x18 0 0x0307 .warn)
  else .next s

/-- The user-bit nibble `k` of a word. -/
def nibble (v k : Nat) : Nat := v / 16 ^ k % 16

/-- The 80 bits of an LTC frame, bit 0 first sent (ST 12-1; log entry 19). -/
def ltcWord (rate h mi sec f user : Nat) : Nat :=
  let drop := if rate = 2 then 1 else 0
  let body := f % 10 + nibble user 0 * 2 ^ 4 + f / 10 * 2 ^ 8 + drop * 2 ^ 10 +
    nibble user 1 * 2 ^ 12 + sec % 10 * 2 ^ 16 + nibble user 2 * 2 ^ 20 + sec / 10 * 2 ^ 24 +
    nibble user 3 * 2 ^ 28 + mi % 10 * 2 ^ 32 + nibble user 4 * 2 ^ 36 + mi / 10 * 2 ^ 40 +
    nibble user 5 * 2 ^ 44 + h % 10 * 2 ^ 48 + nibble user 6 * 2 ^ 52 + h / 10 * 2 ^ 56 +
    nibble user 7 * 2 ^ 60 + 0xBFFC * 2 ^ 64
  let ones := ((List.range 80).filter fun i => body.testBit i).length
  if ones % 2 = 0 then body else body + 2 ^ (if rate = 1 then 59 else 27)

/-- The timecode of a frame count. -/
def ltcFields (rate n0 : Nat) : Nat × Nat × Nat × Nat :=
  let n := n0 % ltcDay rate
  let n' :=
    if rate = 2 then
      (let d := n / 17982
       let r := n % 17982
       n + 18 * d + (if r ≥ 2 then 2 * ((r - 2) / 1798) else 0))
    else n
  let b := ltcBase rate
  (n' / (3600 * b), n' / (60 * b) % 60, n' / b % 60, n' % b)

/-- The first frame whose time a time in ns has not passed (R186, R189). -/
def ltcNext (rate : Nat) (t : Int) : Int :=
  if rate = 2 || rate = 3 then -(-t * 30000 / 1001000000000) else -(-t * (ltcBase rate : Int) / 1000000000)

/-- LTC_OUT_FRAME: the time of a frame is reached within the present block, and LTC_OUT starts the frame: the first one
that ST of the block + ltc_out_offset has not passed. LTC_OUT holds its level while show time is PAUSED or the time to
encode is negative (R189). -/
def execLtcOutFrame (s : State) : Outcome State Fault Refusal :=
  let rate := s.get D.ltc_out_rate
  let n := ltcNext rate (s.showTime s.blockNow + s.getI D.ltc_out_offset)
  if !s.getB D.ltc_out_enable || !s.showRuns || n < 0 then .next s
  else
    let q := ltcFields rate n.toNat
    .next { s with timeline := { s.timeline with
      ltcOut := some (ltcWord rate q.1 q.2.1 q.2.2.1 q.2.2.2 (s.get D.ltc_out_user_bits)) } }

end Sys2Proof.Machine
end

