-- ==== Sys2Proof/Machine/Scene.lean ====
section
/-! DEFINITION. The scene (chapter 5): vectors, trajectories, object positions, the
triangulation of the Last, panning, and the commands of the triangulation and of
lst_clear_fail. Every F32 operation is written in the order of its rule. -/

namespace Sys2Proof.Machine

open Sys2Proof Host

/-! ### Vectors -/

def V3.ofTriple (p : F32 × F32 × F32) : V3 := ⟨p.1, p.2.1, p.2.2⟩

def V3.sub (a b : V3) : V3 := ⟨F32.sub a.x b.x, F32.sub a.y b.y, F32.sub a.z b.z⟩

/-- `(a.x × b.x + a.y × b.y) + a.z × b.z`. -/
def V3.dot (a b : V3) : F32 :=
  F32.add (F32.add (F32.mul a.x b.x) (F32.mul a.y b.y)) (F32.mul a.z b.z)

/-- dist(v) of R268. -/
def V3.dist (v : V3) : F32 := F32.sqrt (V3.dot v v)

def V3.divBy (v : V3) (d : F32) : V3 := ⟨F32.div v.x d, F32.div v.y d, F32.div v.z d⟩

/-- The cross product, each component a product minus a product (R251). -/
def V3.cross (a b : V3) : V3 :=
  ⟨F32.sub (F32.mul a.y b.z) (F32.mul a.z b.y),
   F32.sub (F32.mul a.z b.x) (F32.mul a.x b.z),
   F32.sub (F32.mul a.x b.y) (F32.mul a.y b.x)⟩

/-- Combine two vectors component by component. -/
def V3.map2 (f : F32 → F32 → F32) (a b : V3) : V3 := ⟨f a.x b.x, f a.y b.y, f a.z b.z⟩

def V3.pack (v : V3) : Nat := v.x.toNat * 2 ^ 64 + v.y.toNat * 2 ^ 32 + v.z.toNat

def State.pos3 (s : State) (o : Obj) (i : Nat := 0) : V3 := V3.ofTriple (s.getPos o i)

/-- Degrees in radians (R236). -/
def radians (deg : F32) : F32 := F32.mul deg 0x3C8EFA35#32

/-- 10 to the power k / 1280, correctly rounded from the exact exponent: the linear value of
`k` G16 steps. -/
def exactGain (k : Int) : F32 :=
  if k = 0 then F32.one else F32.ofExp (k * fxLn10 / 1280)

/-- The linear gain of G16 steps by R267; mute gives 0.0. -/
def linearGain (k : Int) : F32 :=
  if k = -32768 then F32.zero else F32.exp10 (g16Exponent k)

/-- sound_speed at a temperature (R237). -/
def soundSpeed (t : F32) : F32 :=
  let q := F32.div t 0x43889333#32
  let q := F32.add q F32.one
  F32.mul 0x43A5A666#32 (F32.sqrt q)

/-- The direction of a point from the origin of panning (R237). -/
def direction (p o : V3) : V3 :=
  let d := V3.sub p o
  let n := V3.dot d d
  if F32.lt n 0x358637BD#32 then ⟨F32.one, F32.zero, F32.zero⟩
  else V3.divBy d (F32.sqrt n)

/-! ### Outputs (R224, R235, R249) -/

/-- An object or output number is beyond what 96 kHz renders (R224). -/
def State.beyond (s : State) (i : Nat) : Bool := s.get D.render_rate == 1 && decide (i ≥ 0x200)

/-- obj_mode as rendered: OFF 0, POINT 1, PAN 2, SPREAD 3, ZONE 4, PLANE 5. -/
def State.objMode (s : State) (i : Nat) : Nat := if s.beyond i then 0 else s.get D.obj_mode i

/-- lst_type as rendered: NONE 0, FULL 1, SUB 2, FILL 3. -/
def State.outType (s : State) (j : Nat) : Nat := if s.beyond j then 0 else s.get D.lst_type j

/-- The instances of an object whose stored value passes a test. -/
def State.instancesWhere (s : State) (o : Obj) (p : Nat → Bool) : List Nat :=
  s.dict.filterMap fun e =>
    match o.locate e.1 with
    | some (i, k) => if k = 0 && p e.2 then some i else none
    | none => none

/-- The objects that are not OFF, by rising number. -/
def State.liveObjects (s : State) : List Nat :=
  (s.instancesWhere D.obj_mode (· != 0)).filter fun i => s.objMode i != 0

/-- The outputs that are not NONE, by rising number. -/
def State.liveOutputs (s : State) : List Nat :=
  (s.instancesWhere D.lst_type (· != 0)).filter fun j => s.outType j != 0

def markOf : List OutMark → Nat → OutMark
  | [], j => { out := j }
  | m :: l, j => if m.out = j then m else markOf l j

def State.mark (s : State) (j : Nat) : OutMark := markOf s.render.marks j

/-- Change the marks of an output. -/
def State.modMark (s : State) (j : Nat) (f : OutMark → OutMark) : State :=
  let m := f (s.mark j)
  { s with render := { s.render with
    marks := m :: s.render.marks.filter fun x => x.out != j } }

/-- lst_status: OK 0, SUSPECT 1, FAILED 2, OUT 3, NONE 4 (R249). -/
def State.outStatus (s : State) (j : Nat) : Nat :=
  if s.outType j = 0 then 4
  else if s.get D.lst_service j = 1 then 3
  else if (s.mark j).failed then 2
  else if (s.mark j).suspect then 1
  else 0

/-- An output takes part in every mode: neither OUT of service nor excluded as FAILED
(R235, R254, R255). -/
def State.outServes (s : State) (j : Nat) : Bool :=
  s.outType j != 0 && s.get D.lst_service j == 0 && !(s.mark j).excluded

/-- An output is excluded as FAILED (R254). -/
def State.anyExcluded (s : State) : Bool := s.render.marks.any (·.excluded)

/-! ### Trajectories (R242–R247) -/

/-- Insert a keyframe by time, and by pool index among equal times. -/
def insertKey (e : Int × Nat) : List (Int × Nat) → List (Int × Nat)
  | [] => [e]
  | x :: l => if e.1 < x.1 ∨ (e.1 = x.1 ∧ e.2 < x.2) then e :: x :: l else x :: insertKey e l

/-- The keyframes of a trajectory, in order: time and pool index (R242). -/
def State.keyframes (s : State) (t : Nat) : List (Int × Nat) :=
  ((s.instancesWhere D.kf_traj (· == t)).map fun i => (s.getI D.kf_time i, i)).foldr insertKey []

/-- The branch of R243 that gives a target. -/
inductive Branch
  | before | moving | after
  deriving DecidableEq, Repr

/-- CUBIC interpolation of one component (R244). -/
def cubic1 (u p0 p1 p2 p3 : F32) : F32 :=
  let c1 := F32.mul 0x3F000000#32 (F32.sub p2 p0)
  let c2 := F32.sub
    (F32.add (F32.sub p0 (F32.mul 0x40200000#32 p1)) (F32.mul 0x40000000#32 p2))
    (F32.mul 0x3F000000#32 p3)
  let c3 := F32.add (F32.mul 0x3F000000#32 (F32.sub p3 p0))
    (F32.mul 0x3FC00000#32 (F32.sub p1 p2))
  F32.add (F32.mul (F32.add (F32.mul (F32.add (F32.mul c3 u) c2) u) c1) u) p1

/-- LINEAR interpolation of one component (R244). -/
def linear1 (u a b : F32) : F32 := F32.add a (F32.mul u (F32.sub b a))

/-- The target of a trajectory at a show time, with the branch that gave it; none while the
trajectory is EMPTY (R243). -/
def State.trajTarget (s : State) (tr : Nat) (t : Int) : Option (V3 × Branch) :=
  let kf := s.keyframes tr
  let n := kf.length
  let time (k : Nat) : Int := (kf.getD k (0, 0)).1
  let pos (k : Nat) : V3 := s.pos3 D.kf_pos (kf.getD k (0, 0)).2
  let loop := s.get D.traj_loop tr == 1
  if n = 0 then none
  else if t < time 0 then some (pos 0, .before)
  else if !loop && time (n - 1) ≤ t then some (pos (n - 1), .after)
  else
    let period : Int := s.get D.traj_period tr
    let t := if loop then time 0 + (t - time 0) % period else t
    let k := (kf.filter fun e => decide (e.1 ≤ t)).length - 1
    let wraps := loop && k + 1 == n
    let tn := if wraps then time 0 + period else time (k + 1)
    let u := F32.div (F32.ofInt (t - time k)) (F32.ofInt (tn - time k))
    let nx (j : Nat) : V3 := pos (if loop then (k + j) % n else min (k + j) (n - 1))
    let p0 := pos (if k = 0 then (if loop then n - 1 else 0) else k - 1)
    let interp := s.get D.kf_interp (kf.getD k (0, 0)).2
    if interp = 0 then some (pos k, .moving)
    else if interp = 1 then some (V3.map2 (linear1 u) (pos k) (nx 1), .moving)
    else
      let a := pos k
      let b := nx 1
      let c := nx 2
      some (⟨cubic1 u p0.x a.x b.x c.x, cubic1 u p0.y a.y b.y c.y,
        cubic1 u p0.z a.z b.z c.z⟩, .moving)

/-- The trajectory an object follows; none for 0xFFFF. -/
def State.objTraj (s : State) (i : Nat) : Option Nat :=
  let t := s.get D.obj_traj i
  if t < 0x400 then some t else none

/-- The target of an object at a show time (R245): its trajectory's, else obj_pos. -/
def State.objTarget (s : State) (i : Nat) (t : Int) : V3 :=
  match (s.objTraj i).bind fun tr => s.trajTarget tr t with
  | some (p, _) => p
  | none => s.pos3 D.obj_pos i

/-- The glide an object has after the changes of a boundary: a new one for each cause of
R246. -/
def State.glideFor (s : State) (o : ObjNow) (jumped : Bool) : Option Glide :=
  let tr := s.get D.obj_traj o.obj
  let changed := tr != o.traj
  let edited := decide (tr < 0x400) && s.render.dirty.contains tr
  let jump := jumped && decide (tr < 0x400) && !(s.keyframes tr).isEmpty
  if changed || edited || jump then
    some ⟨o.pos, 0, s.get D.traj_join (if tr < 0x400 then tr else o.traj)⟩
  else o.glide

/-- The position at the end of a block, and the glide that goes on (R246). It ends at the end at which n_e reaches J, and
runs in the whole block before (R248). -/
def State.glideStep (s : State) (i : Nat) (g : Option Glide) (stEnd : Int) :
    V3 × Option Glide :=
  let target := s.objTarget i stEnd
  match g with
  | none => (target, none)
  | some g =>
    let n := if s.showRuns then g.n + 1 else g.n
    if g.join ≤ g.n then (target, none)
    else if g.join ≤ n then (target, some { g with n := n })
    else
      let f := F32.div (F32.ofInt n) (F32.ofInt g.join)
      (V3.map2 (fun q t => F32.add q (F32.mul f (F32.sub t q))) g.q0 target,
        some { g with n := n })

/-- How an object is rendered in a block: its phase, whether its history floor is set, and
the source that feeds it. -/
structure ObjStep where
  now : ObjNow
  phase : Nat
  floor : Bool
  /-- The object leaves OFF, or is rendered for the first time. -/
  fresh : Bool
  /-- The source of the block. -/
  kind : Nat
  ch : Nat

/-- What a boundary `k` makes of an object (R228, R246, R259); none when it is OFF. -/
def State.objStep (s : State) (k : Nat) (jumped : Bool) (i : Nat) (old : Option ObjNow) :
    Option ObjStep :=
  let mode := s.objMode i
  let kind := s.get D.obj_source_kind i
  let ch := s.get D.obj_source_ch i
  let zone := s.get D.obj_zone i
  let tr := s.get D.obj_traj i
  let st := s.showTime (k + 1)
  let fresh : Option ObjStep :=
    if mode = 0 then none
    else some ⟨⟨i, mode, kind, ch, zone, tr, kind, ch, s.objTarget i st, none, false⟩, 2, true, true,
      kind, ch⟩
  match old with
  | none => fresh
  | some o =>
    if o.mode = 0 then fresh
    else
      let changed := mode != o.mode || kind != o.kind || ch != o.ch || zone != o.zone
      let g := s.glideStep i (s.glideFor o jumped) st
      let now : ObjNow := ⟨i, mode, kind, ch, zone, tr, o.srcKind, o.srcCh, g.1, g.2, false⟩
      if o.dip then
        (if mode = 0 then none
         else some ⟨{ now with srcKind := kind, srcCh := ch }, 2,
           kind != o.srcKind || ch != o.srcCh, false, kind, ch⟩)
      else if changed then some ⟨{ now with dip := true }, 1, false, false, o.srcKind, o.srcCh⟩
      else some ⟨now, 0, false, false, kind, ch⟩

/-- traj_state (R248): IDLE 0, BEFORE 1, MOVING 2, AFTER 3, FROZEN 4, JOINING 5, EMPTY 6. -/
def State.trajState (s : State) (tr : Nat) : Nat :=
  match s.trajTarget tr (s.showTime s.blockNow) with
  | none => 6
  | some (_, b) =>
    if (s.instancesWhere D.obj_traj (· == tr)).isEmpty then 0
    else if !s.showRuns then 4
    else if s.render.objs.any fun o => o.traj == tr && o.glide.isSome then 5
    else match b with
      | .before => 1
      | .moving => 2
      | .after => 3

/-! ### The triangulation (R251–R253) -/

/-- A point with exact coordinates: units of 2⁻¹⁴⁹. -/
structure IPoint where
  id : Nat
  x : Int
  y : Int
  z : Int
  deriving DecidableEq, Repr

def exactCoord (x : F32) : Int := x.sman * 2 ^ (x.exp + 149).toNat

def IPoint.ofV3 (id : Nat) (v : V3) : IPoint :=
  ⟨id, exactCoord v.x, exactCoord v.y, exactCoord v.z⟩

/-- The exact cross product of b − a and c − a. -/
def icross (a b c : IPoint) : Int × Int × Int :=
  let ux := b.x - a.x; let uy := b.y - a.y; let uz := b.z - a.z
  let vx := c.x - a.x; let vy := c.y - a.y; let vz := c.z - a.z
  (uy * vz - uz * vy, uz * vx - ux * vz, ux * vy - uy * vx)

def idot (n : Int × Int × Int) (a b : IPoint) : Int :=
  n.1 * (b.x - a.x) + n.2.1 * (b.y - a.y) + n.2.2 * (b.z - a.z)

/-- The exact orientation of four points: n · (d − a) for n = (b − a) × (c − a). -/
def orient (a b c d : IPoint) : Int := idot (icross a b c) a d

def collinear (a b c : IPoint) : Bool := icross a b c == (0, 0, 0)

/-- A face of the hull: its outward normal and the points on its plane, by rising number. -/
structure HullFace where
  normal : Int × Int × Int
  points : List IPoint

/-- The three lowest-numbered points of a list that are not collinear. -/
def lowestTriple : List IPoint → Option (IPoint × IPoint × IPoint)
  | a :: b :: l => (l.find? fun c => !collinear a b c).map fun c => (a, b, c)
  | _ => none

/-- The face on the plane of three points, when the plane supports the hull and the three are
the lowest of the face that are not collinear. -/
def faceOf (ps : List IPoint) (a b c : IPoint) : Option HullFace :=
  if collinear a b c then none
  else
    let sides := ps.map fun d => orient a b c d
    let neg := sides.any (· < 0)
    let pos := sides.any (0 < ·)
    if neg && pos then none
    else
      let n := icross a b c
      let n := if pos then (-n.1, -n.2.1, -n.2.2) else n
      let on := ps.filter fun d => orient a b c d == 0
      if lowestTriple on == some (a, b, c) then some ⟨n, on⟩ else none

/-- Every pair of a list in order. -/
def pairsOf {α : Type} : List α → List (α × α)
  | [] => []
  | a :: l => l.map (fun b => (a, b)) ++ pairsOf l

/-- Every triple of a list in order. -/
def triplesOf {α : Type} : List α → List (α × α × α)
  | [] => []
  | a :: l => (pairsOf l).map (fun p => (a, p.1, p.2)) ++ triplesOf l

/-- The faces of the convex hull of points that are not in one plane. -/
def hullFaces (ps : List IPoint) : List HullFace :=
  (triplesOf ps).filterMap fun t => faceOf ps t.1 t.2.1 t.2.2

/-- The dot product of c − p and c − q: not positive when c lies between p and q on their
line. -/
def between (p q c : IPoint) : Bool :=
  decide ((c.x - p.x) * (c.x - q.x) + (c.y - p.y) * (c.y - q.y) + (c.z - p.z) * (c.z - q.z) ≤ 0)

/-- The edges of a face polygon, counter-clockwise as seen from outside. -/
def faceEdges (f : HullFace) : List (IPoint × IPoint) :=
  (f.points.flatMap fun p => f.points.map fun q => (p, q)).filter fun e =>
    e.1.id != e.2.id && f.points.all fun r =>
      let c := icross e.1 e.2 r
      let v := f.normal.1 * c.1 + f.normal.2.1 * c.2.1 + f.normal.2.2 * c.2.2
      decide (v > 0) || (v == 0 && between e.1 e.2 r)

/-- A face polygon fanned from its lowest-numbered vertex. -/
def fanFace (f : HullFace) : List (Nat × Nat × Nat) :=
  let es := faceEdges f
  match es with
  | [] => []
  | e :: l =>
    let low := l.foldl (fun a e => min a e.1.id) e.1.id
    es.filterMap fun e =>
      if e.1.id = low || e.2.id = low then none else some (low, e.1.id, e.2.id)

/-- The vertex V+ of R252. -/
def vPlus : Nat := 0x8000
def vMinus : Nat := 0x8001

/-- m of R252: the unit normal of the plane of three points, its first non-zero component in
the order z, y, x positive. -/
def planeNormal (a b c : V3) : V3 :=
  let n := V3.cross (V3.sub b a) (V3.sub c a)
  let m := V3.divBy n (V3.dist n)
  let lead : F32 := if !F32.isZero m.z then m.z else if !F32.isZero m.y then m.y else m.x
  if lead.neg? then ⟨F32.neg m.x, F32.neg m.y, F32.neg m.z⟩ else m

def pointOf : List (Nat × V3) → Nat → V3
  | [], _ => ⟨F32.zero, F32.zero, F32.zero⟩
  | (i, v) :: l, j => if i = j then v else pointOf l j

/-- The triangle of three vertices with its inverse matrix (R251). -/
def triangleOf (pts : List (Nat × V3)) (t : Nat × Nat × Nat) : Triangle :=
  let la := pointOf pts t.1
  let lb := pointOf pts t.2.1
  let lc := pointOf pts t.2.2
  let bc := V3.cross lb lc
  let det := V3.dot la bc
  ⟨t.1, t.2.1, t.2.2, V3.divBy bc det, V3.divBy (V3.cross lc la) det,
    V3.divBy (V3.cross la lb) det⟩

/-- A hull face is a gap: two of its vertices, adjacent or not, span more than the limit (R252). -/
def isGap (pts : List (Nat × V3)) (cosSpan : F32) (f : HullFace) : Bool :=
  (pairsOf ((faceEdges f).map fun e => pointOf pts e.1.id)).any fun p => F32.lt (V3.dot p.1 p.2) cosSpan

def tripleLt (a b : Nat × Nat × Nat) : Bool :=
  decide (a.1 < b.1 ∨ (a.1 = b.1 ∧ (a.2.1 < b.2.1 ∨ (a.2.1 = b.2.1 ∧ a.2.2 < b.2.2))))

def insertTriple (e : Nat × Nat × Nat) : List (Nat × Nat × Nat) → List (Nat × Nat × Nat)
  | [] => [e]
  | x :: l => if tripleLt e x then e :: x :: l else x :: insertTriple e l

/-- The real vertices that share a hull edge with a virtual one, by rising number. -/
def rimOf (edges : List (Nat × Nat)) (v : Nat) : List Nat :=
  let n := edges.filterMap fun e => if e.1 = v && e.2 < 0x8000 then some e.2 else none
  (List.range 1024).filter n.contains

/-- Drop the points that equal an earlier one (R251). -/
def distinctPoints : List (Nat × V3) → List (Nat × V3)
  | [] => []
  | p :: l => p :: (distinctPoints l).filter fun q =>
      !(F32.eq p.2.x q.2.x && F32.eq p.2.y q.2.y && F32.eq p.2.z q.2.z)

/-- The triangulation of direction points (R251, R252). -/
def triangulate (raw : List (Nat × V3)) (span : F32) : Triangulation :=
  let pts := distinctPoints raw
  let ips := pts.map fun p => IPoint.ofV3 p.1 p.2
  match lowestTriple ips with
  | none => ⟨0, [], 0, [], []⟩
  | some (a, b, c) =>
    let flat := ips.all fun d => orient a b c d == 0
    let m := planeNormal (pointOf pts a.id) (pointOf pts b.id) (pointOf pts c.id)
    let pts' :=
      if flat then pts ++ [(vPlus, m), (vMinus, ⟨F32.neg m.x, F32.neg m.y, F32.neg m.z⟩)] else pts
    let ips' := pts'.map fun p => IPoint.ofV3 p.1 p.2
    let faces := hullFaces ips'
    let edges := faces.flatMap fun f => (faceEdges f).map fun e => (e.1.id, e.2.id)
    let cosSpan := F32.cos (radians span)
    let kept := faces.filter fun f => !isGap pts' cosSpan f
    let all := (kept.flatMap fanFace).foldr insertTriple []
    ⟨if flat then 2 else 1, all.map (triangleOf pts'), faces.length - kept.length,
      rimOf edges vPlus, rimOf edges vMinus⟩

/-- The direction points of R251, from the values in force. -/
def State.triPoints (s : State) : List (Nat × V3) :=
  let o := s.pos3 D.pan_origin
  s.liveOutputs.filterMap fun j =>
    let p := s.pos3 D.lst_pos j
    if s.outType j = 1 && s.outServes j && F32.le 0x3C23D70A#32 (V3.dist (V3.sub p o)) then
      some (j, direction p o)
    else none

/-- Take the inputs of a triangulation at boundary `k` (R253). -/
def State.startTri (s : State) (k : Nat) : State :=
  { s with render := { s.render with
    triDirty := false
    triJobs := s.render.triJobs ++
      [⟨k, s.triPoints, s.pos3 D.pan_origin, s.getF D.tri_max_span, none⟩] } }

/-- A scene that is loaded whole, and not by a commit, has its triangulation at once, and
tri_generation does not rise (log entry 43). -/
def State.loadTri (s : State) : State :=
  { s with render := { s.render with
    triDirty := false
    tri := triangulate s.triPoints (s.getF D.tri_max_span)
    triJobs := [] } }

/-- Shank computes the oldest triangulation that has no result. -/
def computeTri : List TriJob → List TriJob
  | [] => []
  | j :: l =>
    match j.result with
    | some _ => j :: computeTri l
    | none => { j with result := some (triangulate j.points j.span) } :: l

/-- TRIANGULATION_DONE: Shank completes the triangulation that waits (R253). -/
def execTriangulationDone (s : State) : Outcome State Fault Refusal :=
  .next { s with render := { s.render with triJobs := computeTri s.render.triJobs } }

/-- The oldest triangulation takes effect, and tri_generation rises (R253). -/
def State.swapTri (s : State) : State :=
  match s.render.triJobs with
  | [] => s
  | j :: l =>
    let t := match j.result with
      | some t => t
      | none => triangulate j.points j.span
    ({ s with render := { s.render with tri := t, triJobs := l } }).count D.tri_generation

/-- Every triangulation whose B + 30 has come takes effect. -/
def State.swapDue (s : State) (k : Nat) : Nat → State
  | 0 => s
  | n + 1 =>
    match s.render.triJobs with
    | j :: _ => if j.block + 30 ≤ k then s.swapTri.swapDue k n else s
    | [] => s

/-- TRIANGULATION_SWAP: B + 30 of the oldest triangulation (R253). -/
def execTriangulationSwap (s : State) : Outcome State Fault Refusal := .next s.swapTri

/-- lst_clear_fail at its boundary (R256, R425). -/
def State.clearFail (s : State) (j : Nat) : State :=
  if (s.mark j).failed then
    (let t := s.modMark j fun m => { m with failed := false, suspect := false, excluded := false }
     { t with
       render := { t.render with
         triDirty := t.render.triDirty || (s.mark j).excluded
         heal := t.render.heal.filter (· != j) }
       svc := { t.svc with runs := t.svc.runs.filter fun r => r.out != j } }).set D.pf_runs 0 j
  else s

/-- LST_CLEAR_FAIL: the command lst_clear_fail of an output at its boundary, the present one
(R256). -/
def execLstClearFail (j : Fin 1024) (s : State) : Outcome State Fault Refusal :=
  .next (s.clearFail j.val)

/-! ### Panning (R238–R241) -/

/-- Add a gain to an output in a list by rising output. -/
def addGain (j : Nat) (g : F32) : List (Nat × F32) → List (Nat × F32)
  | [] => [(j, g)]
  | (k, h) :: l =>
    if k = j then (k, F32.add h g) :: l
    else if j < k then (j, g) :: (k, h) :: l
    else (k, h) :: addGain j g l

def gainAt : List (Nat × F32) → Nat → F32
  | [], _ => F32.zero
  | (k, g) :: l, j => if k = j then g else gainAt l j

def triGains (t : Triangle) (u : V3) : V3 := ⟨V3.dot t.ra u, V3.dot t.rb u, V3.dot t.rc u⟩

def least3 (g : V3) : F32 := F32.min (F32.min g.x g.y) g.z

/-- The first triangle that holds a direction. -/
def findTri : List Triangle → V3 → Option (Triangle × V3)
  | [], _ => none
  | t :: l, u =>
    let g := triGains t u
    if F32.le 0xB5800000#32 (least3 g) then some (t, g) else findTri l u

/-- The triangle whose gains have the greatest least component, the lowest of equals. -/
def edgeTri : List Triangle → V3 → Option (Triangle × V3) → Option (Triangle × V3)
  | [], _, best => best
  | t :: l, u, best =>
    let g := triGains t u
    let better := match best with
      | none => true
      | some (_, h) => F32.lt (least3 h) (least3 g)
    edgeTri l u (if better then some (t, g) else best)

/-- The share of a virtual vertex reaches its rim (R252). -/
def shareRim (rim : List Nat) (g : F32) (v : List (Nat × F32)) : List (Nat × F32) :=
  let s := F32.div g (F32.sqrt (F32.ofInt rim.length))
  rim.foldl (fun v j => addGain j s v) v

/-- PAN gains of a direction (R238, R239, R252). -/
def panGains (tri : Triangulation) (u : V3) (edge : Bool) : List (Nat × F32) :=
  let sel := match findTri tri.triangles u with
    | some r => some r
    | none => if edge then edgeTri tri.triangles u none else none
  match sel with
  | none => []
  | some (t, g) =>
    let g : V3 := ⟨F32.max g.x F32.zero, F32.max g.y F32.zero, F32.max g.z F32.zero⟩
    let n := V3.dot g g
    if n.isZero then []
    else
      let g := V3.divBy g (F32.sqrt n)
      let vs := [(t.a, g.x), (t.b, g.y), (t.c, g.z)]
      let real := vs.foldl (fun v p => if p.1 < 0x8000 then addGain p.1 p.2 v else v) []
      let plus := vs.foldl (fun v p => if p.1 = vPlus then shareRim tri.rimPlus p.2 v else v) real
      vs.foldl (fun v p => if p.1 = vMinus then shareRim tri.rimMinus p.2 v else v) plus

/-- Normalise gains to unit power, the squares summed by rising output. -/
def powerNormal (v : List (Nat × F32)) : List (Nat × F32) :=
  let n := v.foldl (fun a p => F32.add a (F32.mul p.2 p.2)) F32.zero
  if n.isZero then [] else v.map fun p => (p.1, F32.div p.2 (F32.sqrt n))

/-- A direction of R240 at a half-angle and an azimuth, both in degrees. -/
def spreadDir (u w1 w2 : V3) (half phi : F32) : V3 :=
  let h := radians half
  let p := radians phi
  let ch := F32.cos h
  let sh := F32.sin h
  let cp := F32.cos p
  let sp := F32.sin p
  let comp (a b c : F32) : F32 :=
    F32.add (F32.mul ch a) (F32.mul sh (F32.add (F32.mul cp b) (F32.mul sp c)))
  ⟨comp u.x w1.x w2.x, comp u.y w1.y w2.y, comp u.z w1.z w2.z⟩

/-- The 13 directions of R240. -/
def spreadDirs (u : V3) (sigma : F32) : List V3 :=
  let e : V3 := if F32.lt 0x3F7D70A4#32 (F32.abs u.z) then ⟨F32.one, F32.zero, F32.zero⟩
    else ⟨F32.zero, F32.zero, F32.one⟩
  let c := V3.cross u e
  let w1 := V3.divBy c (V3.dist c)
  let w2 := V3.cross u w1
  let q := F32.div sigma 0x40800000#32
  let h := F32.div sigma 0x40000000#32
  [u] ++ (List.range 6).map (fun k : Nat => spreadDir u w1 w2 q (F32.ofInt (60 * (k : Int)))) ++
    (List.range 6).map (fun k : Nat => spreadDir u w1 w2 h (F32.ofInt (60 * (k : Int) + 30)))

/-- SPREAD gains (R240). -/
def spreadGains (tri : Triangulation) (u : V3) (sigma : F32) (edge : Bool) : List (Nat × F32) :=
  if sigma.isZero then panGains tri u edge
  else powerNormal ((spreadDirs u sigma).foldl
    (fun v d => (panGains tri d edge).foldl (fun v p => addGain p.1 p.2 v) v) [])

/-- The gains when there is no triangulation (R241). -/
def State.flatGains (s : State) : List (Nat × F32) :=
  let l := s.liveOutputs.filter fun j => s.outType j = 1 && s.outServes j
  let g := F32.div F32.one (F32.sqrt (F32.ofInt l.length))
  l.map fun j => (j, g)

/-- The gains v_ij of a PAN or SPREAD object in direction `u` (R238–R241). -/
def State.vGains (s : State) (i mode : Nat) (u : V3) : List (Nat × F32) :=
  let edge := s.get D.obj_outside i == 1
  if s.render.tri.state = 0 then s.flatGains
  else if mode = 2 then panGains s.render.tri u edge
  else spreadGains s.render.tri u (s.getF D.obj_spread i) edge

end Sys2Proof.Machine
end

