-- ==== Sys2Proof/Machine/Dsp.lean ====
section
/-! DEFINITION. The sample processing that several stages share: the biquad of R315, the
high-pass filter of R390, per-sample ramps (R272), crossfades (R299) and levels. -/

namespace Sys2Proof.Machine

open Sys2Proof

/-! ### Status words (R12) -/

def stUnsettled : Nat := 0x01
def stConcealed : Nat := 0x02
def stLate : Nat := 0x04
def stSat : Nat := 0x08
def stHeld : Nat := 0x10
def stSilent : Nat := 0x20
def stShed : Nat := 0x40
def stDegraded : Nat := 0x80

/-- A bit of a word when a condition holds. -/
def bitIf (b : Bool) (w : Nat) : Nat := if b then w else 0

/-- A word without the bits of a mask. -/
def dropBits (w m : Nat) : Nat := w &&& (0xFFFF - m)

/-! ### The biquad (R315) -/

def mulZ (a b : F32) : F32 := (F32.mul a b).flush
def addZ (a b : F32) : F32 := (F32.add a b).flush
def subZ (a b : F32) : F32 := (F32.sub a b).flush

/-- One sample of a biquad with states s1 and s2: the output and the new states. -/
def biquadStep (c : BqCoef) (s1 s2 x : F32) : F32 × F32 × F32 :=
  let y := addZ (mulZ c.b0 x) s1
  let t := subZ (mulZ c.b1 x) (mulZ c.a1 y)
  let s1' := addZ t s2
  let s2' := subZ (mulZ c.b2 x) (mulZ c.a2 y)
  (y, s1', s2')

/-- A run of samples through a biquad. -/
def biquadRun (c : BqCoef) : F32 → F32 → List F32 → List F32 × F32 × F32
  | s1, s2, [] => ([], s1, s2)
  | s1, s2, x :: l =>
    let r := biquadStep c s1 s2 x
    let q := biquadRun c r.2.1 r.2.2 l
    (r.1 :: q.1, q.2)

/-- The corner of an in_hpf value in Hz; 0 for OFF. -/
def hpfCorner : Nat → Nat
  | 1 => 10
  | 2 => 20
  | 3 => 40
  | 4 => 80
  | 5 => 120
  | _ => 0

/-- The coefficients of a fixed high-pass filter (R390). -/
def hpfCoef (fc fs : Nat) : BqCoef :=
  let w := F32.mul 0x40490FDB#32 (F32.ofInt fc)
  let w := F32.div w (F32.ofInt fs)
  let k := F32.div (F32.sin w) (F32.cos w)
  let q := F32.mul 0x3FB504F3#32 k
  let k2 := F32.mul k k
  let n := F32.div F32.one (F32.add (F32.add F32.one q) k2)
  let a1 := F32.mul (F32.mul 0x40000000#32 (F32.sub k2 F32.one)) n
  let a2 := F32.mul (F32.add (F32.sub F32.one q) k2) n
  ⟨n, F32.mul 0xC0000000#32 n, n, a1, a2⟩

/-! ### Ramps and crossfades -/

/-- `v_s + (d × t)` for `d = v_e − v_s`, `t = p / L` (R272). -/
def rampAt (vs ve : F32) (p l : Nat) : F32 :=
  let t := F32.ofQuot p l
  F32.add vs (F32.mul (F32.sub ve vs) t)

/-- The linear crossfade of R299 at sample `n` of `x`. -/
def crossfade (yOld yNew : F32) (n x : Nat) : F32 :=
  let w := F32.div (F32.ofInt (n + 1)) (F32.ofInt (x + 1))
  F32.add yOld (F32.mul w (F32.sub yNew yOld))

/-- The factor of a block that fades out: F32(L − p) / F32(L) (R152, R400). -/
def fadeDown (p l : Nat) : F32 := F32.div (F32.ofInt ((l : Int) - p)) (F32.ofInt l)

/-- The factor of a block that fades in: F32(p + 1) / F32(L). -/
def fadeUp (p l : Nat) : F32 := F32.div (F32.ofInt ((p : Int) + 1)) (F32.ofInt l)

/-- Apply a function of the position to each sample. -/
def mapPos (f : Nat → F32 → F32) : Nat → List F32 → List F32
  | _, [] => []
  | p, x :: l => f p x :: mapPos f (p + 1) l

/-- The sample at position `q` of a block, or of the blocks before it when `q` is negative;
`limit` samples of the past can be read. -/
def tapeAt (cur : List F32) (past : List (List F32)) (l limit : Nat) (q : Int) : F32 :=
  if 0 ≤ q then cur.getD q.toNat F32.zero
  else
    let i := (-q).toNat
    if i ≤ limit then (past.getD ((i - 1) / l) []).getD (l - 1 - (i - 1) % l) F32.zero
    else F32.zero

/-! ### Levels -/

/-- The greatest magnitude of a block. -/
def peakOf (l : List F32) : F32 := l.foldl (fun a x => F32.max a x.abs) F32.zero

/-- The mean of x² in sample order. -/
def meanSquare (l : List F32) : F32 :=
  F32.div (l.foldl (fun a x => F32.add a (F32.mul x x)) F32.zero) (F32.ofInt l.length)

/-- 20 log10 of a magnitude; −200 dBFS for zero. -/
def level20 (x : F32) : F32 :=
  if x.isZero then 0xC3480000#32 else F32.mul 0x41A00000#32 (F32.log10 x)

/-- 10 log10 of a power; −200 dBFS for zero. -/
def level10 (x : F32) : F32 :=
  if x.isZero then 0xC3480000#32 else F32.mul 0x41200000#32 (F32.log10 x)

/-- A linear gain as G16 steps, mute as −32768. -/
def gainSteps (g : F32) : Int :=
  if g.isZero then -32768 else (F32.mul (level20 g) 0x42800000#32).toInt

/-- `1.0 − exp(−1.0 / d)`, the coefficient of a one-pole average. -/
def onePole (d : F32) : F32 := F32.sub F32.one (F32.expE (F32.div 0xBF800000#32 d))

end Sys2Proof.Machine
end

