-- ==== Sys2Proof/Machine/Welt.lean ====
section
/-! DEFINITION. The Welt render array (chapter 6): pair geometry, the pair chain, shedding,
and the rendering of one slot's feeds. -/

namespace Sys2Proof.Machine

open Sys2Proof Host

/-- P of R177. -/
def State.presOffset (s : State) : Nat := s.get D.pres_offset

/-- K of R273. -/
def State.interpK (s : State) : Nat := match s.get D.welt_interp with
  | 0 => 4
  | 1 => 8
  | _ => 16

/-- D_max of R232. -/
def State.dMax (s : State) : Nat := if s.get D.render_rate = 1 then 16383 else 8191

/-- H of R258. -/
def State.ringLen (s : State) : Nat := if s.get D.render_rate = 1 then 16384 else 8192

/-! ### Pair geometry (R267–R271) -/

/-- The quantities of an object at the end of a block (R264). -/
structure ObjEnd where
  obj : Nat
  mode : Nat
  s : V3
  u : V3
  g : F32
  to_ : F32
  rref : F32
  rnear : F32
  beta : F32
  air : Bool
  window : Bool
  zone : Nat
  v : List (Nat × F32)
  deriving DecidableEq, Repr

/-- The object stage of an object at the end of a block (R264). -/
def State.objEnd (s : State) (i mode : Nat) (p : V3) : ObjEnd :=
  let u := direction p (s.pos3 D.pan_origin)
  ⟨i, mode, p, u, linearGain (s.getI D.obj_gain i), s.getF D.obj_delay i,
    s.getF D.obj_ref_dist i, s.getF D.obj_near i, s.getF D.obj_rolloff i,
    s.getB D.obj_air i, s.getB D.obj_window i, s.get D.obj_zone i,
    if mode = 2 || mode = 3 then (s.vGains i mode u).filter fun e => !e.2.isZero else []⟩

/-- The aim vector of an output (R267). -/
def State.aim (s : State) (j : Nat) : V3 :=
  let az := radians (s.getF D.lst_aim_az j)
  let el := radians (s.getF D.lst_aim_el j)
  ⟨F32.mul (F32.cos el) (F32.cos az), F32.mul (F32.cos el) (F32.sin az), F32.sin el⟩

/-- Output `j` is in zone `z` (R249). -/
def State.inZone (s : State) (j z : Nat) : Bool := (s.get D.lst_zones j (z / 32)).testBit (z % 32)

/-- The secondary-source window (R231, R268). -/
def windowOf (cs : F32) : F32 :=
  F32.min F32.one (F32.max F32.zero (F32.add 0x3F000000#32 (F32.mul 0x40A00000#32 cs)))

/-- The distance law L (R230). -/
def distanceLaw (o : ObjEnd) (rc : F32) : F32 := F32.pow (F32.div o.rref rc) o.beta

/-- τ, G and r_s of a pair by R268, with R235 applied to w and the shelf. -/
def State.pairTau (s : State) (o : ObjEnd) (j : Nat) : F32 × F32 × Option F32 :=
  let c := s.getF D.sound_speed
  let p := s.pos3 D.lst_pos j
  let ori := s.pos3 D.pan_origin
  let ra := s.getF D.align_radius
  let sub := s.outType j == 2
  if o.mode = 1 then
    (let d := V3.sub p o.s
     let r := V3.dist d
     let tau := F32.add (F32.div r c) o.to_
     let rc := F32.max r o.rnear
     let w :=
       if o.window && !sub then windowOf (F32.div (V3.dot d (s.aim j)) rc) else F32.one
     (tau, F32.mul (F32.mul o.g (distanceLaw o rc)) w, if sub then none else some rc))
  else if o.mode = 2 || o.mode = 3 then
    (let ro := V3.dist (V3.sub o.s ori)
     let lo := V3.dist (V3.sub p ori)
     let tau := F32.add (F32.div (F32.sub ra lo) c) o.to_
     let rc := F32.max ro o.rnear
     (tau, F32.mul (F32.mul o.g (distanceLaw o rc)) (gainAt o.v j), some rc))
  else if o.mode = 4 then
    (let rz := V3.dist (V3.sub p (s.pos3 D.zone_ref o.zone))
     let tau := F32.add (F32.div (F32.sub (s.getF D.zone_radius o.zone) rz) c) o.to_
     (tau, if s.inZone j o.zone then o.g else F32.zero, none))
  else
    (let e := V3.dot (V3.sub p ori) o.u
     let tau := F32.add (F32.div (F32.sub ra e) c) o.to_
     let cs := F32.neg (V3.dot o.u (s.aim j))
     let w := if o.window && !sub then windowOf cs else F32.one
     (tau, F32.mul o.g w, none))

/-- The pair is silenced by R235: the mode does not use outputs of this type, or the output
does not serve. -/
def State.pairNone (s : State) (mode j : Nat) : Bool :=
  !s.outServes j || ((mode == 2 || mode == 3) && s.outType j != 1)

/-- The end values of a pair (R268–R271). -/
def State.pairEnd (s : State) (o : ObjEnd) (j : Nat) : PairEnd :=
  let q := s.pairTau o j
  let off := s.pairNone o.mode j
  let g0 := if off then F32.zero else q.2.1
  let limited := F32.lt 0x41000000#32 g0
  let g := if limited then 0x41000000#32 else g0
  let h := match q.2.2 with
    | some r =>
      if o.air then
        (let t := F32.div (F32.mul (s.getF D.air_db_per_m) r) 0x41A00000#32
         F32.max (F32.exp10 (F32.neg t)) 0x3D813856#32)
      else F32.one
    | none => F32.one
  let d := F32.sub (F32.mul (F32.ofInt s.fs) q.1) (F32.ofInt (s.get D.lst_delay_base j))
  let top := F32.ofInt s.dMax
  let clamped := F32.lt d F32.zero || F32.lt top d
  let dc := F32.min (F32.max d F32.zero) top
  ⟨j, if dc.isFinite then (dc.toScaledInt 18).toNat else 0, g, h, clamped, limited, off⟩

/-! ### Interpolation (R274–R276) -/

def factorial : Nat → Nat
  | 0 => 1
  | n + 1 => (n + 1) * factorial n

/-- den_k of R275. -/
def interpDen (kk k : Nat) : F32 :=
  let v : Int := factorial k * factorial (kk - 1 - k)
  F32.ofInt (if (kk - 1 - k) % 2 = 1 then -v else v)

/-- The coefficients c_0 … c_{K−1} (R275). -/
def interpCoefs (kk : Nat) (delta : F32) : List F32 :=
  (List.range kk).map fun (k : Nat) =>
    F32.div ((List.range kk).foldl
      (fun (n : F32) (m : Nat) => if m = k then n else F32.mul n (F32.sub delta (F32.ofInt m))) F32.one)
      (interpDen kk k)

/-- n0 and δ of R274 for sample `p`. -/
def interpPos (kk l h p dp : Nat) : Int × F32 :=
  let q := (dp + 32) / 64
  let di : Int := (q / 4096 : Nat)
  let f := q % 4096
  let n0 := min (max (di - ((kk : Int) / 2 - 1)) ((p : Int) - ((l : Int) - 1)))
    ((p : Int) + h - ((kk : Int) - 1))
  (n0, F32.add (F32.ofInt (di - n0)) (F32.div (F32.ofInt f) 0x45800000#32))

/-- A sample of a pair, with what its products and its store reported. -/
structure PairSample where
  x : F32
  clamps : Nat
  nonfinite : Nat
  sat : Bool

/-- x_i at sample `p` (R276). -/
def interpSample (kk l h p dp : Nat) (tap : Int → F32) : PairSample :=
  let q := interpPos kk l h p dp
  let taps := (List.range kk).map fun (k : Nat) => tap ((p : Int) - (q.1 + (k : Int)))
  let r := dotAccum (interpCoefs kk q.2) taps {} 0 0
  let st := r.1.store
  ⟨st.1, r.2.1, r.2.2, st.2 || r.2.1 != 0 || r.2.2 != 0⟩

/-! ### The pair chain (R272, R277) -/

/-- The values of a pair at both ends of a block. -/
structure PairBlock where
  ds : Nat
  de : Nat
  gs : F32
  ge : F32
  hs : F32
  he : F32

/-- What a pair gives for a block: its terms, the shelf state and its reports. -/
structure PairOut where
  terms : List Int := []
  l : F32
  clamps : Nat := 0
  nonfinite : Nat := 0
  sat : Bool := false

/-- D_p (R272). -/
def delayAt (ds de p l : Nat) : Nat := ((ds : Int) + ((de : Int) - ds) * p / l).toNat

/-- One sample of the pair chain (R277). -/
def pairStep (kk l h : Nat) (kappa : F32) (b : PairBlock) (tap : Int → F32) (p : Nat)
    (o : PairOut) : PairOut :=
  let x := interpSample kk l h p (delayAt b.ds b.de p l) tap
  let flat := b.hs == F32.one && b.he == F32.one
  let l1 := if flat then x.x else F32.add o.l (F32.mul kappa (F32.sub x.x o.l))
  let y := if flat then x.x
    else F32.add l1 (F32.mul (rampAt b.hs b.he p l) (F32.sub x.x l1))
  let t := termMul y (rampAt b.gs b.ge p l)
  { terms := o.terms ++ [t.a]
    l := l1
    clamps := o.clamps + x.clamps + (if t.clamped then 1 else 0)
    nonfinite := o.nonfinite + x.nonfinite + (if t.nonfinite then 1 else 0)
    sat := o.sat || x.sat || t.clamped || t.nonfinite }

/-- The pair chain over a block. -/
def pairRun (kk l h : Nat) (kappa : F32) (b : PairBlock) (tap : Int → F32) (l0 : F32) : PairOut :=
  (List.range l).foldl (fun o p => pairStep kk l h kappa b tap p o) { l := l0 }

/-! ### Load and shedding (R283–R289) -/

/-- The welt load of a tile as pairs, with a shed set. -/
def State.tilePairs (s : State) (shed : List Nat) (t : Nat) : Nat :=
  let n := s.liveOutputs.length
  (s.liveObjects.filter fun i => i % 16 == t).foldl
    (fun a i => a + if shed.contains i then min (s.get D.obj_keep_nearest i) n else n) 0

/-- U_t as an exact fraction in percent: numerator over 768,000,000 (R283). -/
def State.tileLoad (s : State) (shed : List Nat) (t : Nat) : Nat :=
  s.tilePairs shed t * (s.interpK + 3) * s.fs

/-- The greatest tile load. -/
def State.weltLoad (s : State) (shed : List Nat) : Nat :=
  (List.range 16).foldl (fun a t => max a (s.tileLoad shed t)) 0

/-- The denominator of a load in percent: 64 × f_min / 100 (R283, R595). -/
def State.weltCap (s : State) : Nat := 76800 * s.budgetScale

/-- A load exceeds a ceiling in percent. -/
def State.overCeiling (s : State) (load pct : Nat) : Bool := decide (pct * s.weltCap < load)

def State.weltPercent (s : State) (load : Nat) : F32 := F32.ofQuot load s.weltCap

/-- The next object of R285. -/
def State.nextShed (s : State) (rp : Nat) (shed : List Nat) : Option Nat :=
  (s.liveObjects.filter fun i => !shed.contains i && decide (s.get D.obj_rung i > rp)).foldl
    (fun best i =>
      match best with
      | none => some i
      | some b =>
        let ri := s.get D.obj_rung i
        let rb := s.get D.obj_rung b
        if ri > rb || (ri == rb && decide (i > b)) then some i else some b) none

/-- The shed set of R285, from a set in progress. -/
def State.shedLoop (s : State) (rp : Nat) : Nat → List Nat → List Nat
  | 0, shed => shed
  | n + 1, shed =>
    if s.overCeiling (s.weltLoad shed) (s.get D.admit_ceiling) then
      match s.nextShed rp shed with
      | some i => s.shedLoop rp n (i :: shed)
      | none => shed
    else shed

/-- Insert an output by distance, and by number among equals. -/
def insertNear (e : F32 × Nat) : List (F32 × Nat) → List (F32 × Nat)
  | [] => [e]
  | x :: l => if F32.lt e.1 x.1 || (F32.eq e.1 x.1 && decide (e.2 < x.2)) then e :: x :: l
    else x :: insertNear e l

/-- The outputs an object keeps when it is shed at a position (R286). -/
def State.nearest (s : State) (i : Nat) (p : V3) : List Nat :=
  ((s.liveOutputs.map fun j => (V3.dist (V3.sub (s.pos3 D.lst_pos j) p), j)).foldr
    insertNear []).take (s.get D.obj_keep_nearest i) |>.map (·.2)

def objNowOf : List ObjNow → Nat → Option ObjNow
  | [], _ => none
  | o :: l, i => if o.obj = i then some o else objNowOf l i

/-- Recompute the shed set (R285–R287). -/
def State.recomputeShed (s : State) : State :=
  match s.render.shedRung with
  | none => s
  | some rp =>
    let set := (s.shedLoop rp 1024 []).filter fun i => s.objMode i != 0
    let old := s.render.shed
    let shed := set.map fun i =>
      match old.find? (·.obj = i) with
      | some e => e
      | none =>
        let p := match objNowOf s.render.objs i with
          | some o => o.pos
          | none => s.objTarget i (s.showTime s.blockNow)
        ⟨i, s.nearest i p⟩
    let joined := set.filter fun i => !old.any (·.obj = i)
    let t : State := { s with render := { s.render with
      shed := shed, shedRung := if set.isEmpty then none else some rp } }
    let t := joined.foldl (fun t i => (t.count D.welt_shed_events).error 0x39 i 0x0503 .warn) t
    t.set D.welt_shed_objects set.length

end Sys2Proof.Machine
end

