-- ==== Sys2Proof/Machine/Arbiter.lean ====
section
/-! DEFINITION. The guarantee ladder's arbiter (R381–R391): zones that cover and overlap,
active and winning announcements, ducking, the ingest step and the zone gain. -/

namespace Sys2Proof.Machine

open Sys2Proof

/-- MUTE as a step count (R8, R387). -/
def muteSteps : Int := -32768

/-- Zone `z` covers zone `w` (R385). -/
def State.covers (s : State) (z w : Nat) : Bool :=
  z == w || (s.get D.zn_covers z (w / 32)).testBit (w % 32)

/-- Zones `z` and `w` overlap (R385). -/
def State.overlaps (s : State) (z w : Nat) : Bool :=
  (List.range 256).any fun x => s.covers z x && s.covers w x

/-- An object is an announcement that is active (R387). -/
def State.announces (s : State) (i : Nat) : Bool :=
  let r := s.get D.obj_rung i
  let kind := s.get D.obj_source_kind i
  s.objMode i != 0 && (r == 1 || r == 3) && s.getI D.obj_gain i != muteSteps &&
    (kind == 1 || kind == 2 || kind == 4 ||
      (kind == 3 && s.get D.voice_state (s.get D.obj_source_ch i) == 1))

/-- An active announcement: rung, arb_since, object. -/
structure Claim where
  rung : Nat
  since : Nat
  obj : Nat
  deriving DecidableEq, Repr

def claimLt (a b : Claim) : Bool :=
  decide (a.rung < b.rung ∨ (a.rung = b.rung ∧
    (a.since < b.since ∨ (a.since = b.since ∧ a.obj < b.obj))))

def insertClaim (c : Claim) : List Claim → List Claim
  | [] => [c]
  | x :: l => if claimLt c x then c :: x :: l else x :: insertClaim c l

/-- A claim loses against the winners so far (R387). -/
def State.loses (s : State) (w : List Claim) (a : Claim) : Bool :=
  let z := s.get D.obj_zone a.obj
  w.any (fun x => decide (x.rung < a.rung) && s.overlaps (s.get D.obj_zone x.obj) z) ||
    (s.get D.zn_policy z == 1 && w.any fun x =>
      let y := s.get D.obj_zone x.obj
      x.rung == a.rung && (s.covers y z || s.covers z y))

/-- Winners and pre-empted announcements, in order. -/
def State.judge (s : State) : List Claim → List Claim × List Nat → List Claim × List Nat
  | [], r => r
  | a :: l, (w, p) => s.judge l (if s.loses w a then (w, p ++ [a.obj]) else (w ++ [a], p))

/-- The target of an object that no announcement of its own decides (R387). -/
def State.duckTarget (s : State) (w : List Claim) (i : Nat) : Int :=
  w.foldl (fun t x =>
    let z := s.get D.obj_zone x.obj
    if x.rung < s.get D.obj_rung i && s.covers z (s.get D.obj_zone i) then
      min t (if x.rung = 1 then s.getI D.zn_duck_ls z else s.getI D.zn_duck_page z)
    else t) 0

/-- The boost of R396. -/
def State.boost (s : State) (i : Nat) : Int :=
  let z := s.get D.obj_zone i
  let r := s.get D.obj_rung i
  let l := (s.instancesWhere D.amb_gain (fun _ => true)).filter fun n =>
    s.covers (s.get D.amb_zone n) z && (s.get D.amb_rungs n).testBit r
  match l with
  | [] => 0
  | n :: l => l.foldl (fun a m => max a (s.getI D.amb_gain m)) (s.getI D.amb_gain n)

/-- The step of c toward U (R391). -/
def ingestStep (attack release c u : Int) : Int :=
  if u = muteSteps then
    (if c = muteSteps then muteSteps
     else if c ≤ -3840 then muteSteps else max (c - attack) (-3840))
  else if c = muteSteps then -3840
  else if u < c then max u (c - attack)
  else min u (c + release)

def ingestOf : List Ingest → Nat → Option Ingest
  | [], _ => none
  | x :: l, i => if x.obj = i then some x else ingestOf l i

/-- The target of an object after the arbiter. -/
def State.targetOf (s : State) (w : List Claim) (lost : List Nat) (i : Nat) : Int :=
  if lost.contains i then muteSteps
  else if w.any (·.obj = i) then 0
  else s.duckTarget w i

/-- A zone is in override (R386). -/
def State.inOverride (s : State) (w : List Claim) (z : Nat) : Bool :=
  s.getB D.zn_ls_override z &&
    w.any fun x => x.rung == 1 && s.overlaps (s.get D.obj_zone x.obj) z

/-- The arbiter at boundary `k` (R387, R388): the winners, the pre-empted announcements,
their records and their objects. -/
def State.arbitrate (s : State) (k : Nat) : State :=
  let objs := s.liveObjects
  let act := (objs.filter s.announces).map fun i =>
    (i, match s.svc.active.find? (·.1 = i) with
      | some e => e.2
      | none => k)
  let claims := (act.map fun e => (⟨s.get D.obj_rung e.1, e.2, e.1⟩ : Claim)).foldr insertClaim []
  let r := s.judge claims ([], [])
  let w := r.1
  let lost := r.2
  let ducked := (List.range 256).filter fun z =>
    objs.any fun i => s.get D.obj_zone i == z && !lost.contains i &&
      decide (s.targetOf w lost i < 0)
  let overr := if w.any (·.rung = 1) then (List.range 256).filter (s.inOverride w) else []
  let newLost := lost.filter fun i => !s.svc.preempted.contains i
  let newDuck := ducked.filter fun z => !s.svc.ducked.contains z
  let newOver := overr.filter fun z => !s.svc.override.contains z
  let t := newLost.foldl (fun t i => (t.count D.arb_preempts).error 0x50 i 0x0701 .warn) s
  let t := newDuck.foldl (fun t z => t.error 0x50 z 0x0702 .info) t
  let t := newOver.foldl (fun t z => t.error 0x50 z 0x0703 .info) t
  let t := act.foldl (fun t e => t.set D.arb_since e.2 e.1) t
  { t with svc := { t.svc with
    winners := w.map (·.obj), preempted := lost, active := act, ducked := ducked,
    override := overr } }

/-- The winners as claims. -/
def State.winnerClaims (s : State) : List Claim :=
  s.svc.winners.map fun i => ⟨s.get D.obj_rung i, s.get D.arb_since i, i⟩

/-- The ingest value of an object at a boundary: a fresh object starts at its target
(R391). -/
def State.ingestNext (s : State) (i : Nat) (fresh : Bool) : Ingest :=
  let w := s.winnerClaims
  let tg := s.targetOf w s.svc.preempted i
  let u := if tg = muteSteps then muteSteps else tg + s.boost i
  match ingestOf s.render.ingest i with
  | some x =>
    if fresh then { obj := i, c0 := u, c := u }
    else
      { x with c0 := x.c, c := ingestStep (s.get D.arb_attack) (s.get D.arb_release) x.c u }
  | none => { obj := i, c0 := u, c := u }

/-- arb_state: NONE 0, WINNING 1, PREEMPTED 2, DUCKED 3 (R407). -/
def State.arbState (s : State) (i : Nat) : Nat :=
  if s.svc.winners.contains i then 1
  else if s.svc.preempted.contains i then 2
  else if s.objMode i != 0 && decide (s.targetOf s.winnerClaims s.svc.preempted i < 0) then 3
  else 0

/-- zn_owner: the best winning announcement that covers a zone; 0xFFFF for none (R407). -/
def State.zoneOwner (s : State) (z : Nat) : Nat :=
  match s.svc.winners.find? fun i => s.covers (s.get D.obj_zone i) z with
  | some i => i
  | none => 0xFFFF

/-- eff(z) of R386, in steps. -/
def State.zoneEff (s : State) (z : Nat) : Int :=
  if s.svc.override.contains z then 0
  else if s.getB D.zn_mute z then muteSteps
  else s.getI D.zn_gain z

/-- The zone gain of an output (R386). -/
def State.zoneGain (s : State) (j : Nat) : Int :=
  ((List.range 256).filter fun z => s.inZone j z).foldl (fun g z => min g (s.zoneEff z)) 0

end Sys2Proof.Machine
end

