-- ==== Sys2Proof/Machine/Etcher.lean ====
section
/-! DEFINITION. What the Etcher computes (R301–R306): the partitioned convolution, with each
FFT stage in the operation order of R306. The radix-2 transform is written by halves: every
butterfly of R306 is the same operations on the same values. -/

namespace Sys2Proof.Machine

open Sys2Proof

/-- A complex value of two F32. -/
structure Cpx where
  re : F32
  im : F32
  deriving DecidableEq, Repr

/-- `(a + jb) × (c + jd)` (R306). -/
def Cpx.mul (u v : Cpx) : Cpx :=
  ⟨F32.sub (F32.mul u.re v.re) (F32.mul u.im v.im),
   F32.add (F32.mul u.re v.im) (F32.mul u.im v.re)⟩

def Cpx.add (u v : Cpx) : Cpx := ⟨F32.add u.re v.re, F32.add u.im v.im⟩

def Cpx.sub (u v : Cpx) : Cpx := ⟨F32.sub u.re v.re, F32.sub u.im v.im⟩

def Cpx.zero : Cpx := ⟨F32.zero, F32.zero⟩

/-- cos(2πk/n) and sin(2πk/n), to the nearest F32 (R306). -/
def twiddle (k n : Nat) : Cpx :=
  let a := 2 * fxPi * (k : Int) / (n : Int)
  ⟨if 4 * k = n then F32.zero else if k = 0 then F32.one else F32.ofFx (fxCos a) 0,
   if k = 0 then F32.zero else F32.ofFx (fxSin a) 0⟩

/-- W[k] of a transform of length `n`; the inverse conjugates. -/
def fftW (inverse : Bool) (k n : Nat) : Cpx :=
  let t := twiddle k n
  if inverse then t else ⟨t.re, t.im.neg⟩

/-- The elements of a list at even and at odd places. -/
def unzipEven {α : Type} : List α → List α × List α
  | [] => ([], [])
  | x :: l => let r := unzipEven l; (x :: r.2, r.1)

/-- Combine the transforms of the halves: t := W × odd; u + t and u − t. -/
def butterflies (inverse : Bool) (n : Nat) :
    Nat → List Cpx → List Cpx → List Cpx × List Cpx
  | k, u :: us, o :: os =>
    let t := Cpx.mul (fftW inverse k n) o
    let r := butterflies inverse n (k + 1) us os
    (Cpx.add u t :: r.1, Cpx.sub u t :: r.2)
  | _, _, _ => ([], [])

/-- The transform of a list of 2 ^ `lg` values. -/
def fftGo (inverse : Bool) : Nat → List Cpx → List Cpx
  | 0, z => z
  | lg + 1, z =>
    let h := unzipEven z
    let r := butterflies inverse (2 ^ (lg + 1)) 0 (fftGo inverse lg h.1) (fftGo inverse lg h.2)
    r.1 ++ r.2

def fft (lg : Nat) (z : List Cpx) : List Cpx := fftGo false lg z

/-- IFFT: the inverse steps, then each part times F32(1/N). -/
def ifft (lg : Nat) (z : List Cpx) : List Cpx :=
  let s := F32.ofQuot 1 (2 ^ lg)
  (fftGo true lg z).map fun c => ⟨F32.mul c.re s, F32.mul c.im s⟩

/-- An FFT stage: log2 of its block size, first tap, and partitions (R303). -/
structure Stage where
  lgB : Nat
  t0 : Nat
  parts : Nat

/-- The stages F1 to F9 for a block length L = 2 ^ `lgL`. -/
def stages (lgL : Nat) : List Stage :=
  ⟨lgL, 2 ^ lgL, 3⟩ :: (List.range 8).map fun k => ⟨lgL + 1 + k, 2 ^ (lgL + 2 + k), 2⟩

/-- The tap just past a stage. -/
def Stage.last (s : Stage) : Nat := s.t0 + s.parts * 2 ^ s.lgB

/-- The spectrum of partition `p` of a filter set. -/
def partSpectrum (s : Stage) (h : List F32) (p : Nat) : List Cpx :=
  let b := 2 ^ s.lgB
  let z := (List.range b).map fun i => (⟨h.getD (s.t0 + p * b + i) F32.zero, F32.zero⟩ : Cpx)
  fft (s.lgB + 1) (z ++ List.replicate b Cpx.zero)

/-- The spectrum of input step `q`: `at` reads the input at an absolute index. -/
def inputSpectrum (s : Stage) (at_ : Int → F32) (q : Int) : List Cpx :=
  let b : Int := (2 ^ s.lgB : Nat)
  fft (s.lgB + 1) ((List.range (2 ^ (s.lgB + 1))).map fun i =>
    (⟨at_ (q * b - b + (i : Nat)), F32.zero⟩ : Cpx))

/-- The contribution of a stage to the outputs m … m + B − 1 (R306). -/
def stageResult (s : Stage) (h : List F32) (at_ : Int → F32) (m : Int) : List F32 :=
  let b : Int := (2 ^ s.lgB : Nat)
  let q := (m - s.t0) / b
  let y0 := List.zipWith Cpx.mul (partSpectrum s h 0) (inputSpectrum s at_ q)
  let y := (List.range (s.parts - 1)).foldl (fun y p =>
    List.zipWith Cpx.add y
      (List.zipWith Cpx.mul (partSpectrum s h (p + 1)) (inputSpectrum s at_ (q - 1 - (p : Nat)))))
    y0
  ((ifft (s.lgB + 1) y).drop (2 ^ s.lgB)).map (·.re)

/-- E over one block (R301–R304): the samples, and whether SAT is set. `n0` is the
presentation index of the block's first sample, `lgL` the log of L, `readers` gives for each
stage how it reads the input at an absolute index, and `live` reads the whole input. -/
def etchBlock (lgL : Nat) (h : List F32) (n0 : Nat) (live : Int → F32)
    (readers : List (Int → F32)) : List F32 × Bool :=
  let l := 2 ^ lgL
  if h.isEmpty then ((List.range l).map fun (p : Nat) => live ((n0 + p : Nat) : Int), false)
  else
    let used := ((stages lgL).zip readers).filter fun e => decide (e.1.t0 < h.length)
    let contrib := used.map fun e =>
      let b := 2 ^ e.1.lgB
      let m := n0 / b * b
      (stageResult e.1 h e.2 m).drop (n0 - m)
    let direct := h.take l
    let out := (List.range l).map fun (p : Nat) =>
      let xs := (List.range l).map fun (k : Nat) => live (((n0 + p : Nat) : Int) - (k : Nat))
      let d := dotAccum direct xs {} 0 0
      let terms := contrib.map fun c => termF32 (c.getD p F32.zero)
      let acc := terms.foldl Accum.addTerm d.1
      let r := acc.store
      (r.1, r.2 || d.2.1 != 0 || d.2.2 != 0 || terms.any fun t => t.clamped || t.nonfinite)
    (out.map (·.1), out.any (·.2))

/-- The raised-cosine mix of R312 at sample `n` of `x`. -/
def etchMix (yOld yNew : F32) (n x : Nat) : F32 :=
  let a := F32.div (F32.ofInt (n + 1)) (F32.ofInt (x + 1))
  let a := F32.mul 0x40490FDB#32 a
  let w := F32.sub 0x3F000000#32 (F32.mul 0x3F000000#32 (F32.cos a))
  F32.add yOld (F32.mul w (F32.sub yNew yOld))

/-- The load column of R303 at a stage end, in hundredths of a MFLOP/s; a count that is no
stage end is charged at the next one. -/
def etchCost (at96 : Bool) (taps : Nat) : Nat :=
  let t := if at96 then taps / 2 + taps % 2 else taps
  if t ≤ 16 then (if at96 then 614 else 154)
  else if t ≤ 64 then (if at96 then 1428 else 516)
  else if t ≤ 128 then (if at96 then 2256 else 883)
  else if t ≤ 256 then (if at96 then 3179 else 1297)
  else if t ≤ 512 then (if at96 then 4197 else 1759)
  else if t ≤ 1024 then (if at96 then 5311 else 2268)
  else if t ≤ 2048 then (if at96 then 6521 else 2825)
  else if t ≤ 4096 then (if at96 then 7826 else 3430)
  else if t ≤ 8192 then (if at96 then 9228 else 4082)
  else (if at96 then 10726 else 4783)

/-- The tap counts at which the stages end (R303, R309). -/
def stageEnds (at96 : Bool) : List Nat :=
  if at96 then [32, 128, 256, 512, 1024, 2048, 4096, 8192, 16384, 32768]
  else [16, 64, 128, 256, 512, 1024, 2048, 4096, 8192, 16384]

end Sys2Proof.Machine
end

