-- ==== Sys2Proof/Machine/Chain.lean ====
section
/-! DEFINITION. The output chain (chapter 7): its parameters at a boundary, and its stages
over one block from the bulk delay to the gain stepper. -/

namespace Sys2Proof.Machine

open Sys2Proof

/-! ### Parameters at a boundary (R180, R291) -/

/-- The F32 taps of a filter set's bytes (R308). -/
def tapsOf : List Byte → List F32
  | a :: b :: c :: d :: l => BitVec.ofNat 32 (beNat [a, b, c, d]) :: tapsOf l
  | _ => []

/-- ρ of the limiter (R319). -/
def State.limRho (s : State) (j : Nat) : F32 :=
  onePole (F32.mul (F32.ofInt s.fs) (s.getF D.out_lim_release j))

/-- T of the stepper (R320). -/
def State.stepTarget (s : State) (j : Nat) : F32 :=
  let trim := s.getI D.out_trim j
  let zone := s.zoneGain j
  if s.getB D.out_mute j || trim == muteSteps || zone == muteSteps then F32.zero
  else F32.exp10 (g16Exponent (trim + zone))

/-- The coefficients of biquad `q` of an output. -/
def State.bqCoef (s : State) (j q : Nat) : BqCoef :=
  let c (k : Nat) : F32 := s.getF D.bq_coef j (5 * q + k)
  ⟨c 0, c 1, c 2, c 3, c 4⟩

/-- The destinations an output names (R325). -/
def State.outDests (s : State) (j : Nat) : List Dest :=
  ([⟨s.get D.out_dest_a_kind j, s.get D.out_dest_a_ch j⟩,
    ⟨s.get D.out_dest_b_kind j, s.get D.out_dest_b_ch j⟩] : List Dest).filter fun d => d.kind != 0

/-- The parameters of an output at a boundary. -/
def State.outRec (s : State) (j : Nat) : OutRec :=
  let byp := s.get D.out_bq_bypass j
  { out := j
    delay := s.get D.lst_delay_base j + s.get D.out_delay j
    delayX := s.get D.out_delay_xfade j
    etchMax := s.get D.etch_max_taps j
    bypass := byp
    coefs := ((List.range 16).filter fun q => !byp.testBit q).map fun q => (q, s.bqCoef j q)
    ceiling := exactGain (s.getI D.lst_max_level j)
    rho := s.limRho j
    hold := s.get D.out_lim_hold j
    target := s.stepTarget j
    timeout := s.get D.out_step_timeout j
    ramp := s.get D.out_step_ramp j
    dests := s.outDests j
    routeX := s.get D.out_route_xfade j
    taps := tapsOf (s.blob D.etch_taps j).data
    tapsHandle := s.get D.etch_taps j
    etchX := s.get D.etch_xfade j
    silent := exactGain (s.getI D.sil_threshold j)
    loud := exactGain (s.getI D.sil_threshold j + s.getI D.sil_hyst)
    late := s.render.lateOuts.contains j }

/-! ### Bulk delay (R298–R300) -/

/-- The chain at rest, for an output that leaves NONE (R292). -/
def Chain.start (r : OutRec) : Chain :=
  { out := r.out, delay := r.delay, etchMax := r.etchMax, taps := r.taps,
    tapsHandle := r.tapsHandle, gain := r.target, target := r.target }

/-- Start a crossfade of the bulk delay (R299, R300). -/
def Chain.setDelay (c : Chain) (d x : Nat) : Chain :=
  let now := match c.fades.getLast? with
    | some f => f.delay
    | none => c.delay
  if now = d then c
  else if x = 0 then { c with delay := d, fades := [] }
  else match c.fades with
    | f :: g :: _ => { c with delay := f.delay, fades := [g, ⟨d, x, 0⟩] }
    | l => { c with fades := l ++ [⟨d, x, 0⟩] }

/-- The delayed sample at position `p`: the read at the old delay, mixed by the crossfades
in order. -/
def Chain.readDelay (c : Chain) (l : Nat) (cur : List F32) (past : List (List F32)) (p : Nat) :
    F32 :=
  let read (d : Nat) : F32 := tapeAt cur past l (past.length * l) ((p : Int) - d)
  c.fades.foldl (fun y f =>
    if f.len ≤ f.n + p then read f.delay else crossfade y (read f.delay) (f.n + p) f.len)
    (read c.delay)

/-- Complete the crossfades that have run out. -/
def settleFades : Nat → List DelayFade → Nat × List DelayFade
  | d, [] => (d, [])
  | d, f :: l =>
    let r := settleFades d l
    if r.2.length < l.length then r
    else if f.len ≤ f.n then (f.delay, l)
    else (d, f :: l)

/-- The words of the feed blocks a read at delay `d` holds (R294). -/
def wordsAt (words : List Nat) (l d : Nat) : Nat :=
  words.getD (d / l) 0 ||| (if d % l = 0 then 0 else words.getD (d / l + 1) 0)

/-! ### Biquads (R315–R318) -/

def bqStates : List (Nat × F32 × F32) → Nat → F32 × F32
  | [], _ => (F32.zero, F32.zero)
  | (k, a, b) :: l, q => if k = q then (a, b) else bqStates l q

/-- A biquad state that R318 resets. -/
def bqBad (x : F32) : Bool := !x.isFinite || F32.lt 0x49800000#32 x.abs

/-- Run the biquads of a block in order: samples, states, and how many were reset. -/
def runBiquads : List (Nat × BqCoef) → List (Nat × F32 × F32) → List F32 →
    List F32 × List (Nat × F32 × F32) × Nat
  | [], _, x => (x, [], 0)
  | (q, c) :: l, st, x =>
    let s := bqStates st q
    let r := biquadRun c s.1 s.2 x
    let bad := bqBad r.2.1 || bqBad r.2.2
    let rest := runBiquads l st r.1
    (rest.1, (if bad then (q, F32.zero, F32.zero) else (q, r.2.1, r.2.2)) :: rest.2.1,
      rest.2.2 + if bad then 1 else 0)

/-! ### Limiter (R319) -/

structure LimState where
  g : F32
  hold : Nat
  least : F32

/-- One sample of the limiter. -/
def limStep (r : OutRec) (st : LimState) (x : F32) : F32 × LimState :=
  let g := if st.hold > 0 then st.g
    else addZ st.g (mulZ r.rho (subZ F32.one st.g))
  let hold := st.hold - 1
  let a := x.abs
  if F32.lt r.ceiling (mulZ a g) then
    (let g := (F32.div r.ceiling a).flush
     (F32.withSign x.neg? r.ceiling.toNat, ⟨g, r.hold, F32.min st.least g⟩))
  else (mulZ x g, ⟨g, hold, F32.min st.least g⟩)

def runLimiter (r : OutRec) : LimState → List F32 → List F32 × LimState
  | st, [] => ([], st)
  | st, x :: l =>
    let y := limStep r st x
    let q := runLimiter r y.2 l
    (y.1 :: q.1, q.2)

/-! ### Gain stepper (R320–R323) -/

structure StepState where
  g : F32
  st : Stepper
  neg : Bool

/-- A new target at the first sample of a block; one that comes in a ramp starts a new ramp of the length then set (R321,
R323). -/
def stepRetarget (old new : F32) (g : F32) (ramp : Nat) : Stepper → Stepper
  | .idle => if old = new then .idle else .waiting 0
  | .waiting n => .waiting n
  | .ramping g0 p len => if old = new then .ramping g0 p len else .ramping g 0 ramp

/-- One sample of a ramp of R322: its gain and what follows. -/
def rampStep (t g0 : F32) (p len : Nat) : F32 × F32 × Stepper :=
  let g := addZ g0 (mulZ (subZ t g0) (F32.div (F32.ofInt (p + 1)) (F32.ofInt len)).flush)
  if len ≤ p + 1 then (g, t, .idle) else (g, g, .ramping g0 (p + 1) len)

/-- One sample of the stepper: the gain applied, the gain after, and the state. -/
def stepGain (t : F32) (timeout ramp : Nat) (s : StepState) (x : F32) : F32 × F32 × Stepper :=
  match s.st with
  | .idle => (s.g, s.g, .idle)
  | .waiting n =>
    if timeout ≤ n then rampStep t s.g 0 ramp
    else if x.isZero || x.neg? != s.neg then (t, t, .idle)
    else (s.g, s.g, .waiting (n + 1))
  | .ramping g0 p len => rampStep t g0 p len

def runStepper (t : F32) (timeout ramp : Nat) : StepState → List F32 → List F32 × StepState
  | s, [] => ([], s)
  | s, x :: l =>
    let r := stepGain t timeout ramp s x
    let q := runStepper t timeout ramp ⟨r.2.1, r.2.2, x.neg?⟩ l
    (mulZ x r.1 :: q.1, q.2)

/-! ### One block of the chain -/

/-- The log of L. -/
def logL (l : Nat) : Nat := Nat.log2 l

/-- Blocks of Etcher input that the stages up to `etchMax` can read. -/
def etchKeep (lgL etchMax : Nat) : Nat :=
  (stages lgL).foldl (fun a s => if s.t0 < etchMax then max a (5 * 2 ^ (s.lgB - lgL)) else a) 4

/-- Put the parameters of a block in force (R299, R309, R312, R317, R321). -/
def Chain.retune (c : Chain) (lgL : Nat) (r : OutRec) : Chain :=
  let c := c.setDelay r.delay r.delayX
  let ages := ((stages lgL).zip c.stageAge).map fun e =>
    if e.1.t0 < r.etchMax && decide (e.1.t0 < c.etchMax) then e.2 else 0
  let c := { c with stageAge := ages, etchMax := r.etchMax }
  let c :=
    if c.tapsHandle = r.tapsHandle then c
    else { c with
      taps := r.taps, tapsHandle := r.tapsHandle
      outgoing := if r.etchX = 0 then none else some (c.taps, r.etchX, 0) }
  { c with
    step := stepRetarget c.target r.target c.gain r.ramp c.step
    target := r.target
    bq := c.bq.filter fun e => r.coefs.any fun d => d.1 == e.1 }

/-- Read the samples at some distances before a block as +0.0. -/
def Chain.zeroLine (c : Chain) (l : Nat) (ages : List Nat) : Chain :=
  { c with line := ages.foldl (fun t a => modAt t ((a - 1) / l) fun b =>
      (modAt b.1 (l - 1 - (a - 1) % l) fun _ => F32.zero, b.2)) c.line }

/-- A block of the delay line reads the sample at some distance before it. -/
def Chain.readsLine (c : Chain) (l age : Nat) : Bool :=
  (c.delay :: c.fades.map fun f => f.delay).any fun d => decide (age ≤ d) && decide (d < age + l)

/-- The chain of an output over one block: the feed of presentation block `m` and its word
(R291–R323). -/
def chainBlock (l m : Nat) (r : OutRec) (c0 : Chain) (feed : List F32) (word : Nat) :
    Chain :=
  let lgL := logL l
  let c := c0.retune lgL r
  -- bulk delay
  let past := c.line.map (·.1)
  let words := word :: c.line.map (·.2)
  let b := (List.range l).map fun p => c.readDelay l feed past p
  let w1 := c.fades.foldl (fun w f => w ||| wordsAt words l f.delay) (wordsAt words l c.delay) ||| c.mark
  let settled := settleFades c.delay (c.fades.map fun f => { f with n := f.n + l })
  let top := settled.2.foldl (fun a f => max a f.delay) settled.1
  let line := ((feed, word) :: c.line).take (max (96000 / 16) (top / l) + 2)
  -- Etcher
  let n0 := m * l
  let live (n : Int) : F32 := tapeAt b c.etchIn l (c.etchIn.length * l) (n - n0)
  let readers := c.stageAge.map fun age => fun (n : Int) => tapeAt b c.etchIn l (age * l) (n - n0)
  let new := etchBlock lgL c.taps n0 live readers
  let mixed := match c.outgoing with
    | none => new
    | some (old, x, n) =>
      let o := etchBlock lgL old n0 live readers
      (mapPos (fun p y => if x ≤ n + p then y else etchMix (o.1.getD p F32.zero) y (n + p) x) 0
        new.1, new.2 || o.2)
  let mixed := (c.etchBad.getD mixed.1, mixed.2)
  let outgoing := match c.outgoing with
    | none => none
    | some (old, x, n) => if x ≤ n + l then none else some (old, x, n + l)
  -- biquads, limiter, stepper
  let q := runBiquads r.coefs c.bq mixed.1
  let lim := runLimiter r ⟨c.lim, c.hold, F32.inf⟩ q.1
  let st := runStepper r.target r.timeout r.ramp ⟨c.gain, c.step, c.lastNeg⟩ lim.1
  let silent := lim.1.all fun x => F32.lt x.abs r.silent
  let w := dropBits w1 stSilent ||| bitIf (mixed.2 || q.2.2 != 0) stSat ||| bitIf silent stSilent
  { c with
      mark := 0
      etchBad := none
      line := line
      delay := settled.1
      fades := settled.2
      etchIn := (b :: c.etchIn).take (etchKeep lgL r.etchMax)
      stageAge := ((stages lgL).zip c.stageAge).map fun e =>
        if e.1.t0 < r.etchMax then e.2 + 1 else 0
      outgoing := outgoing
      bq := q.2.1
      lim := lim.2.g
      hold := lim.2.hold
      gain := st.2.g
      step := st.2.st
      lastNeg := st.2.neg
      taps6 := [feed, b, mixed.1, q.1, lim.1, st.1]
      word := w
      lastFeed := feed.getLastD c0.lastFeed
      resets := q.2.2
      least := lim.2.least }

/-! ### Conversion (R324) -/

/-- A sample as a `b`-bit word, and whether it was clamped. -/
def convertSample (b : Nat) (x : F32) : Int × Bool :=
  let hi : Int := 2 ^ (b - 1) - 1
  let lo : Int := -(2 ^ (b - 1))
  if x.isNaN then (0, false)
  else if x.isInf then (if x.neg? then (lo, true) else (hi, true))
  else
    let n := x.toScaledInt ((b : Int) - 1)
    if n > hi then (hi, true) else if n < lo then (lo, true) else (n, false)

end Sys2Proof.Machine
end

