-- ==== Sys2Proof/Machine/Inputs.lean ====
section
/-! DEFINITION. Input channels: samples placed by their media sample index (R176), and the
substitution of those that are missing (R443, R490). Kinds: STREAM 1, LOCAL 2, CLIP 3,
GRAVER 4 (R225). -/

namespace Sys2Proof.Machine

open Sys2Proof

def inputOf : List InBlock → Nat → Nat → Nat → Option InBlock
  | [], _, _, _ => none
  | b :: l, kind, ch, k =>
    if b.kind = kind && b.ch = ch && b.block = k then some b else inputOf l kind ch k

def inputPut (l : List InBlock) (b : InBlock) : List InBlock :=
  b :: l.filter fun x => !(x.kind == b.kind && x.ch == b.ch && x.block == b.block)

def State.input (s : State) (kind ch k : Nat) : Option InBlock :=
  inputOf s.render.inputs kind ch k

def State.putInput (s : State) (b : InBlock) : State :=
  { s with render := { s.render with inputs := inputPut s.render.inputs b } }

/-- Place one sample; the first copy stays (R489). -/
def InBlock.place (b : InBlock) (p : Nat) (x : F32) : InBlock :=
  if b.done || b.samples.any (·.1 = p) then b else { b with samples := (p, x) :: b.samples }

/-- Place a sample of a channel at a media sample index, with bits for its block's word. -/
def State.placeSample (s : State) (kind ch n : Nat) (x : F32) (w : Nat) : State :=
  let k := n / s.blockLen
  let b := (s.input kind ch k).getD ⟨kind, ch, k, [], 0, false⟩
  let b := b.place (n % s.blockLen) x
  s.putInput { b with word := b.word ||| w }

/-- The last sample a channel received. -/
def lastIn : List InLast → Nat → Nat → F32
  | [], _, _ => F32.zero
  | e :: l, kind, ch => if e.kind = kind && e.ch = ch then e.last else lastIn l kind ch

def State.putLast (s : State) (kind ch : Nat) (x : F32) : State :=
  { s with render := { s.render with
    inLast := ⟨kind, ch, x⟩ :: s.render.inLast.filter fun e => !(e.kind == kind && e.ch == ch) } }

def sampleAt : List (Nat × F32) → Nat → Option F32
  | [], _ => none
  | (q, x) :: l, p => if q = p then some x else sampleAt l p

/-- Fill positions `p` … of a block: samples, the last one received, and how many were
substituted. -/
def fillFrom (hold : Bool) (placed : List (Nat × F32)) :
    Nat → Nat → F32 → List (Nat × F32) × F32 × Nat
  | 0, _, last => ([], last, 0)
  | n + 1, p, last =>
    match sampleAt placed p with
    | some x =>
      let r := fillFrom hold placed n (p + 1) x
      ((p, x) :: r.1, r.2)
    | none =>
      let r := fillFrom hold placed n (p + 1) last
      ((p, if hold then last else F32.zero) :: r.1, r.2.1, r.2.2 + 1)

/-- Complete block `k` of a channel (R443, R490): missing samples are substituted, and the
block carries CONCEALED when there were any. -/
def State.closeInput (s : State) (kind ch k : Nat) (hold : Bool) (w : Nat) : State :=
  let b := (s.input kind ch k).getD ⟨kind, ch, k, [], 0, false⟩
  if b.done then s
  else
    let r := fillFrom hold b.samples s.blockLen 0 (lastIn s.render.inLast kind ch)
    let word := b.word ||| w ||| bitIf (r.2.2 != 0) stConcealed
    (s.putInput { b with samples := r.1, word := word, done := true }).putLast kind ch r.2.1

/-- How many samples of a block are missing. -/
def State.missingIn (s : State) (kind ch k : Nat) : Nat :=
  match s.input kind ch k with
  | some b => if b.done then 0 else s.blockLen - b.samples.length
  | none => s.blockLen

/-- The samples of a block of a channel by position, and its word; a channel that carries nothing gives +0.0 and no bits,
and in QUIET a GRAVER channel carries DEGRADED (R616). -/
def State.channelBlock (s : State) (kind ch k : Nat) : List F32 × Nat :=
  if kind == 4 && s.get D.pw_state == 1 then (List.replicate s.blockLen F32.zero, stDegraded)
  else match s.input kind ch k with
  | some b => ((List.range s.blockLen).map fun p => (sampleAt b.samples p).getD F32.zero, b.word)
  | none => (List.replicate s.blockLen F32.zero, 0)

/-- Forget the blocks before `k`. -/
def State.pruneInputs (s : State) (k : Nat) : State :=
  { s with render := { s.render with
    inputs := s.render.inputs.filter fun b => decide (k ≤ b.block) } }

end Sys2Proof.Machine
end

