-- ==== Sys2Proof/Machine/Lace.lean ====
section
/-! DEFINITION. What every chapter needs of twin operation: the roles, the Lace lanes, and the
journal entries that hold an effect back until the partner has acknowledged them (R528, R538, R543,
R544). -/

namespace Sys2Proof.Machine

open Sys2Proof

/-! ### Roles and lanes (R528, R538) -/

def roleSolo : Nat := 0
def roleActive : Nat := 1
def roleStandby : Nat := 2
def roleResync : Nat := 3
def roleFailed : Nat := 4

def State.role (s : State) : Nat := s.get D.twin_role
def State.partnerRole (s : State) : Nat := s.get D.twin_partner_role

/-- A lane carries Lace messages. -/
def State.laneUp (s : State) (n : Nat) : Bool := s.get D.lace_state n == 2

/-- The lane a message of lane `n` goes out on: the other one when its own is not UP (R538). -/
def State.laneFor (s : State) (n : Nat) : Option Nat :=
  if s.laneUp n then some n else if s.laneUp (1 - n) then some (1 - n) else none

/-! ### Frames (R539, R540) -/

/-- The message types. -/
def ltHello : Nat := 0x01
def ltHeartbeat : Nat := 0x02
def ltTime : Nat := 0x03
def ltJournal : Nat := 0x04
def ltJournalAck : Nat := 0x05
def ltOutDigest : Nat := 0x06
def ltInPresence : Nat := 0x07
def ltRepair : Nat := 0x08
def ltMirror : Nat := 0x09
def ltCheckpoint : Nat := 0x0A
def ltCheckpointAck : Nat := 0x0B
def ltSelftest : Nat := 0x0C
def ltBlob : Nat := 0x0D

/-- The bytes of a frame before its CRC. -/
def laceBytes (version type lane length seq : Nat) (body : List Byte) : List Byte :=
  beBytes 1 version ++ beBytes 1 type ++ beBytes 1 lane ++ [0#8] ++ beBytes 2 length ++ beBytes 4 seq ++ body

/-- The CRC of a received frame holds. -/
def LaceIn.holds (f : LaceIn) (body : List Byte) : Bool :=
  f.crc == crc32 (laceBytes f.version f.type f.from_ f.length f.seq body)

/-- A received frame has the version and a type of R539, and its length field agrees with its body. -/
def LaceIn.formed (f : LaceIn) (type : Nat) (body : List Byte) : Bool :=
  f.version == 1 && f.type == type && f.length == body.length

/-- Send a Lace message of lane `n`. -/
def State.sendLace (s : State) (n type : Nat) (body : List Byte) : State :=
  match s.laneFor n with
  | none => s
  | some q =>
    let x := s.twin.lanes.getD q {}
    let seq := (x.seq + 1) % 2 ^ 32
    let t : State := { s with twin := { s.twin with lanes := modAt s.twin.lanes q fun _ => { x with seq := seq } } }
    let b := laceBytes 1 type q body.length seq body
    t.send ⟨.lace q, "LACE", (b ++ beBytes 4 (crc32 b)).map fun b => b.toNat⟩

/-- The data of one message, of which a longer whole takes several: the bodies of BLOB and CHECKPOINT have 16 bytes
before it, and at most 9200 in all. -/
def laceData : Nat := 9184

/-- The parts of a whole, with their offsets; a whole without bytes has one. -/
def partsOf (n : Nat) (l : List Byte) : List (Nat × List Byte) :=
  (List.range (max 1 ((l.length + n - 1) / n))).map fun i => (n * i, (l.drop (n * i)).take n)

/-- Set or clear a stored bit of twin_health, given by its mask. -/
def State.setHealth (s : State) (mask : Nat) (on : Bool) : State :=
  let h := s.get D.twin_health
  s.set D.twin_health (if on then h ||| mask else dropBits h mask)

def hPaired : Nat := 1
def hSelftest : Nat := 32
def hDiverged : Nat := 64
def hWiring : Nat := 1024
def hMixed : Nat := 2048

/-- An object of a pair-wide area (R544). -/
def pairWide (a : Nat) : Bool :=
  let r := a / 2 ^ 24
  !([0x00, 0x01, 0x02, 0x08, 0x10, 0x11, 0x68, 0x70, 0x71, 0x72, 0x78, 0x7C, 0x7E, 0x7F].contains r
    || (decide (0x22 ≤ r) && decide (r ≤ 0x29)))

/-! ### The journal of the ACTIVE (R543, R546) -/

/-- The partner takes part: what leaves the pair waits for its acknowledgement (R543). -/
def State.mirrored (s : State) : Bool :=
  s.role == roleActive && (s.get D.twin_health).testBit 0 && (s.laneUp 0 || s.laneUp 1) &&
    (s.partnerRole == roleStandby || s.partnerRole == roleResync)

/-- A unit in RESYNC that waits for the state of an ACTIVE: it keeps inputs and journal entries, and
its scene stands still until it has loaded a checkpoint (R556). -/
def State.awaitsState (s : State) : Bool :=
  s.role == roleResync && (s.get D.twin_health).testBit 0 && s.partnerRole == roleActive && s.twin.step != 3

/-- An address and its value in the bytes of its object's type. -/
def valueBytes (e : Nat × Nat) : List Byte :=
  match objAt e.1 with
  | some (o, _, _) => beBytes 4 e.1 ++ tyEncode o.ty e.2
  | none => []

/-- The kind and the data of what a JOURNAL entry carries. DESIGN CHOICE (log entry 127): the manual gives them no
codes and no layout. -/
def JournalAct.kind : JournalAct → Nat
  | .live _ => 1
  | .commit _ _ => 2
  | .blob _ _ _ => 3
  | .values _ => 4
  | .time _ _ _ => 5
  | .power _ => 6
  | .grant _ _ => 7
  | .dictionary _ => 8

def JournalAct.data : JournalAct → List Byte
  | .live l => l.flatMap valueBytes
  | .commit l shed => beBytes 1 (shed.getD 0xFF) ++ l.flatMap fun it =>
      beBytes 2 it.node ++ beBytes 4 it.addr ++ beBytes 1 it.ty ++ codedValue it.ty it.val
  | .blob a g d => beBytes 4 a ++ beBytes 4 g ++ d
  | .values l => l.flatMap valueBytes
  | .time src b d => beBytes 1 src ++ beBytes 16 (ofSigned 128 b) ++ beBytes 1 d.toNat
  | .power t => beBytes 1 t
  | .grant f t => beBytes 4 f ++ beBytes 4 t
  | .dictionary l => l.flatMap valueBytes

/-- The body of a JOURNAL message. -/
def journalBody (index block : Nat) (act : JournalAct) : List Byte :=
  beBytes 8 index ++ beBytes 1 act.kind ++ beBytes 8 block ++ beBytes 2 act.data.length ++ act.data

/-- Send a JOURNAL entry for a block, and keep it until it is acknowledged. -/
def State.enter (s : State) (block : Nat) (act : JournalAct) (held : Option Held) : State :=
  let n := s.twin.index + 1
  let t := s.sendLace 0 ltJournal (journalBody n block act)
  { t with twin := { t.twin with index := n, journal := t.twin.journal ++ [⟨n, block, held, act⟩] } }

/-- Grant sequences, 64 at a time, before any of them is used (R546). -/
def State.grantAhead (s : State) : State :=
  let next (granted seq : Nat) : Nat := if granted < seq + 64 then max granted seq + 64 else granted
  let f := next s.fabric.granted s.fabric.txnSeq
  let t := next s.cu.granted s.cu.seq
  if f = s.fabric.granted && t = s.cu.granted then s
  else
    (let u := s.enter s.blockNow (.grant f t) none
     { u with fabric := { u.fabric with granted := f }, cu := { u.cu with granted := t } })

/-- Hold an effect back until the partner has acknowledged the entry that carries it. -/
def State.hold (s : State) (block : Nat) (act : JournalAct) (h : Held) : State :=
  s.grantAhead.enter block act (some h)

/-- The pair-wide values that differ between two states. -/
def changedValues (a b : List (Nat × Nat)) : List (Nat × Nat) :=
  b.filter fun e => pairWide e.1 && look a e.1 != some e.2

/-- Run an effect; on an ACTIVE with a partner the values and BLOBs that it would change are
journaled, with what else `more` names of its result, and it runs once they are acknowledged (R420,
R543). -/
def State.heldValues (s : State) (h : Held) (more : State → List (Nat × Nat)) (f : State → State) : State :=
  if s.mirrored then
    (let t := f s
     let fresh := t.blobs.filter fun b => pairWide b.addr && blobAt s.blobs b.addr != b
     let u := fresh.foldl (fun u b => u.enter s.blockNow (.blob b.addr b.gen b.data) none) s
     u.hold s.blockNow (.values (changedValues s.dict t.dict ++ more t)) h)
  else f s

end Sys2Proof.Machine
end

