-- ==== Sys2Proof/Machine/Proof.lean ====
section
/-! DEFINITION. Proof and line supervision (chapter 10): Stipple, folding and correlation,
verdicts, references, windows, and the supervised lines. -/

namespace Sys2Proof.Machine

open Sys2Proof Host

/-! ### Stipple (R411–R415) -/

/-- N of R411. -/
def chipN : Nat := 4194303

/-- S of R412. -/
def chipS : Nat := 16383

/-- Multiply a polynomial over GF(2) by x, modulo x²² + x + 1. -/
def xtime (v : Nat) : Nat := if 2 ^ 21 ≤ v then (2 * v - 2 ^ 22) ^^^ 3 else 2 * v

/-- The product of two polynomials modulo x²² + x + 1; `n` bits of `b`. -/
def mulMod : Nat → Nat → Nat → Nat
  | 0, _, _ => 0
  | n + 1, a, b => (if b % 2 = 1 then a else 0) ^^^ mulMod n (xtime a) (b / 2)

/-- x to the power `k`, from `n` bits of `k`. -/
def powX : Nat → Nat → Nat → Nat
  | 0, _, _ => 1
  | n + 1, base, k =>
    let r := powX n (mulMod 22 base base) (k / 2)
    if k % 2 = 1 then mulMod 22 base r else r

/-- m[k] of R411: the coefficient of x²¹ in x^k, since m[0] … m[20] are 0 and m[21] is 1. -/
def chipBit (k : Nat) : Bool := (powX 22 2 (k % chipN)).testBit 21

/-- The chip of code `q` at presentation index `n`: true for −1. -/
def chipAt (q n : Nat) : Bool := chipBit (((n : Int) - (q * chipS : Nat)) % (chipN : Int)).toNat

def stippleOf : List Stipple → Nat → Stipple
  | [], j => { out := j }
  | x :: l, j => if x.out = j then x else stippleOf l j

/-- F32 decibels of G16 steps. -/
def stepsDb (k : Int) : F32 := F32.div (F32.ofInt k) 0x42800000#32

/-- k of R413. -/
def State.stippleLevel (s : State) (j : Nat) (ms : F32) : Int :=
  let p := if ms.isZero then 0xC3480000#32 else F32.mul 0x41200000#32 (F32.log10 ms)
  let tr := s.get D.pf_tracker j
  let amb := if tr = 0xFF then 0 else s.getI D.amb_gain tr
  let a := F32.add (stepsDb (s.getI D.pf_amb_floor j)) (stepsDb amb)
  let m := F32.max p a
  let margin := if s.get D.pf_window_state = 1 then s.getI D.pf_margin_night
    else s.getI D.pf_margin_day
  let t := F32.sub m (stepsDb margin)
  let t := F32.min (F32.max t (stepsDb (s.getI D.pf_level_min))) (stepsDb (s.getI D.pf_level_max))
  (F32.mul t 0x42800000#32).toInt

/-- Stipple runs on an output at a boundary (R414). -/
def State.stippleRuns (s : State) (j : Nat) : Bool :=
  (s.get D.pf_mode == 2 || (s.get D.pf_mode == 1 && s.get D.pf_window_state == 1)) &&
    s.getB D.pf_enable j && s.outType j != 0 && s.get D.lst_service j == 0 && s.get D.pw_state == 0

/-- The pause of R415. -/
def State.stipplePaused (s : State) (j : Nat) : Bool :=
  s.getB D.pf_ls_pause && s.winnerClaims.any fun w => w.rung == 1 &&
    (List.range 256).any fun z => s.inZone j z && s.overlaps (s.get D.obj_zone w.obj) z

/-- Stipple of an output in presentation block `m` (R412, R413): its state after the block,
and the OUT samples. -/
def State.stippleBlock (s : State) (m j : Nat) (limited x : List F32) : Stipple × List F32 :=
  let l := s.blockLen
  let st := stippleOf s.svc.stipple j
  let runs := s.stippleRuns j
  let k := s.stippleLevel j st.ms
  let slew : Int := s.get D.pf_slew
  let c := if !st.on then k else if k < st.c then max k (st.c - slew) else min k (st.c + slew)
  let g := if runs && !s.stipplePaused j then F32.exp10 (g16Exponent c) else F32.zero
  let q := s.get D.pf_code j
  let out :=
    if F32.isZero st.gain && g.isZero then x
    else mapPos (fun p y =>
      let a := rampAt st.gain g p l
      F32.add y (if chipAt q (m * l + p) then a.neg else a)) 0 x
  let alpha := onePole (F32.mul 0x453B8000#32 0x3E99999A#32)
  let ms := F32.add st.ms (F32.mul alpha (F32.sub (meanSquare limited) st.ms))
  ({ st with
      on := runs
      c := if runs then c else st.c
      since := if runs && !st.on then m * l else st.since
      g0 := st.gain
      g1 := g
      gain := g
      ms := ms }, out)

def stipplePut (l : List Stipple) (x : Stipple) : List Stipple :=
  x :: l.filter fun y => y.out != x.out

/-! ### Folding (R417, R419) -/

def foldOf : List Fold → Nat → Fold
  | [], p => { probe := p }
  | x :: l, p => if x.probe = p then x else foldOf l p

/-- Fold one sample. -/
def foldAdd (f : Fold) (n : Nat) (x : F32) : Fold :=
  let b := n % chipN
  let old : F32 := BitVec.ofNat 32 ((look f.buf b).getD 0)
  { f with buf := put f.buf b (F32.add old x).toNat }

/-- The probes in use. -/
def State.probes (s : State) : List Nat :=
  (s.instancesWhere D.pr_kind (· != 0)).filter (· < 32)

/-- Fold the samples of block `k` with index `lo` ≤ n < `hi` into the buffers, and add the
Stipple gains of the same indices. -/
def State.foldRange (s : State) (k lo hi : Nat) : State :=
  let l := s.blockLen
  let inside (p : Nat) : Bool := decide (lo ≤ k * l + p ∧ k * l + p < hi)
  let ps := (List.range l).filter inside
  let folds := s.probes.map fun pr =>
    let b := s.channelBlock 2 (s.get D.pr_ch pr) k
    let bad := b.2 &&& (stConcealed ||| stUnsettled) != 0
    let f := foldOf s.svc.folds pr
    let f := if bad then { f with bad := f.bad + ps.length } else f
    ps.foldl (fun f p => foldAdd f (k * l + p) (if bad then F32.zero else b.1.getD p F32.zero)) f
  let st := s.svc.stipple.map fun x =>
    { x with
      sum := ps.foldl (fun a p => a + exactCoord (rampAt x.g0 x.g1 p l)) x.sum
      spoiled := x.spoiled || !x.on }
  { s with svc := { s.svc with folds := folds, stipple := st } }

/-- The window closes at sample index `e`; the next one starts there (R417). -/
def State.closeWindow (s : State) (n0 e : Nat) : State :=
  let outs := s.svc.stipple.map fun x =>
    (⟨x.out, x.sum, x.spoiled || !(decide (x.since + chipS ≤ n0))⟩ : OutWindow)
  { s with svc := { s.svc with
    closed := some ⟨e / s.blockLen, e - n0, s.svc.folds, outs⟩
    folds := []
    stipple := s.svc.stipple.map fun x => { x with sum := 0, spoiled := false }
    window := some e } }

/-- Block `k` has been captured: the window in progress folds it (R417). A window starts at a
multiple of N while pf_mode is not OFF. -/
def State.foldBlock (s : State) (k : Nat) : State :=
  let l := s.blockLen
  let lo := k * l
  let hi := lo + l
  if s.get D.pf_mode = 0 then
    (if s.svc.window.isNone then s
     else { s with svc := { s.svc with window := none, folds := [] } })
  else match s.svc.window with
    | none =>
      let n0 := (lo + chipN - 1) / chipN * chipN
      if lo ≤ n0 && decide (n0 < hi) then
        ({ s with svc := { s.svc with window := some n0 } }).foldRange k n0 hi
      else s
    | some n0 =>
      let e := n0 + s.get D.pf_periods * chipN
      if decide (e < hi) then
        ((s.foldRange k lo e).closeWindow n0 e).foldRange k e hi
      else if e = hi then (s.foldRange k lo hi).closeWindow n0 e
      else s.foldRange k lo hi

/-- INTEGRATION_WINDOW_END: the window that closed goes to correlation (R417, R420). -/
def execIntegrationWindowEnd (s : State) : Outcome State Fault Refusal :=
  match s.svc.closed with
  | none => .next s
  | some w => .next { s with svc := { s.svc with closed := none, done := some w } }

/-! ### Correlation (R417, R418) -/

/-- R_p[ℓ]: the exact sum, rounded once (log entry 20). -/
def correlate (f : Fold) (lag : Nat) : F32 :=
  F32.ofScaled (f.buf.foldl (fun a e =>
    let x := exactCoord (BitVec.ofNat 32 e.2)
    if chipBit (((e.1 : Int) - (lag : Nat)) % (chipN : Int)).toNat then a - x else a + x) 0) (-149)

/-- Σ x² in order. -/
def energy (l : List F32) : F32 := l.foldl (fun a x => F32.add a (F32.mul x x)) F32.zero

/-- Σ (v[i] − v[i−1])² for i ≥ 1. -/
def slopeEnergy : List F32 → F32 → F32
  | a :: b :: l, acc =>
    let d := F32.sub b a
    slopeEnergy (b :: l) (F32.add acc (F32.mul d d))
  | _, acc => acc

/-- 10 log10 of a quotient. -/
def db10 (a b : F32) : F32 := F32.mul 0x41200000#32 (F32.log10 (F32.div a b))

/-- The taps of an impulse response (R432). -/
def State.irLen (s : State) : Nat := 512 * 2 ^ s.get D.pf_ir_len

/-- ρ(s) of R424. -/
def rhoAt (h r : List F32) (root : F32) (sh : Int) : F32 :=
  let n : Int := h.length
  let acc := (List.range h.length).foldl (fun (a : F32) (i : Nat) =>
    let j := (i : Int) - sh
    if 0 ≤ j && decide (j < n) then
      F32.add a (F32.mul (h.getD i F32.zero) (r.getD j.toNat F32.zero))
    else a) F32.zero
  F32.div acc root

/-- The shifts of R424 in the order of preference among equals: 0, −1, 1, −2, 2, … -/
def shiftOrder (n : Nat) : List Int :=
  0 :: (List.range n).flatMap fun (k : Nat) => [-((k : Int) + 1), (k : Int) + 1]

/-- The shift with the greatest |ρ(s)|. -/
def bestShift (h r : List F32) (root : F32) (n : Nat) : Int × F32 :=
  (shiftOrder n).foldl (fun (b : Int × F32) sh =>
    let v := rhoAt h r root sh
    if F32.lt b.2.abs v.abs then (sh, v) else b) (0, rhoAt h r root 0)

/-- The F32 values as bytes. -/
def f32Bytes (l : List F32) : List Byte := l.flatMap fun x => beBytes 4 x.toNat

/-! ### Verdicts (R424, R425) -/

def runOf : List PfRun → Nat → PfRun
  | [], j => { out := j }
  | x :: l, j => if x.out = j then x else runOf l j

def State.putRun (s : State) (r : PfRun) : State :=
  ({ s with svc := { s.svc with runs := r :: s.svc.runs.filter fun x => x.out != r.out } }).set
    D.pf_runs (min r.line 255 * 256 + min r.exclude 255) r.out

/-- An output becomes SUSPECT (R425). -/
def State.suspect (s : State) (j : Nat) : State :=
  (s.modMark j fun m => { m with suspect := true }).error 0x60 j 0x0801 .warn

/-- An output becomes FAILED: recorded, and healed when heal_enable is 1 (R254, R255). -/
def State.declareFailed (s : State) (j : Nat) : State :=
  let t := (s.modMark j fun m => { m with failed := true }).error 0x60 j 0x0802 .degraded
  if s.getB D.heal_enable then
    { t with render := { t.render with heal := t.render.heal ++ [j] } }
  else t

/-- The kind of a verdict: INCONCLUSIVE none, EXCLUDE, REPORT or PASS. -/
inductive VerdictKind
  | none_ | exclude | report | pass
  deriving DecidableEq, Repr

/-- The state machine of R425 after a Proof verdict or a line verdict; `lineFail` says that
the line run has reached ls_fail_count. -/
def State.judgeOutput (s : State) (j : Nat) (kind : VerdictKind) (lineBad lineFail : Bool) :
    State :=
  let m := s.mark j
  let r := runOf s.svc.runs j
  if m.failed then
    (if kind = .pass && !r.lineBad && !r.recovered then
      (s.error 0x60 j 0x0803 .info).putRun { r with recovered := true }
     else s)
  else
    let trouble := kind = .exclude || kind = .report || lineBad
    let s1 := if !m.suspect && trouble then s.suspect j else s
    let suspect := m.suspect || trouble
    if suspect && (decide (s.get D.pf_fail_windows ≤ r.exclude) || lineFail) then
      s1.declareFailed j
    else if suspect && kind = .pass && decide (s.get D.pf_pass_windows ≤ r.pass) && !r.lineBad then
      s1.modMark j fun m => { m with suspect := false }
    else s1

/-- The verdict codes: PASS 1, INCONCLUSIVE 2, DEAD 3, MISROUTE 4, POLARITY 5, DELAY 6,
LEVEL 7, HF_LOSS 8. -/
def verdictKind : Nat → VerdictKind
  | 1 => .pass
  | 3 => .exclude
  | 4 => .exclude
  | 5 => .report
  | 6 => .report
  | 7 => .report
  | 8 => .report
  | _ => .none_

/-- Count a verdict in the runs of an output, and act on it (R425). -/
def State.applyVerdict (s : State) (j v : Nat) : State :=
  let r := runOf s.svc.runs j
  let k := verdictKind v
  let r := match k with
    | .none_ => r
    | .exclude => { r with exclude := r.exclude + 1, pass := 0 }
    | .report => { r with exclude := 0, pass := 0 }
    | .pass => { r with exclude := 0, pass := r.pass + 1 }
  ((s.set D.pf_verdict v j).putRun r).judgeOutput j k false false

/-- The strongest code of a LINE probe (R424). -/
def State.strongest (s : State) (f : Fold) : Nat :=
  let e (j : Nat) : F32 :=
    energy ((List.range s.irLen).map fun i =>
      correlate f (s.get D.pf_code j * chipS + s.get D.pf_lag j + i))
  match s.liveOutputs with
  | [] => 255
  | j :: l =>
    let b := l.foldl (fun (b : Nat × F32) j =>
      let x := e j
      if F32.lt b.2 x then (j, x) else b) (j, e j)
    s.get D.pf_code b.1

/-- A reference is captured (R421, R423). -/
def State.captureRef (s : State) (j : Nat) (h : List F32) : State :=
  let t := (s.setBlob D.pf_ref (f32Bytes h) j).set D.pf_ref_state 2 j
  { t with svc := { t.svc with refs := t.svc.refs.filter fun x => x.out != j } }

/-- One window of a capture that waits (R421): captured, or one try fewer. -/
def State.tryCapture (s : State) (j : Nat) (h : List F32) (q : F32) (usable : Bool) : State :=
  match s.svc.refs.find? (·.out = j) with
  | none => s
  | some r =>
    if usable && F32.le (s.getF D.pf_snr_min) q then s.captureRef j h
    else if r.tries ≤ 1 then
      (({ s with svc := { s.svc with refs := s.svc.refs.filter fun x => x.out != j } }).set
        D.pf_ref_state 3 j).error 0x60 j 0x0804 .warn
    else
      { s with svc := { s.svc with refs := s.svc.refs.map fun x =>
        if x.out = j then { x with tries := x.tries - 1 } else x } }

/-- The verdict of R424 from its quantities. -/
def State.verdictOf (s : State) (line : Bool) (strongest code : Nat) (dl qr rho hf : F32)
    (shift : Int) : Nat :=
  if F32.lt qr (s.getF D.pf_snr_min) then 2
  else if line && strongest != code then 4
  else if F32.le dl (F32.neg (s.getF D.pf_dead_db)) then 3
  else if F32.lt rho.abs (s.getF D.pf_rho_min) then 4
  else if F32.le rho (F32.neg (s.getF D.pf_rho_min)) then 5
  else if s.get D.pf_delay_tol < shift.natAbs then 6
  else if F32.lt (s.getF D.pf_level_tol) dl.abs then 7
  else if F32.lt (s.getF D.pf_hf_tol) hf then 8
  else 1

/-- The verdict of an output from the window that closed (R418, R421, R424, R425). -/
def State.proofVerdict (s : State) (j : Nat) : State :=
  let pr := s.get D.pf_probe j
  match s.svc.done with
  | none => s
  | some w =>
    if 32 ≤ pr then s
    else
      let f := foldOf w.folds pr
      let ow := (w.outs.find? (·.out = j)).getD ⟨j, 0, true⟩
      let s := s.set D.pf_window_block w.endBlock j
      if ow.spoiled || ow.sum == 0 || decide (w.length < 100 * f.bad) then
        ((s.tryCapture j [] F32.zero false).applyVerdict j 2)
      else
        let len := s.irLen
        let a := F32.ofScaled ow.sum (-149)
        let q := s.get D.pf_code j
        let h := (List.range len).map fun i =>
          F32.div (correlate f (q * chipS + s.get D.pf_lag j + i)) a
        let noise := energy ((List.range chipS).map fun i => correlate f (255 * chipS + i))
        let mean := F32.div noise (F32.ofInt chipS)
        let sig := F32.div mean (F32.mul a a)
        let eh := energy h
        let floor := F32.mul (F32.ofInt len) sig
        let s := (s.setBlob D.pf_ir (f32Bytes h) j).setF D.pr_noise (level10 sig) pr
        let r := tapsOf (s.blob D.pf_ref j).data
        let valid := s.get D.pf_ref_state j == 2
        let s := s.tryCapture j h (db10 eh floor) true
        if !valid || r.isEmpty then s
        else
          let er := energy r
          let dl := db10 eh er
          let qr := db10 er floor
          let b := bestShift h r (F32.sqrt (F32.mul eh er)) (s.get D.pf_shift_max)
          let hf := F32.sub (db10 (slopeEnergy r F32.zero) er) (db10 (slopeEnergy h F32.zero) eh)
          let line := s.get D.pr_kind pr == 2
          let strong := if line then s.strongest f else 0
          let s := ((((s.setF D.pf_delta_level dl j).setF D.pf_quality qr j).setF D.pf_rho b.2
            j).setI D.pf_shift b.1 j).setF D.pf_hf_drop hf j
          let s := if line then s.set D.pf_strongest_code strong j else s
          (s.applyVerdict j (s.verdictOf line strong q dl qr b.2 hf b.1))

/-- lst_status of an output, for the journal (R420). -/
def State.statusEntry (s : State) (j : Nat) : List (Nat × Nat) := [(D.lst_status.addr j, s.outStatus j)]

/-- PROOF_VERDICT: the correlation of the closed window is complete for an output; in a pair the
ACTIVE declares once its partner has acknowledged (R418, R420, R421, R424, R425, R543). -/
def execProofVerdict (j : Fin 1024) (s : State) : Outcome State Fault Refusal :=
  .next (s.heldValues (.verdict j.val) (fun t => t.statusEntry j.val) fun t => t.proofVerdict j.val)

/-- PF_REF_CAPTURE: the command pf_ref_capture of an output (R421). -/
def execPfRefCapture (j : Fin 1024) (s : State) : Outcome State Fault Refusal :=
  let j := j.val
  .next (({ s with svc := { s.svc with
    refs := ⟨j, [], 8⟩ :: s.svc.refs.filter fun x => x.out != j } }).set D.pf_ref_state 1 j)

/-! ### Windows (R429, R430) -/

/-- Open a Proof window that ends at a block; in any state but ON nothing opens (R429,
R430). -/
def State.openProof (s : State) (e : Nat) : State :=
  if s.get D.pw_state != 0 then s
  else
    let e := if s.get D.pf_window_state = 1 then max e (s.get D.pf_window_end) else e
    (s.set D.pf_window_state 1).set D.pf_window_end e

/-- The open window closes. -/
def State.closeProof (s : State) : State := s.set D.pf_window_state 0

/-- pf_window_open of `d` seconds at boundary `k` (R429). -/
def State.pfWindowOpen (s : State) (k d : Nat) : State :=
  if d = 0 then s.closeProof else s.openProof (k + d * 3000)

/-- PF_WINDOW_OPEN: the command pf_window_open at its boundary, the present one. -/
def execPfWindowOpen (d : Nat) (s : State) : Outcome State Fault Refusal :=
  .next (s.pfWindowOpen s.blockNow d)

/-- PROOF_WINDOW_CLOSE: the open window reaches its scheduled end (R429). -/
def execProofWindowClose (s : State) : Outcome State Fault Refusal := .next s.closeProof

/-- At boundary `k`, a window whose end has come closes (R429). -/
def State.proofDue (s : State) (k : Nat) : State :=
  if s.get D.pf_window_state = 1 && decide (s.get D.pf_window_end ≤ k) then s.closeProof else s

/-! ### Line supervision (R426–R428) -/

def lineOf : List Line → Nat → Line
  | [], l => { line := l }
  | x :: r, l => if x.line = l then x else lineOf r l

def State.putLine (s : State) (x : Line) : State :=
  { s with svc := { s.svc with lines := x :: s.svc.lines.filter fun y => y.line != x.line } }

/-- The phase of R427 at sample `i` of a period of 2 · Fs samples. -/
def linePhase (fs i : Nat) : Nat :=
  if 20 * i < fs then 0
  else if 2 * i < fs then 1
  else if i < fs then 2
  else if 20 * i < 21 * fs then 3
  else if 2 * i < 3 * fs then 4
  else 5

/-- The injected current at sample `i` of a period, in µA (R427). -/
def State.lineCurrent (s : State) (l i : Nat) : Nat :=
  let lo := s.get D.ls_i_low l
  let hi := s.get D.ls_i_high l
  let n := s.fs / 20
  match linePhase s.fs i with
  | 0 => lo + (hi - lo) * i / n
  | 3 => hi - (hi - lo) * (i - s.fs) / n
  | 1 => hi
  | 2 => hi
  | _ => lo

/-- Sense samples of block `k` of a line that is supervised (R427, R428). -/
def State.senseBlock (s : State) (k l : Nat) : State :=
  let b := s.channelBlock 2 (s.get D.ls_sense_ch l) k
  let bad := b.2 &&& (stConcealed ||| stUnsettled) != 0
  let x := lineOf s.svc.lines l
  let add (a : Line) (e : Nat × F32) : Line :=
    let i := (k * s.blockLen + e.1) % (2 * s.fs)
    let a := { a with full := a.full || F32.le F32.one e.2.abs }
    match linePhase s.fs i with
    | 2 => { a with sumHigh := F32.add a.sumHigh e.2, nHigh := a.nHigh + 1 }
    | 5 => { a with sumLow := F32.add a.sumLow e.2, nLow := a.nLow + 1 }
    | _ => a
  let y := ((List.range s.blockLen).map fun p => (p, b.1.getD p F32.zero)).foldl add x
  s.putLine { y with
    spoiled := y.spoiled || bad, phase := linePhase s.fs (k * s.blockLen % (2 * s.fs)) }

/-- The lines that are supervised, in power state ON (R426). -/
def State.supervised (s : State) : List Nat :=
  if s.get D.pw_state = 0 then (s.instancesWhere D.ls_enable (· == 1)).filter (· < 16) else []

def State.senseAll (s : State) (k : Nat) : State :=
  s.supervised.foldl (fun t l => t.senseBlock k l) s

/-- LS_PHASE: the injection of a line reaches its next phase (R427). -/
def execLsPhase (l : Fin 16) (s : State) : Outcome State Fault Refusal :=
  if s.supervised.contains l.val then
    (let x := lineOf s.svc.lines l.val
     .next (s.putLine { x with phase := (x.phase + 1) % 6 }))
  else .next s

/-- The verdict of a period: OK 1, OPEN 2, SHORT 3 (R428). -/
def State.lineVerdict (s : State) (l : Nat) (z : F32) (full : Bool) : Nat :=
  let r := s.getF D.ls_ref_ohm l
  if full || F32.lt (F32.mul r (s.getF D.ls_open_ratio l)) z then 2
  else if F32.lt z (F32.mul r (s.getF D.ls_short_ratio l)) then 3
  else 1

/-- A supervision period of a line ends (R428, R425). -/
def State.linePeriod (s : State) (l : Nat) : State :=
  if !s.supervised.contains l then s
  else
    let x := lineOf s.svc.lines l
    let fresh : Line := { line := l, learn := x.learn, run := x.run, lastShort := x.lastShort }
    if x.spoiled || x.nHigh = 0 || x.nLow = 0 then ((s.putLine fresh).set D.ls_state 4 l)
    else
      let v := F32.sub (F32.div x.sumHigh (F32.ofInt x.nHigh)) (F32.div x.sumLow (F32.ofInt x.nLow))
      let di : Int := (s.get D.ls_i_high l : Int) - s.get D.ls_i_low l
      let z := F32.div (F32.mul (s.getF D.ls_scale l) v) (F32.mul (F32.ofInt di) 0x358637BD#32)
      let s := s.setF D.ls_z z l
      let s := if x.learn then s.keepValue D.ls_ref_ohm z.toNat l else s
      let verdict := s.lineVerdict l z x.full
      let j := s.get D.ls_output l
      let run := if verdict = 1 then 0 else x.run + 1
      let reached := verdict != 1 && run == s.get D.ls_fail_count l
      let s := (s.putLine { fresh with learn := false, run := run, lastShort := verdict == 3 }).set
        D.ls_state verdict l
      let s := if reached then
          s.error 0x61 j (if verdict = 2 then 0x0805 else 0x0806) .degraded
        else s
      let r := runOf s.svc.runs j
      let s := s.putRun { r with line := run, lineBad := verdict != 1 }
      (s.judgeOutput j .none_ (verdict != 1)
        (verdict != 1 && decide (s.get D.ls_fail_count l ≤ run)))

/-- LS_PERIOD_END: a supervision period of a line ends; in a pair the ACTIVE declares once its
partner has acknowledged (R428, R425, R543). -/
def execLsPeriodEnd (l : Fin 16) (s : State) : Outcome State Fault Refusal :=
  .next (s.heldValues (.line l.val) (fun t => t.statusEntry (t.get D.ls_output l.val)) fun t => t.linePeriod l.val)

/-- LS_LEARN: the command ls_learn of a line (R428). -/
def execLsLearn (l : Fin 16) (s : State) : Outcome State Fault Refusal :=
  .next (s.putLine { lineOf s.svc.lines l.val with learn := true })

/-- A SUSPECT output that neither Proof nor line supervision tests any more is OK again
(R425). -/
def State.proofRelease (s : State) : State :=
  s.render.marks.foldl (fun t m =>
    if m.suspect && !m.failed && !s.getB D.pf_enable m.out &&
        !s.supervised.any fun l => s.get D.ls_output l == m.out then
      (t.modMark m.out fun x => { x with suspect := false }).putRun { out := m.out }
    else t) s

end Sys2Proof.Machine
end

