-- ==== Sys2Proof/Machine/Services.lean ====
section
/-! DEFINITION. The venue services (chapter 9): clip voices, ambient trackers, meters, silence
and amplifier standby. -/

namespace Sys2Proof.Machine

open Sys2Proof Host

/-! ### NAND stores -/

/-- Write the BLOB in force of an object to NAND, whole (R313, R397, R423). -/
def State.storeBlob (s : State) (o : Obj) (i : Nat) : State :=
  { s with nand := { s.nand with store := blobPut s.nand.store (s.blob o i) } }

/-- The bytes of persisted clips and Etcher sets (R397). -/
def State.storeBytes (s : State) : Nat :=
  s.nand.store.foldl (fun a b =>
    if (D.clip_blob.locate b.addr).isSome || (D.etch_taps.locate b.addr).isSome then
      a + b.data.length else a) 0

/-- ETCH_PERSIST: an applied Etcher set is written to the clip store (R313). -/
def execEtchPersist (j : Fin 1024) (s : State) : Outcome State Fault Refusal :=
  let t := s.storeBlob D.etch_taps j.val
  .next (t.set D.etch_persist_bytes (t.nand.store.foldl (fun a b =>
    if (D.etch_taps.locate b.addr).isSome then a + b.data.length else a) 0))

/-- CLIP_PERSIST: a committed clip is written to the clip store (R397). -/
def execClipPersist (n : Fin 1024) (s : State) : Outcome State Fault Refusal :=
  .next (s.storeBlob D.clip_blob n.val)

/-- PF_REF_PERSIST: a reference is written to the reserve region (R423). -/
def execPfRefPersist (j : Fin 1024) (s : State) : Outcome State Fault Refusal :=
  .next (s.storeBlob D.pf_ref j.val)

/-- CLIP_LOAD_DONE: a persisted clip has been copied into DRAM (R398). -/
def execClipLoadDone (n : Fin 1024) (s : State) : Outcome State Fault Refusal :=
  let n := n.val
  if s.get D.clip_state n = 1 || s.get D.clip_state n = 2 then .next (s.set D.clip_state 3 n)
  else .next s

/-! ### Voices (R399–R402) -/

def voiceOf : List VoiceRun → Nat → Option VoiceRun
  | [], _ => none
  | x :: l, v => if x.voice = v then some x else voiceOf l v

/-- Put a voice's run and its objects. -/
def State.putVoice (s : State) (x : VoiceRun) (st : Nat) : State :=
  (({ s with svc := { s.svc with
    voices := x :: s.svc.voices.filter fun y => y.voice != x.voice } }).set
    D.voice_state st x.voice).set D.voice_pos x.pos x.voice

/-- A voice is IDLE from here on. -/
def State.idleVoice (s : State) (v : Nat) : State :=
  (({ s with svc := { s.svc with
    voices := s.svc.voices.filter fun y => y.voice != v } }).set D.voice_state 0 v).set
    D.voice_pos 0 v

/-- A voice stops at this boundary: its block fades out, and it is IDLE from the next
(R400). A PAUSED voice carries nothing and is IDLE at once. -/
def State.stopVoice (s : State) (v : Nat) : State :=
  match voiceOf s.svc.voices v with
  | none => s
  | some x => if s.get D.voice_state v = 2 then s.idleVoice v else s.putVoice { x with fade := .stop } 1

/-- The samples of a clip (R397). -/
def State.clipLen (s : State) (n : Nat) : Nat := (s.blob D.clip_blob n).data.length / 3

/-- voice_cmd START, or a CLIP_START action, at a boundary (R399, R401). -/
def State.startVoice (s : State) (v : Nat) : State :=
  let n := s.get D.voice_clip v
  if s.clipLen n = 0 || s.get D.clip_rate n != s.get D.render_rate then
    (s.stopVoice v).error 0x52 v 0x0704 .warn
  else
    let x : VoiceRun := ⟨v, n, 0, 0, .none_, false⟩
    if s.get D.voice_bind v = 1 && !s.showRuns then s.putVoice x 2 else s.putVoice x 1

/-- VOICE_START: START of a voice at its boundary, the present one (R399). -/
def execVoiceStart (v : Fin 64) (s : State) : Outcome State Fault Refusal :=
  .next (s.startVoice v.val)

/-- VOICE_STOP: STOP of a voice at its boundary, the present one (R400). -/
def execVoiceStop (v : Fin 64) (s : State) : Outcome State Fault Refusal :=
  .next (s.stopVoice v.val)

/-- VOICE_LOOP_END: the last sample of a voice's last loop has been played (R399). -/
def execVoiceLoopEnd (v : Fin 64) (s : State) : Outcome State Fault Refusal :=
  match voiceOf s.svc.voices v.val with
  | some x => if x.ended then .next (s.idleVoice v.val) else .next s
  | none => .next s

/-- Pause and resume of the voices bound to the show (R401, R402), at a boundary at which
show time runs or does not. -/
def State.bindVoice (s : State) (x : VoiceRun) : State :=
  let st := s.get D.voice_state x.voice
  let show_ := s.get D.voice_bind x.voice == 1
  if st = 1 && show_ && !s.showRuns && x.fade != .stop then s.putVoice { x with fade := .pause } 1
  else if st = 2 && (s.showRuns || !show_) then s.putVoice { x with fade := .rise } 1
  else s

/-- One sample of a clip: the byte triple as F32 (R397). -/
def clipSample (d : List Byte) (n : Nat) : F32 :=
  F32.ofScaled (toSigned 24 (beNat ((d.drop (3 * n)).take 3))) (-23)

/-- The samples a voice plays from a position: samples, the next position, the loops done and
whether the last loop has ended (R399). -/
def playFrom (d : List Byte) (len loops : Nat) :
    Nat → Nat → Nat → Bool → List F32 × Nat × Nat × Bool
  | 0, pos, done, ended => ([], pos, done, ended)
  | n + 1, pos, done, ended =>
    if ended then
      (let r := playFrom d len loops n pos done ended
       (F32.zero :: r.1, r.2))
    else
      let x := clipSample d pos
      let wrap := decide (len ≤ pos + 1)
      let done' := if wrap then done + 1 else done
      let r := playFrom d len loops n (if wrap then 0 else pos + 1) done'
        (wrap && loops != 0 && decide (loops ≤ done'))
      (x :: r.1, r.2)

/-- Block `k` of a voice (R399–R401). -/
def State.voiceBlock (s : State) (k : Nat) (x : VoiceRun) : State :=
  let v := x.voice
  let l := s.blockLen
  if s.get D.voice_state v = 2 then s
  else
    let b := s.blob D.clip_blob x.clip
    let loaded := s.get D.clip_state x.clip == 3
    let r := playFrom b.data (s.clipLen x.clip) (s.get D.voice_loops v) l x.pos x.loops false
    let raw := if loaded then r.1 else List.replicate l F32.zero
    let ys := match x.fade with
      | .none_ => raw
      | .rise => mapPos (fun p y => F32.mul y (fadeUp p l)) 0 raw
      | _ => mapPos (fun p y => F32.mul y (fadeDown p l)) 0 raw
    let s := s.putInput ⟨3, v, k, (List.range l).zip ys, bitIf (!loaded) stConcealed, true⟩
    let s := if loaded then s else s.localEvent
    let x' : VoiceRun := { x with
      pos := r.2.1, loops := r.2.2.1, ended := r.2.2.2, fade := .none_ }
    match x.fade with
    | .stop => s.putVoice { x' with ended := true } 1
    | .pause => s.putVoice { x' with fade := .pause } 1
    | _ => s.putVoice x' 1

/-- What the block before a boundary ended, ahead of step 1: a voice whose last sample has played is
IDLE, and one whose pause has played out is PAUSED (R399–R401). -/
def State.endVoices (s : State) : State :=
  s.svc.voices.foldl (fun t x =>
    if x.ended then t.idleVoice x.voice
    else if x.fade = .pause then t.putVoice { x with fade := .none_ } 2 else t) s

/-- Pause and resume of the voices at a boundary, ahead of the arbiter (R401, R402). -/
def State.bindVoices (s : State) : State := s.svc.voices.foldl (fun t x => t.bindVoice x) s

/-- The voices play block `k`. -/
def State.voicesBoundary (s : State) (k : Nat) : State :=
  s.svc.voices.foldl (fun t x => t.voiceBlock k x) s

/-! ### Ambient trackers (R392–R395) -/

def trackerOf : List Tracker → Nat → Tracker
  | [], n => { tracker := n }
  | x :: l, n => if x.tracker = n then x else trackerOf l n

def State.putTracker (s : State) (x : Tracker) : State :=
  { s with svc := { s.svc with
    trackers := x :: s.svc.trackers.filter fun y => y.tracker != x.tracker } }

/-- The trackers measured here (R392): those this member owns; of a pair, the ACTIVE unit. -/
def State.ownTrackers (s : State) : List Nat :=
  let me := s.get D.fab_node_addr
  if me = 0 || (s.get D.twin_role != 0 && s.get D.twin_role != 1) then []
  else (s.instancesWhere D.amb_owner (· == me)).filter (· < 256)

/-- Measure block `k` on a tracker's microphone (R393). -/
def State.trackBlock (s : State) (k n : Nat) : State :=
  let x := trackerOf s.svc.trackers n
  let b := s.channelBlock 2 (s.get D.amb_mic_ch n) k
  let fc := hpfCorner (s.get D.amb_mic_hpf n)
  let r := if fc = 0 then (b.1, F32.zero, F32.zero) else biquadRun (hpfCoef fc s.fs) x.s1 x.s2 b.1
  let bad := b.2 &&& (stConcealed ||| stUnsettled) != 0
  s.putTracker { x with
    s1 := r.2.1, s2 := r.2.2
    sum := r.1.foldl (fun a y => F32.add a (F32.mul y y)) x.sum
    samples := x.samples + r.1.length
    blocks := x.blocks + 1
    spoiled := x.spoiled || bad }

def State.trackAll (s : State) (k : Nat) : State :=
  s.ownTrackers.foldl (fun t n => t.trackBlock k n) s

/-- Insert a level in ascending order. -/
def insertLevel (x : F32) : List F32 → List F32
  | [] => [x]
  | y :: l => if F32.lt x y then x :: y :: l else y :: insertLevel x l

/-- E of R393 from the levels of the last windows. -/
def percentile (levels : List F32) (pct : Nat) : F32 :=
  let l := levels.foldr insertLevel []
  l.getD (pct * (l.length - 1) / 100) 0xC3480000#32

/-- AMB_WINDOW_END: a tracker's window ends; the owner forms its estimate and, when R394
calls for it, asks for a publication, which the next seal originates (R395). -/
def execAmbWindowEnd (n : Fin 256) (s : State) : Outcome State Fault Refusal :=
  let n := n.val
  if !s.ownTrackers.contains n then .next s
  else
    let x := trackerOf s.svc.trackers n
    let fresh : Tracker := { x with
      sum := F32.zero, samples := 0, blocks := 0, spoiled := false }
    if x.spoiled || x.samples = 0 then .next (s.putTracker fresh)
    else
      let lv := level10 (F32.div x.sum (F32.ofInt x.samples))
      let levels := (lv :: x.levels).take (s.get D.amb_windows n)
      let e := percentile levels (s.get D.amb_percentile n)
      let b := F32.min (F32.max (F32.mul (s.getF D.amb_slope n) (F32.sub e (s.getF D.amb_ref n)))
        F32.zero) (stepsDb (s.getI D.amb_max n))
      let steps := (F32.mul b 0x42800000#32).toInt
      let moved := decide ((s.get D.amb_hysteresis n : Int) ≤ (steps - s.getI D.amb_gain n).natAbs)
      let waited := match x.published with
        | none => true
        | some k => decide (s.get D.amb_interval n ≤ s.blockNow - k)
      let s := (s.putTracker { fresh with
        levels := levels
        published := if moved && waited then some s.blockNow else x.published }).setF
        D.amb_estimate e n
      if moved && waited then
        .next { s with svc := { s.svc with publish := s.svc.publish ++ [(n, steps.toNat)] } }
      else .next s

/-! ### Meters and silence (R403, R404) -/

def meterOf : List Meter → Nat → Meter
  | [], k => { key := k }
  | x :: l, k => if x.key = k then x else meterOf l k

/-- One block of a meter: key, samples (R403). -/
def State.meterBlock (s : State) (key : Nat) (x : List F32) : State :=
  let m := meterOf s.svc.meters key
  let pk := level20 (peakOf x)
  let fresh := F32.le m.held pk
  let held :=
    if fresh then pk
    else if m.timer = 0 then F32.sub m.held (F32.div (s.getF D.mtr_decay) 0x453B8000#32)
    else m.held
  let timer := if fresh then s.get D.mtr_hold_time * 3 else m.timer - 1
  let alpha := onePole (F32.mul 0x453B8000#32 (s.getF D.mtr_rms_tc))
  let ms := F32.add m.ms (F32.mul alpha (F32.sub (meanSquare x) m.ms))
  let overs := (x.filter fun y => F32.le F32.one y.abs).length
  let s := { s with svc := { s.svc with
    meters := ⟨key, held, timer, ms⟩ :: s.svc.meters.filter fun y => y.key != key } }
  let s := ((s.setF D.mtr_peak pk key).setF D.mtr_hold held key).setF D.mtr_rms (level10 ms) key
  if overs = 0 then s else s.count D.mtr_overs key overs

/-- Every meter is cleared (R403). -/
def State.clearMeters (s : State) : State :=
  let keys := s.svc.meters.map (·.key)
  let t : State := { s with svc := { s.svc with meters := [], meterClear := false } }
  keys.foldl (fun t k => (((t.unset D.mtr_peak k).unset D.mtr_hold k).unset D.mtr_rms k).unset
    D.mtr_overs k) t

/-- Blocks without a break in which an output carried SILENT. -/
def silRunOf : List SilRun → Nat → Nat
  | [], _ => 0
  | x :: l, j => if x.out = j then x.run else silRunOf l j

/-- The silence state of an output after a block (R404). -/
def State.silenceBlock (s : State) (j : Nat) (silent loud : Bool) : State :=
  let run := if silent then silRunOf s.svc.silence j + 1 else 0
  let t : State := { s with svc := { s.svc with
    silence := ⟨j, run⟩ :: s.svc.silence.filter fun x => x.out != j } }
  if t.get D.sil_state j = 1 then (if loud then t.set D.sil_state 0 j else t)
  else if s.get D.sil_time * 3000 ≤ run then t.set D.sil_state 1 j
  else t

/-- SILENCE_TIMEOUT: an output has carried SILENT for sil_time (R404). -/
def execSilenceTimeout (j : Fin 1024) (s : State) : Outcome State Fault Refusal :=
  .next (s.set D.sil_state 1 j.val)

/-! ### Standby (R405) -/

/-- The outputs of a standby group. -/
def State.groupOutputs (s : State) (g : Nat) : List Nat :=
  let z := s.get D.sb_zone g
  s.liveOutputs.filter fun j => (List.range 256).any fun w => s.inZone j w && s.covers z w

/-- An output has a sample at FEED at or above the waking level. -/
def State.feedLoud (s : State) (j : Nat) : Bool :=
  match s.render.chains.find? (·.out = j) with
  | none => false
  | some c =>
    let th := exactGain (s.getI D.sil_threshold j + s.getI D.sil_hyst)
    (c.taps6.headD []).any fun x => F32.le th (F32.abs x)

/-- A group is in STANDBY at this boundary; in QUIET it always is (R405, R616). -/
def State.groupStandby (s : State) (g : Nat) : Bool :=
  let outs := s.groupOutputs g
  let z := s.get D.sb_zone g
  s.getB D.sb_enable g && (s.get D.pw_state == 1 ||
    (outs.all (fun j => s.get D.sil_state j == 1 && !s.feedLoud j) &&
      !(s.svc.active.any fun a => s.overlaps (s.get D.obj_zone a.1) z) &&
      s.get D.pf_window_state == 0))

/-- The standby groups at a boundary; the outputs of one in STANDBY spoil the Proof window (R419). -/
def State.standbyBoundary (s : State) : State :=
  (List.range 8).foldl (fun t g =>
    let st := s.groupStandby g
    let old := s.get D.sb_state g == 1
    let outs := t.groupOutputs g
    let t := if st = old then t else t.setB D.sb_state st g
    if st then t.spoilOutputs fun j => outs.contains j else t) s

/-- The level of a GPIO that a standby group drives; none when no group drives it (R405). -/
def State.standbyPin (s : State) (pin : Nat) : Option Bool :=
  ((List.range 8).find? fun g => s.getB D.sb_enable g && s.get D.sb_pin g == pin + 1).map fun g =>
    (s.get D.sb_level g == 0) == (s.get D.sb_state g == 1)

end Sys2Proof.Machine
end

