-- ==== Sys2Proof/Machine/Render.lean ====
section
/-! DEFINITION. The render (R226, R258–R282, R291–R330): the record a boundary makes, the
slot that renders it, the blocks that leave at a boundary, and the commands of the slot. -/

namespace Sys2Proof.Machine

open Sys2Proof Host

/-! ### The record of a boundary -/

/-- An entry of a record's gain list (R372). -/
def gainBytes (e : Nat × F32) : List Byte := beBytes 2 e.1 ++ beBytes 2 0 ++ beBytes 4 e.2.toNat

/-- The 364 bytes of a record before ext_first (R372). -/
def recordBytes (o : ObjEnd) (phase : Nat) (floor degraded : Bool) (status : Nat) : List Byte :=
  let flags := o.mode + (if o.air then 8 else 0) + (if o.window then 16 else 0) + o.zone * 256 +
    (if phase = 1 then 2 ^ 17 else 0) + (if phase = 2 then 2 ^ 18 else 0) +
    (if floor then 2 ^ 19 else 0) + (if degraded then 2 ^ 20 else 0)
  let first := o.v.take 39
  beBytes 12 o.s.pack ++ beBytes 12 o.u.pack ++ beBytes 4 o.g.toNat ++ beBytes 4 o.to_.toNat ++
    beBytes 4 o.rref.toNat ++ beBytes 4 o.rnear.toNat ++ beBytes 4 o.beta.toNat ++
    beBytes 4 flags ++ beBytes 2 status ++ beBytes 2 o.v.length ++ first.flatMap gainBytes ++
    List.replicate (8 * (39 - first.length)) 0#8

/-- The pair has formed (R542). -/
def State.paired (s : State) : Bool := (s.get D.twin_health).testBit 0

/-- The record of one object (R226, R264). -/
def State.objRec (s : State) (outs : List Nat) (st : ObjStep) (g : Ingest) : ObjRec :=
  let i := st.now.obj
  let shed := s.render.shed.find? (·.obj = i)
  let o := s.objEnd i st.now.mode st.now.pos
  let mine := match shed with
    | some e => outs.filter e.keep.contains
    | none => outs
  let pairs := mine.map fun j =>
    let e := s.pairEnd o j
    if st.phase = 1 then { e with g := F32.zero, limited := false, clamped := false, none_ := !s.outServes j } else e
  { obj := i, kind := st.kind, ch := st.ch, phase := st.phase, floor := st.floor
    fast := s.getB D.pres_fast_path && s.getB D.obj_local_only i && st.kind == 2
    shed := shed.isSome
    late := s.render.lateObjs.contains i
    c0 := g.c0, c1 := g.c, hpf := s.get D.in_hpf i
    preempted := s.svc.preempted.contains i
    pairs := pairs
    raw := if s.paired then
        recordBytes o st.phase st.floor (s.svc.preempted.contains i) (s.get D.obj_status i)
      else []
    ext := if s.paired then (o.v.drop 39).flatMap gainBytes else [] }

/-- The objects a boundary looks at: those that are not OFF and those still rendered. -/
def State.sceneIds (s : State) : List Nat :=
  let l := s.liveObjects
  l ++ (s.render.objs.map (·.obj)).filter fun i => !l.contains i

/-- The outputs of type NONE that name a destination: it carries +0.0 (R325, R328). -/
def State.idleOutputs (s : State) (outs : List Nat) : List Nat :=
  let l := s.instancesWhere D.out_dest_a_kind (· != 0) ++ s.instancesWhere D.out_dest_b_kind (· != 0)
  l.eraseDups.filter fun j => !outs.contains j

/-- The scene at boundary `k`, after the arbiter: objects move, and the record of block `k` is
made (R226, R264). -/
def State.sceneBoundary (s : State) (k : Nat) (jumped : Bool) : State :=
  let s := if s.render.loadDirty then
      ({ s with render := { s.render with loadDirty := false } }).recomputeShed
    else s
  let steps := s.sceneIds.filterMap fun i => s.objStep k jumped i (objNowOf s.render.objs i)
  let outs := s.liveOutputs
  let both := steps.map fun st => (st, s.ingestNext st.now.obj st.fresh)
  let r : BlockRec :=
    { block := k, interp := s.interpK, ceiling := exactGain (s.getI D.welt_out_ceiling)
      objs := both.map fun e => s.objRec outs e.1 e.2
      outs := outs.map s.outRec
      idle := (s.idleOutputs outs).flatMap fun j => (s.outDests j).map fun d => (d, j, s.get D.out_route_xfade j) }
  let t := both.foldl (fun t e =>
    let i := e.1.now.obj
    let p := match objNowOf s.render.objs i with
      | some o => o.pos
      | none => s.objTarget i (s.showTime k)
    (t.set D.obj_pos_now p.pack i).setI D.in_gain_now e.2.c i) s
  { t with render := { t.render with
    objs := steps.map (·.now)
    ingest := both.map (·.2)
    recs := (r :: t.render.recs).take (s.presOffset + 3)
    dirty := [], lateObjs := [], lateOuts := [] } }

/-! ### Ingest and history (R258, R259, R389) -/

/-- A block of an object through ingest. -/
structure IngestBlock where
  x : List F32
  s1 : F32
  s2 : F32
  nonfinite : Nat

/-- The steps of R389 over a block. -/
def ingestBlock (fs l : Nat) (r : ObjRec) (g : Ingest) (x : List F32) : IngestBlock :=
  let bad := (x.filter fun y => !y.isFinite).length
  let x1 := x.map F32.finiteOr0
  let fc := hpfCorner r.hpf
  let q := if fc = 0 then (x1, F32.zero, F32.zero)
    else biquadRun (hpfCoef fc fs) (if g.on then g.s1 else F32.zero)
      (if g.on then g.s2 else F32.zero) x1
  let y := if r.c0 = 0 ∧ r.c1 = 0 then q.1
    else
      let a := linearGain r.c0
      let b := linearGain r.c1
      mapPos (fun p v => F32.mul v (rampAt a b p l)) 0 q.1
  ⟨y, q.2.1, q.2.2, bad⟩

def ringOf : List Ring → Nat → Ring
  | [], i => ⟨i, [], 0⟩
  | r :: l, i => if r.obj = i then r else ringOf l i

/-! ### The words of the Welt's memories (R258, R261, R263) -/

/-- The object whose ring holds a word of the Object History Memory, and how far before the block whose first sample has
index `n0` the older of its samples lies. DESIGN CHOICE (log entry 118): the tiles follow one another, in a tile its
slots, and in a ring the sample of index n lies at n mod H. -/
def State.historyPlace (s : State) (n0 w : Nat) : Nat × Nat :=
  let h := s.ringLen
  let back := (n0 % h + h - 2 * w % h) % h
  (w % 262144 / (h / 2) * 16 + w / 262144, if back = 0 then h else back)

/-- The pair whose entry holds a word of the pair memory: 16 bytes each, the tiles one after another, in a tile its slots
and in a slot the outputs. DESIGN CHOICE (log entry 118). -/
def State.pairPlace (s : State) (w : Nat) : Nat × Nat :=
  let n := if s.get D.render_rate = 1 then 512 else 1024
  (w % 131072 / 2 / n * 16 + w / 131072, w % 131072 / 2 % n)

/-- The uncorrectable words of a memory of the Welt. -/
def State.badWords (s : State) (m : MemUnit) : List Nat :=
  (s.mem.badUnit.filter (·.1 = m)).map (·.2)

/-- Read the word that holds the sample `i` places before the block as +0.0 (R263): its two
samples share an even index of the ring. -/
def zeroWord (l : Nat) (r : Ring) (i : Nat) : Ring :=
  let put (r : Ring) (i : Nat) : Ring :=
    let b := modAt r.blocks ((i - 1) / l) fun b => modAt b (l - 1 - (i - 1) % l) fun _ => F32.zero
    if i = 0 then r else { r with blocks := b }
  let other := if i % 2 = 0 then i - 1 else i + 1
  put (put r i) other

/-! ### Objects of a slot -/

/-- One object in a slot: its record, its block, its history and its pairs' results. -/
structure SlotObj where
  rec_ : ObjRec
  x : List F32
  word : Nat
  ring : Ring
  ingest : Ingest
  nonfinite : Nat
  /-- The record was not published: the previous one is rendered (R373). -/
  missing : Bool

structure SlotPair where
  mem : PairMem
  out : PairOut
  /-- G_s or G_e is not zero (R281). -/
  reach : Bool
  clamped : Bool
  limited : Bool

def pairMemOf : List PairMem → Nat → Nat → Option PairMem
  | [], _, _ => none
  | p :: l, i, j => if p.obj = i && p.out = j then some p else pairMemOf l i j

/-- The ends of a pair's block (R228, R262, R272). A pair that R235 silences has a gain of zero at both. -/
def pairBlock (phase : Nat) (m : Option PairMem) (e : PairEnd) : PairBlock × F32 × Bool :=
  match m with
  | none => (⟨e.d, e.d, F32.zero, e.g, e.h, e.h⟩, F32.zero, e.clamped)
  | some m =>
    let m := if e.none_ then { m with g := F32.zero } else m
    if phase = 1 then (⟨m.d, m.d, m.g, F32.zero, m.h, m.h⟩, m.l, m.clamped)
    else if phase = 2 then (⟨e.d, e.d, F32.zero, e.g, e.h, e.h⟩, F32.zero, e.clamped)
    else (⟨m.d, e.d, m.g, e.g, m.h, e.h⟩, m.l, m.clamped || e.clamped)

/-- A pair reads the word whose samples lie `i` and `i − 1` places before the block, of a ring that holds `held` samples.
-/
def pairReads (kk l h held : Nat) (b : PairBlock) (i : Nat) : Bool :=
  decide (i ≤ held + 1) && (List.range l).any fun p =>
    let first := (interpPos kk l h p (delayAt b.ds b.de p l)).1 - (p : Int)
    decide (first ≤ i) && decide ((i : Int) ≤ first + kk)

def kappaOf (l : Nat) : F32 := if l = 32 then 0x3E6BDCCF#32 else 0x3ED0B2EA#32

/-- Run one pair (R272–R278). -/
def slotPair (kk l h : Nat) (o : SlotObj) (m : Option PairMem) (e : PairEnd) : SlotPair :=
  let b := pairBlock o.rec_.phase m e
  let tap (q : Int) : F32 := tapeAt o.x o.ring.blocks l (min o.ring.since h) q
  let r := pairRun kk l h (kappaOf l) b.1 tap b.2.1
  ⟨⟨o.rec_.obj, e.out, b.1.de, b.1.ge, b.1.he, r.l, if o.rec_.phase = 1 then b.2.2 else e.clamped⟩,
    r, !b.1.gs.isZero || !b.1.ge.isZero, b.2.2, e.limited⟩

/-- The record of a block. -/
def recOf : List BlockRec → Nat → Option BlockRec
  | [], _ => none
  | r :: l, k => if r.block = k then some r else recOf l k

/-- The record whose outputs, ceiling and routes block `m` uses: that of the presentation offset
before it, or, in the first blocks after a start, the oldest held (log entry 41). -/
def State.slotBase (s : State) (m : Nat) : Option BlockRec :=
  match recOf s.render.recs (m - s.presOffset) with
  | some r => some r
  | none => s.render.recs.getLast?

/-- The objects rendered from a record: of block `k`, fast or not. -/
def State.slotRecs (s : State) (k : Nat) (fast : Bool) (missing : List Nat) :
    List (ObjRec × Nat × Bool) :=
  match recOf s.render.recs k with
  | none => []
  | some r =>
    (r.objs.filter (·.fast = fast)).filterMap fun o =>
      if missing.contains (o.obj % 16) then
        match recOf s.render.recs (k - 1) with
        | none => none
        | some q =>
          match q.objs.find? (·.obj = o.obj) with
          | none => none
          | some p => some ({ o with phase := 0, floor := false, pairs := p.pairs }, k, true)
      else some (o, k, false)

/-- An object's block through ingest, with its word (R16, R258, R263, R388). -/
def State.slotObj (s : State) (ohm : List (Nat × Nat)) (e : ObjRec × Nat × Bool) : SlotObj :=
  let o := e.1
  let l := s.blockLen
  let src := if o.kind = 0 then (List.replicate l F32.zero, 0) else s.channelBlock o.kind o.ch e.2.1
  let g := (ingestOf s.render.ingest o.obj).getD { obj := o.obj, c0 := 0, c := 0 }
  let q := ingestBlock s.fs l o g src.1
  let hits := ohm.filter (·.1 = o.obj)
  let ring0 := ringOf s.render.rings o.obj
  let ring1 := hits.foldl (fun r h => zeroWord l r h.2) ring0
  let ring := if o.floor then { ring1 with since := 0 } else ring1
  let th := exactGain (s.getI D.sil_obj_threshold)
  let word := (src.2 &&& (stUnsettled ||| stConcealed ||| stLate)) |||
    bitIf (q.nonfinite != 0 || !hits.isEmpty) stConcealed ||| bitIf o.late stLate |||
    bitIf o.shed stShed ||| bitIf (o.preempted || e.2.2) stDegraded |||
    bitIf (q.x.all fun y => F32.lt y.abs th) stSilent
  ⟨o, q.x, word, ring, { g with s1 := q.s1, s2 := q.s2, on := o.hpf != 0, last := q.x, word := word },
    q.nonfinite, e.2.2⟩

/-- The uncorrectable history words that the pairs of a block's objects read: object and distance (R263). -/
def State.historyErrors (s : State) (kk : ObjRec → Nat) (mems : List PairMem) (recs : List (ObjRec × Nat × Bool)) :
    List (Nat × Nat) :=
  let words := s.badWords .history
  recs.flatMap fun e =>
    let o := e.1
    let held := if o.floor then 0 else min (ringOf s.render.rings o.obj).since s.ringLen
    (words.map (s.historyPlace (e.2.1 * s.blockLen))).filter fun q =>
      q.1 == o.obj && o.pairs.any fun x =>
        pairReads (kk o) s.blockLen s.ringLen held (pairBlock o.phase (pairMemOf mems o.obj x.out) x).1 q.2

/-- The uncorrectable words of the pair memory that a block reads: object and output (R263). -/
def State.pairErrors (s : State) (recs : List (ObjRec × Nat × Bool)) : List (Nat × Nat) :=
  ((s.badWords .pairs).map s.pairPlace).filter fun q =>
    recs.any fun e => e.1.obj == q.1 && e.1.pairs.any fun x => x.out == q.2

/-- A block writes its samples and its pairs' entries: the words it writes are correct again (R261, R565). -/
def State.rewrite (s : State) (objs : List SlotObj) (k : Nat → Nat) (pairs : List (Nat × Nat)) : State :=
  let written (m : MemUnit) (w : Nat) : Bool :=
    match m with
    | .pairs => pairs.contains (s.pairPlace w)
    | .history => objs.any fun o =>
        let i := o.rec_.obj
        let q := s.historyPlace (k i * s.blockLen + s.blockLen) w
        q.1 == i && decide (q.2 ≤ s.blockLen)
    | _ => false
  { s with mem := { s.mem with badUnit := s.mem.badUnit.filter fun e => !written e.1 e.2 } }

/-- The feed of one output (R280–R282). -/
structure Feed where
  out : Nat
  x : List F32
  word : Nat
  clamped : Bool

/-- Sum the pairs of an output and store its feed. -/
def feedOf (l : Nat) (ceiling : F32) (j : Nat) (late shed degraded : Bool)
    (ps : List (SlotObj × SlotPair)) : Feed :=
  let st := (List.range l).map fun p =>
    ceilStore ceiling (ps.foldl (fun (a : Accum) e => a.addRaw (e.2.out.terms.getD p 0) 0) {}).store
  let reached := ps.filter fun e => e.2.reach
  let up := reached.foldl (fun w e => w ||| e.1.word) 0
  let clamped := ps.any fun e => e.2.clamped
  let sat := st.any (·.2) || ps.any fun e => e.2.out.sat
  ⟨j, st.map (·.1),
    (up &&& (stUnsettled ||| stConcealed ||| stLate)) ||| bitIf late stLate ||| bitIf sat stSat |||
    bitIf shed stShed |||
    bitIf (clamped || degraded || reached.any fun e => e.1.missing) stDegraded, clamped⟩

/-- The chain of an output, at rest when it has none (R292). -/
def chainOf (l : List Chain) (r : OutRec) : Chain := (l.find? (·.out = r.out)).getD (Chain.start r)

/-- A feed block that R266 holds (R297). -/
def heldFeed (l : Nat) (c : Chain) (word : Nat) : List F32 × Nat :=
  (List.replicate l c.lastFeed, dropBits word stSat ||| stHeld)

/-- What uncorrectable words of DRAM do to block `m` of an output: those of its delay line read as +0.0, those of its part
of the ETCHER region leave the samples after the Etcher open, and the feed carries CONCEALED (R567; log entry 129). -/
def State.readDram (s : State) (m : Nat) (r : OutRec) (c : Chain) : Chain :=
  if s.mem.bad.isEmpty then c
  else
    let l := s.blockLen
    let ages := s.bulkBad m r.out
    let c1 := c.zeroLine l ages
    let hit := ages.any fun a => (c1.retune (logL l) r).readsLine l a
    let part := s.etchPart r.out
    let etch := s.badIn part.1 part.2
    { c1 with
      mark := bitIf (hit || etch) stConcealed
      etchBad := if etch then
          some ((List.range l).map fun p => F32.finiteOr0 (Config.freeSample s.free (l * r.out + p)))
        else none }

/-- The records of the words met, and the words that the block writes: those of its place in each delay line, and those of
the Etcher's part (R565, R567). -/
def State.settleDram (s : State) (m : Nat) (outs : List OutRec) (old : List Chain) : State :=
  if s.mem.bad.isEmpty then s
  else
    let l := s.blockLen
    let t := outs.foldl (fun t r =>
      let c := old.find? (·.out = r.out)
      let part := s.etchPart r.out
      let etch := s.badIn part.1 part.2
      let bulk := c.any fun c =>
        (s.bulkBad m r.out).any fun a => (c.retune (logL l) r).readsLine l a
      let t := if bulk then t.error 0x40 r.out 0x0202 .degraded else t
      if etch then t.error 0x41 r.out 0x0202 .degraded else t) s
    let written (w : Nat) : Bool := outs.any fun r =>
      let a := 0xA0000000 + r.out * s.bulkBytes + 4 * (m * l % (2 * s.fs))
      let part := s.etchPart r.out
      (decide (a ≤ 8 * w) && decide (8 * w + 8 ≤ a + 4 * l)) ||
        (decide (part.1 ≤ 8 * w + 7) && decide (8 * w < part.1 + part.2))
    ({ t with mem := { t.mem with bad := t.mem.bad.filter fun w => !written w } } : State).pass

/-- The chains of a slot over their feeds. -/
def State.runChains (s : State) (m : Nat) (outs : List OutRec) (feeds : List Feed) : State :=
  let l := s.blockLen
  let old := s.render.chains.map fun c =>
    match outs.find? (·.out = c.out) with
    | some r => s.readDram m r c
    | none => c
  let res := outs.map fun r =>
    let c := chainOf old r
    let f := (feeds.find? (·.out = r.out)).getD ⟨r.out, List.replicate l F32.zero, 0, false⟩
    let held := s.render.weltHeld.contains (m, r.out)
    let q := if held then heldFeed l c f.word else (f.x, f.word)
    let o := chainBlock l m r c q.1 q.2
    if held then { o with lastFeed := c.lastFeed } else o
  ({ s with render := { s.render with chains := res, before := old } } : State).settleDram m outs s.render.chains

/-- The records of a tile in ascending object, each with its extension entries (R551). -/
def recordsOf : List ObjRec → Nat → List Byte
  | [], _ => []
  | o :: l, first =>
    let n := o.ext.length / 8
    o.raw ++ beBytes 4 (if n = 0 then 0 else first) ++ List.replicate 16 0#8 ++ o.ext ++
      recordsOf l (first + n)

/-- An accumulator as its ten bytes (R551). -/
def accumBytes (a : Accum) : List Byte := beBytes 9 (ofSigned 72 a.a) ++ beBytes 1 (ofSigned 8 a.w)

/-- The partial accumulators of a tile in output order (R551). -/
def partialBytes (l : Nat) (outs : List Nat) (ps : List (Nat × PairOut)) : List Byte :=
  outs.flatMap fun j =>
    let mine := ps.filter fun e => e.1 == j
    (List.range l).flatMap fun p =>
      accumBytes (mine.foldl (fun (a : Accum) e => a.addRaw (e.2.terms.getD p 0) 0) {})

/-- K of the blocks that an object is rendered in: of the record of the presentation offset before, or, on the fast path,
of the record of the block itself (R180, R273). -/
def State.slotK (s : State) (m : Nat) (o : ObjRec) : Nat :=
  let r := if o.fast then (match recOf s.render.recs (m - 2) with
      | some r => some r
      | none => s.slotBase m) else s.slotBase m
  match r with
  | some r => r.interp
  | none => s.interpK

/-- The render slot that follows the last boundary (R257–R282, R291–R323). -/
def State.renderSlot (s : State) (missing : List Nat) (ohm pairErr : List (Nat × Nat)) : State :=
  let m := s.blockNow + 1
  let p := s.presOffset
  let l := s.blockLen
  let base := s.slotBase m
  let recs := s.slotRecs (m - p) false missing ++ s.slotRecs (m - 2) true missing
  let pairErr := (pairErr ++ s.pairErrors recs).eraseDups
  let mems := s.render.pairs.filter fun q => !pairErr.contains (q.obj, q.out)
  let ohm := (ohm ++ s.historyErrors (s.slotK m) mems recs).eraseDups
  let objs := recs.map (s.slotObj ohm)
  let outs := match base with
    | some r => r.outs
    | none => []
  let ids := outs.map (·.out)
  let run := objs.map fun o => (o, (o.rec_.pairs.filter fun e => ids.contains e.out).map fun e =>
    slotPair (s.slotK m o.rec_) l s.ringLen o (pairMemOf mems o.rec_.obj e.out) e)
  let feeds := match base with
    | none => []
    | some r => r.outs.map fun q =>
      let ps := run.flatMap fun e =>
        (e.2.filter fun x => x.mem.out == q.out).map fun x => (e.1, x)
      feedOf l r.ceiling q.out q.late
        (objs.any fun o => o.rec_.shed && !o.rec_.pairs.any fun e => e.out == q.out)
        (pairErr.any fun e => e.2 == q.out) ps
  let all := run.flatMap (·.2)
  let gl := (all.filter (·.limited)).length
  let pc := all.foldl (fun a x => a + x.out.clamps) 0
  let nf := all.foldl (fun a x => a + x.out.nonfinite) 0 + objs.foldl (fun a o => a + o.nonfinite) 0
  let t := ((s.count D.welt_gain_clamps 0 gl).count D.welt_product_clamps 0 pc).count
    D.welt_nonfinite 0 nf
  let t := feeds.foldl (fun t f =>
    if f.clamped then (t.count D.lst_clamps f.out).error 0x38 f.out 0x0501 .warn else t) t
  let t := ohm.foldl (fun t e => t.error 0x39 e.1 0x0203 .degraded) t
  let t := pairErr.foldl (fun t e => t.error 0x39 e.2 0x0204 .degraded) t
  let t := missing.foldl (fun t k => t.error 0x59 (0x0F00 + k) 0x0505 .warn) t
  let t := objs.foldl (fun t o => t.set D.obj_status o.word o.rec_.obj) t
  let t := if missing.isEmpty && ohm.isEmpty && pairErr.isEmpty then t else t.localEvent
  let t := if s.paired then
      (let ofTile (n : Nat) := run.filter fun e => e.1.rec_.obj % 16 == n
       let tiles := (List.range 16).map fun n => crc32 (partialBytes l ids
         ((ofTile n).flatMap fun e => e.2.map fun x => (x.mem.out, x.out)))
       let recs := (List.range 16).map fun n => crc32 (recordsOf ((ofTile n).map fun e => e.1.rec_) 0)
       { t with twin := { t.twin with slotTiles := tiles, slotRecords := recs } })
    else t
  let keep := s.ringLen / l + 1
  let rings := objs.map fun o =>
    (⟨o.rec_.obj, (o.x :: o.ring.blocks).take keep, min (o.ring.since + l) s.ringLen⟩ : Ring)
  let ing := t.render.ingest.map fun g =>
    match objs.find? (·.rec_.obj = g.obj) with
    | some o => { g with s1 := o.ingest.s1, s2 := o.ingest.s2, on := o.ingest.on, last := o.ingest.last, word := o.ingest.word }
    | none => g
  let t : State := { t with render := { t.render with
    pairs := all.map (·.mem), rings := rings, ingest := ing, slot := some m } }
  let t := t.rewrite objs (fun i => if (recs.any fun e => e.1.obj == i && e.1.fast) then m - 2 else m - p)
    (all.map fun x => (x.mem.obj, x.mem.out))
  let t := t.runChains m outs feeds
  let t := objs.foldl (fun t o => t.meterBlock (0x1000 + o.rec_.obj) o.x) t
  let welt := t.freeF32
  let t := ((t.setF D.welt_last_delivery welt).histRecord 3 0 welt).pass
  (t.histRecord 3 1 t.freeF32).pass

/-- RENDER_SLOT: the Welt and the output chain complete the block of the slot (R265, R295), from the block in which
rendering is STARTING (R69).
`missing` are tiles whose records are not published (R373), `ohm` objects with a history
word that is uncorrectable, by its distance from the block, and `pairErr` pairs whose memory
word is (R263). -/
def execRenderSlot (missing : List (Fin 16)) (ohm pairErr : List (Nat × Nat)) (s : State) :
    Outcome State Fault Refusal :=
  if s.awaitsState || s.render.slot.isSome || s.get D.runState12 = 0 || s.power.stopAt.any fun b => decide (b ≤ s.blockNow) then
    .next s
  else .next (s.renderSlot (missing.map (·.val)) ohm pairErr)

/-- WELT_DEADLINE: an output was not delivered in time; its feed's block is held (R266,
R297). -/
def execWeltDeadline (j : Fin 1024) (s : State) : Outcome State Fault Refusal :=
  let j := j.val
  let m := s.blockNow + 1
  let t := ((s.count D.welt_misses).error 0x39 j 0x0502 .warn).localEvent
  match s.render.slot.bind fun _ => s.slotBase m with
  | none => .next { t with render := { t.render with weltHeld := (m, j) :: t.render.weltHeld } }
  | some r =>
    match r.outs.find? (·.out = j), s.render.chains.find? (·.out = j) with
    | some q, some now =>
      let l := s.blockLen
      let c := chainOf s.render.before q
      let f := heldFeed l c ((now.line.headD ([], 0)).2)
      let o := chainBlock l m q c f.1 f.2
      let c' := { o with lastFeed := c.lastFeed }
      .next { t with render := { t.render with
        chains := t.render.chains.map fun x => if x.out = j then c' else x } }
    | _, _ => .next t

/-- OUTCHAIN_DEADLINE: an output's block missed the chain deadline; its destinations repeat
their last sample (R296). -/
def execOutchainDeadline (j : Fin 1024) (s : State) : Outcome State Fault Refusal :=
  let t := ((s.count D.out_misses j.val).error 0x40 j.val 0x0601 .warn).localEvent
  .next { t with render := { t.render with
    chainHeld := (s.blockNow + 1, j.val) :: t.render.chainHeld } }

/-! ### The block that leaves at a boundary (R178, R324–R330) -/

/-- Bits of a destination's format; none for a fabric stream, which carries F32 (R324, R437,
R450, R488, R517). -/
def State.destBits (s : State) (d : Dest) : Option Nat :=
  if d.kind = 1 then some (s.get D.sp_word_bits (2 * (d.ch / 32)))
  else if d.kind = 2 then some 24
  else
    match (s.instancesWhere D.es_kind (· != 0)).find? fun c =>
        decide (s.get D.es_first_ch c ≤ d.ch) && decide (d.ch < s.get D.es_first_ch c + s.get D.es_channels c) with
    | some c =>
      if s.get D.es_kind c = 2 then none
      else some (if s.get D.es_encoding c = 0 then 16 else 24)
    | none => none

/-- Every feed of the member carries DEGRADED (R254, R512, R557, R626, R633, R156). -/
def State.feedsDegraded (s : State) : Bool :=
  s.time.degraded || s.time.unshared || s.anyExcluded || s.get D.fab_scene_match == 0 ||
    (s.get D.twin_health).testBit 6 || s.power.safe

/-- The bits of every local port channel: UNSETTLED while the APLL is not LOCKED, DEGRADED with a degraded time source or
one that no other node shares (R156, R172, R633). -/
def State.localBits (s : State) : Nat :=
  bitIf (s.get D.apll_state != 2) stUnsettled ||| bitIf (s.time.degraded || s.time.unshared) stDegraded

/-- The bits that a destination carries whatever feeds it. -/
def State.portBits (s : State) (d : Dest) : Nat := if d.kind = 1 || d.kind = 2 then s.localBits else 0

/-- The word of a block that repeats the value `x`: SAT and SILENT describe that value (R15, R296). -/
def State.heldWord (s : State) (word j : Nat) (x : F32) : Nat :=
  dropBits (dropBits word stSat) stSilent ||| stHeld |||
    bitIf (F32.lt x.abs (exactGain (s.getI D.sil_threshold j))) stSilent

/-- The OUT samples and word of an output. -/
def chainSignal (chains : List Chain) (l : Nat) : Option Nat → List F32 × Nat
  | none => (List.replicate l F32.zero, 0)
  | some j =>
    match chains.find? (·.out = j) with
    | some c => (c.taps6.getD 5 (List.replicate l F32.zero), c.word)
    | none => (List.replicate l F32.zero, 0)

/-- The output a destination goes to in the end. -/
def DestNow.goal (d : DestNow) : Option Nat :=
  match d.fades.getLast? with
  | some f => f.to_
  | none => d.feed

/-- Route a destination to an output (R329, R300). -/
def DestNow.route (d : DestNow) (to_ : Option Nat) (x : Nat) (started : Bool) : DestNow :=
  if d.goal = to_ then d
  else if !started || x = 0 then { d with feed := to_, fades := [] }
  else match d.fades with
    | f :: g :: _ => { d with feed := f.to_, fades := [g, ⟨to_, x, 0⟩] }
    | l => { d with fades := l ++ [⟨to_, x, 0⟩] }

/-- Complete route crossfades that have run out. -/
def settleRoutes : Option Nat → List RouteFade → Option Nat × List RouteFade
  | d, [] => (d, [])
  | d, f :: l =>
    let r := settleRoutes d l
    if r.2.length < l.length then r
    else if f.len ≤ f.n then (f.to_, l)
    else (d, f :: l)

/-- A destination's block: the route mix, the ramp of a media step, a held block and the word
(R15, R152, R172, R292, R296, R324, R329, R330). -/
def State.destBlock (s : State) (k : Nat) (d : DestNow) : DestNow :=
  let l := s.blockLen
  let sig (f : Option Nat) : List F32 × Nat := chainSignal s.render.chains l f
  let base := sig d.feed
  let mix := d.fades.foldl (fun (a : List F32 × Nat) f =>
    let b := sig f.to_
    (mapPos (fun p y =>
      let n := b.1.getD p F32.zero
      if f.len ≤ f.n + p then n else crossfade y n (f.n + p) f.len) 0 a.1, a.2 ||| b.2)) base
  let down := s.time.stepAt == some (k + 1) || s.power.stopAt == some k
  let up := s.time.rampUp.isSome
  let y := if down then mapPos (fun p v => mulZ v (fadeDown p l)) 0 mix.1
    else if up then mapPos (fun p v => mulZ v (fadeUp p l)) 0 mix.1
    else mix.1
  let held := d.goal.filter fun j => s.render.chainHeld.any fun e => e.2 == j
  let last := ((d.blocks.headD ⟨0, [], 0⟩).samples).getLastD F32.zero
  let y := if held.isSome then List.replicate l last else y
  let sat := match s.destBits d.dest with
    | some b => y.any fun v => (convertSample b v).2
    | none => false
  let chained (f : Option Nat) : Bool := f.any fun j => s.render.chains.any fun c => c.out == j
  let fed := chained d.feed || d.fades.any fun f => chained f.to_
  let word := (match held with
      | some j => s.heldWord mix.2 j last
      | none => mix.2) ||| bitIf sat stSat |||
    bitIf (up || s.render.resumed) stUnsettled ||| bitIf s.feedsDegraded stDegraded
  let r := settleRoutes d.feed (d.fades.map fun f => { f with n := f.n + l })
  { d with
    feed := r.1, fades := r.2
    blocks := ((⟨k, y, (if fed then word else 0) ||| s.portBits d.dest⟩ : DestBlock) :: d.blocks).take 4 }

/-- Stipple and the OUT tap of one output (R291, R412). -/
def State.presentOut (s : State) (k : Nat) (c : Chain) : State × Chain :=
  let lim := c.taps6.getD 4 []
  let x := c.taps6.getD 5 []
  let r := s.stippleBlock k c.out lim x
  let held := s.render.chainHeld.any fun e => e.2 == c.out
  let c' := { c with taps6 := c.taps6.take 5 ++ [r.2], shown := if held then c.shown else r.2.getLastD c.shown }
  let t : State := { s with svc := { s.svc with stipple := stipplePut s.svc.stipple r.1 } }
  let t := t.setI D.pf_stipple_level (if r.1.on then r.1.c else muteSteps) c.out
  (t, c')

/-- Stipple of every output. -/
def State.presentOuts (s : State) (k : Nat) : List Chain → State × List Chain
  | [] => (s, [])
  | c :: l =>
    let r := s.presentOut k c
    let q := r.1.presentOuts k l
    (q.1, r.2 :: q.2)

/-- The reports of a chain's block: biquad resets, the limiter, the gain and the stepper (R318, R319). -/
def State.chainReport (s : State) (c : Chain) : State :=
  let j := c.out
  let s := if c.resets = 0 then s else s.count D.out_bq_resets j c.resets
  let s := (List.range c.resets).foldl (fun t _ => t.error 0x40 j 0x0603 .warn) s
  let s := s.setF D.out_lim_gr (level20 c.least) j
  let s := s.set D.out_step_state (match c.step with
    | .idle => 0
    | .waiting _ => 1
    | .ramping .. => 2) j
  s.setI D.out_gain_now (gainSteps c.gain) j

/-- Where the crossfade of an output's filter sets stands at a boundary: OUTGOING ends once the block that holds its last
sample has been presented (R310, R312). An output without a chain crossfades nothing (log entry 114). -/
def State.etchReport (s : State) (j : Nat) : State :=
  let done := ((s.set D.etch_pending_state 0 j).set D.etch_pending_taps 0 j).set D.etch_xfade_left 0 j
  match s.render.before.find? (·.out = j) with
  | some c =>
    if c.tapsHandle ≠ s.get D.etch_taps j then s
    else
      match c.outgoing with
      | some (_, x, n) => s.set D.etch_xfade_left (x - n) j
      | none => done
  | none => if s.liveOutputs.contains j then s else done

/-- Meters, silence, histogram and out_status of an output's block. -/
def State.presentReport (s : State) (c : Chain) : State :=
  let j := c.out
  let lim := c.taps6.getD 4 []
  let th := exactGain (s.getI D.sil_threshold j)
  let loud := exactGain (s.getI D.sil_threshold j + s.getI D.sil_hyst)
  let silent := lim.all fun x => F32.lt x.abs th
  let held := s.render.chainHeld.any fun e => e.2 == j
  let word := (if held then s.heldWord c.word j c.shown else c.word) ||| bitIf s.feedsDegraded stDegraded |||
    bitIf (s.time.rampUp.isSome || s.render.resumed) stUnsettled
  let s := (s.chainReport c).set D.out_status word j
  let s := s.silenceBlock j silent (lim.any fun x => F32.le loud x.abs)
  let s := s.meterBlock j (c.taps6.getD (s.get D.mtr_tap j) [])
  s.histRecord 5 j (level20 (peakOf (c.taps6.getD (s.get D.mtr_tap j) [])))

/-- While rendering is stopped every output carries +0.0 and SILENT (R616), with area 12 stopped DEGRADED too (R69), and
what lasts through the block marks it as any other (R14, R156, R172). -/
def State.presentQuiet (s : State) (k : Nat) : State :=
  let w := stSilent ||| bitIf (s.get D.runState12 < 2 || s.feedsDegraded) stDegraded
  let dests := s.render.dests.map fun d =>
    let b : DestBlock := ⟨k, List.replicate s.blockLen F32.zero, w ||| s.portBits d.dest⟩
    { d with fades := [], blocks := (b :: d.blocks).take 4 }
  let t := s.liveOutputs.foldl (fun t j => t.set D.out_status w j) s
  { t with
    render := { t.render with dests := dests, slot := none }
    time := { t.time with rampUp := none } }

/-- At boundary `k` the block rendered in the slot before it leaves every output (R178); the first after a start carries
UNSETTLED (R69), and so does the one that starts at a media step (R152). -/
def State.present (s : State) (k : Nat) : State :=
  if (s.power.stopAt.any fun b => decide (b < k)) || s.get D.runState12 < 2 then
    s.presentQuiet k
  else
  match s.render.slot with
  | none => s
  | some m =>
    let s := (s.instancesWhere D.etch_pending_state (· == 5)).foldl State.etchReport s
    let q := s.presentOuts k s.render.chains
    let s : State := { q.1 with render := { q.1.render with chains := q.2 } }
    let named : List (Dest × Nat × Nat) := match s.slotBase m with
      | some r => r.idle ++ r.outs.flatMap fun (o : OutRec) => o.dests.map fun d => (d, o.out, o.routeX)
      | none => []
    let started := s.render.shown.isSome
    let fadeOf (j : Nat) : Nat := (((s.slotBase m).bind fun r => r.outs.find? (·.out = j)).map fun o => o.routeX).getD
      (s.get D.out_route_xfade j)
    let known := s.render.dests.map (·.dest)
    let fresh := (named.map (·.1)).filter fun d => !known.contains d
    let dests := s.render.dests ++ fresh.map fun d => ({ dest := d } : DestNow)
    let routed := dests.map fun d =>
      match named.find? (·.1 = d.dest) with
      | some e => d.route (some e.2.1) e.2.2 started
      | none =>
        d.route none ((d.goal.map fadeOf).getD 0) started
    let shown := (routed.map (s.destBlock k)).filter fun d =>
      d.feed.isSome || !d.fades.isEmpty ||
        d.blocks.any fun b => b.word != 0 || b.samples.any fun x => x != F32.zero
    let t := s.render.chains.foldl (fun t c => t.presentReport c) s
    { t with
      render := { t.render with
        dests := shown, slot := none, shown := some k, resumed := false
        weltHeld := [], chainHeld := [] }
      time := { t.time with rampUp := none } }

/-! ### The Etcher's sets and the stepper's timeout -/

def etchSetOf : List EtchSet → Nat → Option EtchSet
  | [], _ => none
  | e :: l, j => if e.out = j then some e else etchSetOf l j

/-- ETCH_TRANSFORM_DONE: the transform of an output's pending set is complete (R310). -/
def execEtchTransformDone (j : Fin 1024) (s : State) : Outcome State Fault Refusal :=
  let j := j.val
  if s.get D.etch_pending_state j != 2 then .next s
  else
    match etchSetOf s.render.etchSets j with
    | none => .next s
    | some e =>
      if e.taps.all F32.isFinite && decide (e.taps.length ≤ s.get D.etch_max_taps j) then
        .next (s.set D.etch_pending_state 3 j)
      else .next ((s.set D.etch_pending_state 4 j).error 0x41 j 0x0602 .warn)

/-- ETCH_XFADE_COMPLETE: the crossfade of an output's sets is complete; the outgoing set is
released (R310, R312). -/
def execEtchXfadeComplete (j : Fin 1024) (s : State) : Outcome State Fault Refusal :=
  let j := j.val
  if s.get D.etch_pending_state j != 5 then .next s
  else
    let t := ((s.set D.etch_pending_state 0 j).set D.etch_pending_taps 0 j).set D.etch_xfade_left 0 j
    let l := t.render.chains.map fun c => if c.out = j then { c with outgoing := none } else c
    .next { t with render := { t.render with chains := l } }

/-- STEPPER_TIMEOUT: an output's stepper has waited out_step_timeout samples; it ramps from the
next sample (R322). -/
def execStepperTimeout (j : Fin 1024) (s : State) : Outcome State Fault Refusal :=
  let j := j.val
  let t := s.get D.out_step_ramp j
  let l := s.render.chains.map fun c =>
    if c.out = j then
      match c.step with
      | .waiting _ => { c with step := .ramping c.gain 0 t }
      | _ => c
    else c
  let ramps := l.any fun c => c.out == j && match c.step with
    | .ramping .. => true
    | _ => false
  let u : State := { s with render := { s.render with chains := l } }
  .next (if ramps then u.set D.out_step_state 2 j else u)

end Sys2Proof.Machine
end

