-- ==== Sys2Proof/Machine/LocalIo.lean ====
section
/-! DEFINITION. Serial ports, AES3, PDM and current outputs (chapter 11). -/

namespace Sys2Proof.Machine

open Sys2Proof Host

/-! ### Sides (R434–R446) -/

def sideOf : List SideNow → Nat → SideNow
  | [], n => { side := n }
  | x :: l, n => if x.side = n then x else sideOf l n

def State.putSide (s : State) (x : SideNow) : State :=
  { s with io := { s.io with sides := x :: s.io.sides.filter fun y => y.side != x.side } }

/-- The state object of a side: sp_state, or aes_rx_state for receiver r at 0x10 + r. OFF 0,
STARTING 1, RUNNING 2, LOST 3. -/
def State.sideState (s : State) (n : Nat) : Nat :=
  if n < 16 then s.get D.sp_state n else s.get D.aes_rx_state (n - 16)

def State.setSideState (s : State) (n v : Nat) : State :=
  if n < 16 then s.set D.sp_state v n else s.set D.aes_rx_state v (n - 16)

def State.sideEnabled (s : State) (n : Nat) : Bool :=
  if n < 16 then s.getB D.sp_enable n else s.getB D.aes_rx_enable (n - 16)

/-- The side is converted asynchronously (R447). -/
def State.sideAsrc (s : State) (n : Nat) : Bool :=
  if n < 16 then s.getB D.sp_asrc n && s.get D.sp_clock n == 1 else s.getB D.aes_rx_asrc (n - 16)

/-- The side follows a clock from the lands. -/
def State.sideSlave (s : State) (n : Nat) : Bool := 16 ≤ n || s.get D.sp_clock n == 1

/-- Start or restart a side at boundary `k`, or switch it OFF (R444). -/
def State.restartSide (s : State) (k n : Nat) : State :=
  if s.sideEnabled n then
    (let t := (s.putSide { side := n, start := k }).setSideState n 1
     if s.sideAsrc n then t.set D.asrc_state 1 n else t.set D.asrc_state 0 n)
  else ((s.putSide { side := n }).setSideState n 0).set D.asrc_state 0 n

/-- The slots of a side. -/
def State.sideSlots (s : State) (n : Nat) : Nat :=
  if n < 16 then s.get D.sp_slots n else 2

/-- The local input channel of a slot of a receive side (R434). -/
def sideChannel (n slot : Nat) : Nat := if n < 16 then n / 2 * 32 + slot else 0x100 + 2 * (n - 16) + slot

/-- The mask in force for a side: bit `k` is slot `k`. -/
def State.sideMask (s : State) (n : Nat) : Nat :=
  if n < 16 then (sideOf s.io.sides n).mask.getD (s.get D.sp_mask n) else 3

/-- The index of a frame whose edge lies at media time `t`, halves rounded up (R440), and the
distance from its instant in 2⁻³² ns. -/
def State.frameIndex (s : State) (off t : Int) : Nat × Int :=
  let u := t - off
  let n := ((2 * u * s.fs + 1000000000 * ns32) / (2 * 1000000000 * ns32)).toNat
  (n, u - ((sampleInstant n s.fs : Nat) : Int) * 2 ^ 16)

/-- A WARN record for eight consecutive frames off phase, and a slip counted (R440). -/
def State.trackFrame (s : State) (side n : Nat) (dist : Int) : State × Bool :=
  let x := sideOf s.io.sides side
  let quarter : Int := 1000000000 * ns32 / (4 * s.fs)
  let far := if quarter < dist.natAbs then x.far + 1 else 0
  let area := if side < 16 then 0x48 else 0x49
  let idx := if side < 16 then side else side - 16
  let s1 := if far = 8 then s.error area idx 0x0901 .warn else s
  let slip := match x.last with
    | some m => n != m + 1
    | none => false
  let dropped := x.last == some n
  let s2 := if slip && side < 16 then s1.count D.sp_slips side else s1
  (s2.putSide { x with last := some n, far := if far = 8 then 0 else far, present := true }, dropped)

/-- A word of a slot as F32 (R437). -/
def wordF32 (bits w : Nat) : F32 := F32.ofScaled (toSigned bits w) (1 - (bits : Int))

/-- Place the words of a frame, slot by slot. -/
def State.placeSlots (s : State) (side n bits : Nat) : Nat → List Nat → State
  | _, [] => s
  | k, w :: l =>
    let t := if k < s.sideSlots side && (s.sideMask side).testBit k then
        s.placeSample 2 (sideChannel side k) n (wordF32 bits w) 0
      else s
    t.placeSlots side n bits (k + 1) l

/-- The L33 lands of the local ports are valid: VIO is good, and a boundary has passed since it returned (R33). -/
def State.portsLive (s : State) : Bool := s.power.vio && !s.power.vioWait

/-- At a boundary the local ports resume after a return of VIO (R33). -/
def State.portsResume (s : State) : State :=
  if s.power.vioWait then { s with power := { s.power with vioWait := false } } else s

/-- The local ports run: VIN is good, and neither reset nor the sequence of R30 holds them (R20, R30, R31). -/
def State.landsRun (s : State) : Bool :=
  s.power.vin && s.power.phase != .off && s.power.phase != .shutdown && s.power.phase != .reset

/-- SP_FRAME_RX: a receive frame of a port, its FS edge at media time `t` in 2⁻³² ns, one word
for each slot (R437–R442). -/
def execSpFrameRx (port : Fin 8) (t : Int) (words : List Nat) (s : State) :
    Outcome State Fault Refusal :=
  let side := 2 * port.val + 1
  let st := s.sideState side
  if !s.portsLive || st = 0 then .next s
  else
    let slave := s.sideSlave side
    let off := if slave then s.getI D.sp_slave_offset side * ns32 else 0
    let q := s.frameIndex off t
    let r := if slave && !s.sideAsrc side then s.trackFrame side q.1 q.2 else (s, false)
    let x := sideOf r.1.io.sides side
    let u := r.1.putSide { x with mask := some (s.get D.sp_mask side), present := true }
    if r.2 || st = 3 || s.sideAsrc side then .next u
    else .next (u.placeSlots side q.1 (s.get D.sp_word_bits side) 0 words)

/-- The block a destination presents, by its index. -/
def State.destBlockOf (s : State) (d : Dest) (k : Nat) : Option DestBlock :=
  (s.render.dests.find? (·.dest = d)).bind fun x => x.blocks.find? (·.block = k)

/-- The sample of presentation index `n` at a destination, and its word (R439, R450). -/
def State.destSample (s : State) (d : Dest) (n : Nat) : F32 × Nat :=
  match s.destBlockOf d (n / s.blockLen) with
  | some b => (b.samples.getD (n % s.blockLen) F32.zero, b.word)
  | none => (F32.zero, 0)

/-- Local outputs are silent: the APLL is not LOCKED, a supply is lost, the sequence of R30 runs, the unit does not drive
the lands, or it loads the safe scene (R30, R33, R446, R535, R560). -/
def State.outputsMuted (s : State) : Bool :=
  !s.portsLive || !s.landsRun || !s.twin.drive || s.twin.loading || s.get D.apll_state != 2

/-- SP_FRAME_TX: a transmit side sends the frame of presentation index `n` (R437, R439, R441). -/
def execSpFrameTx (port : Fin 8) (n : Nat) (s : State) : Outcome State Fault Refusal :=
  let side := 2 * port.val
  if s.sideState side = 0 || s.get D.apll_state = 0 then .next s
  else
    let x := sideOf s.io.sides side
    let mask := s.get D.sp_mask side
    let bits := s.get D.sp_word_bits side
    let again := s.sideSlave side && !s.sideAsrc side && x.last == some n
    let frame := (List.range (s.get D.sp_slots side)).map fun k =>
      if mask.testBit k then
        (if s.outputsMuted then some 0
         else if s.sideAsrc side then some (s.freeHere % 2 ^ bits)
         else some (ofSigned bits (convertSample bits (s.destSample ⟨1, port.val * 32 + k⟩ n).1).1))
      else if s.get D.sp_tx_idle side = 1 then none else some 0
    let slip := match x.last with
      | some m => s.sideSlave side && !s.sideAsrc side && n != m + 1
      | none => false
    let s := if slip || again then s.count D.sp_slips side else s
    let s := if s.sideAsrc side then s.pass else s
    .next (s.putSide { x with last := some n, mask := some mask, present := true, frame := frame })

/-- SP_CLOCK_LOST: sp_loss_frames FS edges of a slave side are missing (R444, R448). -/
def execSpClockLost (side : Fin 16) (s : State) : Outcome State Fault Refusal :=
  let n := side.val
  let st := s.sideState n
  if (st = 1 || st = 2) && s.sideSlave n then
    (let x := sideOf s.io.sides n
     .next ((((s.putSide { x with ramp := s.sideAsrc n, last := none, far := 0 }).setSideState n 3).count
       D.sp_lost n).error 0x48 n 0x0902 .warn))
  else .next s

/-- SP_CLOCK_RESTORE: eight FS edges at the expected rate (R444). -/
def execSpClockRestore (side : Fin 16) (s : State) : Outcome State Fault Refusal :=
  let n := side.val
  if s.sideState n = 3 then
    .next ((s.putSide { side := n, start := s.blockNow, present := true }).setSideState n 1)
  else .next s

/-! ### Completing a block of local inputs (R443, R448, R172) -/

/-- Block `k` of an ASRC side's slot: free converted values (log entry 22), a ramp to +0.0 in
the block of a loss, and substitution after it (R448, R449). -/
def State.asrcSlot (s : State) (k side slot : Nat) (w : Nat) : State :=
  let ch := sideChannel side slot
  let l := s.blockLen
  let x := sideOf s.io.sides side
  let lost := s.sideState side == 3
  if lost && !x.ramp then s.closeInput 2 ch k (s.get D.lin_conceal ch == 1) w
  else
    let raw := (List.range l).map fun p => F32.finiteOr0 (Config.freeSample s.free p)
    let ys := if lost then mapPos (fun p y => F32.mul y (fadeDown p l)) 0 raw else raw
    ((s.putInput ⟨2, ch, k, (List.range l).zip ys, w, true⟩).putLast 2 ch (ys.getLastD F32.zero)).pass

/-- Block `k` of a receive side is complete at boundary k + 1; a slot whose mask bit is clear carries no status bit
(R441). -/
def State.closeSide (s : State) (k side : Nat) : State :=
  let st := s.sideState side
  if st = 0 then s
  else
    let asrc := s.sideAsrc side
    let unlocked := asrc && s.get D.asrc_state side != 2
    let starting := st == 1 && (sideOf s.io.sides side).start == k
    let w := s.localBits ||| bitIf (starting || unlocked) stUnsettled |||
      bitIf (!s.portsLive) stConcealed
    let t := (List.range (s.sideSlots side)).foldl (fun t k' =>
      let ch := sideChannel side k'
      let t := if !(s.sideMask side).testBit k' then t
        else if asrc then t.asrcSlot k side k' w
        else t.closeInput 2 ch k (t.get D.lin_conceal ch == 1) w
      t.set D.lin_status (t.channelBlock 2 ch k).2 ch) s
    if st = 3 then t.putSide { sideOf t.io.sides side with ramp := false } else t

/-- The side that leads the ratio tracker of another: the lowest-numbered one of its group whose clock is present (R445). -/
def State.ratioLeader (s : State) (side : Nat) : Nat :=
  let g := s.get D.sp_group side
  if 16 ≤ side || g = 0 then side
  else ((List.range 16).find? fun n => s.get D.sp_group n == g && s.sideAsrc n && s.sideState n == 2).getD side

/-- The ratio tracker of an ASRC side over a block, which it shares with its group (R445): its loop law is open, so the
estimate and whether it has settled are free (R448, log entry 22). -/
def State.trackRatio (s : State) (side : Nat) : State :=
  if s.sideAsrc side && s.sideState side == 2 then
    (let lead := s.ratioLeader side
     if lead < side then (s.set D.asrc_ratio (s.get D.asrc_ratio lead) side).set D.asrc_state (s.get D.asrc_state lead) side
     else
     let r := F32.finiteOr0 s.freeF32
     ((s.setF D.asrc_ratio r side).set D.asrc_state (1 + s.freeHere % 2) side).pass)
  else s

/-- The state of a side at boundary `k` (R444). -/
def State.sideBoundary (s : State) (k side : Nat) : State :=
  let x := sideOf s.io.sides side
  if s.sideState side = 1 && x.start != k && (!s.sideSlave side || x.present) then
    s.setSideState side 2
  else s

/-- Receive sides: serial 2p + 1, and AES3 receivers. -/
def rxSides : List Nat := [1, 3, 5, 7, 9, 11, 13, 15, 16, 17, 18, 19]

/-! ### AES3 (R450–R453) -/

/-- CRC-8 with generator x⁸ + x⁴ + x³ + x² + 1 and initial value 0xFF over bytes, least
significant bit first (R451). -/
def crccBit (c : Nat) (b : Bool) : Nat :=
  if (c % 2 == 1) != b then (c / 2) ^^^ 0xB8 else c / 2

def crcc (l : List Byte) : Byte :=
  BitVec.ofNat 8 (l.foldl (fun c b => (List.range 8).foldl (fun c k => crccBit c (b.toNat.testBit k)) c) 0xFF)

/-- Bits, the first in frame 0, as bytes (R451). -/
def bitsBytes (l : List Bool) : List Byte :=
  (List.range (l.length / 8)).map fun b =>
    BitVec.ofNat 8 ((List.range 8).foldl (fun a k => if l.getD (8 * b + k) false then a + 2 ^ k else a) 0)

/-- A channel status block fails its CRCC (R453). -/
def csBad (l : List Byte) : Bool :=
  ((l.headD 0#8).toNat % 2 == 1) && l.getD 23 0#8 != crcc (l.take 23)

def aesRxOf : List AesRx → Nat → AesRx
  | [], r => { rx := r }
  | x :: l, r => if x.rx = r then x else aesRxOf l r

/-- The block before a Z preamble is complete (R453). -/
def State.aesBlock (s : State) (r : Nat) (x : AesRx) : State :=
  if !x.inBlock then s
  else if x.count != 192 then s.count D.aes_rx_block_errors r
  else
    let a := bitsBytes x.csA.reverse
    let b := bitsBytes x.csB.reverse
    let u := bitsBytes x.userA.reverse ++ bitsBytes x.userB.reverse
    let s1 := if csBad a then s.count D.aes_rx_crcc_errors r else s.setBlob D.aes_rx_cs_a a r
    let s2 := if csBad b then s1.count D.aes_rx_crcc_errors r else s1.setBlob D.aes_rx_cs_b b r
    s2.setBlob D.aes_rx_user u r

/-- Place one subframe: a parity error, or an invalid sample under CONCEAL, is left to
substitution (R452). -/
def State.placeSub (s : State) (r sub n : Nat) (x : AesSub) : State :=
  if !x.even then s
  else if x.v && s.get D.aes_rx_v_policy r == 1 then s
  else s.placeSample 2 (0x100 + 2 * r + sub) n (wordF32 24 x.audio) 0

/-- A preamble comes at the rate that a receiver expects after the one before it: at Fs within ±500 ppm, and with ASRC at
32 kHz to 192 kHz (R444, R452). -/
def State.aesOnRate (s : State) (r : Nat) (x : AesRx) (t : Int) : Bool :=
  match x.edge with
  | none => false
  | some e =>
    let second : Int := 1000000000 * ns32
    if s.getB D.aes_rx_asrc r then decide (second ≤ 192000 * (t - e)) && decide (32000 * (t - e) ≤ second)
    else decide (2000 * ((t - e) * s.fs - second).natAbs ≤ second.toNat)

/-- Eight preambles in a row at the expected rate take a LOST receiver back to STARTING (R444). -/
def State.aesReturn (s : State) (r good : Nat) : State :=
  let side := 16 + r
  if s.sideState side = 3 && decide (8 ≤ good) then
    (s.putSide { side := side, start := s.blockNow, present := true }).setSideState side 1
  else s

/-- AES_FRAME_RX: a frame of a receiver, its preamble at media time `t`; `z` says that it is a
Z frame (R444, R452, R453). -/
def execAesFrameRx (r : Fin 4) (t : Int) (z : Bool) (a b : AesSub) (s : State) :
    Outcome State Fault Refusal :=
  let r := r.val
  let side := 16 + r
  if !s.portsLive || s.sideState side = 0 then .next s
  else
    let q := s.frameIndex 0 t
    let asrc := s.sideAsrc side
    let tr := if asrc then (s.putSide { sideOf s.io.sides side with present := true }, false)
      else s.trackFrame side q.1 q.2
    let s := tr.1.count D.aes_rx_parity_errors r ((!a.even).toNat + (!b.even).toNat)
    let x := aesRxOf s.io.aesRx r
    let good := if s.aesOnRate r x t then x.good + 1 else 0
    let s := if z then (s.aesBlock r x).set D.aes_rx_z_index q.1 r else s
    let x := if z then ({ rx := r, inBlock := true } : AesRx) else x
    let x := { x with
      edge := some t, good := good
      count := x.count + 1
      csA := (a.c :: x.csA).take 192, csB := (b.c :: x.csB).take 192
      userA := (a.u :: x.userA).take 192, userB := (b.u :: x.userB).take 192 }
    let s : State := { s with io := { s.io with
      aesRx := x :: s.io.aesRx.filter fun y => y.rx != r } }
    if tr.2 || s.sideState side = 3 || asrc then .next (s.aesReturn r good)
    else .next ((s.placeSub r 0 q.1 a).placeSub r 1 q.1 b)

/-- AES_RX_LOST: a receiver gets no more frames (R444, R448, R452). -/
def execAesRxLost (r : Fin 4) (s : State) : Outcome State Fault Refusal :=
  let side := 16 + r.val
  let st := s.sideState side
  if st = 1 || st = 2 then
    (let x := sideOf s.io.sides side
     .next (((s.putSide { x with ramp := true, last := none, far := 0 }).setSideState side 3).error
       0x49 r.val 0x0902 .warn))
  else .next s

def aesTxOf : List AesTx → Nat → AesTx
  | [], t => { tx := t }
  | x :: l, t => if x.tx = t then x else aesTxOf l t

/-- The bytes of a buffer, filled up with zeros. -/
def padBytes (l : List Byte) (n : Nat) : List Byte := (l ++ List.replicate n 0#8).take n

/-- Channel status as sent: byte 23 is the CRCC when aes_tx_crcc_auto is 1 and the block is
professional (R451). -/
def State.csOut (s : State) (t : Nat) (l : List Byte) : List Byte :=
  let p := padBytes l 24
  if (p.headD 0#8).toNat % 2 = 1 && s.getB D.aes_tx_crcc_auto t then p.take 23 ++ [crcc (p.take 23)]
  else p

/-- Buffers of a transmitter as committed. -/
def State.aesBufs (s : State) (t block : Nat) : AesBuf :=
  ⟨block, (s.blob D.aes_tx_cs_a t).data, (s.blob D.aes_tx_cs_b t).data, (s.blob D.aes_tx_user t).data⟩

def sameBufs (a b : AesBuf) : Bool := a.csA == b.csA && a.csB == b.csB && a.user == b.user

/-- At boundary `k`, buffers that a commit changed serve from presentation block k + P (R451). -/
def State.aesTxBoundary (s : State) (k t : Nat) : State :=
  let x := aesTxOf s.io.aesTx t
  let b := s.aesBufs t (k + s.presOffset)
  let old := x.bufs.headD ⟨0, [], [], []⟩
  if sameBufs old b then s
  else { s with io := { s.io with
    aesTx := { x with bufs := (b :: x.bufs).take 64 } :: s.io.aesTx.filter fun y => y.tx != t } }

def bitOf (l : List Byte) (i : Nat) : Bool := ((l.getD (i / 8) 0#8).toNat).testBit (i % 8)

/-- Parity over time slots 4–31 is even once bit P is set. -/
def evenSub (audio : Nat) (v u c : Bool) : AesSub := ⟨audio, v, u, c, true⟩

/-- AES_FRAME_TX: a transmitter sends the frame of presentation index `n` (R450, R451, R446). -/
def execAesFrameTx (t : Fin 4) (n : Nat) (s : State) : Outcome State Fault Refusal :=
  let t := t.val
  if !s.getB D.aes_tx_enable t || s.get D.apll_state = 0 then .next s
  else
    let x := aesTxOf s.io.aesTx t
    let phase := ((n : Int) - s.get D.aes_tx_block_phase t) % 192
    let z := phase == 0
    let block := n / s.blockLen
    let cur := if z then (x.bufs.find? fun b => decide (b.block ≤ block)).getD x.cur else x.cur
    let i := phase.toNat
    let sub (k : Nat) (cs : List Byte) : AesSub :=
      let q := s.destSample ⟨2, 2 * t + k⟩ n
      let silent := s.outputsMuted
      let audio := if silent then 0 else ofSigned 24 (convertSample 24 q.1).1
      let bad := s.getB D.aes_tx_v_follow t &&
        q.2 &&& (stConcealed ||| stHeld ||| stUnsettled) != 0
      evenSub audio (bad || s.get D.apll_state != 2) (bitOf (padBytes cur.user 48) (192 * k + i))
        (bitOf (s.csOut t cs) i)
    let l : List AesTx := { x with cur := cur, z := z, a := sub 0 cur.csA, b := sub 1 cur.csB } ::
      s.io.aesTx.filter fun y => y.tx != t
    .next { s with io := { s.io with aesTx := l } }

/-! ### PDM (R454–R458) -/

def pdmOf : List PdmCh → Nat → PdmCh
  | [], c => { ch := c }
  | x :: l, c => if x.ch = c then x else pdmOf l c

def State.putPdm (s : State) (x : PdmCh) : State :=
  ({ s with io := { s.io with pdm := x :: s.io.pdm.filter fun y => y.ch != x.ch } }).setF
    D.pdm_dc_value x.d x.ch

/-- A synchronising reset of a channel at boundary `k` (R457). -/
def State.pdmSync (s : State) (k c : Nat) : State :=
  let x := pdmOf s.io.pdm c
  s.putPdm ⟨c, k, if s.get D.pdm_dc c = 2 then x.d else F32.zero⟩

/-- PDM_CH_SYNC: the command pdm_ch_sync of a channel at its boundary, the present one. -/
def execPdmChSync (c : Fin 32) (s : State) : Outcome State Fault Refusal :=
  .next (s.pdmSync s.blockNow c.val)

/-- UNSETTLED outputs after a reset, by preset (R455). -/
def pdmSettle : Nat → Nat
  | 0 => 8
  | 1 => 16
  | _ => 32

/-- A channel runs: it and its line's clock are enabled, and the APLL is not OFF. -/
def State.pdmRuns (s : State) (c : Nat) : Bool :=
  s.getB D.pdm_ch_enable c && s.getB D.pdm_ck_enable (s.get D.pdm_line_clock (c / 2)) &&
    s.get D.apll_state != 0 && s.landsRun

/-- β of the DC blocker (R458). -/
def State.pdmBeta (s : State) (c : Nat) : F32 :=
  let w := F32.mul (F32.mul 0x40000000#32 0x40490FDB#32) (s.getF D.pdm_dc_corner c)
  F32.sub F32.one (F32.expE (F32.neg (F32.div w (F32.ofInt s.fs))))

/-- The DC blocker over a block (R458): OFF 0, RUN 1, FROZEN 2. -/
def dcRun (mode : Nat) (beta : F32) : F32 → List F32 → List F32 × F32
  | d, [] => ([], d)
  | d, x :: l =>
    let y := if mode = 0 then x else subZ x d
    let d' := if mode = 1 then addZ d (mulZ beta y) else d
    let r := dcRun mode beta d' l
    (y :: r.1, r.2)

/-- Block `k` of a decimator channel. The decimated values are free, since the filters'
coefficients are not given (R455, log entry 21); the DC blocker runs on them. An enabled channel that does not run gives
+0.0 and its status all the same (R172). -/
def State.closePdm (s : State) (k c : Nat) : State :=
  if !s.getB D.pdm_ch_enable c || !s.landsRun then s
  else if !s.pdmRuns c then
    (s.putInput ⟨2, 0x120 + c, k, (List.range s.blockLen).zip (List.replicate s.blockLen F32.zero), s.localBits, true⟩).set
      D.lin_status s.localBits (0x120 + c)
  else
    let l := s.blockLen
    let x := pdmOf s.io.pdm c
    let raw := (List.range l).map fun p => F32.finiteOr0 (Config.freeSample s.free p)
    let r := dcRun (s.get D.pdm_dc c) (s.pdmBeta c) x.d raw
    let fresh := decide (k * l < x.start * l + pdmSettle (s.get D.pdm_preset c))
    let ch := 0x120 + c
    let ys := if s.portsLive then r.1 else List.replicate l F32.zero
    let w := s.localBits ||| bitIf fresh stUnsettled ||| bitIf (!s.portsLive) stConcealed
    let t := (s.putInput ⟨2, ch, k, (List.range l).zip ys, w, true⟩).putPdm { x with d := r.2 }
    (t.set D.lin_status w ch).pass

/-- Units of the decimation chain in use (R454). -/
def State.pdmUnits (s : State) : Nat :=
  (List.range 32).foldl (fun a c =>
    if s.getB D.pdm_ch_enable c then a + 2 ^ s.get D.pdm_ck_rate (s.get D.pdm_line_clock (c / 2)) else a) 0

/-- ASRC channels in use (R447). -/
def State.asrcChannels (s : State) : Nat :=
  (List.range 20).foldl (fun a n =>
    if s.sideEnabled n && s.sideAsrc n then
      a + ((List.range (s.sideSlots n)).filter (if n < 16 then s.get D.sp_mask n else 3).testBit).length
    else a) 0

/-- At boundary k + 1, block `k` of every local input is complete (R443), before that boundary tests
the source again (R156). -/
def State.closeLocal (s : State) (k : Nat) : State :=
  let t := rxSides.foldl (fun t n => t.closeSide k n) s
  let t := (List.range 32).foldl (fun t c => t.closePdm k c) t
  (List.range 20).foldl (fun t n => t.trackRatio n) t

/-- The sides and transmitters at boundary `k`, after the changes of the boundary. -/
def State.localBoundary (s : State) (k : Nat) : State :=
  let t := (List.range 20).foldl (fun t n => t.sideBoundary k n) s
  (List.range 4).foldl (fun t n => t.aesTxBoundary k n) t

/-! ### Current outputs (R459–R463) -/

def idacOf : List IdacNow → Nat → IdacNow
  | [], l => { idac := l }
  | x :: r, l => if x.idac = l then x else idacOf r l

/-- Put a current output; idac_now and idac_q_count report it. -/
def State.putIdac (s : State) (x : IdacNow) : State :=
  (({ s with io := { s.io with idac := x :: s.io.idac.filter fun y => y.idac != x.idac } }).set
    D.idac_now (x.cur / 96) x.idac).set D.idac_q_count x.queue.length x.idac

/-- A unit of a pair drives IOUT while it holds the drive, and after a reset while it is the
slot-0 unit and TW_ROLE_I is low (R536). -/
def State.ioutAllowed (s : State) : Bool :=
  !s.getB D.twin_enable || s.twin.drive ||
    ((s.get D.twin_role == 3 || s.get D.twin_role == 0) && s.twin.slotZero && !s.twin.roleIn)

/-- Whether currents flow at all: VIN and VDAC good, and after a reset VIO too; the rails have not been switched off by
the sequence of R30; and the unit may drive (R24, R30, R32, R536). -/
def State.idacPowered (s : State) : Bool :=
  s.power.vin && s.power.vdac && s.power.phase != .off && (s.power.vio || s.power.phase != .reset) && s.ioutAllowed

/-- Drive a current at once. -/
def State.driveIdac (s : State) (l ua : Nat) : State :=
  let x := idacOf s.io.idac l
  s.putIdac { x with cur := if s.idacPowered then 96 * ua else 0 }

/-- A new value of the mode: at once without a slew, else approached from the next boundary
(R460). It is kept while the output is not in RUN. -/
def State.idacTarget (s : State) (l ua : Nat) : State :=
  let x := idacOf s.io.idac l
  let now := s.get D.idac_state l == 2 && s.get D.idac_slew l == 0
  s.putIdac { x with
    target := ua, cur := if now then (if s.idacPowered then 96 * ua else 0) else x.cur }

/-- One block of slewing toward the target: 1/96 µA per sample period scale (R460). -/
def slewStep (cur target slew : Nat) : Nat :=
  if slew = 0 then target
  else if cur < target then min target (cur + 32 * slew)
  else max target (cur - 32 * slew)

/-- A current output at boundary `k`: the injection of a supervised line, or the approach to
the mode's value (R426, R460, R463). -/
def State.idacBoundary (s : State) (k l : Nat) : State :=
  let st := s.get D.idac_state l
  let x := idacOf s.io.idac l
  if !s.idacPowered then (if x.cur = 0 then s else s.putIdac { x with cur := 0 })
  else if st = 2 && s.supervised.contains l then
    (s.set D.idac_state 4 l).driveIdac l (s.lineCurrent l (k * s.blockLen % (2 * s.fs)))
  else if st = 4 then
    (if s.supervised.contains l then s.driveIdac l (s.lineCurrent l (k * s.blockLen % (2 * s.fs)))
     else
      (s.set D.idac_state 2 l).putIdac { x with cur := slewStep x.cur (96 * x.target) (s.get D.idac_slew l) })
  else if st = 2 then
    (let c := slewStep x.cur (96 * x.target) (s.get D.idac_slew l)
     if c = x.cur then s else s.putIdac { x with cur := c })
  else s

/-- Insert a queue entry by its index; an entry with the same index is replaced (R461). -/
def queuePut (n v : Nat) : List (Nat × Nat) → List (Nat × Nat)
  | [] => [(n, v)]
  | (m, w) :: l =>
    if m = n then (n, v) :: l else if n < m then (n, v) :: (m, w) :: l else (m, w) :: queuePut n v l

/-- The first entry of a queue applies (R461). -/
def State.idacApply (s : State) (l : Nat) : State :=
  let x := idacOf s.io.idac l
  match x.queue with
  | [] => s
  | (_, v) :: r => (s.putIdac { x with queue := r }).idacTarget l v

/-- IDAC_QUEUE_APPLY: a queued entry of a current output reaches its sample index (R460,
R461). -/
def execIdacQueueApply (l : Fin 16) (s : State) : Outcome State Fault Refusal :=
  .next (s.idacApply l.val)

/-- IDAC_COMPLIANCE_LOW: the land voltage has exceeded VDAC − 2.0 V for 1 ms (R462). -/
def execIdacComplianceLow (l : Fin 16) (s : State) : Outcome State Fault Refusal :=
  if s.get D.idac_compliance l.val = 1 then .next s
  else .next ((s.set D.idac_compliance 1 l.val).error 0x4C l.val 0x0903 .warn)

/-- IDAC_COMPLIANCE_OK: the land voltage has stayed below VDAC − 2.5 V for 100 ms (R462). -/
def execIdacComplianceOk (l : Fin 16) (s : State) : Outcome State Fault Refusal :=
  .next (s.set D.idac_compliance 0 l.val)

/-- Every current output at boundary `k`: entries whose index has come, then its value. -/
def State.idacsBoundary (s : State) (k : Nat) : State :=
  (List.range 16).foldl (fun t l =>
    let n := k * t.blockLen
    let due := ((idacOf t.io.idac l).queue.filter fun e => decide (e.1 ≤ n)).length
    let t := (List.range due).foldl (fun t _ => t.idacApply l) t
    t.idacBoundary k l) s

end Sys2Proof.Machine
end

