-- ==== Sys2Proof/Machine/Ports.lean ====
section
/-! DEFINITION. Network ports, rings, filters and the stream engine (chapter 12). -/

namespace Sys2Proof.Machine

open Sys2Proof Host

/-! ### Frames -/

/-- `n` bytes of a frame from offset `o` on, as a number, big end first. -/
def frameField (f : List Byte) (o n : Nat) : Nat := beNat ((f.drop o).take n)

def frameTagged (f : List Byte) : Bool := frameField f 12 2 == 0x8100

/-- The EtherType, read after the tag when there is one (R479). -/
def frameType (f : List Byte) : Nat := if frameTagged f then frameField f 16 2 else frameField f 12 2

/-- The tag control information, or 0 (R484). -/
def frameTci (f : List Byte) : Nat := if frameTagged f then frameField f 14 2 else 0

/-- What follows the EtherType. -/
def frameBody (f : List Byte) : List Byte := f.drop (if frameTagged f then 18 else 14)

/-- The payload of an IPv4 packet, after its header. -/
def ipPayload (b : List Byte) : List Byte := b.drop (4 * (frameField b 0 1 % 16))

def ipProtocol (b : List Byte) : Nat := frameField b 9 1
def ipDest (b : List Byte) : Nat := frameField b 16 4

/-- An IPv4 address of a multicast group. -/
def ipMulticast (a : Nat) : Bool := a / 2 ^ 28 == 14

/-- The services of R478. -/
inductive Service
  | ptp | mdap | fabric | arp | stream | igmp
  deriving DecidableEq, Repr

/-- An enabled AES67 ingress context of a port matches an address and a UDP port (R478); a FABRIC port carries no AES67
(R471). -/
def State.ctxHears (s : State) (port dst udp c : Nat) : Bool :=
  s.get D.port_personality port != 0 && s.get D.is_kind c == 1 && (s.get D.is_ports c).testBit port && s.get D.is_addr c == dst &&
    s.get D.is_udp_port c == udp

/-- The contexts that match. -/
def State.ctxMatching (s : State) (port dst udp : Nat) : List Nat :=
  (List.range 512).filter fun c => s.ctxHears port dst udp c

/-- The service that the built-in classifier names for a frame's EtherType and content
(R478). -/
def State.builtin (s : State) (port : Nat) (f : List Byte) : Option Service :=
  let et := frameType f
  let b := frameBody f
  let mine := s.get D.port_ipv4 port
  if et = 0x88F7 then
    (if (s.get D.dom_ports 0).testBit port || (s.get D.dom_ports 1).testBit port then some .ptp
     else none)
  else if et = 0x88B5 then
    (if frameField f 0 6 = s.get D.port_mac port then some .mdap else none)
  else if et = 0x88B6 then some .fabric
  else if et = 0x0806 then
    (if mine != 0 && frameField b 24 4 = mine then some .arp else none)
  else if et = 0x0800 then
    (let u := ipPayload b
     if ipProtocol b = 17 then
       (let p := frameField u 2 2
        if mine != 0 && ipDest b = mine && (p = 319 || p = 320) then some .ptp
        else if mine != 0 && ipDest b = mine && p = s.get D.mdap_udp_port then some .mdap
        else if (s.ctxMatching port (ipDest b) p).isEmpty then none
        else some .stream)
     else if ipProtocol b = 2 && frameField u 0 1 = 0x11 then some .igmp
     else none)
  else none

/-- Where a frame goes (R477). -/
inductive Fate
  | service (x : Service)
  | ring (r filter : Nat)
  | unclaimed
  | dropped
  deriving DecidableEq, Repr

/-- A filter matches a frame (R479). -/
def State.filterMatches (s : State) (port f : Nat) (frame : List Byte) : Bool :=
  let tagged := frameTagged frame
  let v := s.get D.filt_vlan f
  let et := s.get D.filt_ethertype f
  s.getB D.filt_enable f && (s.get D.filt_ports f).testBit port &&
    (v == 0 || (v == 1 && !tagged) || (v == 2 && tagged) ||
      (v == 3 && tagged && frameTci frame % 4096 == s.get D.filt_vid f)) &&
    (et == 0 || et == frameType frame)

/-- The first filter that matches. -/
def State.firstFilter (s : State) (port : Nat) (frame : List Byte) : Option Nat :=
  (List.range 64).find? fun f => s.filterMatches port f frame

/-- The stream engine takes a frame: some context matches it (R479). -/
def State.streamTakes (s : State) (port : Nat) (f : List Byte) : Bool :=
  let b := frameBody f
  frameType f == 0x0800 && ipProtocol b == 17 &&
    !(s.ctxMatching port (ipDest b) (frameField (ipPayload b) 2 2)).isEmpty

/-- The classification of a frame, and the filter that matched it (R477–R479). -/
def State.classify (s : State) (port : Nat) (f : List Byte) : Fate × Option Nat :=
  let direct := if frameTagged f then none else s.builtin port f
  match direct with
  | some x => (.service x, none)
  | none =>
    match s.firstFilter port f with
    | some n =>
      let fate := match s.get D.filt_action n with
        | 1 => Fate.ring (s.get D.filt_ring n) n
        | 2 => if s.streamTakes port f then .service .stream else .dropped
        | 3 =>
          match s.builtin port f with
          | some x => .service x
          | none => .dropped
        | _ => .dropped
      (fate, some n)
    | none =>
      if s.get D.port_default port = 1 then (.ring (s.get D.port_default_ring port) 0xFF, none)
      else (.unclaimed, none)

/-! ### PAUSE (R474, R475) -/

/-- End a running pause and account for its time. -/
def State.pauseStop (s : State) (port : Nat) : State :=
  match s.ports.pauses.find? fun p => p.port == port with
  | none => s
  | some p =>
    let ns := ((s.time.local_ - p.since) / ns32).toNat
    ({ s with ports := { s.ports with
      pauses := s.ports.pauses.filter fun q => q.port != port } } : State).count
        D.pause_time_total port ns

/-! ### Rings (R480–R486) -/

/-- The local time, or a domain's, as a ring's stamp reads it (R141). -/
def State.ringTime (s : State) (ring : Nat) (lt : Int) : Int :=
  match s.get D.ring_timebase ring with
  | 1 => s.domainAt 0 lt
  | 2 => s.domainAt 1 lt
  | _ => lt

/-- A stamp as NT32 of a ring's timebase: the fraction is truncated (R141). -/
def State.ringStamp (s : State) (ring : Nat) (lt : Int) : Nat :=
  (s.ringTime ring lt / ns32 % 2 ^ 32).toNat

/-- A ring of yours runs: its run control is RUNNING and it has descriptors (R480). -/
def State.ringRuns (s : State) (ring : Nat) : Bool :=
  let r := ring % 32
  r ≥ 8 && s.get D.ring_size ring != 0 &&
    s.get (if ring < 32 then D.runRingRx else D.runRingTx) (r - 8) == 1

/-- The descriptors the module owns (R481). -/
def State.ringOwned (s : State) (ring : Nat) : Nat :=
  let n := s.get D.ring_size ring
  if s.ringRuns ring then (s.get D.ring_tail ring + n - s.get D.ring_head ring) % n else 0

/-- The address of the `k`-th descriptor from the head. -/
def State.ringAt (s : State) (ring k : Nat) : Nat :=
  s.get D.ring_base ring + 32 * ((s.get D.ring_head ring + k) % max 1 (s.get D.ring_size ring))

/-- A descriptor as a number, little-endian (R480). -/
def State.ringDesc (s : State) (ring k : Nat) : Nat := leNat (s.mem.cells.bytes (s.ringAt ring k) 32)

/-- Pass `n` written-back descriptors (R481). -/
def State.ringPass (s : State) (ring n : Nat) : State :=
  let size := max 1 (s.get D.ring_size ring)
  (s.set D.ring_head ((s.get D.ring_head ring + n) % size) ring).count D.ring_done ring n

/-- A bit of a descriptor. -/
def descBit (v i : Nat) : Bool := v / 2 ^ i % 2 == 1

/-- Replace a field of a descriptor. -/
def putBits (v lo width x : Nat) : Nat :=
  v % 2 ^ lo + x % 2 ^ width * 2 ^ lo + v / 2 ^ (lo + width) * 2 ^ (lo + width)

/-- What a received frame left in one descriptor: its position, status, and bytes stored. -/
structure RxPart where
  k : Nat
  status : Nat
  discard : Bool
  stored : Nat
  deriving DecidableEq, Repr

/-- Store a frame in the descriptors of a receive ring from the `k`-th on, `n` owned: the parts
in order and whether the frame ended. A buffer size out of bounds returns ABORTED, a buffer
outside USER returns BAD_DESC; the frame goes on in the next (R484, R573). -/
def State.rxStore (s : State) (ring : Nat) : Nat → Nat → List Byte → State × List RxPart × Bool
  | 0, _, rest => (s, [], rest.isEmpty)
  | n + 1, k, rest =>
    if rest.isEmpty then (s, [], true)
    else
      let v := s.ringDesc ring k
      let size := bits v 64 16
      let a := bits v 0 64
      if size % 64 ≠ 0 || size < 64 || size > 16320 then
        (let r := s.rxStore ring n (k + 1) rest
         (r.1, ⟨k, 2, true, 0⟩ :: r.2.1, r.2.2))
      else if !inUser a size then
        (let r := s.rxStore ring n (k + 1) rest
         (r.1, ⟨k, 4, true, 0⟩ :: r.2.1, r.2.2))
      else
        let part := rest.take size
        let r := (s.writeMem a part).rxStore ring n (k + 1) (rest.drop size)
        (r.1, ⟨k, 0, false, part.length⟩ :: r.2.1, r.2.2)

/-- Write one receive descriptor back (R484). -/
def State.rxWriteBack (s : State) (ring filter : Nat) (f : List Byte) (stamp : Nat)
    (first last : Bool) (p : RxPart) : State :=
  let v := s.ringDesc ring p.k
  let v := putBits v 96 16 p.stored
  let v := putBits v 112 8 p.status
  let v := putBits v 120 8 filter
  let v := putBits v 91 5 ((if frameTagged f then 1 else 0) + (if p.discard then 2 else 0) +
    (if last then 4 else 0) + (if first then 8 else 0))
  let v := if first then
      putBits (putBits (putBits v 128 32 stamp) 160 16 (frameTci f)) 176 16 (frameType f)
    else v
  s.writeMem (s.ringAt ring p.k) (leBytes 32 v)

/-- Write the parts of a frame back in ring order. -/
def State.rxWriteAll (s : State) (ring filter : Nat) (f : List Byte) (stamp : Nat)
    (lastK : Nat) : Bool → List RxPart → State
  | _, [] => s
  | first, p :: l =>
    let opens := first && p.status != 2 && p.status != 4
    (s.rxWriteBack ring filter f stamp opens (p.k == lastK && !p.discard) p).rxWriteAll
      ring filter f stamp lastK (first && !opens) l

/-- Deliver a frame to a receive ring (R484, R485, R573). -/
def State.deliverRing (s : State) (ring filter : Nat) (f : List Byte) (lt : Int) : State :=
  let n := s.ringOwned ring
  if n = 0 then (s.count D.ring_nobuf ring).count D.ring_discards ring
  else
    let r := s.rxStore ring n 0 f
    let stamp := s.ringStamp ring lt
    if r.2.2 then
      (r.1.rxWriteAll ring filter f stamp (r.2.1.length - 1) true r.2.1).ringPass ring r.2.1.length
    else
      let l := r.2.1.map fun p => if p.status = 0 then { p with status := 1, discard := true } else p
      (((r.1.rxWriteAll ring filter f stamp n true l).ringPass ring l.length).count
        D.ring_nobuf ring).count D.ring_discards ring

/-- Write a transmit descriptor back: its status, and its stamp in LAST with TS_REQ (R482). -/
def State.txWriteBack (s : State) (ring k status : Nat) (stamp : Option Nat) : State :=
  let v := putBits (putBits (s.ringDesc ring k) 160 8 status) 95 1 0
  let v := match stamp with
    | some x => putBits v 128 32 x
    | none => v
  s.writeMem (s.ringAt ring k) (leBytes 32 v)

/-- Return the first `n` descriptors of a ring with one status. -/
def State.txReturn (s : State) (ring status : Nat) (n : Nat) : State :=
  let t := (List.range n).foldl (fun u k => u.txWriteBack ring k status none) s
  let t := t.ringPass ring n
  { t with ports := { t.ports with launches := t.ports.launches.filter fun h => h.ring != ring } }

/-- The head frame of a transmit ring (R483). -/
inductive TxHead
  /-- No LAST among the descriptors the module owns. -/
  | open_
  /-- The frame breaks a limit: its descriptors return BAD_DESC. -/
  | bad (n : Nat)
  | frame (n : Nat) (buffers : List (Nat × Nat))
  deriving DecidableEq, Repr

/-- Collect the head frame: `n` descriptors left to look at, from the `k`-th on. A second FIRST
ends a frame that has no LAST. -/
def State.txCollect (s : State) (ring : Nat) : Nat → Nat → List (Nat × Nat) → TxHead
  | 0, _, _ => .open_
  | n + 1, k, acc =>
    let v := s.ringDesc ring k
    let first := descBit v 94
    let last := descBit v 93
    let acc := acc ++ [(bits v 0 64, bits v 64 16)]
    if k = 0 && !first then .bad 1
    else if k > 0 && first then .bad k
    else if last then
      (let total := acc.foldl (fun a b => a + b.2) 0
       let ok := acc.all fun b => decide (1 ≤ b.2) && decide (b.2 ≤ 1522) && inUser b.1 b.2
       if k < 16 && total ≤ 1522 && ok then .frame (k + 1) acc else .bad (k + 1))
    else s.txCollect ring n (k + 1) acc

/-- The head frame of a ring. -/
def State.txHead (s : State) (ring : Nat) : TxHead := s.txCollect ring (s.ringOwned ring) 0 []

/-- The bytes of a frame, gathered from its buffers. -/
def State.txBytes (s : State) (l : List (Nat × Nat)) : List Byte :=
  l.flatMap fun b => s.mem.cells.bytes b.1 b.2

/-- The time on the wire of a frame of `n` bytes, with its FCS and padding (R473). -/
def State.wireTime (s : State) (port n : Nat) : Int :=
  let bytes := max 60 n + 4
  if s.get D.port_speed port = 0 then bytes * 8 * ns32 / 10 else bytes * 8 * ns32

/-- The launch hold of a ring. -/
def State.launchOf (s : State) (ring : Nat) : Option LaunchHold :=
  s.ports.launches.find? fun h => h.ring == ring

/-- How far the start of a frame may lie from its launch time: 3.2 ns at 10GBASE-R, else 8 ns (R165). -/
def State.launchTol (s : State) (port : Nat) : Int := if s.get D.port_speed port = 0 then 16 * ns32 / 5 else 8 * ns32

/-- The launch time that the head frame of a ring carries and that is still to come, or is reached, in 2⁻³² ns. -/
def State.launchAt (s : State) (ring : Nat) : Option Int :=
  match s.launchOf ring with
  | some h => if h.late then none else some (h.at_ * ns32)
  | none => none

/-- A frame of a ring that starts at local time `lt` would still be on the wire at a launch that waits on another ring of
its port; of two launches at one time neither waits for the other (R166). -/
def State.guarded (s : State) (ring port n : Nat) (lt : Int) : Bool :=
  s.getB D.launch_guard port && s.ports.launches.any fun h =>
    h.ring != ring && s.get D.ring_port h.ring == port && !h.late &&
      (let now := s.ringTime h.ring lt
       let own := match s.launchAt ring with
         | some a => decide (h.at_ * ns32 ≤ a)
         | none => false
       !own && decide (now ≤ h.at_ * ns32) && decide (h.at_ * ns32 < now + s.wireTime port n))

/-- How a transmit ring can start its head frame at local time `lt`: not at all, as a plain frame (1), at once because it
is late (2), or because its launch time is reached (3) (R165–R167, R483). -/
def State.txRank (s : State) (port ring : Nat) (lt : Int) : Nat :=
  if !s.ringRuns ring || s.get D.ring_port ring != port then 0
  else
    match s.txHead ring with
    | .frame _ l =>
      if s.guarded ring port (l.foldl (fun a b => a + b.2) 0) lt then 0
      else if descBit (s.ringDesc ring 0) 91 then
        (match s.launchOf ring with
         | some h =>
           if h.late then 2
           else if decide (((h.at_ * ns32 - s.ringTime ring lt).natAbs : Int) ≤ s.launchTol port) then 3 else 0
         | none => 0)
      else 1
    | _ => 0

/-- The ring that sends next on a port: a launch whose time is reached, then a late one, then the highest priority; with
round-robin among equals (R165, R167, R483). Transmit rings are numbered 32–63. -/
def State.txPick (s : State) (port : Nat) (lt : Int) : Option Nat :=
  let key (r : Nat) : Nat := s.txRank port r lt * 256 + s.get D.ring_priority r
  let ready := ((List.range 64).filter fun r => 40 ≤ r && s.txRank port r lt != 0)
  let top := ready.foldl (fun a r => max a (key r)) 0
  let best := ready.filter fun r => key r == top
  let after := (look s.ports.lastRing port).getD 0
  match best.find? fun r => decide (after < r) with
  | some r => some r
  | none => best.head?

/-- A launch is late: its policy applies (R167). -/
def State.launchLate (s : State) (ring n : Nat) : State :=
  let port := s.get D.ring_port ring
  if descBit (s.ringDesc ring 0) 90 then (s.count D.launch_drops port).txReturn ring 2 n
  else
    let l : List LaunchHold := (s.launchOf ring).toList.map fun h => { h with late := true }
    let rest := s.ports.launches.filter fun h => h.ring != ring
    ({ s with ports := { s.ports with launches := l ++ rest } } : State).count D.launch_late port

/-- The launches of a port whose time has passed at local time `lt` are late (R167, R475). -/
def State.launchesPassed (s : State) (port : Nat) (lt : Int) : State :=
  let due := s.ports.launches.filter fun h =>
    s.get D.ring_port h.ring == port && !h.late && decide (h.at_ * ns32 + s.launchTol port < s.ringTime h.ring lt)
  due.foldl (fun u h =>
    match u.txHead h.ring with
    | .frame n _ => u.launchLate h.ring n
    | _ => u) s

/-- A port that is paused starts no frame after the pause began (R475). -/
def State.heldBack (s : State) (port : Nat) (lt : Int) : Bool :=
  s.ports.pauses.any fun q => q.port == port && decide (q.since ≤ lt)

/-- The ring frame that R483 selects has left, and its descriptors are written back: its message timestamp point crossed
the land at local time `lt`. -/
def State.txSend (s : State) (p ring n : Nat) (l : List (Nat × Nat)) (lt : Int) : State :=
  if l.any fun b => s.badIn b.1 b.2 then (s.error 0x29 0 0x0202 .degraded).txReturn ring 3 n
  else
    let v := s.ringDesc ring 0
    let late := (s.launchOf ring).any fun h => h.late
    let stamp := if descBit v 92 then
        some (s.ringStamp ring (lt + ofPs (s.getI D.ts_tx_adjust p))) else none
    let status := if late then 1 else 0
    let t := (List.range n).foldl (fun u k =>
      u.txWriteBack ring k status (if k + 1 = n then stamp else none)) s
    let t := (t.ringPass ring n).count D.tx_frames p
    { t with
      wire := ⟨.port p, "FRAME", (s.txBytes l).map fun b => b.toNat⟩ :: t.wire
      ports := { t.ports with
      launches := t.ports.launches.filter fun h => h.ring != ring
      lastRing := put t.ports.lastRing p ring } }

/-- TX_FRAME_DONE: a port has sent the ring frame that R483 selects; its message timestamp
point crossed the land at local time `lt` (R137, R139, R165–R167, R482, R483, R567). DEDUCED (log entry 116): a launch
whose time passed while another frame was on the wire is late. -/
def execTxFrameDone (port : Fin 7) (lt : Int) (s : State) : Outcome State Fault Refusal :=
  let p := port.val
  if s.get D.port_link p ≠ 1 || s.heldBack p lt then .next s
  else
    let t := s.launchesPassed p lt
    match t.txPick p lt with
    | none => .next t
    | some ring =>
      match t.txHead ring with
      | .frame n l => .next (t.txSend p ring n l lt)
      | _ => .next t

/-- LAUNCH: the head frame of transmit ring 8 + r carries a launch time and is examined
(R165–R167). -/
def execLaunch (r : Fin 24) (s : State) : Outcome State Fault Refusal :=
  let ring := 40 + r.val
  match s.txHead ring with
  | .frame n _ =>
    let v := s.ringDesc ring 0
    if !descBit v 91 || (s.launchOf ring).isSome then .next s
    else
      let now := s.ringTime ring s.time.local_
      let at_ := extendStamp (bits v 96 32) (now / ns32).toNat
      let h : LaunchHold := ⟨ring, at_, false⟩
      let t : State := { s with ports := { s.ports with launches := h :: s.ports.launches } }
      if at_ * ns32 < now + 10000 * ns32 then .next (t.launchLate ring n) else .next t
  | _ => .next s

/-- Return head frames that cannot be sent: BAD_DESC for those that break a limit, LINK_DOWN
while the link is not UP (R483). -/
def State.txSettle (s : State) (ring : Nat) : Nat → State
  | 0 => s
  | fuel + 1 =>
    if s.ringOwned ring = 0 then s
    else if s.get D.port_link (s.get D.ring_port ring) ≠ 1 then
      s.txReturn ring 5 (s.ringOwned ring)
    else
      match s.txHead ring with
      | .bad n => (s.txReturn ring 4 n).txSettle ring fuel
      | _ => s

/-- A write of ring_tail that R481 admits hands descriptors over. -/
def State.ringHandOver (s : State) (ring tail : Nat) : State :=
  let t := s.set D.ring_tail tail ring
  if ring < 32 then t else t.txSettle ring 4096

/-- ring_tail takes only a value below ring_size, so that the module never owns more than
ring_size − 1 descriptors (R481, R493). -/
def State.ringTailOk (s : State) (ring tail : Nat) : Bool :=
  decide (tail < s.get D.ring_size ring)

/-- The run control of a ring stops: a transmit ring returns every descriptor ABORTED; a
receive ring takes no more frames (R486). -/
def State.ringStop (s : State) (ring : Nat) : State :=
  if ring < 32 then s else s.txReturn ring 3 (s.ringOwned ring)

/-- Starting a ring sets ring_head and ring_tail to 0 (R480). -/
def State.ringStart (s : State) (ring : Nat) : State :=
  { ((s.set D.ring_head 0 ring).set D.ring_tail 0 ring) with ports := { s.ports with
    launches := s.ports.launches.filter fun h => h.ring != ring } }

/-- The descriptor array lies wholly in USER; otherwise the ring refuses to start (R573). -/
def State.ringPlaced (s : State) (ring : Nat) : Bool :=
  inUser (s.get D.ring_base ring) (32 * s.get D.ring_size ring)

/-- The frames of a port start again after a pause: what waits there leaves, and launches whose time has passed follow
their late policy (R475). -/
def State.pauseEnds (s : State) (port : Nat) : State := (s.drainPort port).launchesPassed port s.time.local_

/-- PAUSE_EXPIRE: the pause timer runs out (R475). -/
def execPauseExpire (port : Fin 7) (s : State) : Outcome State Fault Refusal :=
  .next ((s.pauseStop port.val).pauseEnds port.val)

/-- A MAC control frame: destination, opcode and pause_time (R474, R475). -/
def State.macControl (s : State) (port dst opcode quanta : Nat) : State :=
  if opcode ≠ 1 then s.count D.rx_mac_control port
  else
    let s := s.count D.pause_rx port
    if s.get D.port_pause port = 0 || !(dst == 0x0180C2000001 || dst == s.get D.port_mac port)
    then s
    else
      let t := s.pauseStop port
      if quanta = 0 then (if s.paused port then t.pauseEnds port else s)
      else
        let q : Int := if s.get D.port_speed port = 0 then 512 * ns32 / 10 else 512 * ns32
        let l : List PauseRun := ⟨port, s.time.local_, s.time.local_ + quanta * q⟩ :: t.ports.pauses
        { t with ports := { t.ports with pauses := l } }

/-- PAUSE_FRAME: a MAC control frame with a good FCS is received (R474, R475). -/
def execPauseFrame (port : Fin 7) (dst opcode quanta : Nat) (s : State) :
    Outcome State Fault Refusal :=
  .next (s.macControl port.val dst opcode quanta)

/-! ### The stream engine (R487–R491) -/

/-- The samples of a packet time (R488). -/
def State.packetSamples (s : State) (ptime : Nat) : Nat :=
  (match ptime with | 0 => 6 | 1 => 12 | _ => 48) * (s.fs / 48000)

def State.streamIn (s : State) (c : Nat) : StreamIn :=
  (s.ports.streams.find? fun x => x.ctx == c).getD { ctx := c }

def State.putStream (s : State) (x : StreamIn) : State :=
  let l : List StreamIn := x :: s.ports.streams.filter fun y => y.ctx != x.ctx
  { s with ports := { s.ports with streams := l } }

/-- A block whose deadline has passed: its boundary k + P − 1 is reached (R489), or in a pair its
presence map was sent (R550). -/
def State.streamClosed (s : State) (k : Nat) : Bool :=
  decide (k + s.get D.pres_offset ≤ s.blockNow + 1) ||
    s.twin.presence.any fun x => x.own && x.block == k

/-- Place one sample index of a context on its channels: `none` when it is late, or early
(R489). -/
def State.streamPlace (s : State) (c n : Nat) (words : List (F32 × Nat)) : State :=
  let k := n / s.blockLen
  let first := s.get D.is_first_ch c
  let t := words.zipIdx.foldl (fun u w => u.placeSample 1 (first + w.2) n w.1.1 w.1.2) s
  let x := t.streamIn c
  if x.placed.isSome then t else t.putStream { x with placed := some k }

/-- The slack of a frame whose first sample has index `n`, in µs (R638). -/
def State.streamSlack (s : State) (n : Int) : F32 :=
  let k := n / (s.blockLen : Int) + s.get D.pres_offset - 1
  let deadline := k * s.blockLen * 1000000000 * ns32 / s.fs
  F32.ofQuot (deadline - s.media) (1000 * 2 ^ 32)

/-- How samples of an index fare: late, early or placed (R489). -/
def State.streamFate (s : State) (n : Int) : Nat :=
  let k := n / (s.blockLen : Int)
  if n < 0 || s.streamClosed k.toNat then 1
  else if k > (s.blockNow : Int) + 64 then 2
  else 0

/-- Place a packet of a context: sample indices `n` on, one list of words for each (R489). -/
def State.streamPacket (s : State) (c : Nat) (n : Int) (rows : List (List (F32 × Nat))) : State :=
  let idx := rows.zipIdx
  let s := s.histRecord 1 c (s.streamSlack n)
  let late := idx.any fun r => s.streamFate (n + r.2) == 1
  let early := idx.any fun r => s.streamFate (n + r.2) == 2
  let t := idx.foldl (fun u r =>
    if s.streamFate (n + r.2) = 0 then u.streamPlace c (n + r.2).toNat r.1 else u) s
  let t := if late then t.count D.is_late c else t
  let t := if early then t.count D.is_early c else t
  t.count D.is_packets c

/-- The rows of an interleaved payload: `ch` channels of `bytes` bytes. -/
def pcmRows (bytes ch : Nat) : Nat → List Byte → List (List (F32 × Nat))
  | 0, _ => []
  | n + 1, l =>
    ((List.range ch).map fun i =>
      (wordF32 (8 * bytes) (beNat ((l.drop (i * bytes)).take bytes)), 0)) ::
      pcmRows bytes ch n (l.drop (ch * bytes))

/-- A packet reaches one context (R488, R489). -/
def State.aesPacket (s : State) (c : Nat) (p : RtpPacket) : State :=
  let bytes := if s.get D.is_encoding c = 0 then 2 else 3
  let ch := s.get D.is_channels c
  let n := s.packetSamples (s.get D.is_ptime c)
  if p.payloadType ≠ s.get D.is_payload_type c || p.payload.length ≠ bytes * ch * n then s
  else
    let ref := s.sampleNow
    let d : Int := ((p.timestamp : Int) - s.get D.is_rtp_offset c - (ref % 2 ^ 32 : Nat)) % 2 ^ 32
    let d := if d ≥ 2 ^ 31 then d - 2 ^ 32 else d
    ((s.set D.is_ssrc p.ssrc c).streamPacket c ((ref : Int) + d) (pcmRows bytes ch n p.payload))

/-- A packet reaches every context that it matches. -/
def State.aesReceive (s : State) (port : Nat) (p : RtpPacket) : State :=
  (s.ctxMatching port p.dst p.udpPort).foldl (fun t c => t.aesPacket c p) s

/-- The RTP packet of a frame, when it holds one: CSRC lists and extensions are skipped
(R488). -/
def rtpOf (f : List Byte) : Option RtpPacket :=
  let b := frameBody f
  let u := ipPayload b
  let r := u.drop 8
  let r := r.take (frameField u 4 2 - 8)
  let h := frameField r 0 1
  if h / 64 ≠ 2 || r.length < 12 then none
  else
    let q := r.drop (12 + 4 * (h % 16))
    let q := if h / 16 % 2 = 1 then q.drop (4 + 4 * frameField q 2 2) else q
    some ⟨ipDest b, frameField u 2 2, frameField r 1 1 % 128, frameField r 4 4, frameField r 8 4, q⟩

/-- AES67_PACKET_RX: a packet of the stream engine arrives at a port (R488, R489). -/
def execAes67PacketRx (port : Fin 7) (p : RtpPacket) (s : State) : Outcome State Fault Refusal :=
  .next (s.aesReceive port.val p)

/-- Close block `k` of every ingress context (R490): substitution, UNSETTLED until the first
placed block (R489), and the status word of the block. -/
def State.closeStreams (s : State) (k : Nat) : State :=
  (List.range 512).foldl (fun t c =>
    if t.get D.is_kind c = 0 then t
    else
      let chs := (List.range (t.get D.is_channels c)).map fun i => t.get D.is_first_ch c + i
      let missing := chs.foldl (fun a ch => max a (t.missingIn 1 ch k)) 0
      let x := t.streamIn c
      let unsettled := match x.placed with
        | some b => decide (k < b)
        | none => true
      let u := chs.foldl (fun v ch => v.closeInput 1 ch k (t.get D.is_conceal c = 1)
        (bitIf unsettled stUnsettled)) t
      let w := chs.foldl (fun a ch => a ||| ((u.input 1 ch k).map (·.word)).getD 0) 0
      (u.count D.is_missing c missing).set D.is_status w c) s

/-- Send one message on each of several ports. -/
def State.sendAll (s : State) (ports : List Nat) (kind : String) (fields : List Nat) : State :=
  ports.foldl (fun t p => t.send ⟨.port p, kind, fields⟩) s

/-- Send a message of IGMPv2 for a context's group on each of its ports (R491). -/
def State.igmp (s : State) (kind : String) (ports addr : Nat) : State :=
  if ipMulticast addr then s.sendAll ((maskPorts ports).filter fun p => s.get D.port_link p == 1)
    kind [addr]
  else s

/-- A commit changed an ingress context: it stops as it was and starts as it is (R489, R491). -/
def State.streamRestart (s : State) (c oldKind oldPorts oldAddr : Nat) : State :=
  let t := if oldKind = 1 then s.igmp "IGMP_LEAVE" oldPorts oldAddr else s
  let t : State := { t with ports := { t.ports with
    streams := t.ports.streams.filter fun y => y.ctx != c } }
  if t.get D.is_kind c = 1 then t.igmp "IGMP_REPORT" (t.get D.is_ports c) (t.get D.is_addr c) else t

/-- Answer an IGMP query on a port: a report for each group of an enabled context (R491). -/
def State.igmpAnswer (s : State) (port : Nat) : State :=
  let groups := ((List.range 512).filter fun c =>
    s.get D.is_kind c == 1 && (s.get D.is_ports c).testBit port &&
      ipMulticast (s.get D.is_addr c)).map fun c => s.get D.is_addr c
  groups.eraseDups.foldl (fun t a => t.send ⟨.port port, "IGMP_REPORT", [a]⟩) s

/-- The MAC address that an IPv4 destination has on a port: its group address, or what ARP
resolved (R491). -/
def State.macOf (s : State) (port ip : Nat) : Option Nat :=
  if ipMulticast ip then some (0x01005E000000 + ip % 2 ^ 23)
  else (s.ports.arp.find? fun a => a.port == port && a.ip == ip).map fun a => a.mac

/-- A sample as the bytes of an encoding (R488). -/
def pcmBytes (bytes : Nat) (x : F32) : List Byte :=
  beBytes bytes (ofSigned (8 * bytes) (convertSample (8 * bytes) x).1)

/-- The RTP header of an egress packet whose first presentation index is `n`: version 2, no marker (R488, R491). -/
def State.rtpHead (s : State) (c n : Nat) : List Byte :=
  [0x80#8] ++ beBytes 1 (s.get D.es_payload_type c) ++
    beBytes 2 (n / s.packetSamples (s.get D.es_ptime c) % 2 ^ 16) ++
    beBytes 4 ((n + s.get D.es_rtp_offset c) % 2 ^ 32) ++ beBytes 4 (s.get D.es_ssrc c)

/-- AES67_PACKET_TX: an egress context sends the packet of presentation indices `n` to
n + S − 1, late or at its launch time (R491). -/
def execAes67PacketTx (c : Fin 512) (n : Nat) (late : Bool) (s : State) :
    Outcome State Fault Refusal :=
  let c := c.val
  let sz := s.packetSamples (s.get D.es_ptime c)
  let port := s.get D.es_port c
  if s.get D.es_kind c ≠ 1 || n % sz ≠ 0 || s.get D.port_link port ≠ 1 || s.get D.port_personality port = 0 ||
      !s.twin.drive then .next s
  else
    match s.macOf port (s.get D.es_addr c) with
    | none =>
      .next ((s.count D.es_unresolved c).send ⟨.port port, "ARP_REQUEST", [s.get D.es_addr c]⟩)
    | some mac =>
      let bytes := if s.get D.es_encoding c = 0 then 2 else 3
      let first := s.get D.es_first_ch c
      let data := (List.range sz).flatMap fun i =>
        (List.range (s.get D.es_channels c)).flatMap fun ch =>
          pcmBytes bytes (s.destSample ⟨3, first + ch⟩ (n + i)).1
      let head := [mac, s.get D.es_addr c, s.get D.es_udp_port c, s.get D.es_vid c,
        s.get D.es_pcp c, s.get D.es_dscp c, s.get D.es_ttl c]
      let t := (s.send ⟨.port port, "AES67", head ++ (s.rtpHead c n ++ data).map fun b => b.toNat⟩).count
        D.es_packets c
      let t := t.count D.tx_frames port
      .next (if late || s.paused port then t.count D.es_late c else t)

/-! ### Reception (R471, R473, R476, R477) -/

/-- The codes of pw_wake_cause (R630). -/
def Wake.code : Wake → Nat
  | .alarm n => 1 + n.val
  | .comparator n => 5 + n.val
  | .input n => 7 + n.val
  | .mgt => 9 | .fab0 => 10 | .hspi => 11 | .partner => 12

/-- The wake starts: TW_HB_O toggles, DRAM changes to SP0, the core PLL ramps, the APLL acquires,
enabled domains listen and the LTC tracker starts anew (R623, R634). -/
def State.startWake (s : State) (w : Wake) : State :=
  let t : State := { s with
    power := { s.power with phase := .waking, early := none, entry := none }
    time := { s.time with wakeJoin := true, domains := s.time.domains.map fun d => { d with wakeReady := false } }
    timeline := { s.timeline with ltc := {} }
    twin := { s.twin with hbOut := !s.twin.hbOut } }
  let t := ((t.set D.pw_wake_cause w.code).set D.ltc_state 0).changeSetPoint 0
  let t := t.startRamp 0 (t.rampOf 0)
  let t := if t.get D.run12 = 1 then t.apllStart else t
  let t := ((List.range 2).foldl (fun u d =>
    (u.set D.dom_state (if u.getB D.dom_enable d && u.get D.runDom d == 1 then domListening else domDisabled) d).set
      D.dom_parent_port 7 d) t).syntUpdate
  if t.getB D.twin_enable then t.send ⟨.sideband, "TW_HB_O", [if t.twin.hbOut then 1 else 0]⟩ else t

/-- A wake event: it wakes a DORMANT module, and the first one during entry is kept until DORMANT is
reached (R621). -/
def State.wakeUp (s : State) (w : Wake) : State :=
  if s.power.phase = .dormant then s.startWake w
  else if (s.power.entry.any fun e => e.1 == 2) && s.power.early.isNone then
    { s with power := { s.power with early := some w } }
  else s

/-- A frame holds the magic sequence of a MAC address somewhere (R476). -/
def hasMagic (mac : Nat) : List Byte → Bool
  | [] => false
  | b :: l =>
    decide ((b :: l).take 102 = List.replicate 6 0xFF#8 ++ (List.replicate 16 (beBytes 6 mac)).flatten)
      || hasMagic mac l

/-- A frame matches a wake pattern (R476). -/
def matchesPattern (pat : List Byte) (mask : Nat) (f : List Byte) : Bool :=
  (List.range 64).all fun i => !mask.testBit i || (decide (i < f.length) && f[i]? == some (pat.getD i 0#8))

/-- The wake objects of a port: MGT and FAB0 have them (R492). -/
def wakeObjs (port : Nat) : Obj × Obj × Obj × Obj × Obj × Obj :=
  if port = 6 then (D.wake_enable_mgt, D.wake_magic_mgt, D.wake_pat_mgt, D.wake_pat_mask_mgt,
    D.wake_pat_enable_mgt, D.wake_cause_mgt)
  else (D.wake_enable, D.wake_magic, D.wake_pat, D.wake_pat_mask, D.wake_pat_enable, D.wake_cause)

/-- The wake detector of MGT and FAB0 in DORMANT (R476). -/
def State.wakeFrame (s : State) (port : Nat) (f : List Byte) : State :=
  let o := wakeObjs port
  if (port ≠ 6 && port ≠ 0) || !s.getB o.1 || s.get D.port_speed port = 0 then s
  else
    let pats := (List.range 4).find? fun k => s.getB o.2.2.2.2.1 k &&
      matchesPattern (s.blob o.2.2.1 k).data (s.get o.2.2.2.1 k) f
    let cause := if s.getB o.2.1 && hasMagic (s.get D.port_mac port) f then some 1
      else pats.map fun k => k + 2
    match cause with
    | none => s
    | some c => (s.set o.2.2.2.2.2 c).wakeUp (if port = 6 then .mgt else .fab0)

/-- The payload of a fabric frame: version, type and a length field that agrees with the frame,
its trailer or its padding counted (R500). -/
def fabricFormatOk (b : List Byte) : Bool :=
  let len := frameField b 14 2
  let ty := frameField b 1 1
  frameField b 0 1 == 1 && decide (1 ≤ ty) && decide (ty ≤ 6) && decide (len ≤ 1460) &&
    decide (16 + len ≤ b.length) && decide (b.length ≤ max 46 (40 + len))

/-- A service takes a frame. ARP, IGMP and the stream engine act at once; what a PTP, MDAP or
fabric message does is the command of that message (log entry 28). -/
def State.serve (s : State) (port : Nat) (f : List Byte) (x : Service) : State :=
  match x with
  | .arp =>
    let b := frameBody f
    let e : ArpEntry := ⟨port, frameField b 14 4, frameField b 8 6⟩
    let l : List ArpEntry := e :: s.ports.arp.filter fun a => !(a.port == port && a.ip == e.ip)
    let t : State := { s with ports := { s.ports with arp := l } }
    if frameField b 6 2 = 1 then t.send ⟨.port port, "ARP_REPLY", [e.ip, e.mac]⟩ else t
  | .igmp => s.igmpAnswer port
  | .stream =>
    match rtpOf f with
    | some p => s.aesReceive port p
    | none => s
  | .fabric => if fabricFormatOk (frameBody f) then s else s.count D.fab_format_drops
  | _ => s

/-- FRAME_RECEIVE: a frame, from its destination address to the end of its payload, has been
received at a port; its message timestamp point crossed the land at local time `lt` (R471,
R473, R474, R476, R477). -/
def execFrameReceive (port : Fin 7) (fcsOk : Bool) (f : List Byte) (lt : Int) (s : State) :
    Outcome State Fault Refusal :=
  let p := port.val
  if s.power.phase = .dormant then .next (if fcsOk then s.wakeFrame p f else s)
  else if s.get D.port_link p ≠ 1 then .next s
  else if !fcsOk || f.length < 60 then .next (s.count D.rx_fcs_errors p)
  else if f.length > 1518 then .next (s.count D.rx_oversize p)
  else
    let s := s.count D.rx_frames p
    let et := frameField f 12 2
    if et = 0x8808 then
      .next (s.macControl p (frameField f 0 6) (frameField f 14 2) (frameField f 16 2))
    else if et = 0x88B6 && s.get D.port_personality p = 1 then .next (s.count D.rx_personality_drops p)
    else
      let r := s.classify p f
      let s := match r.2 with
        | some n => s.count D.filt_hits n
        | none => s
      match r.1 with
      | .service x => .next (s.serve p f x)
      | .ring ring filter =>
        .next (s.deliverRing ring filter f (lt - ofPs (s.getI D.ts_rx_adjust p)))
      | .unclaimed => .next (s.count D.rx_unclaimed p)
      | .dropped => .next s

end Sys2Proof.Machine
end

