-- ==== Sys2Proof/Machine/Link.lean ====
section
/-! DEFINITION. What handshakes derive (R110–R113), and the fabric's frames on a link: their bytes, their trailers, and
the steps of admission as ADMIT frames carry them (R500–R507, R517). -/

namespace Sys2Proof.Machine

open Sys2Proof Host

/-! ### The transcript, the keys and the clock of a handshake (R110–R113) -/

def mtSesInit : Nat := 0x20
def mtSesReply : Nat := 0x21
def mtSesCert : Nat := 0x22
def mtSesFinish : Nat := 0x23

/-- The module's own chain, dev_chain (R111, R605). -/
def State.ownChain (s : State) : List Byte := (s.blob D.dev_chain).data

/-- H of R112, over the nonces and ephemeral keys of the peer and the module, the session ID, and the chains of the
module and the peer. -/
def transcriptOf (nonceP keyP nonceM keyM : List Byte) (id : Nat) (chainM chainP : List Byte) : List Byte :=
  sha256 (nonceP ++ keyP ++ nonceM ++ keyM ++ beBytes 4 id ++ chainM ++ chainP)

/-- K of R112: two keys of 16 bytes, then two salts of 4. -/
def keysOf (label : String) (nonceP nonceM agreed digest : List Byte) : List Byte :=
  hkdf (nonceP ++ nonceM) agreed (textBytes label ++ digest) 40

/-- UTC in seconds: of a domain that is locked to PTP, or before that of the always-on time-keeper, which holds a time
unless it started from zero (R113; log entry 61). -/
def State.utcNow (s : State) : Option Nat :=
  let utc (ns : Nat) : Nat := ns / 1000000000 - Config.utcLead
  if s.get D.dom_state 0 = domLocked then some (utc (toNT64 (s.domainTime 0)))
  else if s.get D.dom_state 1 = domLocked then some (utc (toNT64 (s.domainTime 1)))
  else if s.time.released ≠ 0 then some (utc s.aodTime)
  else none

/-! ### Neighbours -/

def State.nbr (s : State) (p : Nat) : Neighbour :=
  (s.fabric.neighbours.find? fun n => n.port == p).getD { port := p }

def State.putNbr (s : State) (n : Neighbour) : State :=
  let l : List Neighbour := n :: s.fabric.neighbours.filter fun m => m.port != n.port
  { s with fabric := { s.fabric with neighbours := l } }

/-! ### Frames (R500) -/

/-- The types of fabric frames. -/
def ftHello : Nat := 0x01
def ftAdmit : Nat := 0x02
def ftLsa : Nat := 0x03
def ftLsaAck : Nat := 0x04
def ftStream : Nat := 0x05
def ftTxn : Nat := 0x06

/-- The name by which a frame of a type stands among what is sent. -/
def frameName (type : Nat) : String :=
  if type = ftHello then "HELLO"
  else if type = ftAdmit then "ADMIT"
  else if type = ftLsa then "LSA"
  else if type = ftLsaAck then "LSA_ACK"
  else if type = ftStream then "STREAM"
  else "TXN"

/-- The destination kinds: unicast to a node, every vertex, and this link only. -/
def toNode (n : Nat) : Nat := n % 4096
def toEvery : Nat := 0x4000
def toLink : Nat := 0x8000

/-- The tree and the generation parity that the flags name, and the originating vertex. -/
def FabFrame.treeB (f : FabFrame) : Bool := f.flags.testBit 7
def FabFrame.gen (f : FabFrame) : Bool := f.flags.testBit 6
def FabFrame.vertex (f : FabFrame) : Nat := f.source % 8192

/-- The frame is for every vertex; else the node it is for, where it is unicast. -/
def FabFrame.forEvery (f : FabFrame) : Bool := f.dest / 16384 % 4 == 1
def FabFrame.forNode (f : FabFrame) : Nat := f.dest % 4096

/-- The flags of a frame. -/
def fabFlags (treeB gen : Bool) : Nat := 128 * treeB.toNat + 64 * gen.toNat

/-- The frame from its destination MAC to the end of its body: what its tag covers. -/
def FabFrame.covered (f : FabFrame) (body : List Byte) : List Byte :=
  beBytes 6 0x03000000B600 ++ beBytes 6 f.mac ++ beBytes 2 0x88B6 ++ beBytes 1 f.version ++ beBytes 1 f.type ++
    beBytes 1 f.flags ++ beBytes 1 f.hop ++ beBytes 2 f.source ++ beBytes 2 f.dest ++ beBytes 4 f.streamId ++
    beBytes 2 f.sequence ++ beBytes 2 f.length ++ body

/-! ### Trailers (R501) -/

/-- The tag of a frame under the key of its direction. -/
def LinkDir.tagOf (k : LinkDir) (linkSeq : Nat) (covered : List Byte) : List Byte :=
  gcmTag k.key (k.salt ++ beBytes 8 linkSeq) covered []

/-- A received frame's tag and link_seq are good under a direction's key: the 64-entry window holds the highest
link_seq accepted and the 63 below it (log entry 124). -/
def LinkDir.admits (k : LinkDir) (f : FabFrame) (body : List Byte) : Bool :=
  f.tag == k.tagOf f.linkSeq (f.covered body) && decide (k.top < f.linkSeq + 64) && !k.seen.contains f.linkSeq

/-- Note an accepted link_seq. -/
def LinkDir.accept (k : LinkDir) (linkSeq : Nat) : LinkDir :=
  let top := max k.top linkSeq
  { k with top := top, seen := (linkSeq :: k.seen).filter fun x => decide (top < x + 64) }

/-- A frame of a port carries a trailer: every one but ADMIT, and HELLO where the link is not TWO_WAY. -/
def State.trailed (s : State) (p type : Nat) : Bool :=
  type != ftAdmit && (type != ftHello || s.get D.nbr_state p == 3)

/-- Check the trailer of a received frame: the state after it, and whether the frame stays. After a new handshake the
frames under the old key stay good until the first one under the new key (R506; log entry 124). A link that is not
TWO_WAY has no key, and no tag is good there. -/
def State.linkAuth (s : State) (p : Nat) (f : FabFrame) (body : List Byte) : State × Bool :=
  let n := s.nbr p
  let up := s.get D.nbr_state p == 3
  let good (k : Option LinkDir) : Bool := up && k.any fun d => d.admits f body
  if good n.rx then (s.putNbr { n with rx := n.rx.map fun d => d.accept f.linkSeq, rxOld := none }, true)
  else if good n.rxOld then (s.putNbr { n with rxOld := n.rxOld.map fun d => d.accept f.linkSeq }, true)
  else (s.count D.fab_auth_drops, false)

/-- A frame has the version and a type of R500, and its length field agrees with its body. -/
def FabFrame.formed (f : FabFrame) (type : Nat) (body : List Byte) : Bool :=
  f.version == 1 && f.type == type && f.length == body.length

/-- A received frame of a type: its format and its trailer are checked (R500, R501). -/
def State.linkFrame (s : State) (p type : Nat) (f : FabFrame) (body : List Byte) : State × Bool :=
  if !f.formed type body then (s.count D.fab_format_drops, false)
  else if s.trailed p type then s.linkAuth p f body
  else (s, true)

/-- A frame leaves a port (R500, R501): from its port_mac, with the next link_seq of its direction. DESIGN CHOICE (log
entry 124): a frame that waits at the port has its trailer already. -/
def State.sendLink (s : State) (p : Nat) (f : FabFrame) (body : List Byte) : State :=
  let f : FabFrame := { f with mac := s.get D.port_mac p, length := body.length }
  let c := f.covered body
  let n := s.nbr p
  let out (u : State) (l : List Byte) : State := u.send ⟨.port p, frameName f.type, l.map fun b => b.toNat⟩
  match if s.trailed p f.type then n.tx else none with
  | some k =>
    let k : LinkDir := { k with top := k.top + 1 }
    out (s.putNbr { n with tx := some k }) (c ++ beBytes 8 k.top ++ k.tagOf k.top c)
  | none => out s c

/-! ### Bodies (R503, R507, R508, R517) -/

def Hello.bytes (h : Hello) : List Byte :=
  beBytes 2 h.node ++ beBytes 1 h.slot ++ beBytes 1 h.role ++ beBytes 1 h.port ++ beBytes 1 h.state ++ beBytes 1 h.rate ++
    beBytes 1 h.pres ++ beBytes 4 h.fabId ++ beBytes 8 h.pairId ++ beBytes 4 h.lsaSeq ++ beBytes 8 h.digest ++
    beBytes 16 h.certFp

def LsaLink.bytes (x : LsaLink) : List Byte :=
  beBytes 2 x.vertex ++ beBytes 1 x.localPort ++ beBytes 1 x.remotePort ++ beBytes 2 x.cost ++ beBytes 2 0

def Lsa.bytes (l : Lsa) : List Byte :=
  beBytes 2 l.vertex ++ beBytes 1 (l.leaving.toNat + 2 * l.conflict.toNat + 4 * l.origin.toNat) ++
    beBytes 1 l.links.length ++ beBytes 4 l.seq ++ beBytes 8 l.claim ++ beBytes 8 l.pairId ++ beBytes 16 l.certFp ++
    l.links.flatMap LsaLink.bytes

def lsaAckBytes (vertex seq : Nat) : List Byte := beBytes 2 vertex ++ beBytes 4 seq

/-- The body of a STREAM frame: sample 0 of every channel first, channels in order. -/
def StreamFrame.bytes (f : StreamFrame) : List Byte :=
  beBytes 8 f.firstIndex ++ beBytes 1 f.status.length ++ [0#8, 0#8, 0#8] ++ (f.status.flatMap fun w => beBytes 2 w) ++
    (List.range (f.samples.headD []).length).flatMap fun n =>
      f.samples.flatMap fun l => beBytes 4 (l.getD n 0#32).toNat

/-! ### Admission (R505) -/

/-- The body of an ADMIT frame: the step's message type, and its payload. -/
def AdmitStep.bytes : AdmitStep → List Byte
  | .init nonce key => beBytes 1 mtSesInit ++ nonce ++ key
  | .reply status id nonce key total => beBytes 1 mtSesReply ++ beBytes 1 status ++ beBytes 4 id ++ nonce ++ key ++ beBytes 2 total
  | .certRead id offset len => beBytes 1 mtSesCert ++ beBytes 4 id ++ beBytes 2 offset ++ beBytes 2 len
  | .certSend id offset total data =>
    beBytes 1 mtSesCert ++ beBytes 4 id ++ beBytes 2 offset ++ beBytes 2 total ++ data
  | .certReply status data => beBytes 1 (mtSesCert + 128) ++ beBytes 1 status ++ data
  | .finish id sig => beBytes 1 mtSesFinish ++ beBytes 4 id ++ sig
  | .finishReply status sig => beBytes 1 (mtSesFinish + 128) ++ beBytes 1 status ++ sig

/-- The chain that a unit sends on a link: its own, with the enrolled owner certificate appended. -/
def State.linkChain (s : State) : List Byte := s.ownChain ++ (s.blob D.owner_cert).data

/-- H of a link's handshake, for a unit whose chain is `own`. -/
def LinkShake.transcript (x : LinkShake) (own : List Byte) : List Byte :=
  let chains := if x.initiator then (x.chain, own) else (own, x.chain)
  transcriptOf x.nonceP x.keyP x.nonceM x.keyM x.id chains.1 chains.2

/-- The two directions that follow from a link's handshake, our own first: the initiator sends under key_pm and
iv_pm. -/
def LinkShake.directions (x : LinkShake) (own : List Byte) : LinkDir × LinkDir :=
  let other := if x.initiator then x.keyM else x.keyP
  let k := keysOf "YAL v1" x.nonceP x.nonceM (sharedSecret x.secret ((keyOf other).getD eccG)) (x.transcript own)
  let pm : LinkDir := { key := k.take 16, salt := (k.drop 32).take 4 }
  let mp : LinkDir := { key := (k.drop 16).take 16, salt := k.drop 36 }
  if x.initiator then (pm, mp) else (mp, pm)

/-- The device chain of another unit, which verifies to the Camervy root, where the owner certificate appended to it is
byte-identical to the one enrolled here (R505, R542). -/
def State.peerChain (s : State) (chain : List Byte) : Option (List Cert) :=
  match if decide (chain.length ≤ 8192) && s.get D.owner_state != 0 then derList 5 chain else none with
  | none => none
  | some l =>
    let same := ((l.getLast?.map fun d => d.whole).getD []) == (s.blob D.owner_cert).data
    (l.dropLast.mapM certOf).bind fun m => if same && verifiesTo Config.rootCert m then some m else none

/-- A unit admits the other of a link: its chain, its signature, and the validity periods. -/
def State.admitsLink (s : State) (x : LinkShake) (sig : List Byte) : Bool :=
  x.chain.length == x.total &&
    match s.peerChain x.chain with
    | some (leaf :: m) =>
      signed leaf.key (x.transcript s.linkChain) sig && s.utcNow.all fun now => chainValidAt now (leaf :: m)
    | _ => false

end Sys2Proof.Machine
end

