-- ==== Sys2Proof/Machine/Fabric.lean ====
section
/-! DEFINITION. The Yalinary fabric (chapter 13): neighbours and admission, link state, trees,
object streams, route changes and the scene digest. A vertex is written slot × 4096 + node. -/

namespace Sys2Proof.Machine

open Sys2Proof Host

/-! ### This vertex -/

def State.fabNode (s : State) : Nat := s.get D.fab_node_addr

/-- This module's vertex: a solo module is slot 0 (R498, R537). -/
def State.vertex (s : State) : Nat :=
  (if s.getB D.twin_enable && !s.twin.slotZero then 4096 else 0) + s.fabNode

/-- The unit originates for its node: SOLO or ACTIVE, and not in CONFLICT (R498, R510). -/
def State.originates (s : State) : Bool := s.get D.twin_role ≤ 1 && s.get D.fab_state != 3

/-- The fingerprint of the own device certificate, 16 bytes. -/
def State.certFp (s : State) : Nat := s.get D.dev_fp_hi * 2 ^ 64 + s.get D.dev_fp_lo

/-- pair_id (R499). -/
def State.pairId (s : State) : Nat :=
  match s.twin.pairId with
  | some x => x
  | none => s.get D.dev_fp_hi

/-- A port carries fabric frames: its personality allows them and its link is UP (R471). -/
def State.fabPort (s : State) (p : Nat) : Bool :=
  p < 6 && s.get D.port_personality p != 1 && s.get D.port_link p == 1

/-- Neighbour states (R526): DOWN 0, INIT 1, ADMITTING 2, TWO_WAY 3, MISMATCH 4, REFUSED 5. -/
def State.twoWay (s : State) : List Nat :=
  (List.range 6).filter fun p => s.get D.nbr_state p == 3

/-- The head of a frame that this vertex originates on a link (R500). DESIGN CHOICE (log entry 124): HELLO, ADMIT, LSA
and LSA_ACK go to this link only, and name this vertex as their source with fab_hop_limit. -/
def State.linkHead (s : State) (type : Nat) : FabFrame :=
  { type := type, hop := s.get D.fab_hop_limit, source := s.vertex, dest := toLink }

/-- The head of a frame that this vertex originates on a tree. -/
def State.treeHead (s : State) (type dest streamId sequence : Nat) (treeB : Bool) (gen : Nat) : FabFrame :=
  { type := type, flags := fabFlags treeB (gen % 2 == 1), hop := s.get D.fab_hop_limit, source := s.vertex, dest := dest,
    streamId := streamId, sequence := sequence % 65536 }

/-! ### The own LSA and flooding (R507, R508) -/

/-- The own LSA (R507). -/
def State.ownLsa (s : State) : Lsa :=
  let links := s.twoWay.map fun p =>
    (⟨s.get D.nbr_vertex p, p, (s.nbr p).remotePort, s.get D.nbr_cost p⟩ : LsaLink)
  ⟨s.vertex, s.get D.fab_state == 4, s.get D.fab_state == 3, s.originates, s.fabric.seq,
    s.get D.fab_claim_time, s.pairId, s.certFp, links⟩

/-- An LSA leaves a port (R507). -/
def State.sendLsa (s : State) (p : Nat) (l : Lsa) : State := s.sendLink p (s.linkHead ftLsa) l.bytes

/-- Send an LSA on ports; each port must acknowledge it (R508). -/
def State.flood (s : State) (l : Lsa) (ports : List Nat) : State :=
  let t := ports.foldl (fun u p => u.sendLsa p l) s
  let w := ports.map fun p => (p, l.vertex, l.seq)
  { t with fabric := { t.fabric with
    waiting := t.fabric.waiting.filter (fun x => !(x.2.1 == l.vertex && ports.contains x.1)) ++ w } }

/-- Hold an LSA, refreshed now. -/
def State.holdLsa (s : State) (l : Lsa) : State :=
  let d : List HeldLsa := ⟨l, s.time.local_⟩ :: s.fabric.lsdb.filter fun h => h.lsa.vertex != l.vertex
  { s with fabric := { s.fabric with lsdb := d } }

/-- Raise lsa_seq to at least `n`, hold the own LSA and flood it (R508). -/
def State.floodOwn (s : State) (n : Nat) : State :=
  let s : State := { s with fabric := { s.fabric with seq := max n (s.fabric.seq + 1) } }
  let l := s.ownLsa
  (s.holdLsa l).flood l s.twoWay

/-! ### The graph (R509, R510) -/

/-- An LSA loses its claim to another of the same node (R510). -/
def Lsa.losesTo (a b : Lsa) : Bool :=
  a.vertex % 4096 == b.vertex % 4096 && a.pairId != b.pairId &&
    (decide (b.claim < a.claim) || (a.claim == b.claim && decide (b.pairId < a.pairId)))

/-- The LSAs that stand in the graph. -/
def State.graphLsas (s : State) : List Lsa :=
  let all := s.fabric.lsdb.map fun h => h.lsa
  all.filter fun a => !a.leaving && !a.conflict && !all.any fun b => a.losesTo b

/-- A directed link: from, to, the cost its start lists, and the ports at both ends. -/
structure Arc where
  src : Nat
  dst : Nat
  cost : Nat
  srcPort : Nat
  dstPort : Nat
  deriving DecidableEq, Repr

/-- The links that both ends list (R509). -/
def arcsOf (l : List Lsa) : List Arc :=
  l.flatMap fun a => (a.links.filter fun x =>
    l.any fun b => b.vertex == x.vertex && b.links.any fun y =>
      y.vertex == a.vertex && y.localPort == x.remotePort && y.remotePort == x.localPort).map fun x =>
        ⟨a.vertex, x.vertex, x.cost, x.localPort, x.remotePort⟩

/-- One round of relaxation of distances from a root. -/
def relax (arcs : List Arc) (dist : List (Nat × Nat)) : List (Nat × Nat) :=
  arcs.foldl (fun d a =>
    match look d a.src with
    | none => d
    | some x =>
      match look d a.dst with
      | none => put d a.dst (x + a.cost)
      | some y => if x + a.cost < y then put d a.dst (x + a.cost) else d) dist

def relaxN (arcs : List Arc) : Nat → List (Nat × Nat) → List (Nat × Nat)
  | 0, d => d
  | n + 1, d => relaxN arcs n (relax arcs d)

/-- The least costs from a root to the vertices it reaches. -/
def distances (arcs : List Arc) (vertices : List Nat) (root : Nat) : List (Nat × Nat) :=
  relaxN arcs vertices.length [(root, 0)]

/-- The order of vertices by (node, slot) (R513). -/
def vertexKey (v : Nat) : Nat := v % 4096 * 16 + v / 4096

/-- The branch to a vertex on its least-cost path: among equal costs the parent with the lowest
(node, slot), then the lowest local port (R513). -/
def branchTo (arcs : List Arc) (dist : List (Nat × Nat)) (v : Nat) : Option TreeBranch :=
  let ok := arcs.filter fun a => a.dst == v &&
    (match look dist a.src, look dist v with
     | some x, some y => x + a.cost == y && decide (0 < a.cost)
     | _, _ => false)
  (ok.foldl (fun best a =>
    match best with
    | none => some a
    | some b =>
      if decide (vertexKey a.src < vertexKey b.src) ||
          (a.src == b.src && decide (a.dstPort < b.dstPort)) then some a else best) none).map
    fun a => ⟨v, a.src, a.dstPort, a.srcPort⟩

/-- The shortest-path tree from a root. -/
def spTree (arcs : List Arc) (vertices : List Nat) (root : Nat) : List TreeBranch :=
  let d := distances arcs vertices root
  (vertices.filter fun v => v != root).filterMap fun v => branchTo arcs d v

/-- A link lies on a tree, in either direction. -/
def onBranches (l : List TreeBranch) (a : Arc) : Bool :=
  l.any fun b => (b.child == a.dst && b.parent == a.src && b.childPort == a.dstPort) ||
    (b.child == a.src && b.parent == a.dst && b.childPort == a.srcPort)

/-- Tree B (R513): disjoint from tree A where it can be; a vertex out of reach hangs on its
least-cost path with the links of tree A at 16 times their cost. -/
def treeBOf (arcs : List Arc) (vertices : List Nat) (root : Nat) (a : List TreeBranch) : List TreeBranch :=
  let free := arcs.filter fun x => !onBranches a x
  let b := spTree free vertices root
  let heavy := arcs.map fun x => if onBranches a x then { x with cost := 16 * x.cost } else x
  let full := spTree heavy vertices root
  (vertices.filter fun v => v != root).filterMap fun v =>
    match b.find? fun x => x.child == v with
    | some x => some x
    | none => full.find? fun x => x.child == v

/-- The two trees of a root. -/
def treesOf (arcs : List Arc) (vertices : List Nat) (root : Nat) : List Tree :=
  let a := spTree arcs vertices root
  [⟨root, false, a⟩, ⟨root, true, treeBOf arcs vertices root a⟩]

/-- The vertices reachable from this one, and the links among them (R509). -/
def State.graph (s : State) : List Nat × List Arc :=
  let l := s.graphLsas
  let arcs := arcsOf l
  let vs := l.map fun a => a.vertex
  let reach := (distances arcs vs s.vertex).map fun p => p.1
  let vs := vs.filter fun v => reach.contains v
  (vs, arcs.filter fun a => vs.contains a.src && vs.contains a.dst)

/-- The participants of ALL: the nodes of the graph (R509). -/
def State.graphNodes (s : State) : List Nat := (s.graph.1.map fun v => v % 4096).eraseDups

/-- Every tree of a graph: two for each vertex that carries ORIGIN (R513), and two for the other
vertex of each pair on the graph without its partner (R553). -/
def allTrees (lsas : List Lsa) (vs : List Nat) (arcs : List Arc) : List Tree :=
  vs.flatMap fun v =>
    if lsas.any fun a => a.vertex == v && a.origin then treesOf arcs vs v
    else
      match vs.find? fun u => u != v && u % 4096 == v % 4096 with
      | none => []
      | some u => treesOf (arcs.filter fun a => a.src != u && a.dst != u) (vs.filter fun w => w != u) v

/-- A listed cost belongs to a 10GBASE-R link when it lies below 100 (log entry 30). -/
def fastCost (c : Nat) : Bool := decide (c < 100)

/-- The latency of the path from a root to a vertex, in ns (R522, R523). -/
def pathLatency (arcs : List Arc) (t : Tree) : Nat → Nat → Nat
  | 0, _ => 0
  | n + 1, v =>
    if v = t.root then 2000
    else
      match t.branches.find? fun b => b.child == v with
      | none => 0
      | some b =>
        let fast := arcs.any fun a => a.src == b.parent && a.dst == b.child && fastCost a.cost
        pathLatency arcs t n b.parent + (if fast then 11000 else 28000)

/-- The fabric budget of R523, in ns. -/
def State.fabricBudget (s : State) : Nat := (s.get D.pres_offset - 3) * 1000000 / 3 + 300000

/-- Frame bytes of a stream of C channels (R517). -/
def streamBytes (ch l : Nat) : Nat := 70 + 2 * ch + 4 * l * ch

/-- The load of a link direction in bit/s from known flows (R524). -/
def flowLoad (trees : List Tree) (flows : List Flow) (l : Nat) (src dst port : Nat) : Nat :=
  (flows.map fun f =>
    ((trees.filter fun t => t.root == f.source && t.branches.any fun b =>
      b.parent == src && b.child == dst && b.parentPort == port).length) *
      (3000 * (streamBytes f.channels l + 20) * 8)).foldl (· + ·) 0

/-- The bit rate of a link by its listed cost (R524; log entry 30). -/
def linkRate (cost : Nat) : Nat := if fastCost cost then 10 ^ 10 else 10 ^ 9

/-- The own egress FABRIC contexts as flows. -/
def State.ownFlows (s : State) : List Flow :=
  ((List.range 512).filter fun c => s.get D.es_kind c == 2).map fun c =>
    ⟨s.get D.es_fab_stream c, s.vertex, s.get D.es_channels c, s.time.local_⟩

/-- Streams known on the fabric: the own ones, and those whose frames arrived within the last
100 ms (log entry 30). -/
def State.knownFlows (s : State) : List Flow :=
  s.ownFlows ++ s.fabric.flows.filter fun f => decide (s.time.local_ - f.time ≤ 100000000 * ns32)

/-- The greatest load over the links of the graph, in units of 10⁻⁶ of its rate. -/
def maxLoad (trees : List Tree) (flows : List Flow) (l : Nat) (arcs : List Arc) : Nat :=
  arcs.foldl (fun m a =>
    max m (flowLoad trees flows l a.src a.dst a.srcPort * 1000000 / linkRate a.cost)) 0

/-- The trees of the newest generation. -/
def State.treesNow (s : State) : List Tree :=
  match s.fabric.gens with
  | g :: _ => g.trees
  | [] => []

/-- Show the loads of the links (R524, R527). -/
def State.showLoads (s : State) : State :=
  let g := s.graph
  let flows := s.knownFlows
  let trees := s.treesNow
  let t := s.setF D.fab_link_load_max
    (F32.ofQuot (maxLoad trees flows s.blockLen g.2 : Nat) 10000)
  (List.range 6).foldl (fun u p =>
    let load := flowLoad trees flows s.blockLen s.vertex (s.get D.nbr_vertex p) p
    let rate := if s.get D.port_speed p = 0 then 10 ^ 10 else 10 ^ 9
    u.setF D.link_load (F32.ofQuot ((load * 100 : Nat) : Int) rate) p) t

/-- Links on both trees of a root, in either direction (R513). -/
def sharedLinks (trees : List Tree) : Nat :=
  trees.foldl (fun n t =>
    if t.treeB then n
    else
      match trees.find? fun u => u.treeB && u.root == t.root with
      | none => n
      | some u => n + (t.branches.filter fun b =>
          onBranches u.branches ⟨b.parent, b.child, 0, b.parentPort, b.childPort⟩).length) 0

/-- The generation that is installed: its trees, and what shows of it (R513, R520, R523). -/
def State.placeTrees (s : State) (trees : List Tree) (lat : List Nat) : State :=
  let num := s.get D.route_generation + 1
  let t : State := { s with fabric := { s.fabric with
    gens := ⟨num, trees⟩ :: s.fabric.gens.take 1, dirty := false } }
  let t := ((t.set D.route_generation num).set D.fab_members s.graphNodes.length).set
    D.fab_vertices s.graph.1.length
  (t.setF D.fab_path_max (F32.ofQuot (lat.foldl max 0 : Nat) 1000)).set D.fab_tree_shared
    (sharedLinks trees % 65536)

/-- Each path that exceeds the budget is reported (R523). -/
def State.warnPaths (t : State) (budget : Nat) (lat : List Nat) : State :=
  lat.foldl (fun u x => if x > budget then u.error 0x21 0 0x0A05 .warn else u) t

/-- A link exceeds fab_link_ceiling under these trees (R524). -/
def State.treesOver (s : State) (trees : List Tree) : Bool :=
  decide (s.get D.fab_link_ceiling * 10000 < maxLoad trees s.knownFlows s.blockLen s.graph.2)

/-- Compute and install the next generation of every tree (R513, R520, R523, R524). -/
def State.installTrees (s : State) : State :=
  let g := s.graph
  let trees := allTrees s.graphLsas g.1 g.2
  let lat := trees.map fun x => pathLatency g.2 x (g.1.length + 1) s.vertex
  let t := (s.placeTrees trees lat).warnPaths s.fabricBudget lat
  let t := if s.treesOver trees && !s.treesOver s.treesNow then t.error 0x21 0 0x0A06 .warn else t
  t.showLoads

/-! ### Member states (R510, R511) -/

/-- The own LSA loses a claim (R510). -/
def State.claimLost (s : State) : Bool :=
  let own := s.ownLsa
  s.fabric.lsdb.any fun h => h.lsa.vertex % 4096 == own.vertex % 4096 && own.losesTo h.lsa

/-- Enter CONFLICT (R510). -/
def State.enterConflict (s : State) : State :=
  (((s.set D.fab_state 3).error 0x20 0 0x0A03 .failed).floodOwn 0)

/-- Every LSA sent by the TWO_WAY neighbours is held and each has acknowledged the own one. -/
def State.synced (s : State) : Bool :=
  s.twoWay.all fun p =>
    (s.fabric.lsdb.any fun h => h.lsa.vertex == s.get D.nbr_vertex p) &&
      !(s.fabric.waiting.any fun w => w.1 == p && w.2.1 == s.vertex)

/-- The moves of R511 that follow from neighbours and LSAs. -/
def State.fabMoves (s : State) : State :=
  let st := s.get D.fab_state
  if (st = 1 || st = 2) && s.claimLost then s.enterConflict
  else if st = 0 then
    (if s.getB D.fab_enable && s.fabNode ≠ 0 && !s.twoWay.isEmpty && s.get D.run20 = 1 then
      s.set D.fab_state 1
     else s)
  else if st = 1 then
    (if !s.twoWay.isEmpty && s.synced then
      (let t := s.set D.fab_state 2
       let t := if t.get D.fab_claim_time = 0 then
           (t.set D.fab_claim_time (toNT64 t.media)).floodOwn 0 else t
       t.installTrees)
     else s)
  else if st = 2 && s.twoWay.isEmpty then s.set D.fab_state 0
  else s

/-- The graph may have changed: R511's moves, and a new generation is due (R520). -/
def State.graphTouched (s : State) : State :=
  let t := s.fabMoves
  { t with fabric := { t.fabric with dirty := true } }

/-- The own LSA changed: raise lsa_seq and flood (R508). -/
def State.linksChanged (s : State) : State := (s.floodOwn 0).graphTouched

/-- fab_enable 0 applies, or run control 20:FFF0.00 stops (R511). -/
def State.leave (s : State) : State :=
  let st := s.get D.fab_state
  if st = 1 || st = 2 then (s.set D.fab_state 4).floodOwn 0 else s

/-- LEAVING_EXPIRE: 100 ms after LEAVING (R511). -/
def execLeavingExpire (s : State) : Outcome State Fault Refusal :=
  if s.get D.fab_state = 4 then
    .next { (s.set D.fab_state 0) with fabric := { s.fabric with quiet := true } }
  else .next s

/-! ### Neighbours (R503–R506) -/

/-- The own HELLO of a port (R503). -/
def State.ownHello (s : State) (p : Nat) : Hello :=
  { node := s.fabNode, slot := s.vertex / 4096, role := s.get D.twin_role, port := p, state := s.get D.fab_state,
    rate := s.get D.render_rate, pres := s.get D.pres_offset, fabId := s.get D.fab_id, pairId := s.pairId,
    lsaSeq := s.fabric.seq, digest := s.get D.fab_scene_digest, certFp := s.certFp }

/-- Send HELLO on a port (R503). -/
def State.sendHello (s : State) (p : Nat) : State := s.sendLink p (s.linkHead ftHello) (s.ownHello p).bytes

/-- HELLO_TIMER: every 10 ms a fabric port sends HELLO (R503, R511). -/
def execHelloTimer (port : Fin 6) (s : State) : Outcome State Fault Refusal :=
  if s.fabPort port.val && !(s.fabric.quiet && (!s.getB D.fab_enable || s.get D.run20 != 1)) then
    .next (s.sendHello port.val)
  else .next s

/-- A neighbour leaves TWO_WAY, or any state, for another. -/
def State.nbrMove (s : State) (p st : Nat) : State :=
  let was := s.get D.nbr_state p
  let t := s.set D.nbr_state st p
  let t : State := if was = 3 && st ≠ 3 then { t with fabric := { t.fabric with
      waiting := t.fabric.waiting.filter fun w => w.1 != p } } else t
  if (was = 3) != (st = 3) then t.linksChanged else t

/-- A neighbour goes DOWN (R504). -/
def State.nbrDown (s : State) (p : Nat) : State :=
  if s.get D.nbr_state p = 0 then s
  else
    ((s.count D.nbr_hello_lost p).nbrMove p 0).putNbr { port := p }

/-- HELLO_LOST: no HELLO for 30 ms (R504). -/
def execHelloLost (port : Fin 6) (s : State) : Outcome State Fault Refusal :=
  .next (s.nbrDown port.val)

/-- A step of the handshake leaves in an ADMIT frame (R505). -/
def State.sendAdmit (s : State) (p : Nat) (step : AdmitStep) : State := s.sendLink p (s.linkHead ftAdmit) step.bytes

/-- A nonce of 16 bytes. -/
def State.freeNonce (s : State) : List Byte := (List.range 16).map (Config.freeByte s.free)

/-- This port takes the peer's part in the handshake: its port_mac is the lower one (R505). -/
def State.initiates (s : State) (p : Nat) : Bool := decide (s.get D.port_mac p < (s.nbr p).peerMac)

/-- Start the handshake: the port with the lower port_mac takes the peer's part (R505). -/
def State.startAdmit (s : State) (p mac : Nat) : State :=
  let n : Neighbour := { s.nbr p with peerMac := mac, shake := none }
  if s.get D.port_mac p < mac then
    (let secret := scalarOf s.pass.freeHere
     let x : LinkShake :=
       { initiator := true, secret := secret, nonceP := s.freeNonce, keyP := keyBytes (publicKey secret) }
     ((s.pass.pass.putNbr { n with shake := some x }).sendAdmit p (.init x.nonceP x.keyP)))
  else s.putNbr n

/-- The first field of a HELLO that differs from our own: FAB_ID 1, RATE 2, PRES_OFFSET 3, none
0 (R504, R526). -/
def State.helloDiffers (s : State) (h : Hello) : Nat :=
  if h.fabId ≠ s.get D.fab_id then 1
  else if h.rate ≠ s.get D.render_rate then 2
  else if h.pres ≠ s.get D.pres_offset then 3
  else 0

/-- fab_scene_match follows the neighbours (R512). -/
def State.sceneMatch (s : State) : State :=
  s.setB D.fab_scene_match (!(s.twoWay.any fun p => (s.nbr p).differs))

/-- Refuse a neighbour (R504, R505). -/
def State.refuseNbr (s : State) (p : Nat) : State :=
  ((s.nbrMove p 5).count D.nbr_refusals p).error 0x20 p 0x0A02 .warn

/-- FAB_HELLO: a HELLO is received (R501, R504, R512). -/
def execFabHello (port : Fin 6) (h : Hello) (t : FabFrame) (s : State) :
    Outcome State Fault Refusal :=
  let p := port.val
  if !s.fabPort p then .next s
  else
    let a := s.linkFrame p ftHello t h.bytes
    if !a.2 then .next a.1
    else
      let s := a.1.set D.nbr_vertex (h.slot * 4096 + h.node) p
      let s := s.putNbr { s.nbr p with remotePort := h.port, peerMac := t.mac }
      let s := if s.get D.nbr_state p = 0 then s.set D.nbr_state 1 p else s
      let st := s.get D.nbr_state p
      let diff := s.helloDiffers h
      if diff ≠ 0 then
        (if st = 1 || st = 2 || st = 3 then
          .next (((s.nbrMove p 4).set D.nbr_mismatch diff p).error 0x20 p 0x0A01 .warn)
         else .next s)
      else if st = 1 || st = 4 then
        .next (((s.set D.nbr_mismatch 0 p).set D.nbr_state 2 p).startAdmit p t.mac)
      else if st = 3 then
        (if h.digest = s.get D.fab_scene_digest && (s.nbr p).differs then
          .next (s.putNbr { s.nbr p with differs := false }).sceneMatch
         else .next s)
      else .next s

/-- The handshake of a port admits the neighbour: the link keys are installed, and on a new link every LSA held is sent
(R504, R506). -/
def State.admitNbr (s : State) (p : Nat) (x : LinkShake) : State :=
  let n := s.nbr p
  let k := x.directions s.linkChain
  let t := s.putNbr { n with
    rekey := false, shake := none, tx := some k.1, rx := some k.2, rxOld := if s.get D.nbr_state p = 3 then n.rx else none }
  if s.get D.nbr_state p = 3 then t
  else
    let u := t.nbrMove p 3
    (u.fabric.lsdb.foldl (fun v h => v.flood h.lsa [p]) u).fabMoves

/-- The handshake of a port is refused (R504, R506). -/
def State.admitRefused (s : State) (p : Nat) : State :=
  let t := s.putNbr { s.nbr p with shake := none }
  if s.get D.nbr_state p = 3 then t.nbrDown p else t.refuseNbr p

/-- The handshake that a SES_INIT from the neighbour opens. -/
def State.respond (s : State) (nonce key : List Byte) : LinkShake :=
  let secret := scalarOf s.pass.freeHere
  { initiator := false, id := s.fabric.nextShake, secret := secret, nonceP := nonce, keyP := key, nonceM := s.freeNonce
    keyM := keyBytes (publicKey secret) }

/-- SES_INIT from the neighbour: the module's nonce, key and chain length, or AUTH where no owner certificate is enrolled
(R110, R114, R505). -/
def State.admitInit (s : State) (p : Nat) (nonce key : List Byte) : State :=
  if s.get D.owner_state = 0 || nonce.length ≠ 16 || (keyOf key).isNone then
    (s.sendAdmit p (.reply scAuth 0 [] [] 0)).admitRefused p
  else
    let x := s.respond nonce key
    let t := s.pass.pass.putNbr { s.nbr p with shake := some x, rekey := s.get D.nbr_state p == 3 }
    let t : State := { t with fabric := { t.fabric with nextShake := x.id % (2 ^ 32 - 1) + 1 } }
    t.sendAdmit p (.reply scOk x.id x.nonceM x.keyM s.linkChain.length)

/-- Ask for the next part of the other's chain. -/
def State.askChain (s : State) (p : Nat) (x : LinkShake) : State :=
  s.sendAdmit p (.certRead x.id x.chain.length (min 1024 (x.total - x.chain.length)))

/-- The initiator has the other's chain: it sends its own, and its signature over H. -/
def State.sendChain (s : State) (p : Nat) (x : LinkShake) : State :=
  let own := s.linkChain
  let parts := (List.range ((own.length + 1023) / 1024)).map fun n =>
    AdmitStep.certSend x.id (1024 * n) own.length ((own.drop (1024 * n)).take 1024)
  let t := parts.foldl (fun u c => u.sendAdmit p c) s
  t.pass.sendAdmit p (.finish x.id (ecdsaSign Config.deviceKey (scalarOf s.freeHere) (x.transcript own)))

/-- The other's signature over H has come: the unit admits it or refuses it. Where no clock holds a valid time an INFO
record says so (R113). -/
def State.judgeNbr (s : State) (p : Nat) (x : LinkShake) (sig : List Byte) : State × Bool :=
  let t := if s.utcNow.isSome then s else s.error 0x01 0 0x0308 .info
  (t, t.admitsLink x sig)

/-- A step of the handshake from the neighbour (R505). Steps out of their turn are dropped. -/
def State.admitStep (s : State) (p : Nat) (step : AdmitStep) : State :=
  let put (x : LinkShake) : State := s.putNbr { s.nbr p with shake := some x }
  match step, (s.nbr p).shake with
  | .init nonce key, _ => if s.initiates p then s else s.admitInit p nonce key
  | .reply status id nonce key total, some x =>
    if !x.initiator || x.id ≠ 0 then s
    else if status ≠ scOk || nonce.length ≠ 16 || (keyOf key).isNone then s.admitRefused p
    else
      let y : LinkShake := { x with id := id, nonceM := nonce, keyM := key, total := total }
      (put y).askChain p y
  | .certReply status data, some x =>
    if !x.initiator || x.id = 0 || x.total ≤ x.chain.length then s
    else if status ≠ scOk || x.total < x.chain.length + data.length then s.admitRefused p
    else
      let y : LinkShake := { x with chain := x.chain ++ data }
      if y.chain.length < y.total then (put y).askChain p y else (put y).sendChain p y
  | .certRead id offset len, some x =>
    if x.initiator || x.id ≠ id then s
    else if 1024 < len || s.linkChain.length < offset then s.sendAdmit p (.certReply scRange [])
    else s.sendAdmit p (.certReply scOk ((s.linkChain.drop offset).take len))
  | .certSend id offset total data, some x =>
    if x.initiator || x.id ≠ id then s
    else if 1024 < data.length || 8192 < total || offset ≠ x.chain.length || total < offset + data.length then
      s.sendAdmit p (.certReply scRange [])
    else (put { x with chain := x.chain ++ data, total := total }).sendAdmit p (.certReply scOk [])
  | .finish id sig, some x =>
    if x.initiator || x.id ≠ id then s
    else
      let r := s.judgeNbr p x sig
      if r.2 then
        (let own := ecdsaSign Config.deviceKey (scalarOf r.1.freeHere) (x.transcript r.1.linkChain)
         (r.1.pass.sendAdmit p (.finishReply scOk own)).admitNbr p x)
      else (r.1.sendAdmit p (.finishReply scAuth [])).admitRefused p
  | .finishReply status sig, some x =>
    if !x.initiator || x.total = 0 || x.chain.length < x.total then s
    else
      let r := s.judgeNbr p x sig
      if status = scOk && r.2 then r.1.admitNbr p x else r.1.admitRefused p
  | _, none => s

/-- ADMIT: a step of the handshake arrives (R500, R505, R506). -/
def execAdmit (port : Fin 6) (a : AdmitFrame) (s : State) : Outcome State Fault Refusal :=
  let p := port.val
  let r := s.linkFrame p ftAdmit a.frame a.step.bytes
  if !s.fabPort p then .next s
  else if r.2 && (s.get D.nbr_state p = 2 || s.get D.nbr_state p = 3) then .next (r.1.admitStep p a.step)
  else .next r.1

/-- ADMIT_TIMEOUT: the handshake did not finish within 5 s (R504). -/
def execAdmitTimeout (port : Fin 6) (s : State) : Outcome State Fault Refusal :=
  let p := port.val
  if s.get D.nbr_state p = 2 || (s.get D.nbr_state p = 3 && (s.nbr p).rekey) then .next (s.admitRefused p)
  else .next s

/-- REFUSED_EXPIRE: 10 s after a refusal (R504). -/
def execRefusedExpire (port : Fin 6) (s : State) : Outcome State Fault Refusal :=
  if s.get D.nbr_state port.val = 5 then .next (s.set D.nbr_state 1 port.val) else .next s

/-- LINK_REKEY: 24 h after admission a new handshake runs; the old keys stay (R506). -/
def execLinkRekey (port : Fin 6) (s : State) : Outcome State Fault Refusal :=
  let p := port.val
  if s.get D.nbr_state p = 3 then
    .next ((s.putNbr { s.nbr p with rekey := true }).startAdmit p (s.nbr p).peerMac)
  else .next s

/-- LINK_UP: the link of a port comes up; an SGMII PHY at another speed than 1000 Mb/s is a
mismatch (R143, R472, R504). -/
def execLinkUp (port : Fin 7) (mismatch : Bool) (s : State) : Outcome State Fault Refusal :=
  let p := port.val
  if s.get D.runPort p ≠ 1 then .next s
  else if mismatch && s.get D.port_speed p = 2 then .next (s.set D.port_link 2 p)
  else
    let t := (s.set D.port_link 1 p).set D.ts_resolution (if s.get D.port_speed p = 0 then 250 else 800) p
    let t := if p < 6 && t.get D.port_personality p ≠ 1 && t.get D.nbr_state p = 0 then
        (t.set D.nbr_state 1 p).sendHello p else t
    .next t.syntUpdate

/-- The link of a port goes down (R483, R504). -/
def State.linkDown (s : State) (p : Nat) : State :=
  let t := s.set D.port_link 0 p
  let t : State := { t with ports := { t.ports with queued := t.ports.queued.filter fun m => m.via != .port p } }
  let t := if p < 6 then t.nbrDown p else t
  ((List.range 64).filter fun r => 40 ≤ r && t.get D.ring_port r == p).foldl
    (fun u r => u.txSettle r 1) t

/-- LINK_DOWN (R483, R504). -/
def execLinkDown (port : Fin 7) (s : State) : Outcome State Fault Refusal :=
  .next (s.linkDown port.val)

/-! ### LSAs (R508) -/

/-- The LSA held of a vertex. -/
def State.heldLsa (s : State) (v : Nat) : Option Lsa :=
  (s.fabric.lsdb.find? fun h => h.lsa.vertex == v).map fun h => h.lsa

/-- LSA: a received LSA (R501, R508, R510). -/
def execLsa (port : Fin 6) (l : Lsa) (t : FabFrame) (s : State) : Outcome State Fault Refusal :=
  let p := port.val
  if !s.fabPort p then .next s
  else
    let a := s.linkFrame p ftLsa t l.bytes
    if !a.2 then .next a.1
    else
      let s := a.1.sendLink p (a.1.linkHead ftLsaAck) (lsaAckBytes l.vertex l.seq)
      if l.vertex = s.vertex then
        (if l.seq ≥ s.fabric.seq && l ≠ s.ownLsa then .next (s.floodOwn (l.seq + 1)) else .next s)
      else
        match s.heldLsa l.vertex with
        | some h =>
          if h.seq < l.seq then
            .next (((s.holdLsa l).flood l (s.twoWay.filter fun q => q != p)).graphTouched)
          else .next s.fabMoves
        | none =>
          .next (((s.holdLsa l).flood l (s.twoWay.filter fun q => q != p)).graphTouched)

/-- LSA_ACK: a neighbour acknowledges an LSA (R508). -/
def execLsaAck (port : Fin 6) (vertex seq : Nat) (t : FabFrame) (s : State) :
    Outcome State Fault Refusal :=
  let p := port.val
  if !s.fabPort p then .next s
  else
    let a := s.linkFrame p ftLsaAck t (lsaAckBytes vertex seq)
    if !a.2 then .next a.1
    else
      let s := a.1
      .next ({ s with fabric := { s.fabric with
        waiting := s.fabric.waiting.filter fun w =>
          !(w.1 == p && w.2.1 == vertex && decide (w.2.2 ≤ seq)) } } : State).fabMoves

/-- LSA_RESEND: unacknowledged LSAs are sent again on a port (R508). -/
def execLsaResend (port : Fin 6) (s : State) : Outcome State Fault Refusal :=
  let p := port.val
  let due := s.fabric.waiting.filter fun w => w.1 == p
  .next (due.foldl (fun t w =>
    match t.heldLsa w.2.1 with
    | some l => t.sendLsa p l
    | none => t) s)

/-- LSA_REFLOOD: every 30 s; the sequence rises so that others store it (R508; log entry 31). -/
def execLsaReflood (s : State) : Outcome State Fault Refusal := .next (s.floodOwn 0)

/-- LSA_AGE_OUT: the LSA of a vertex has not been refreshed for 90 s (R508). -/
def execLsaAgeOut (vertex : Nat) (s : State) : Outcome State Fault Refusal :=
  let old := s.fabric.lsdb.any fun h => h.lsa.vertex == vertex && vertex != s.vertex &&
    decide (90000000000 * ns32 ≤ s.time.local_ - h.time)
  if old then
    .next ({ s with fabric := { s.fabric with
      lsdb := s.fabric.lsdb.filter fun h => h.lsa.vertex != vertex } } : State).graphTouched
  else .next s

/-! ### Route changes (R520, R521) -/

/-- The own tree-A or tree-B frames still use an older generation. -/
def State.switching (s : State) : Bool :=
  let g := s.get D.route_generation
  s.fabric.genA != g || s.fabric.genB != g

/-- GRAPH_CHANGE: a changed graph gives a new generation, unless a switch of this origin still
runs (R520). -/
def execGraphChange (s : State) : Outcome State Fault Refusal :=
  if s.fabric.dirty && !(s.switching && s.originates && !s.fabric.gens.isEmpty) then
    .next s.installTrees
  else .next s

/-- OLD_GENERATION_EXPIRE: 200 ms after an installation (R520). -/
def execOldGenerationExpire (s : State) : Outcome State Fault Refusal :=
  .next { s with fabric := { s.fabric with gens := s.fabric.gens.take 1 } }

/-- TREE_SWITCH_A: own tree-A frames move to the newest generation (R521). -/
def execTreeSwitchA (s : State) : Outcome State Fault Refusal :=
  .next { s with fabric := { s.fabric with genA := s.get D.route_generation } }

/-- TREE_SWITCH_B: 64 blocks later, own tree-B frames (R521). -/
def execTreeSwitchB (s : State) : Outcome State Fault Refusal :=
  .next { s with fabric := { s.fabric with genB := s.fabric.genA } }

/-! ### Object streams (R514–R519) -/

/-- The tree that a frame's flags and origin name (R514). -/
def State.treeOf (s : State) (root : Nat) (treeB gen : Bool) : Option Tree :=
  match s.fabric.gens.find? fun g => (g.num % 2 == 1) == gen with
  | none => none
  | some g => g.trees.find? fun t => t.root == root && t.treeB == treeB

/-- The ports on which this vertex passes a tree's frames on. -/
def childPorts (t : Tree) (v : Nat) : List Nat :=
  (t.branches.filter fun b => b.parent == v).map fun b => b.parentPort

/-- The parent port of this vertex. -/
def parentPort (t : Tree) (v : Nat) : Option Nat :=
  (t.branches.find? fun b => b.child == v).map fun b => b.childPort

def State.window (s : State) (key : Nat) : Option ElimWindow :=
  s.fabric.windows.find? fun w => w.key == key

def State.putWindow (s : State) (w : ElimWindow) : State :=
  let l : List ElimWindow := w :: s.fabric.windows.filter fun x => x.key != w.key
  { s with fabric := { s.fabric with windows := l } }

/-- What elimination does with a frame (R519): accepted, or not, and the new window. -/
def State.eliminate (s : State) (c seq : Nat) (treeB : Bool) : State × Bool :=
  let now := s.time.local_
  let fresh : ElimWindow := ⟨c, seq, [(seq, !treeB, treeB)], now⟩
  match s.window c with
  | none => (s.putWindow fresh, true)
  | some w =>
    if now - w.last > 100000000 * ns32 then (s.putWindow fresh, true)
    else
      let d : Int := ((seq : Int) - w.top + 32768) % 65536 - 32768
      let has := w.seen.any fun e => e.1 == seq
      if d > 0 then
        let dist (e : Nat) : Int := ((e : Int) - seq + 32768) % 65536 - 32768
        let out := w.seen.filter fun e => decide (dist e.1 ≤ -256)
        let onlyA := (out.filter fun e => e.2.1 && !e.2.2).length
        let onlyB := (out.filter fun e => e.2.2 && !e.2.1).length
        let kept := w.seen.filter fun e => decide (dist e.1 > -256)
        let t := (s.count D.elim_only_a c onlyA).count D.elim_only_b c onlyB
        let t := if d > 256 then t.count D.elim_resets c else t
        (t.putWindow ⟨c, seq, (seq, !treeB, treeB) :: kept, now⟩, true)
      else if d > -256 && !has then
        (s.putWindow { w with seen := (seq, !treeB, treeB) :: w.seen, last := now }, true)
      else if d > -256 then
        let seen := w.seen.map fun e =>
          if e.1 = seq then (e.1, e.2.1 || !treeB, e.2.2 || treeB) else e
        ((s.putWindow { w with seen := seen }).count D.elim_dup c, false)
      else (s.count D.elim_rogue c, false)

/-- The bits an object input inherits from a stream's words (R16). -/
def inheritedBits : Nat := stUnsettled ||| stConcealed ||| stLate

/-- Deliver the block of a stream to one ingress context. -/
def State.streamToContext (s : State) (f : StreamFrame) (c : Nat) : State :=
  let rows := (List.range s.blockLen).map fun p =>
    (f.samples.zip f.status).map fun x => (x.1.getD p F32.zero, x.2 &&& inheritedBits)
  s.streamPacket c f.firstIndex (rows.map fun r => r.take (s.get D.is_channels c))

/-- The ingress contexts of a stream. -/
def State.streamContexts (s : State) (id : Nat) : List Nat :=
  (List.range 512).filter fun c => s.get D.is_kind c == 2 && s.get D.is_fab_stream c == id

/-- Note that a stream's frames arrive (R524). -/
def State.noteFlow (s : State) (t : FabFrame) (channels : Nat) : State :=
  let x : Flow := ⟨t.streamId, t.vertex, channels, s.time.local_⟩
  let l : List Flow := x :: s.fabric.flows.filter fun y => y.streamId != t.streamId
  { s with fabric := { s.fabric with flows := l } }

/-- The port on which a vertex passes a frame on toward another: its child on the path there. The fuel is the number of
branches. -/
def portToward (t : Tree) (v : Nat) : Nat → Nat → Option Nat
  | 0, _ => none
  | n + 1, x =>
    match t.branches.find? fun b => b.child == x with
    | none => none
    | some b => if b.parent = v then some b.parentPort else portToward t v n b.parent

/-- The vertex of a node that carries ORIGIN. -/
def State.originOf (s : State) (node : Nat) : Option Nat :=
  (s.graphLsas.find? fun l => l.origin && l.vertex % 4096 == node).map fun l => l.vertex

/-- The ports on which a frame of a tree goes on from this vertex: for every vertex, or toward its node (R514, R515). -/
def State.treePorts (s : State) (t : Tree) (f : FabFrame) : List Nat :=
  if f.forEvery then childPorts t s.vertex
  else
    match s.originOf f.forNode with
    | none => []
    | some v => (portToward t s.vertex t.branches.length v).toList

/-- The tree on which a frame comes in, where it comes on the parent port (R514). -/
def State.cameBy (s : State) (p : Nat) (f : FabFrame) : Option Tree :=
  match s.treeOf f.vertex f.treeB f.gen with
  | none => none
  | some t => if f.vertex = s.vertex || parentPort t s.vertex ≠ some p then none else some t

/-- A frame that came in by a tree goes on; in CONFLICT nothing does (R510, R514). -/
def State.passOn (s : State) (t : Tree) (f : FabFrame) (body : List Byte) : State :=
  let ports := if s.get D.fab_state = 3 then [] else s.treePorts t f
  if 1 < f.hop then ports.foldl (fun u q => u.sendLink q { f with hop := f.hop - 1 } body) s
  else if ports.isEmpty then s
  else s.count D.fab_hop_drops

/-- Elimination and local delivery of a STREAM frame (R519). -/
def State.deliverStream (s : State) (t : FabFrame) (f : StreamFrame) : State :=
  (s.streamContexts t.streamId).foldl (fun u c =>
    let e := u.eliminate c t.sequence t.treeB
    if e.2 then e.1.streamToContext f c else e.1) (s.noteFlow t f.status.length)

/-- STREAM_FRAME_RX: parent check, elimination and local delivery, and forwarding (R500, R501, R514, R519). -/
def execStreamFrameRx (port : Fin 6) (f : StreamFrame) (t : FabFrame) (s : State) :
    Outcome State Fault Refusal :=
  let p := port.val
  if !s.fabPort p then .next s
  else
    let a := s.linkFrame p ftStream t f.bytes
    if !a.2 then .next a.1
    else
      match a.1.cameBy p t with
      | none => .next (a.1.count D.fab_rpf_drops)
      | some tree => .next ((a.1.deliverStream t f).passOn tree t f.bytes)

/-- One channel of an egress FABRIC context in block `k`: its injection, or the output route
(R518). -/
def State.egressBlock (s : State) (ch k : Nat) : List F32 × Nat :=
  match s.get D.inj_kind ch with
  | 1 => s.channelBlock 2 (s.get D.inj_ch ch) k
  | 2 => s.channelBlock 4 (s.get D.inj_ch ch) k
  | _ =>
    match s.destBlockOf ⟨3, ch⟩ k with
    | some b => (b.samples, b.word)
    | none => (List.replicate s.blockLen F32.zero, 0)

/-- A frame that this vertex originates leaves on both of its trees, each in the generation its frames use (R511, R515,
R521). -/
def State.sendTrees (s : State) (type dest streamId sequence : Nat) (body : List Byte) : State :=
  if s.get D.fab_state ≠ 2 || !s.originates then s
  else
    [(false, s.fabric.genA), (true, s.fabric.genB)].foldl (fun u e =>
      let f := s.treeHead type dest streamId sequence e.1 e.2
      match s.treeOf s.vertex e.1 (e.2 % 2 == 1) with
      | none => u
      | some t => (s.treePorts t f).foldl (fun v q => v.sendLink q f body) u) s

/-- An egress FABRIC context sends its frame of block `k` on both trees, and delivers it to own
contexts (R511, R516–R518, R521). -/
def State.streamTx (s : State) (c k : Nat) : State :=
  let chs := (List.range (s.get D.es_channels c)).map fun i => s.egressBlock (s.get D.es_first_ch c + i) k
  let id := s.get D.es_fab_stream c
  let f : StreamFrame := ⟨k * s.blockLen, chs.map (·.2), chs.map (·.1)⟩
  let s1 := (s.streamContexts id).foldl (fun u x => u.streamToContext f x) s
  (s1.sendTrees ftStream toEvery id k f.bytes).count D.es_packets c

/-- STREAM_FRAME_TX: the frame of the block before the present one (R518). -/
def execStreamFrameTx (c : Fin 512) (s : State) : Outcome State Fault Refusal :=
  let c := c.val
  if s.get D.es_kind c ≠ 2 || !s.originates || s.blockNow = 0 then .next s
  else .next (s.streamTx c (s.blockNow - 1))

/-! ### TXN frames (R514, R515) -/

/-- A TXN frame leaves on both of the own trees, for a node or, where it is 0, for every vertex (R500, R515, R521). -/
def State.sendTxnFrame (s : State) (node : Nat) (body : List Byte) : State :=
  let n := s.fabric.txnSeq
  let t : State := { s with fabric := { s.fabric with txnSeq := (n + 1) % 2 ^ 32 } }
  t.sendTrees ftTxn (if node = 0 then toEvery else toNode node) 0xFFFFFFFF n body

/-! ### The scene digest (R512) -/

/-- The objects of R512. -/
def inSceneDigest (o : Obj) (a : Nat) : Bool :=
  let area := a / 2 ^ 24
  o.acc != .wo && (area == 0x30 || area == 0x31 || (decide (0x38100000 ≤ a) && decide (a ≤ 0x3811FF01))
    || area == 0x50 || (area == 0x51 && o.acc == .rs && o.name != "amb_gain")
    || (area == 0x52 && o.name.startsWith "voice"))

/-- The addresses of an object that the digest covers. -/
def digestAddrs (o : Obj) : List Nat :=
  (List.range o.count).flatMap fun i => (List.range o.subs).filterMap fun k =>
    if inSceneDigest o (o.addr i k) then some (o.addr i k) else none

/-- Sorted insertion of an address. -/
def insertAddr (a : Nat) : List Nat → List Nat
  | [] => [a]
  | b :: l => if a ≤ b then a :: b :: l else b :: insertAddr a l

/-- The bytes that the digest covers, by ascending address. -/
def State.digestBytes (s : State) : List Byte :=
  let addrs := (Dict.table.flatMap digestAddrs).foldr insertAddr []
  addrs.flatMap fun a =>
    match objAt a with
    | some (o, i, k) => BitVec.ofNat 8 (tyCode o.ty) :: tyEncode o.ty (s.get o i k)
    | none => []

/-- SCENE_DIGEST_UPDATE: Shank recomputes fab_scene_digest (R512). -/
def execSceneDigestUpdate (s : State) : Outcome State Fault Refusal :=
  .next (s.set D.fab_scene_digest (beNat ((sha256 s.digestBytes).take 8)))

/-- SCENE_DIGEST_MISMATCH: the HELLOs of a TWO_WAY neighbour have carried another digest for
200 ms (R512). -/
def execSceneDigestMismatch (port : Fin 6) (s : State) : Outcome State Fault Refusal :=
  let p := port.val
  if s.get D.nbr_state p ≠ 3 || (s.nbr p).differs then .next s
  else
    .next (((s.putNbr { s.nbr p with differs := true }).sceneMatch).error 0x20 p 0x0A04 .degraded)

end Sys2Proof.Machine
end

