-- ==== Sys2Proof/Machine/Nodes.lean ====
section
/-! DEFINITION. The Dispatch Unit (chapter 8): images, bindings and regions, budgets, the life
of an instance, and the scheduling of the cores. -/

namespace Sys2Proof.Machine

open Sys2Proof Host

/-! ### Images (R356) -/

/-- An entry of an image: offset, param_bytes, state_bytes, scratch_bytes, cost. -/
structure ImgEntry where
  offset : Nat
  param : Nat
  state : Nat
  scratch : Nat
  cost : Nat
  deriving DecidableEq, Repr

def imgEntryCount (d : List Byte) : Nat := frameField d 6 2
def imgBundleCount (d : List Byte) : Nat := frameField d 8 2

/-- Entry `e` of an image. -/
def imgEntry (d : List Byte) (e : Nat) : ImgEntry :=
  let o := 44 + 16 * e
  ⟨frameField d o 2, frameField d (o + 2) 2, frameField d (o + 4) 4, frameField d (o + 8) 4,
    frameField d (o + 12) 4⟩

/-- Bundles from the bytes of code. -/
def bundlesOf : Nat → List Byte → List (BitVec 64)
  | 0, _ => []
  | n + 1, l => BitVec.ofNat 64 (beNat (l.take 8)) :: bundlesOf n (l.drop 8)

/-- The code of an image. -/
def imgCode (d : List Byte) : List (BitVec 64) :=
  bundlesOf (imgBundleCount d) (d.drop (44 + 16 * imgEntryCount d))

/-- The header of an image and its entry offsets obey R356; the digest matches (R357). -/
def imgHeaderOk (d : List Byte) : Bool :=
  let n := imgEntryCount d
  let b := imgBundleCount d
  frameField d 0 4 == 0x47525631 && frameField d 4 2 == 1 && decide (1 ≤ n) && decide (n ≤ 16) &&
    decide (1 ≤ b) && decide (b ≤ 4096) && frameField d 10 2 == 0 &&
    d.length == 44 + 16 * n + 8 * b &&
    (List.range n).all fun e => decide ((imgEntry d e).offset < b) && decide ((imgEntry d e).param ≤ 4096)

def imgDigestOk (d : List Byte) : Bool :=
  (d.drop 12).take 32 == sha256 (d.drop (44 + 16 * imgEntryCount d))

/-- The entry a node runs. -/
def State.nodeEntry (s : State) (n : Nat) : ImgEntry :=
  imgEntry (s.blob D.img_blob (s.get D.node_image n)).data (s.get D.node_entry n)

/-! ### Nodes and their costs (R374, R375, R406, R431) -/

def vendorNode (n : Nat) : Bool := decide (0xF00 ≤ n)

/-- The vendor nodes: the object stage, the services and Proof. -/
def vendorNodes : List Nat := (List.range 22).map fun i => 0xF00 + i

/-- The class of a node: RT0 0, RT1 1, RT2 2, BG 3. -/
def State.nodeClass (s : State) (n : Nat) : Nat :=
  if n < 0xF00 then s.get D.node_class n
  else if n < 0xF10 then 0
  else if n = 0xF15 then 3
  else 1

/-- The core of a vendor node. -/
def vendorCore (n : Nat) : Nat :=
  if n < 0xF10 then n % 8
  else match n with
    | 0xF10 => 4 | 0xF11 => 5 | 0xF12 => 6 | 0xF13 => 7 | 0xF14 => 3 | _ => 2

/-- Gain entries of a PAN or SPREAD object charged beyond the first 39 (R374). -/
def State.extraGains (s : State) : Nat :=
  let t := s.render.tri
  if t.state = 2 then t.rimPlus.length + t.rimMinus.length - 39
  else if t.state = 0 then s.flatGains.length - 39
  else 0

/-- The cycles of one object (R374). -/
def State.objectCost (s : State) (extra i : Nat) : Nat :=
  let mode := s.objMode i
  let base := if mode = 2 then 900 + 6 * extra else if mode = 3 then 12300 + 6 * extra else 180
  let keys := match s.objTraj i with
    | some t => s.keyframes t
    | none => []
  let traj := if keys.isEmpty then 0
    else if keys.any fun e => s.get D.kf_interp e.2 == 2 then 210 else 150
  let glide := if (objNowOf s.render.objs i).any fun o => o.glide.isSome then 40 else 0
  base + traj + glide

/-- The declared cost of a vendor node. -/
def State.vendorCost (s : State) (n : Nat) : Nat :=
  if n < 0xF10 then
    (let extra := s.extraGains
     (s.liveObjects.filter fun i => i % 16 == n - 0xF00).foldl (fun a i => a + s.objectCost extra i) 0)
  else match n with
    | 0xF10 => 1000 + 40 * s.liveObjects.length
    | 0xF11 => 600 * s.ownTrackers.length
    | 0xF12 => 150 * ((List.range 64).filter fun v =>
        s.get D.clip_state (s.get D.voice_clip v) != 0).length
    | 0xF13 => 8000 + 30 * s.liveOutputs.length + 20 * s.liveObjects.length
    | 0xF14 => 1500 + 40 * (s.svc.stipple.filter fun x => x.on).length
    | _ => 2000 * ((List.range 32).filter fun p => s.get D.pr_kind p != 0).length

def State.nodeNow (s : State) (n : Nat) : Option NodeNow := s.graver.nodes.find? fun x => x.node == n

def State.putNode (s : State) (x : NodeNow) : State :=
  let l : List NodeNow := x :: s.graver.nodes.filter fun y => y.node != x.node
  { s with graver := { s.graver with nodes := l } }

/-- A sum of fractions as numerator and denominator. -/
def addFrac (a : Nat × Nat) (num den : Nat) : Nat × Nat :=
  let n := a.1 * den + num * a.2
  let d := a.2 * den
  let g := max 1 (Nat.gcd n d)
  (n / g, d / g)

/-- The cycles per block of the nodes bound to a core: vendor nodes, and user nodes by their
period (R375). -/
def State.coreCycles (s : State) (c : Nat) : Nat × Nat :=
  let v := (vendorNodes.filter fun n => vendorCore n == c).foldl (fun a n => a + s.vendorCost n) 0
  (s.graver.nodes.filter fun x => x.core == c).foldl (fun a x =>
    addFrac a (s.nodeEntry x.node).cost (max 1 (s.get D.node_period x.node))) (v, 1)

/-- The cycles of the RT0 and RT1 nodes of a core, with the switch of its mode (R375). -/
def State.coreRt (s : State) (c : Nat) : Nat :=
  let v := (vendorNodes.filter fun n => vendorCore n == c && decide (s.nodeClass n ≤ 1)).foldl
    (fun a n => a + s.vendorCost n) 0
  v + match s.get D.core_mode c with
    | 0 => 48
    | 1 => s.get D.core_yield_limit c
    | _ => 0

/-- load_c and rt0_c as fractions (R375, R595). -/
def State.coreLoad (s : State) (c : Nat) : Nat × Nat :=
  let l := s.coreCycles c
  (l.1 * 10000, l.2 * 400000 * s.budgetScale)

def State.coreRt0 (s : State) (c : Nat) : Nat × Nat := (s.coreRt c * 10000, 388000 * s.budgetScale)

def fracLt (a b : Nat × Nat) : Bool := decide (a.1 * b.2 < b.1 * a.2)

/-- graver_util as a fraction of one (R375). -/
def State.graverLoad (s : State) : Nat × Nat :=
  (List.range 8).foldl (fun m c =>
    let m1 := if fracLt m (s.coreLoad c) then s.coreLoad c else m
    if fracLt m1 (s.coreRt0 c) then s.coreRt0 c else m1) (0, 1)

/-- A fraction as a percentage in F32. -/
def fracPercent (f : Nat × Nat) : F32 := F32.ofQuot ((100 * f.1 : Nat) : Int) (max 1 f.2)

/-! ### Binding and regions (R358–R360) -/

/-- Words that hold a number of bytes. -/
def wordsFor (bytes : Nat) : Nat := (bytes + 3) / 4

/-- Region sizes of a node: words in X and in Y (R359). -/
def State.regionX (s : State) (n : Nat) : Nat :=
  let e := s.nodeEntry n
  wordsFor e.param + wordsFor e.state + s.blockLen * s.get D.node_in_count n

def State.regionY (s : State) (n : Nat) : Nat :=
  s.blockLen * s.get D.node_out_count n + wordsFor (s.nodeEntry n).scratch

/-- A place of `len` words or bundles below a limit and clear of the used ones, the lowest first (log entry 33). -/
def firstFit (limit : Nat) (used : List (Nat × Nat)) (len : Nat) : Option Nat :=
  let starts := (0 :: used.map fun u => u.1 + u.2)
  let ok (a : Nat) : Bool := decide (a + len ≤ limit) &&
    used.all fun u => decide (a + len ≤ u.1) || decide (u.1 + u.2 ≤ a)
  (starts.filter ok).foldl (fun b a =>
    match b with
    | none => some a
    | some x => some (min x a)) none

/-- The core a node is bound to: its own, or that of its affinity with the least load, the
lowest number first (R360). -/
def State.coreFor (s : State) (n : Nat) : Nat :=
  let c := s.get D.node_core n
  if c < 8 then c
  else
    let ok := (List.range 8).filter fun k => (s.get D.node_affinity n).testBit k
    (ok.foldl (fun b k =>
      match b with
      | none => some k
      | some x => if fracLt (s.coreLoad k) (s.coreLoad x) then some k else some x) none).getD 0

/-- The matrix address of a word of X or Y of a core (R582). -/
def xAddr (core w : Nat) : Nat := 0x200000000 + core * 0x100000 + 4 * (w % 0x10000)
def yAddr (core w : Nat) : Nat := xAddr core w + 0x40000

/-- Write words from a place on, little-endian bytes in the matrix window (log entry 33). -/
def State.writeWords (s : State) (a : Nat) (l : List Word32) : State :=
  s.writeMem a (l.flatMap fun w => leBytes 4 w.toNat)

def State.readWord (s : State) (a : Nat) : Word32 := BitVec.ofNat 32 (leNat (s.mem.cells.bytes a 4))

/-- Read `n` words from a place on. -/
def State.readWords (s : State) (a : Nat) : Nat → List Word32
  | 0 => []
  | n + 1 => s.readWord a :: s.readWords (a + 4) n

/-- Unbind a node; an instance of it that has not ended ends without publication. -/
def State.unbind (s : State) (n : Nat) : State :=
  { s with graver := { s.graver with
    nodes := s.graver.nodes.filter fun x => x.node != n
    insts := s.graver.insts.filter fun x => x.node != n } }

/-- Bind a node and clear its state region (R359, R360); false when its regions do not fit. -/
def State.bind (s : State) (n : Nat) : State × Bool :=
  let s := s.unbind n
  if s.get D.node_kind n = 0 then (s, true)
  else
    let c := s.coreFor n
    let e := s.nodeEntry n
    let on := s.graver.nodes.filter fun x => x.core == c
    match firstFit 0x8000 (on.map fun x => (x.x, x.xLen)) (s.regionX n),
      firstFit 0x8000 (on.map fun x => (x.y, x.yLen)) (s.regionY n) with
    | some x, some y =>
      let p := wordsFor e.param
      let st := wordsFor e.state
      let node : NodeNow := { node := n, core := c, x := x, xLen := s.regionX n, y := y, yLen := s.regionY n, param := p, state := st, ins := s.get D.node_in_count n, outs := s.get D.node_out_count n }
      let t := s.putNode node
      (t.writeWords (xAddr c (x + p)) (List.replicate st 0#32), true)
    | _, _ => (s, false)

/-- A node keeps its faults and what it last published when it is bound again (R370, R371). -/
def State.keepFaults (s : State) (old : List NodeNow) : State :=
  let l := s.graver.nodes.map fun x =>
    match old.find? fun y => y.node == x.node with
    | some y => { x with exceptions := y.exceptions, faulted := y.faulted, last := y.last }
    | none => x
  { s with graver := { s.graver with nodes := l } }

/-- Bind the nodes that a commit created or changed, in ascending index: none of them counts as
bound before its turn (R360). -/
def State.bindAll (s : State) (l : List Nat) : State × Bool :=
  let nodes := l.eraseDups.foldr insertAddr []
  let free := nodes.foldl (fun t n => t.unbind n) s
  let r := nodes.foldl (fun t n =>
    let r := t.1.bind n
    (r.1, t.2 && r.2)) (free, true)
  (r.1.keepFaults s.graver.nodes, r.2)

/-! ### Program memory (R333, R334, R357, R358; log entry 134) -/

/-- The lower half of a core's program memory, in bundles (R334). -/
def lowerBundles : Nat := 0x1000

/-- The matrix address of a bundle of a core's program memory (R582). -/
def pmAddr (core n : Nat) : Nat := 0x200080000 + core * 0x100000 + 8 * n

/-- An image on a core is in use at boundary `b`: a node bound there runs it, or, where a newer one has taken its place, an
instance of an earlier block uses it or still may (R358). -/
def State.placedUsed (s : State) (b : Nat) (p : Placed) : Bool :=
  let bound := s.graver.nodes.filter fun x => x.core == p.core && s.get D.node_image x.node == p.image
  let later := (s.graver.placed.filter fun q => q.core == p.core && q.image == p.image && decide (p.since < q.since)).map
    fun q => q.since
  match later with
  | [] => !bound.isEmpty
  | u :: l =>
    let u := l.foldl min u
    bound.any fun x => decide (b < u + s.get D.node_latency x.node + s.presOffset) ||
      s.graver.insts.any fun i => i.node == x.node && decide (p.since ≤ i.block) && decide (i.block < u)

/-- An image goes into the program memory of a core from block `k` on, beside those in use there; false when it does not
fit (R357, R358). -/
def State.placeImage (s : State) (c i k : Nat) : State × Bool :=
  let d := (s.blob D.img_blob i).data
  let here := s.graver.placed.filter fun p => p.core == c
  if ((here.find? fun p => p.image == i).map fun p => p.data) == some d then (s, true)
  else
    match firstFit lowerBundles (here.map fun p => (p.first, imgBundleCount p.data)) (imgBundleCount d) with
    | some a =>
      let t : State := { s with graver := { s.graver with placed := ⟨c, i, a, k, d⟩ :: s.graver.placed } }
      (t.writeMem (pmAddr c a) ((imgCode d).flatMap fun w => leBytes 8 w.toNat), true)
    | none => (s, false)

/-- The images that no instance uses any more are freed, and those of the bound nodes are in program memory, by ascending
node; false when one does not fit. -/
def State.placeImages (s : State) (k : Nat) : State × Bool :=
  let s0 : State := { s with graver := { s.graver with placed := s.graver.placed.filter (s.placedUsed k) } }
  ((s.graver.nodes.map fun x => x.node).foldr insertAddr []).foldl (fun t n =>
    match t.1.nodeNow n with
    | none => t
    | some x =>
      let r := t.1.placeImage x.core (s.get D.node_image n) k
      (r.1, t.2 && r.2)) (s0, true)

/-- The image that an instance of block `k` runs (R358). -/
def State.imageFor (s : State) (core image k : Nat) : List Byte :=
  match s.graver.placed.find? fun p => p.core == core && p.image == image && decide (p.since ≤ k) with
  | some p => p.data
  | none => (s.blob D.img_blob image).data

/-- The bundles of the images in use on a core (R357, R380). -/
def State.coreBundles (s : State) (c : Nat) : Nat :=
  (s.graver.placed.filter fun p => p.core == c && s.placedUsed s.blockNow p).foldl (fun a p => a + imgBundleCount p.data) 0

/-! ### Publication (R363, R366, R370) -/

/-- The node that produces a GRAVER channel. -/
def State.producer (s : State) (ch : Nat) : Option NodeNow :=
  s.graver.nodes.find? fun x => decide (s.get D.node_out_first x.node ≤ ch) &&
    decide (ch < s.get D.node_out_first x.node + x.outs)

/-- Fill one block of a GRAVER channel. -/
def State.putGraver (s : State) (ch k : Nat) (l : List Word32) (w : Nat) : State :=
  s.putInput ⟨4, ch, k, l.zipIdx.map fun p => (p.2, p.1), w, true⟩

def State.setStage (s : State) (i : Inst) (st : InstStage) : State :=
  { s with graver := { s.graver with insts := s.graver.insts.map fun x =>
    if x.node = i.node && x.block = i.block then { x with stage := st } else x } }

def State.putInst (s : State) (i : Inst) : State :=
  { s with graver := { s.graver with insts := s.graver.insts.map fun x =>
    if x.node = i.node && x.block = i.block then i else x } }

def State.dropInst (s : State) (i : Inst) : State :=
  { s with graver := { s.graver with insts := s.graver.insts.filter fun x =>
    !(x.node == i.node && x.block == i.block) } }

/-- Note that an instance was published, and forget blocks long past (R361). -/
def State.notePublished (s : State) (n k : Nat) : State :=
  let l := (n, k) :: s.graver.published.filter fun p => decide (k ≤ p.2 + 128)
  { s with graver := { s.graver with published := l } }

/-- Channels of DMA that a publication triggers (R589). -/
def State.nodeTriggers (s : State) (n : Nat) : State :=
  (List.range 8).foldl (fun t c =>
    if t.get D.dma_trigger c = 2 && t.get D.dma_trigger_node c = n then t.dmaTrigger c else t) s

/-- Publish the outputs of an instance (R363, R366). -/
def State.publish (s : State) (i : Inst) : State :=
  match s.nodeNow i.node with
  | none => s
  | some x =>
    let l := s.blockLen
    let w := i.word ||| bitIf i.regs.sat stSat
    let outs := (List.range x.outs).map fun c => s.readWords (yAddr i.core (x.y + c * l)) l
    let first := s.get D.node_out_first i.node
    let t := outs.zipIdx.foldl (fun u o =>
      u.putGraver (first + o.2) (i.block + s.get D.node_latency i.node) o.1 w) s
    ((t.putNode { x with last := outs.map fun o => o.getLast?.getD 0#32, exceptions := 0 }).notePublished
      i.node i.block).nodeTriggers i.node

/-- Conceal the outputs of an instance (R370). -/
def State.concealInst (s : State) (i : Inst) : State :=
  match s.nodeNow i.node with
  | none => s
  | some x =>
    let l := s.blockLen
    let first := s.get D.node_out_first i.node
    let hold := s.get D.node_conceal i.node = 1
    (List.range x.outs).foldl (fun u c =>
      u.putGraver (first + c) (i.block + s.get D.node_latency i.node)
        (List.replicate l (if hold then x.last.getD c 0#32 else 0#32)) stConcealed) s

/-- The members of a flow, ascending (R367). -/
def State.flowMembers (s : State) (f : Nat) : List Nat :=
  s.instancesWhere D.node_flow (· == f) |>.filter fun n => s.get D.node_kind n == 1

/-- An earlier block of the flow has not ended (R367). -/
def State.flowBlocked (s : State) (i : Inst) : Bool :=
  let f := s.get D.node_flow i.node
  f != 0 && s.graver.insts.any fun x =>
    decide (x.block < i.block) && s.get D.node_flow x.node == f && x.node < 0xF00

/-- Publish what a flow held back, in block order (R367). -/
def State.flowRelease (s : State) (f : Nat) : Nat → State
  | 0 => s
  | n + 1 =>
    match s.graver.insts.find? fun x => x.stage == .done && s.get D.node_flow x.node == f &&
        !s.flowBlocked x with
    | none => s
    | some x => ((s.publish x).dropInst x).flowRelease f n

/-- Show where a node stands (R379): IDLE 0, WAITING 1, READY 2, RUNNING 3, PREEMPTED 4, FAULTED
5. -/
def State.showNode (s : State) (n : Nat) : State :=
  let st := match s.graver.insts.find? fun x => x.node == n with
    | some x => match x.stage with
      | .waiting => 1 | .ready => 2 | .running => 3 | .preempted => 4 | .done => 3
    | none => if (s.nodeNow n).any fun x => x.faulted then 5 else 0
  s.set D.node_state st n

/-! ### Scheduling (R362, R364, R365, R368, R369) -/

/-- The instance that issues on a core. -/
def State.issuing (s : State) (c : Nat) : Option Inst :=
  s.graver.insts.find? fun x => x.core == c && x.stage == .running

/-- A core runs a class (R368). -/
def State.runsClass (s : State) (c cls : Nat) : Bool :=
  s.get D.core_mode c != 2 || (s.get D.core_classes c).testBit cls

/-- A hardware context of a core is held. -/
def State.ctxHeld (s : State) (c k : Nat) : Bool :=
  s.graver.insts.any fun x => x.core == c && x.ctx == k && (x.stage == .running || x.stage == .preempted)

/-- The context a ready instance can start in (R368, R369). -/
def State.ctxFor (s : State) (i : Inst) : Option Nat :=
  if !s.ctxHeld i.core 0 then some 0
  else if s.get D.core_mode i.core != 2 && i.cls ≤ 1 && !s.ctxHeld i.core 1 then some 1
  else none

/-- The order of R364; of one class, a pre-empted instance comes first (R369). -/
def Inst.before (a b : Inst) : Bool :=
  let r (i : Inst) : Nat := if i.stage = .preempted then 0 else 1
  decide (a.cls < b.cls) || (a.cls == b.cls &&
    (decide (r a < r b) || (r a == r b &&
      (decide (a.deadline < b.deadline) || (a.deadline == b.deadline && decide (a.node < b.node))))))

def bestInst : List Inst → Option Inst
  | [] => none
  | i :: l =>
    match bestInst l with
    | none => some i
    | some b => if b.before i then some b else some i

/-- The input channels of a node's instance: samples and words (R361, R365). -/
def State.nodeInputs (s : State) (n k : Nat) : List (List F32 × Nat) :=
  let kind := s.get D.node_in_kind n
  let first := s.get D.node_in_first n
  (List.range (s.get D.node_in_count n)).map fun c =>
    match kind with
    | 1 => s.channelBlock 2 (first + c) k
    | 2 => s.channelBlock 1 (first + c) k
    | 3 =>
      let lat := ((s.producer (first + c)).map fun x => s.get D.node_latency x.node).getD 0
      s.channelBlock 4 (first + c) (k + lat)
    | _ => (List.replicate s.blockLen F32.zero, 0)

/-- The channels of which an instance's inputs are staged, with their blocks: kind as the blocks of inputs have it. -/
def State.stageSources (s : State) (n k : Nat) : List (Nat × Nat × Nat) :=
  let first := s.get D.node_in_first n
  (List.range (s.get D.node_in_count n)).map fun c =>
    match s.get D.node_in_kind n with
    | 1 => (2, first + c, k)
    | 2 => (1, first + c, k)
    | 3 => (4, first + c, k + (((s.producer (first + c)).map fun x => s.get D.node_latency x.node).getD 0))
    | _ => (0, first + c, k)

/-- The samples of an instance's inputs whose words are uncorrectable, by their place among those that are staged: written
poisoned into X, and the channel carries CONCEALED (R567). -/
def State.stagedBad (s : State) (n k : Nat) : List Nat :=
  (s.stageSources n k).zipIdx.flatMap fun e =>
    if e.1.1 = 0 then [] else (s.stageBad e.1.1 e.1.2.1 e.1.2.2).map fun p => e.2 * s.blockLen + p

/-- Words from bytes, big end first, zero to fill (R4; log entry 33). -/
def paramWords : Nat → List Byte → List Word32
  | 0, _ => []
  | n + 1, l => BitVec.ofNat 32 (beNat ((l.take 4) ++ List.replicate (4 - (l.take 4).length) 0#8)) ::
      paramWords n (l.drop 4)

/-- Stage the param block and the input channels, and set the registers (R365). -/
def State.stageInst (s : State) (i : Inst) : State × Inst :=
  match s.nodeNow i.node with
  | none => (s, { i with started := true })
  | some x =>
    let ins := s.nodeInputs i.node i.block
    let bad := s.stagedBad i.node i.block
    let word := (ins.foldl (fun a c => a ||| c.2) 0 ||| bitIf (!bad.isEmpty) stConcealed) &&& inheritedBits
    let t := s.writeWords (xAddr i.core x.x) (paramWords x.param (s.blob D.node_param i.node).data)
    let t := t.writeWords (xAddr i.core (x.x + x.param + x.state)) (ins.flatMap fun c => c.1)
    let t := if bad.isEmpty then t
      else (t.poison ((bad.map fun p => xAddr i.core (x.x + x.param + x.state + p) / 8).eraseDups)).error 0x59 i.node 0x0202
        .degraded
    let d := s.imageFor i.core (s.get D.node_image i.node) i.block
    let e := imgEntry d (s.get D.node_entry i.node)
    let regs : GravCtx := {
      x := [BitVec.ofNat 16 x.x, BitVec.ofNat 16 (x.x + x.param + x.state), BitVec.ofNat 16 (x.x + x.param)] ++ List.replicate 5 0#16
      y := [BitVec.ofNat 16 x.y, BitVec.ofNat 16 (x.y + s.blockLen * x.outs)] ++ List.replicate 6 0#16
      pc := e.offset }
    (t, { i with started := true, regs := regs, word := word, cost := e.cost, code := imgCode d })

/-- Start or resume an instance in a context. -/
def State.startInst (s : State) (i : Inst) (ctx : Nat) : State :=
  let r := if i.started then (s, i) else
    (let q := s.stageInst i
     (q.1.count D.node_runs i.node, q.2))
  (r.1.putInst { r.2 with stage := .running, ctx := ctx }).showNode i.node

/-- The next instance of an idle core (R364, R369). -/
def State.runNext (s : State) (c : Nat) : State :=
  let cand := s.graver.insts.filter fun x => x.core == c && s.runsClass c x.cls &&
    (x.stage == .preempted || (x.stage == .ready && (s.ctxFor x).isSome))
  match bestInst cand with
  | none => s
  | some i => s.startInst i (if i.stage = .preempted then i.ctx else (s.ctxFor i).getD 0)

/-- The instance of a higher class that could take a core from the one that issues (R368,
R369). -/
def State.challenger (s : State) (c : Nat) : Option (Inst × Inst) :=
  match s.issuing c with
  | none => none
  | some r =>
    if r.ctx = 1 || s.get D.core_mode c = 2 then none
    else
      (bestInst (s.graver.insts.filter fun x => x.core == c && x.stage == .ready &&
        decide (x.cls < r.cls) && decide (x.cls ≤ 1) && !s.ctxHeld c 1)).map fun i => (r, i)

/-- The switch of R368: the running instance keeps its context and the new one starts in the
other. -/
def State.switchCore (s : State) (c : Nat) : State :=
  match s.challenger c with
  | none => s
  | some (r, i) =>
    let t := (s.putInst { r with stage := .preempted, regs := { r.regs with preq := false } }).showNode r.node
    (t.startInst i 1).count D.core_preempts c

/-- Schedule a core after its lists changed (R364, R368). -/
def State.scheduleCore (s : State) (c : Nat) : State :=
  match s.issuing c with
  | none => s.runNext c
  | some _ =>
    match s.challenger c with
    | none => s
    | some (r, _) =>
      if s.get D.core_mode c = 1 then s.putInst { r with regs := { r.regs with preq := true } }
      else s.switchCore c

/-- DISPATCH_TICK: a sample tick moves due instances to the ready lists and schedules the cores
(R362, R364, R368). -/
def execDispatchTick (s : State) : Outcome State Fault Refusal :=
  let n := s.sampleNow
  let due := s.graver.insts.filter fun x => x.stage == .waiting && decide (x.due ≤ n)
  let t := due.foldl (fun u x => (u.setStage x .ready).showNode x.node) s
  .next ((List.range 8).foldl State.scheduleCore t)

/-- FORCED_SWITCH: no YIELD point came within core_yield_limit cycles (R368). -/
def execForcedSwitch (c : Fin 8) (s : State) : Outcome State Fault Refusal :=
  match s.issuing c.val with
  | some r => if r.regs.preq then .next ((s.switchCore c.val).count D.core_forced c.val) else .next s
  | none => .next s

/-! ### The life of an instance (R361, R363, R366, R370, R371) -/

/-- The deadline of instance `k` of a node, in ns of media time; without output channels it is the release of the next
instance, whose inputs are then those of LOCAL or STREAM channels (R361, R363). -/
def State.nodeDeadline (s : State) (n k : Nat) : Int :=
  let t (b : Nat) : Int := (b * s.blockLen * 1000000000 / s.fs : Nat)
  let wait := if s.get D.node_in_kind n = 2 then s.get D.pres_offset - 1 else 1
  if s.get D.node_out_count n = 0 then
    t (k + max 1 (s.get D.node_period n) + wait) + (s.get D.node_release n * 1000000000 / s.fs : Nat)
  else t (k + s.get D.node_latency n + s.get D.pres_offset - 1) - 10000

/-- The inputs of instance `k` of a user node are available (R361). -/
def State.inputsReady (s : State) (n k : Nat) : Bool :=
  let kind := s.get D.node_in_kind n
  let b := s.blockNow
  let done (m : Nat) : Bool := s.graver.published.contains (m, k)
  (kind != 1 || decide (k + 1 ≤ b)) && (kind != 2 || decide (k + s.get D.pres_offset - 1 ≤ b)) &&
    (kind != 3 || (List.range (s.get D.node_in_count n)).all fun c =>
      (s.producer (s.get D.node_in_first n + c)).all fun x => done x.node) &&
    (List.range 4).all fun q =>
      (let p := s.get D.node_pred n q
       p == 0xFFFF || done p)

/-- Instance `k` of a user node exists and its node can be released; in QUIET the nodes are stopped (R361, R367, R371,
R616). -/
def State.nodeReleases (s : State) (n k : Nat) : Bool :=
  let f := s.get D.node_flow n
  let m := s.flowMembers f
  s.get D.node_kind n == 1 && s.get D.pw_state != 1 && ((s.nodeNow n).any fun x => !x.faulted) &&
    k % max 1 (s.get D.node_period n) == s.get D.node_phase n &&
    (f == 0 || m[k % max 1 m.length]? == some n)

/-- The first sample tick at or after now. -/
def State.tickNow (s : State) : Nat :=
  let n := s.sampleNow
  if (sampleInstant n s.fs : Int) * 2 ^ 16 = s.media then n else n + 1

/-- INPUTS_AVAILABLE: the inputs of instance `k` of a node become available and it enters the
delay list of its core (R361–R363, R367). -/
def execInputsAvailable (n : Fin 4096) (k : Nat) (s : State) : Outcome State Fault Refusal :=
  let n := n.val
  if s.graver.insts.any fun x => x.node == n && x.block == k then .next s
  else
    let put (core due : Nat) (deadline : Int) : State :=
      let i : Inst := { node := n, block := k, core := core, cls := s.nodeClass n, stage := .waiting, due := due, deadline := deadline, released := s.time.local_ }
      ({ s with graver := { s.graver with insts := s.graver.insts ++ [i] } } : State).showNode n
    if vendorNode n then
      (if vendorNodes.contains n then
        .next (put (vendorCore n) s.tickNow
          (((k + 1) * s.blockLen * 1000000000 / s.fs : Nat) - 10000))
       else .next s)
    else
      match s.nodeNow n with
      | none => .next s
      | some x =>
        if s.nodeReleases n k && s.inputsReady n k then
          .next (put x.core (s.tickNow + s.get D.node_release n) (s.nodeDeadline n k))
        else .next s

/-- Account for the time and cycles of an instance that ends (R379, R638). -/
def State.instEnds (s : State) (i : Inst) : State :=
  let us := F32.ofQuot (s.time.local_ - i.released) (1000 * 2 ^ 32)
  let t := s.histRecord 3 (0x1000 + i.node) us
  t.set D.node_cycles_max (max (t.get D.node_cycles_max i.node) i.regs.cycles) i.node

/-- What follows the end of an instance: its flow's later blocks, and its core. -/
def State.afterInst (s : State) (i : Inst) : State :=
  let f := s.get D.node_flow i.node
  let t := if f = 0 || vendorNode i.node then s else s.flowRelease f 16
  ((t.showNode i.node).scheduleCore i.core)

/-- An instance ends at EXIT (R366, R367). -/
def State.exitInst (s : State) (i : Inst) : State :=
  let s := s.instEnds i
  if vendorNode i.node then ((s.dropInst i).notePublished i.node i.block).afterInst i
  else if s.flowBlocked i then (s.putInst { i with stage := .done, ctx := 2 }).afterInst i
  else ((s.publish i).dropInst i).afterInst i

/-- An exception stops an instance: ILLEGAL 0, PM_BOUND 1, UNCORRECTABLE 2, OVERRUN 3, TRAP 4
(R355, R371). -/
def State.exceptInst (s : State) (i : Inst) (kind : Nat) : State :=
  let s := s.instEnds i
  let t := ((s.count D.node_exceptions i.node).set D.node_last_exception kind i.node).error
    0x59 i.node 0x0506 .warn
  let t := (t.concealInst i).dropInst i
  let t := match t.nodeNow i.node with
    | some x => t.putNode { x with exceptions := x.exceptions + 1, faulted := x.faulted || decide (x.exceptions ≥ 15) }
    | none => t
  t.afterInst i

/-- A node's instance of a block has ended: it was published, or its channels hold what stands for it. -/
def State.instEnded (s : State) (n k : Nat) : Bool :=
  s.graver.published.contains (n, k) ||
    (s.get D.node_out_count n != 0 && s.render.inputs.any fun b =>
      b.kind == 4 && b.ch == s.get D.node_out_first n && b.block == k + s.get D.node_latency n)

/-- An instance whose inputs never became available has missed its deadline as well (R361, R370). -/
def State.neverReleased (s : State) (n k : Nat) : State :=
  if s.nodeReleases n k && !vendorNode n && !s.instEnded n k then
    let t := ((s.count D.node_misses n).error 0x59 n 0x0505 .warn).localEvent
    let t := match t.nodeNow n with
      | some x => t.putNode { x with exceptions := 0 }
      | none => t
    t.concealInst
      { node := n, block := k, core := 0, cls := s.nodeClass n, stage := .waiting, due := 0, deadline := s.nodeDeadline n k,
        released := s.time.local_ }
  else s

/-- GRAVER_DEADLINE: an instance has not ended by its deadline (R370). -/
def execGraverDeadline (n : Fin 4096) (k : Nat) (s : State) : Outcome State Fault Refusal :=
  match s.graver.insts.find? fun x => x.node == n.val && x.block == k && x.stage != .done with
  | none => .next (if s.graver.insts.any fun x => x.node == n.val && x.block == k then s else s.neverReleased n.val k)
  | some i =>
    let t := ((s.count D.node_misses i.node).error 0x59 i.node 0x0505 .warn).localEvent
    let t := t.instEnds i
    let t := match t.nodeNow i.node with
      | some x => t.putNode { x with exceptions := 0 }
      | none => t
    .next (((t.concealInst i).dropInst i).afterInst i)

end Sys2Proof.Machine
end

