-- ==== Sys2Proof/Machine/Graver.lean ====
section
/-! DEFINITION. The instructions of the Graver cores (R340–R355): a core fetches the bundle at
its program offset, decodes it and issues its slots. Each row of the table names one
operation; its command issues the next bundle of a core where that bundle holds it. -/

namespace Sys2Proof.Machine

open Sys2Proof Host

/-! ### Memory accesses of a bundle -/

/-- The addresses a bundle loads from. -/
def Inst.loadAddrs (i : Inst) (b : Bundle) : List Nat :=
  let go (ldx ldy : LoadSlot) : List Nat :=
    (if ldx.en = 1#1 then [xAddr i.core (i.regs.x.getD ldx.a.toNat 0#16).toNat] else []) ++
    (if ldy.en = 1#1 then [yAddr i.core (i.regs.y.getD ldy.a.toNat 0#16).toNat] else [])
  match b with
  | .dual _ _ mv => go mv.ldx mv.ldy
  | .dfma _ _ ldx ldy _ => go ldx ldy
  | .alu _ _ _ _ mv => go mv.ldx mv.ldy
  | .acc _ _ _ _ mv => go mv.ldx mv.ldy
  | _ => []

/-- The word the LDX slot loads. -/
def State.wordX (s : State) (i : Inst) (b : Bundle) : BitVec 32 :=
  let go (l : LoadSlot) : BitVec 32 := s.readWord (xAddr i.core (i.regs.x.getD l.a.toNat 0#16).toNat)
  match b with
  | .dual _ _ mv => go mv.ldx
  | .dfma _ _ ldx _ _ => go ldx
  | .alu _ _ _ _ mv => go mv.ldx
  | .acc _ _ _ _ mv => go mv.ldx
  | _ => 0#32

/-- The word the LDY slot loads. -/
def State.wordY (s : State) (i : Inst) (b : Bundle) : BitVec 32 :=
  let go (l : LoadSlot) : BitVec 32 := s.readWord (yAddr i.core (i.regs.y.getD l.a.toNat 0#16).toNat)
  match b with
  | .dual _ _ mv => go mv.ldy
  | .dfma _ _ _ ldy _ => go ldy
  | .alu _ _ _ _ mv => go mv.ldy
  | .acc _ _ _ _ mv => go mv.ldy
  | _ => 0#32

/-- The store slot of a bundle that stores. -/
def Bundle.store? : Bundle → Option StoreSlot
  | .dual _ _ mv => if mv.st.en = 1#1 then some mv.st else none
  | .alu _ _ _ _ mv => if mv.st.en = 1#1 then some mv.st else none
  | .acc _ _ _ _ mv => if mv.st.en = 1#1 then some mv.st else none
  | _ => none

/-- The matrix address a store slot writes (R341). -/
def Inst.storeAddr (i : Inst) (t : StoreSlot) : Nat :=
  if t.sp = 1#1 then yAddr i.core (i.regs.y.getD t.a.toNat 0#16).toNat
  else xAddr i.core (i.regs.x.getD t.a.toNat 0#16).toNat

/-- The store of a bundle (R341, R349). -/
def State.storeOf (s : State) (i : Inst) (b : Bundle) : State :=
  match b.store? with
  | some t => s.writeWords (i.storeAddr t) [(i.regs.storeWord t).1]
  | none => s

/-! ### Issuing a bundle -/

/-- The CTL code of a bundle. -/
def Bundle.ctl : Bundle → Nat
  | .dual _ _ mv => mv.ctl.toNat
  | .dfma _ _ _ _ c => c.toNat
  | .alu _ _ _ _ mv => mv.ctl.toNat
  | .acc _ _ _ _ mv => mv.ctl.toNat
  | _ => 0

/-- A bundle ends its instance: SYS EXIT or CTL EXIT (R341, R344). -/
def Bundle.exits : Bundle → Bool
  | .sys op _ => op == 0#4
  | b => b.ctl == 2

/-- A bundle is a YIELD point (R377). -/
def Bundle.yields : Bundle → Bool
  | .sys op _ => op == 1#4
  | b => b.ctl == 1

/-- SYS WAIT: the samples it waits (R362). -/
def Bundle.waitsFor : Bundle → Option Nat
  | .sys op arg => if op = 2#4 then some arg.toNat else none
  | _ => none

/-- The next bundle of an instance: PM_BOUND outside the image, ILLEGAL where the word or its
place is not legal (R340, R351, R352, R355). -/
def Inst.fetch (i : Inst) : Except Nat Bundle :=
  match i.code[i.regs.pc]? with
  | none => .error 1
  | some w =>
    match decodeBundle w with
    | none => .error 0
    | some b => if i.regs.misplaced b then .error 0 else .ok b

/-- The instance would exceed its declared cost with this bundle (R355). -/
def Inst.overruns (i : Inst) (b : Bundle) : Bool := decide (i.cost < i.regs.issueCycle b + 1)

/-- What follows the effect of a bundle: the end of the instance, its wait, or a switch
(R362, R366, R368, R377). -/
def State.settle (s : State) (i : Inst) (b : Bundle) : State :=
  if b.exits then s.exitInst i
  else
    match b.waitsFor with
    | some n =>
      ((s.putInst { i with stage := .waiting, due := s.sampleNow + n }).showNode i.node).scheduleCore i.core
    | none =>
      let t := s.putInst i
      if b.yields && i.regs.preq then t.switchCore i.core else t

/-- Issue one bundle of an instance (R349, R353–R355). -/
def State.issueBundle (s : State) (i : Inst) (b : Bundle) : State :=
  if i.overruns b then s.exceptInst i 3
  else if (i.loadAddrs b).any fun a => s.badIn a 4 then s.exceptInst i 2
  else
    match i.run b (s.wordX i b) (s.wordY i b) with
    | .exception k => s.exceptInst i k
    | .ok r =>
      let n := i.regs.note b (i.regs.issueCycle b)
      let j : Inst := { i with regs := { r with cycles := n.cycles, ready := n.ready } }
      (s.storeOf i b).settle j b

/-- The command of a row: the context that issues on core `c` issues its next bundle where the
bundle holds the row's operation; a fetch that fails raises its exception. Vendor kernels
issue bundles the manual does not list. -/
def State.issueRow (s : State) (c : Fin 8) (holds : Bundle → Bool) : State :=
  match s.issuing c.val with
  | none => s
  | some i =>
    if vendorNode i.node then s
    else
      match i.fetch with
      | .error k => s.exceptInst i k
      | .ok b => if holds b then s.issueBundle i b else s

/-! ### Which operations a bundle holds -/

/-- A bundle that holds no listed operation but its loads, its store and CTL. -/
def Bundle.quiet : Bundle → Bool
  | .nop => true
  | .dual m0 m1 mv => m0.op == 0#2 && m1.op == 0#2 && mv.ctl.toNat != 1 && mv.ctl.toNat != 2
  | .dfma a b _ _ c => a.op == 0#2 && b.op == 0#2 && c.toNat != 1 && c.toNat != 2
  | _ => false

def Bundle.hasMac (op : BitVec 2) : Bundle → Bool
  | .dual m0 m1 _ => m0.op == op || m1.op == op
  | _ => false

def Bundle.hasFma (op : BitVec 2) : Bundle → Bool
  | .dfma a b _ _ _ => a.op == op || b.op == op
  | _ => false

def Bundle.hasAlu (op : BitVec 6) : Bundle → Bool
  | .alu o _ _ _ _ => o == op
  | _ => false

def Bundle.hasAcc (op : BitVec 4) : Bundle → Bool
  | .acc o _ _ _ _ => o == op
  | _ => false

def Bundle.hasFlow (op : BitVec 4) : Bundle → Bool
  | .flow o _ _ _ _ _ => o == op
  | _ => false

def Bundle.hasSys (op : BitVec 4) : Bundle → Bool
  | .sys o _ => o == op
  | _ => false

def Bundle.isImm : Bundle → Bool
  | .imm _ _ => true
  | _ => false

/-! ### The rows -/

/-- NOP: a bundle with no listed operation (R340). -/
def execNop (c : Fin 8) (s : State) : Outcome State Fault Refusal := .next (s.issueRow c Bundle.quiet)

/-- MAC (R342, R347). -/
def execMac (c : Fin 8) (s : State) : Outcome State Fault Refusal := .next (s.issueRow c (Bundle.hasMac 1#2))

/-- MSU (R342, R347). -/
def execMsu (c : Fin 8) (s : State) : Outcome State Fault Refusal := .next (s.issueRow c (Bundle.hasMac 2#2))

/-- FMA (R343). -/
def execFma (c : Fin 8) (s : State) : Outcome State Fault Refusal := .next (s.issueRow c (Bundle.hasFma 1#2))

/-- FMS (R343). -/
def execFms (c : Fin 8) (s : State) : Outcome State Fault Refusal := .next (s.issueRow c (Bundle.hasFma 2#2))

/-- FADD of DFMA (R343). -/
def execDfmaFadd (c : Fin 8) (s : State) : Outcome State Fault Refusal := .next (s.issueRow c (Bundle.hasFma 3#2))

/-- MOV (R345). -/
def execMov (c : Fin 8) (s : State) : Outcome State Fault Refusal := .next (s.issueRow c (Bundle.hasAlu 0x00#6))

/-- IADD (R345). -/
def execIadd (c : Fin 8) (s : State) : Outcome State Fault Refusal := .next (s.issueRow c (Bundle.hasAlu 0x01#6))

/-- ISUB (R345). -/
def execIsub (c : Fin 8) (s : State) : Outcome State Fault Refusal := .next (s.issueRow c (Bundle.hasAlu 0x02#6))

/-- FADD (R345). -/
def execFadd (c : Fin 8) (s : State) : Outcome State Fault Refusal := .next (s.issueRow c (Bundle.hasAlu 0x08#6))

/-- FSUB (R345). -/
def execFsub (c : Fin 8) (s : State) : Outcome State Fault Refusal := .next (s.issueRow c (Bundle.hasAlu 0x09#6))

/-- FMUL (R345). -/
def execFmul (c : Fin 8) (s : State) : Outcome State Fault Refusal := .next (s.issueRow c (Bundle.hasAlu 0x0A#6))

/-- FMIN (R345). -/
def execFmin (c : Fin 8) (s : State) : Outcome State Fault Refusal := .next (s.issueRow c (Bundle.hasAlu 0x0B#6))

/-- FMAX (R345). -/
def execFmax (c : Fin 8) (s : State) : Outcome State Fault Refusal := .next (s.issueRow c (Bundle.hasAlu 0x0C#6))

/-- FABS (R345). -/
def execFabs (c : Fin 8) (s : State) : Outcome State Fault Refusal := .next (s.issueRow c (Bundle.hasAlu 0x0D#6))

/-- FNEG (R345). -/
def execFneg (c : Fin 8) (s : State) : Outcome State Fault Refusal := .next (s.issueRow c (Bundle.hasAlu 0x0E#6))

/-- FCMP (R345). -/
def execFcmp (c : Fin 8) (s : State) : Outcome State Fault Refusal := .next (s.issueRow c (Bundle.hasAlu 0x0F#6))

/-- FTOI (R345). -/
def execFtoi (c : Fin 8) (s : State) : Outcome State Fault Refusal := .next (s.issueRow c (Bundle.hasAlu 0x10#6))

/-- ITOF (R345). -/
def execItof (c : Fin 8) (s : State) : Outcome State Fault Refusal := .next (s.issueRow c (Bundle.hasAlu 0x11#6))

/-- FDIV (R345). -/
def execFdiv (c : Fin 8) (s : State) : Outcome State Fault Refusal := .next (s.issueRow c (Bundle.hasAlu 0x18#6))

/-- FSQRT (R345). -/
def execFsqrt (c : Fin 8) (s : State) : Outcome State Fault Refusal := .next (s.issueRow c (Bundle.hasAlu 0x19#6))

/-- FSIN (R345). -/
def execFsin (c : Fin 8) (s : State) : Outcome State Fault Refusal := .next (s.issueRow c (Bundle.hasAlu 0x1A#6))

/-- FCOS (R345). -/
def execFcos (c : Fin 8) (s : State) : Outcome State Fault Refusal := .next (s.issueRow c (Bundle.hasAlu 0x1B#6))

/-- FEXP10 (R345). -/
def execFexp10 (c : Fin 8) (s : State) : Outcome State Fault Refusal := .next (s.issueRow c (Bundle.hasAlu 0x1C#6))

/-- FLOG10 (R345). -/
def execFlog10 (c : Fin 8) (s : State) : Outcome State Fault Refusal := .next (s.issueRow c (Bundle.hasAlu 0x1D#6))

/-- FPOW (R345). -/
def execFpow (c : Fin 8) (s : State) : Outcome State Fault Refusal := .next (s.issueRow c (Bundle.hasAlu 0x1E#6))

/-- IMM (R344). -/
def execImm (c : Fin 8) (s : State) : Outcome State Fault Refusal := .next (s.issueRow c Bundle.isImm)

/-- ACLR (R348). -/
def execAclr (c : Fin 8) (s : State) : Outcome State Fault Refusal := .next (s.issueRow c (Bundle.hasAcc 0#4))

/-- AMOV (R348). -/
def execAmov (c : Fin 8) (s : State) : Outcome State Fault Refusal := .next (s.issueRow c (Bundle.hasAcc 1#4))

/-- AADD (R348). -/
def execAadd (c : Fin 8) (s : State) : Outcome State Fault Refusal := .next (s.issueRow c (Bundle.hasAcc 2#4))

/-- ASUB (R348). -/
def execAsub (c : Fin 8) (s : State) : Outcome State Fault Refusal := .next (s.issueRow c (Bundle.hasAcc 3#4))

/-- ALDF (R348). -/
def execAldf (c : Fin 8) (s : State) : Outcome State Fault Refusal := .next (s.issueRow c (Bundle.hasAcc 4#4))

/-- ASTF (R348). -/
def execAstf (c : Fin 8) (s : State) : Outcome State Fault Refusal := .next (s.issueRow c (Bundle.hasAcc 5#4))

/-- BR (R344, R351, R352). -/
def execBr (c : Fin 8) (s : State) : Outcome State Fault Refusal := .next (s.issueRow c (Bundle.hasFlow 0#4))

/-- BRC (R344, R351, R352). -/
def execBrc (c : Fin 8) (s : State) : Outcome State Fault Refusal := .next (s.issueRow c (Bundle.hasFlow 1#4))

/-- CALL (R344, R351, R352). -/
def execCall (c : Fin 8) (s : State) : Outcome State Fault Refusal := .next (s.issueRow c (Bundle.hasFlow 2#4))

/-- RET (R344, R351, R352). -/
def execRet (c : Fin 8) (s : State) : Outcome State Fault Refusal := .next (s.issueRow c (Bundle.hasFlow 3#4))

/-- LOOP (R344, R351, R352). -/
def execLoop (c : Fin 8) (s : State) : Outcome State Fault Refusal := .next (s.issueRow c (Bundle.hasFlow 4#4))

/-- LOOPR (R344, R351, R352). -/
def execLoopr (c : Fin 8) (s : State) : Outcome State Fault Refusal := .next (s.issueRow c (Bundle.hasFlow 5#4))

/-- YIELD, by SYS or CTL (R377). -/
def execYield (c : Fin 8) (s : State) : Outcome State Fault Refusal := .next (s.issueRow c Bundle.yields)

/-- WAIT (R362). -/
def execWait (c : Fin 8) (s : State) : Outcome State Fault Refusal := .next (s.issueRow c (Bundle.hasSys 2#4))

/-- FENCE (R344). -/
def execFence (c : Fin 8) (s : State) : Outcome State Fault Refusal := .next (s.issueRow c (Bundle.hasSys 3#4))

/-- TRAP (R355). -/
def execTrap (c : Fin 8) (s : State) : Outcome State Fault Refusal := .next (s.issueRow c (Bundle.hasSys 4#4))

/-- EXIT, by SYS or CTL (R366); a vendor kernel ends here too. -/
def execExit (c : Fin 8) (s : State) : Outcome State Fault Refusal :=
  match s.issuing c.val with
  | none => .next s
  | some i => if vendorNode i.node then .next (s.exitInst i) else .next (s.issueRow c Bundle.exits)

/-- LOOP_COUNT_EXPIRE: the end bundle of a level issues with its last iteration (R351). -/
def execLoopCountExpire (c : Fin 8) (level : Fin 2) (s : State) : Outcome State Fault Refusal :=
  match s.issuing c.val with
  | none => .next s
  | some i =>
    let l := if level.val = 0 then i.regs.lv0 else i.regs.lv1
    if (l.any fun b => b.last == i.regs.pc) && decide ((i.regs.lc.getD level.val 0#16).toNat ≤ 1) then
      .next (s.issueRow c fun _ => true)
    else .next s

/-- OVERRUN: the next bundle would take the instance past its declared cost (R355). A vendor
kernel's cycles are its own. -/
def execOverrun (c : Fin 8) (s : State) : Outcome State Fault Refusal :=
  match s.issuing c.val with
  | none => .next s
  | some i =>
    if vendorNode i.node then .next (s.exceptInst i 3)
    else
      match i.fetch with
      | .ok b => if i.overruns b then .next (s.exceptInst i 3) else .next s
      | .error _ => .next s

end Sys2Proof.Machine
end

