-- ==== Sys2Proof/Machine/Supply.lean ====
section
/-! DEFINITION. Supplies, the shutdown sequence, reset, straps and start-up (chapter 1, R600,
R608–R613, R626, R627). -/

namespace Sys2Proof.Machine

open Sys2Proof Host

/-! ### Reset causes (R39, R40) -/

/-- The causes in the order of R40: UVLO, THERMAL, POWER_ON, WATCHDOG, NRESET, SOFTWARE. -/
def causeOrder : List Nat := [2, 3, 0, 4, 1, 5]

/-- Note a cause of the reset that runs; the first in the order of R40 is kept. -/
def AlwaysOn.noteCause (a : AlwaysOn) (c : Nat) : AlwaysOn :=
  match a.cause with
  | none => { a with cause := some c }
  | some d => { a with cause := causeOrder.find? fun x => x == c || x == d }

def State.noteCause (s : State) (c : Nat) : State :=
  { s with power := { s.power with aod := s.power.aod.noteCause c } }

/-! ### Service life (R53, R54, R602) -/

/-- The life of each band of R53 in tenths of a year, coolest first. -/
def lifeTenths : List Nat := [250, 178, 128, 93, 68, 50]

/-- The band of a lid temperature: between rows the row above in the table (R53). -/
def lifeBand (t : F32) : Nat :=
  if F32.lt t 0x42960000#32 then 0
  else if F32.lt t 0x42A00000#32 then 1
  else if F32.lt t 0x42AA0000#32 then 2
  else if F32.lt t 0x42B40000#32 then 3
  else if F32.lt t 0x42BE0000#32 then 4
  else 5

/-- The life consumed as a fraction: the seconds of each band over its life (R54). -/
def lifeFraction (secs : List Nat) : Nat × Nat :=
  let den := lifeTenths.foldl (· * ·) 1
  let num := ((secs.zip lifeTenths).map fun e => 10 * e.1 * (den / e.2)).foldl (· + ·) 0
  (num, den * max 1 Config.yearSeconds)

/-- Show the life consumed and what remains at the present lid temperature (R602). -/
def State.showLife (s : State) : State :=
  let f := lifeFraction s.nand.life
  let used := F32.ofQuot ((100 * f.1 : Nat) : Int) f.2
  let at_ := F32.ofQuot ((lifeTenths.getD (lifeBand (s.getF D.sens_module_temp)) 250 : Nat) : Int) 10
  let left := F32.mul (F32.div (F32.sub 0x42C80000#32 used) 0x42C80000#32) at_
  (s.setF D.life_used used).setF D.life_remaining left

/-- Count seconds at a lid temperature. -/
def State.live (s : State) (secs : Nat) (temp : F32) : State :=
  ({ s with nand := { s.nand with life := modAt s.nand.life (lifeBand temp) (· + secs) } } : State).showLife

/-- The time in DORMANT counts, as the interval ends: at the mean of the module's temperatures at its ends, less the time
run from VAO (R54, R602). -/
def State.countDormant (s : State) : State :=
  let secs := (s.aodTime - s.power.aod.entered) / 1000000000 - s.power.aod.onVao / 1000000000
  s.live secs (F32.div (F32.add s.power.enteredTemp (s.getF D.sens_module_temp)) 0x40000000#32)

/-! ### What a reset keeps (R41, R73–R79, R605, R657) -/

/-- Objects held outside the persistent image, or made with the module: the key store and the
firmware slots, the log, life and trim, and the identity (R73, R602, R605). -/
def survives (a : Nat) : Bool :=
  a / 2 ^ 24 == 0x7F || (0x7E010000 ≤ a && a ≤ 0x7E010001) || a == 0x7E010005 ||
    (0x7E004000 ≤ a && a ≤ 0x7E004001) || a == 0x08001001 ||
    (0x00000003 ≤ a && a ≤ 0x00000005) || a == 0x00000008 || a == 0x58010000 || (D.port_mac.locate a).isSome

/-- What the always-on domain keeps of its own objects: its alarms, its comparators and its wake inputs (R41). -/
def alwaysOn (a : Nat) : Bool := 0x08002000 ≤ a && a ≤ 0x080041FF

/-- An object of the role table, which persist_reset keeps (R79). -/
def roleTable (a : Nat) : Bool := 0x01004000 ≤ a && a ≤ 0x01007FFF

/-- 2 s of local time. -/
def twoSeconds : Int := 2 * 1000000000 * ns32

/-- The waiting changes that a loss of supply at a local time leaves in NAND, each whole: those that took effect 2 s ago
or before, and of the others any (R75). -/
def retained (bits : Nat) (now : Int) (l : List Change) : List Change :=
  (l.zipIdx.filter fun e => decide (e.1.since + twoSeconds ≤ now) || bits.testBit e.2).map fun e => e.1

/-- The BLOB of a change goes into a store. -/
def Change.into (l : List Blob) (e : Change) : List Blob :=
  match e.blob with
  | some b => blobPut l b
  | none => l

/-- A BLOB that a reset replaces takes the next generation of its counter (R657). -/
def Blob.renew (b : Blob) (data : List Byte) : Blob :=
  if b.data = data then b else ⟨b.addr, b.counter + 1, b.counter + 1, data⟩

/-- The values and BLOBs of the persistent image that the next start finds (R73, R75, R79). -/
def State.nextImage (s : State) : List (Nat × Nat) × List Blob :=
  let kept := retained s.freeHere s.time.local_ s.nand.journal
  let vals := kept.foldl (fun m e => put m e.addr e.val) s.nand.image
  let blobs := kept.foldl Change.into s.nand.imageBlobs
  let all := s.nand.store.foldl (fun l b => blobPut l b) blobs
  match s.nand.replace with
  | some r =>
    let known := r.2.foldl (fun l e => blobPut l ((blobAt all e.1).renew e.2)) all
    (r.1.foldl (fun m e => put m e.1 e.2) [],
      known.map fun b => if r.2.any fun e => e.1 == b.addr then b else b.renew [])
  | none =>
    if s.nand.toDefaults then (vals.filter fun e => roleTable e.1, all.map fun b => b.renew [])
    else (vals, all)

/-- BLOBs kept in the clip store and the reserve region (R313, R397, R423). -/
def inStore (b : Blob) : Bool :=
  (D.clip_blob.locate b.addr).isSome || (D.etch_taps.locate b.addr).isSome ||
    (D.pf_ref.locate b.addr).isSome

/-- The dictionary and the stores after a reset (R73, R657). -/
def State.restored (s : State) : State :=
  let img := s.nextImage
  let blobs := (s.blobs.filter fun b => survives b.addr).foldl (fun l b => blobPut l b) img.2
  let base := s.dict.filter fun e => survives e.1
  let vals := img.1.foldl (fun m e => put m e.1 e.2) base
  let held := if s.power.aod.held && !s.nand.toDefaults then s.dict.filter fun e => alwaysOn e.1 else []
  let vals := held.foldl (fun m e => put m e.1 e.2) vals
  let dict := blobs.foldl (fun m b =>
    if b.gen = 0 then m else put m b.addr (handleOf b.data.length b.gen)) vals
  { dict := dict, blobs := blobs
    nand := { s.nand with
      image := img.1, imageBlobs := img.2.filter fun b => !inStore b
      store := img.2.filter inStore
      journal := [], imageGen := s.nand.imageGen + 1, toDefaults := false, replace := none }
    time := { local_ := s.time.local_ }
    power := { phase := .reset, vin := s.power.vin, vio := s.power.vio, vdac := s.power.vdac
               vao := s.power.vao, rails := s.power.rails, pgood := s.power.pgood
               nreset := s.power.nreset, thermal := s.power.thermal, aod := s.power.aod
               bootSlot := s.power.bootSlot, trialFresh := s.power.trialFresh }
    twin := { roleIn := s.twin.roleIn }
    wire := s.wire, free := s.free + 1, pending := s.pending }

/-- The values that follow from the persisted ones (R155, R237, R253, R313, R398, R423). -/
def State.derived (s : State) : State :=
  let t := (s.set D.media_source_now 4).setF D.sound_speed (soundSpeed (s.getF D.venue_temp))
  let t := t.set D.twin_partner_role 5
  let t := (t.instancesWhere D.act_kind (· != 0)).foldl (fun u e =>
    let n : ActionNote := { entry := e, fresh := true }
    let v := u.set D.act_state 1 e
    { v with timeline := { v.timeline with notes := v.timeline.notes ++ [n] } }) t
  let t := t.blobs.foldl (fun u b =>
    if b.data.isEmpty then u
    else
      match D.clip_blob.locate b.addr, D.pf_ref.locate b.addr, D.etch_taps.locate b.addr with
      | some (n, _), _, _ => u.set D.clip_state 1 n
      | none, some (j, _), _ => u.set D.pf_ref_state 2 j
      | none, none, some (j, _) => u.set D.etch_active_taps (b.data.length / 4) j
      | none, none, none => u) t
  { t with
    render := { t.render with loadDirty := true }
    twin := { t.twin with drive := !t.getB D.twin_enable, slotZero := t.get D.twin_slot == 0 }
    time := { t.time with configured := t.get D.media_source } }.loadTri

/-- The current outputs while reset is held: the stored power-up values, or 0 mA where the
always-on domain has lost them (R41, R463). -/
def State.idacsHeld (s : State) : State :=
  (List.range 16).foldl (fun t l => t.driveIdac l (t.power.aod.idacs.getD l 0)) s

/-- The sideband lands in reset: TW_ROLE_O and TW_HB_O low, nTW_TAKE released (R20). -/
def State.sidebandReset (s : State) : State :=
  ((s.send ⟨.sideband, "TW_ROLE_O", [0]⟩).send ⟨.sideband, "TW_HB_O", [0]⟩).send ⟨.sideband, "nTW_TAKE", [1]⟩

/-- Internal reset takes effect: everything but the always-on domain and what NAND, the key
store and the fuses hold (R20, R41, R73). A reset in DORMANT ends the interval that R602 counts. -/
def State.enterReset (s : State) (phase : Phase) : State :=
  let t := (if s.power.phase = .dormant then s.countDormant else s).restored.derived
  (({ t with power := { t.power with phase := phase } } : State).idacsHeld).sidebandReset

/-! ### Shutdown (R30–R33) -/

/-- Every current output at its fault value (R30, R463). -/
def State.idacsFault (s : State) : State :=
  (List.range 16).foldl (fun t l =>
    (t.driveIdac l (t.get D.idac_fault l)).set D.idac_state 3 l) s

/-- Fabric, MGT and Lace transmitters idle: every link and every lane is down (R30). -/
def State.portsIdle (s : State) : State :=
  let t := (List.range 7).foldl (fun t p => if t.get D.port_link p = 1 then t.linkDown p else t) s
  (List.range 2).foldl (fun u n => if u.get D.lace_state n = 0 then u else u.set D.lace_state 0 n) t

/-- Every current output at 0 mA (R24, R535). -/
def State.idacsOff (s : State) : State := (List.range 16).foldl (fun u l => u.driveIdac l 0) s

/-- Every current output at the value of its state (R24, R463, R554). -/
def State.idacsRedrive (s : State) : State :=
  (List.range 16).foldl (fun u l =>
    match u.get D.idac_state l with
    | 2 => u.driveIdac l ((idacOf u.io.idac l).target)
    | 3 => u.driveIdac l (u.get D.idac_fault l)
    | _ => u.driveIdac l (u.power.aod.idacs.getD l 0)) s

/-- A unit of a pair no longer holds the drive: its lands are released, IOUT at 0 mA, and TW_ROLE_O
falls (R531, R532, R535). -/
def State.dropDrive (s : State) : State :=
  if s.getB D.twin_enable && s.twin.drive then
    (({ s with twin := { s.twin with drive := false } } : State).idacsOff).send ⟨.sideband, "TW_ROLE_O", [0]⟩
  else s

/-- The sequence of R30, for an under-voltage (code UVLO) or a thermal trip (code THERMAL). -/
def State.shutDown (s : State) (code : Nat) : State :=
  let t := (if s.power.phase = .dormant then s.countDormant else s).dropDrive.idacsFault.portsIdle
  let t := t.error 0x7E 0 code .failed
  { t with
    power := { t.power with phase := .shutdown, pgood := false }
    err := { t.err with nfault := true } }

/-- The always-on domain loses its contents when neither VIN nor VAO feeds it (R25). -/
def State.aodFed (s : State) : State :=
  if s.power.vin || s.power.vao then s
  else { s with power := { s.power with aod := { held := false } } }

/-- The module runs from its own rails. -/
def State.powered (s : State) : Bool := s.power.phase != .off && s.power.phase != .shutdown

/-- The internal rails are expected in regulation: neither off nor in reset (R34). -/
def State.railsRun (s : State) : Bool := s.powered && s.power.phase != .reset

/-- The always-on domain notes the loss of VIN, and its return (R602). -/
def AlwaysOn.vinLost (a : AlwaysOn) (now : Nat) : AlwaysOn := { a with lost := some now }
def AlwaysOn.vinBack (a : AlwaysOn) (now : Nat) : AlwaysOn :=
  { a with onVao := a.onVao + (a.lost.map fun b => now - b).getD 0, lost := none }

/-- VIN_UNDERVOLTAGE: VIN falls below 9.8 V (R25, R26, R30, R32, R40). An under-voltage during a thermal
shutdown, or while the module is off after one, is a cause of that reset too. -/
def execVinUndervoltage (s : State) : Outcome State Fault Refusal :=
  let now := s.aodTime
  let lose (u : State) : State := { u with power := { u.power with
    vin := false, pgood := false, aod := u.power.aod.vinLost now } }
  match s.power.phase with
  | .off => .next ((lose s).noteCause 2).aodFed
  | .shutdown =>
    let t := (lose s).noteCause 2
    .next { t with power := { t.power with restart := false } }
  | _ => .next (lose (s.shutDown 0x0101))

/-- UVLO_SHUTDOWN_COMPLETE: the internal rails switch off, and the cause is recorded; a module
whose VIN recovered meanwhile starts as from power-up (R30, R31, R52). -/
def execUvloShutdownComplete (s : State) : Outcome State Fault Refusal :=
  if s.power.phase = .shutdown then
    let t := s.drainFailed
    let t := t.noteCause (if t.power.thermal then 3 else 2)
    let u := t.aodFed.enterReset (if t.power.restart && !t.power.thermal then .reset else .off)
    .next ({ u with power := { u.power with rails := false, pgood := false } } : State).idacsOff
  else .next s

/-- VIN_RECOVER: VIN rises above 10.2 V (R26, R31). -/
def execVinRecover (s : State) : Outcome State Fault Refusal :=
  let t : State := { s with power := { s.power with vin := true, aod := s.power.aod.vinBack s.aodTime } }
  match s.power.phase with
  | .shutdown => .next { t with power := { t.power with restart := true } }
  | .off => .next (if t.power.thermal then t else { t with power := { t.power with phase := .reset } })
  | _ => .next t

/-- VIO_LOSS: VIO falls below 2.90 V while VIN is good (R33). -/
def execVioLoss (s : State) : Outcome State Fault Refusal :=
  let t : State := { s with power := { s.power with vio := false, pgood := false } }
  if s.powered && s.power.vin && s.power.phase != .reset then .next (t.error 0x7E 0 0x0104 .failed)
  else .next t

/-- VIO_RETURN: VIO rises above 3.00 V; PGOOD follows unless the sequence of R30 runs, the ports resume at the next
boundary, and in reset IOUT takes its power-up values (R24, R30, R33, R34). -/
def execVioReturn (s : State) : Outcome State Fault Refusal :=
  let t : State := { s with power := { s.power with
    vio := true, vioWait := s.railsRun, pgood := s.power.vin && s.power.rails && s.powered } }
  .next (if t.power.phase = .reset then t.idacsRedrive else t)

/-- VDAC_CHANGE: VDAC becomes good or is lost (R24, R26). -/
def execVdacChange (good : Bool) (s : State) : Outcome State Fault Refusal :=
  let t : State := { s with power := { s.power with vdac := good } }
  .next (if good then t.idacsRedrive else t.idacsOff)

/-- VAO_CHANGE: VAO is applied or lost (R25). -/
def execVaoChange (on : Bool) (s : State) : Outcome State Fault Refusal :=
  .next (({ s with power := { s.power with vao := on } } : State).aodFed)

/-- SUPPLIES_GOOD: VIN and VIO are good and the rails are in regulation; PGOOD is released, and in reset IOUT takes its
power-up values (R24, R34, R36). A start whose causes the always-on domain does not hold is a power-on. -/
def execSuppliesGood (s : State) : Outcome State Fault Refusal :=
  if s.power.vin && s.power.vio && s.power.phase != .shutdown && !s.power.thermal then
    let starts := !s.power.rails && !s.railsRun
    let t : State := { s with power := { s.power with
      rails := true, pgood := true, phase := if starts then .reset else s.power.phase
      aod := { s.power.aod with held := s.power.aod.held || starts } } }
    let t := if starts then t.noteCause 0 else t
    .next (if t.power.phase = .reset then t.idacsRedrive else t)
  else .next s

/-- NRESET_REQUEST: nRESET has been low for at least 1 µs (R35, R41). -/
def execNresetRequest (s : State) : Outcome State Fault Refusal :=
  if s.powered then
    let t := (s.noteCause 1).enterReset .reset
    .next { t with power := { t.power with nreset := false } }
  else .next s

/-- SHANK_FAULT: the module resets with cause WATCHDOG (R600). -/
def execShankFault (s : State) : Outcome State Fault Refusal :=
  if s.powered && s.power.phase != .reset then .next ((s.noteCause 4).enterReset .reset)
  else .next s

/-- THERMAL_TRIP: a die sensor reads 125 °C (R52). -/
def execThermalTrip (s : State) : Outcome State Fault Refusal :=
  if s.powered then
    let t := s.shutDown 0x0102
    .next { t with power := { t.power with thermal := true } }
  else .next s

/-- THERMAL_RESTART: every die sensor reads below 105 °C after a trip (R52). -/
def execThermalRestart (s : State) : Outcome State Fault Refusal :=
  if s.power.thermal then
    let t : State := { s with power := { s.power with thermal := false } }
    if s.power.phase = .off && s.power.vin then
      .next { t with power := { t.power with phase := .reset } }
    else .next t
  else .next s

/-! ### Boot (R36, R37, R42, R608–R613, R627) -/

/-- Drive the power-up values at reset release (R41, R463). -/
def State.idacsPowerUp (s : State) : State :=
  (List.range 16).foldl (fun t l =>
    if t.power.vin && t.power.vdac then
      (t.driveIdac l (t.power.aod.idacs.getD l 0)).set D.idac_state 1 l
    else t) s

/-- RESET_RELEASE: internal reset is released; the straps, the twin slot, TW_ROLE_I and the
always-on time-keeper (ns) are read (R36, R39, R128, R537). -/
def execResetRelease (boot : Fin 4) (slot : Fin 2) (keeper : Nat) (roleIn : Bool) (s : State) :
    Outcome State Fault Refusal :=
  if s.power.phase = .reset && s.power.pgood then
    let lt : Int := (keeper : Int) * ns32
    let t := ((s.set D.boot_strap boot.val).set D.twin_slot slot.val).set D.reset_cause
      (s.power.aod.cause.getD 0)
    let solo := !t.getB D.twin_enable
    let t : State := { t with
      time := { t.time with local_ := lt, released := lt }
      power := { t.power with phase := .boot, nreset := true, aod := { t.power.aod with cause := none, offset := 0 } }
      twin := { t.twin with roleIn := roleIn, drive := solo && !roleIn, noDrive := solo && roleIn, slotZero := slot.val == 0 } }
    let t := (List.range 2).foldl (fun u d =>
      if u.getB D.dom_enable d then u.set D.dom_state domListening d else u.set D.dom_state domDisabled d) t
    let t := if solo && roleIn then
        (t.set D.twin_health (t.get D.twin_health ||| 2 ^ 10)).error 0x68 3 0x0B04 .failed
      else t
    .next (t.set D.twin_role (if solo then 0 else 3)).idacsPowerUp
  else .next s

/-- BOOT_SELF_CHECK: the boot ROM completes its self-check (R42). -/
def execBootSelfCheck (pass : Bool) (s : State) : Outcome State Fault Refusal :=
  if s.power.phase = .boot then
    if pass then .next { s with err := { s.err with nfault := false } }
    else
      .next { s with
        power := { s.power with phase := .halted }
        err := { s.err with nfault := true }
        twin := { s.twin with sound := false } }
  else .next s

/-- The slot under trial, if one is. -/
def State.trialSlot (s : State) : Option Nat :=
  (List.range 2).find? fun k => s.get D.fw_slot_state k == 4

/-- The failed attempts of a trial before this start: a reset with any cause other than UVLO
counts (R612). -/
def State.countAttempt (s : State) : State :=
  if s.power.trialFresh then { s with power := { s.power with trialFresh := false } }
  else if s.trialSlot.isSome && s.get D.reset_cause != 2 then
    s.set D.fw_attempts (min 2 (s.get D.fw_attempts + 1))
  else s

/-- Boot a slot that the boot ROM found valid. -/
def State.bootSlotNow (s : State) (k : Nat) : State :=
  ({ s with power := { s.power with phase := .starting, bootSlot := k } } : State).set D.fw_running k

/-- After 2 failed attempts the trial slot is BAD and the other one boots (R612). -/
def State.rollBack (s : State) : State :=
  match s.trialSlot with
  | some k =>
    if s.get D.fw_attempts < 2 then s
    else
      let t := ((s.set D.fw_slot_state 3 k).set D.fw_attempts 0).error 0x7F 0 0x0C01 .warn
      { t with power := { t.power with bootSlot := 1 - k } }
  | none => s

/-- FIRMWARE_LOADED: the boot ROM has read and checked the slots, or the image of the boot
source; `okA` and `okB` say which slots hold a valid image (R609, R612, R613, R627). A boot
source other than NAND brings a recovery image. -/
def execFirmwareLoaded (okA okB : Bool) (s : State) : Outcome State Fault Refusal :=
  if s.power.phase != .boot || s.err.nfault then .next s
  else if s.get D.boot_strap != 0 then
    if okA then
      .next (({ s with power := { s.power with phase := .recovery } } : State).set D.fw_running 2)
    else .next { s with power := { s.power with phase := .halted } }
  else
    let t := s.countAttempt.rollBack
    let k := match t.trialSlot with
      | some q => q
      | none => t.power.bootSlot
    let ok (n : Nat) : Bool := if n = 0 then okA else okB
    if ok k then .next (t.bootSlotNow k)
    else if ok (1 - k) then .next ((t.error 0x7F 0 0x0C02 .warn).bootSlotNow (1 - k))
    else
      .next { t with
        power := { t.power with phase := .halted }
        err := { t.err with nfault := true } }

/-- The area run controls: run, run_state and instance (R68). -/
def areaRuns : List (Obj × Obj × Nat) :=
  [(D.run12, D.runState12, 0), (D.run20, D.runState20, 0), (D.run4C, D.runState4C, 0)] ++
    (List.range 7).map fun p => (D.runPort, D.runStatePort, p)

/-- What starts with firmware, up to the first boundary: the blocks whose run control is RUNNING, the
PLLs, the domains, the event pins, the sides and the stream contexts (R69, R134, R171, R491, R627). -/
def State.startUp (s : State) : State :=
  let t := areaRuns.foldl (fun u e => if u.get e.1 e.2.2 = 1 then u.set e.2.1 1 e.2.2 else u) s
  let t := ((t.set D.pll_n 48 0).set D.pll_state 2 0).changeSetPoint 0
  let t := t.setF D.pll_f_min (t.pllFmin 0) 0
  let t := if t.get D.run12 = 1 then t.apllStart else t
  let t := (List.range 2).foldl (fun u d =>
    if u.getB D.dom_enable d && u.get D.runDom d = 1 then u.set D.dom_state domListening d else u) t
  let t := (List.range 6).foldl (fun u p => if u.get D.ev_mode p = 0 then u else u.rearm p) t.syntUpdate
  let t := (List.range 20).foldl (fun u n => if u.sideEnabled n then u.restartSide u.blockNow n else u) t
  let t := (List.range 32).foldl (fun u c => if u.getB D.pdm_ch_enable c then u.pdmSync u.blockNow c else u) t
  (t.instancesWhere D.is_kind (· == 1)).foldl (fun u c => u.igmp "IGMP_REPORT" (u.get D.is_ports c) (u.get D.is_addr c)) t

/-- PERSIST_REPLAY_DONE: the persistent image is replayed; the nodes of its graph are bound, and
outputs whose stored power-up values were lost drive the persisted ones (R73, R358, R463, R464, R627). -/
def execPersistReplayDone (s : State) : Outcome State Fault Refusal :=
  if s.power.phase = .starting then
    let t := if s.power.aod.idacs.isEmpty then
        (let l := (List.range 16).map fun l => s.get D.idac_powerup l
         ({ s with power := { s.power with aod := { s.power.aod with idacs := l } } } : State).idacsPowerUp)
      else s
    let nodes := t.instancesWhere D.node_kind (· == 1)
    let t := ((t.bindAll nodes).1.placeImages 0).1.startUp
    .next { t with power := { t.power with phase := .running, startedUp := true } }
  else .next s

/-- POWERUP ends at the first boundary after the replay: the mode value is approached (R463). -/
def State.idacsStart (s : State) : State :=
  if s.power.phase = .running && s.get D.run4C = 1 then
    (List.range 16).foldl (fun t l =>
      if t.get D.idac_state l = 1 then
        (let x := idacOf t.io.idac l
         let v := if t.get D.idac_mode l = 0 then t.get D.idac_value l else x.cur / 96
         (t.set D.idac_state 2 l).putIdac { x with target := v })
      else t) s
  else s

end Sys2Proof.Machine
end

