-- ==== Sys2Proof/Machine/Twin.lean ====
section
/-! DEFINITION. Twin operation (chapter 14), but for the journal and the replay: roles, the
sideband, take-over, Lace, mirrored and repaired inputs, digests and self-tests. -/

namespace Sys2Proof.Machine

open Sys2Proof Host

/-! ### Health (R562) -/

/-- The bits of twin_health that follow from the rest of the state (R562). -/
def State.healthBits (s : State) : Nat :=
  let r := s.role
  let st (n : Nat) : Nat := s.get D.lace_state n
  let down (n : Nat) : Bool := st n == 0 || st n == 3
  bitIf (r == roleStandby) 2 |||
  bitIf (!s.twin.hbSeen && !s.twin.laceSeen) 4 |||
  bitIf (r == roleActive && s.partnerRole != roleStandby) 8 |||
  bitIf (s.partnerRole == roleResync) 16 |||
  bitIf ((down 0 && down 1) || (s.twin.laceSeen && s.twin.laceLost && !s.twin.hbLost)) 128 |||
  bitIf ((st 0 == 0) != (st 1 == 0)) 256 |||
  bitIf (s.twin.hbLost && !s.twin.laceLost) 512

/-- Keep PAIRED, SELFTEST_FAIL, DIVERGED, WIRING and MIXED, and bring the other bits up to
date. -/
def State.refreshHealth (s : State) : State :=
  if s.getB D.twin_enable then s.set D.twin_health ((s.get D.twin_health &&& 0xC61) ||| s.healthBits)
  else s

/-! ### Drive and take-over (R529, R531–R533, R553, R560) -/

/-- Take the drive without a fence: the new unit drives the lands and raises TW_ROLE_O. -/
def State.takeDrive (s : State) : State :=
  (({ s with twin := { s.twin with drive := !s.twin.noDrive } } : State).idacsRedrive).send
    ⟨.sideband, "TW_ROLE_O", [1]⟩

/-- Send the STREAM frames that the partner has not reported sent (R553). -/
def State.resumeStreams (s : State) : State :=
  let ks := ((List.range 64).map fun i => s.blockNow - 64 + i).filter fun k =>
    decide (s.twin.partnerSent < k)
  let ctxs := s.instancesWhere D.es_kind (· == 2)
  ks.foldl (fun t k => ctxs.foldl (fun u c => u.streamTx c k) t) s

/-- What a new ACTIVE does whatever the cause: role, counters, sequences from the end of the
granted ranges, its LSA with ORIGIN, its streams, and the Proof windows in progress (R529,
R546, R553, R554). -/
def State.becomeActive (s : State) (cause : Nat) : State :=
  let t := (((s.set D.twin_role roleActive).count D.twin_takeovers).set D.twin_last_cause cause).set
    D.twin_last_block s.blockNow
  let t : State := { t with
    fabric := { t.fabric with txnSeq := max t.fabric.txnSeq t.twin.frameGrant, granted := max t.fabric.granted t.twin.frameGrant }
    cu := { t.cu with seq := max t.cu.seq t.twin.txnGrant, granted := max t.cu.granted t.twin.txnGrant } }
  let t := (t.floodOwn 0).takeDrive
  let t := if t.originates then t.resumeStreams else t
  (t.spoilOutputs fun _ => true).refreshHealth

/-- Pull nTW_TAKE low for 2 µs (R532): the partner releases its drive. -/
def State.fence (s : State) : State := s.send ⟨.sideband, "nTW_TAKE", [0]⟩

/-- A STANDBY takes over (R529, R553). -/
def State.takeOver (s : State) (cause : Nat) : State :=
  ((s.fence).becomeActive cause).error 0x68 0 0x0B01 .info

/-- A RESYNC unit that declares its partner lost takes the drive muted and loads the safe scene
(R560). -/
def State.takeLost (s : State) (cause : Nat) : State :=
  let t : State := { s with
    twin := { s.twin with loading := true, loaded := false, step := 0, checkpoint := none, held_ := 0, blobs := [], held := [] }
    power := { s.power with safe := true } }
  ((t.fence.becomeActive cause).idacsFault).error 0x68 0 0x0B06 .degraded

/-- Leave ACTIVE or STANDBY for FAILED: every land is released (R529, R532). -/
def State.enterFailed (s : State) : State := ((s.dropDrive).set D.twin_role roleFailed).refreshHealth

/-- Enter RESYNC and discard what was copied (R529, R556). -/
def State.enterResync (s : State) : State :=
  let t := (s.set D.twin_role roleResync).count D.twin_resyncs
  let x : TwinState := { t.twin with
    step := 0, checkpoint := none, held_ := 0, blobs := [], held := [], presence := [], expected := []
    mismatches := 0, own := [], theirs := [] }
  ({ t with twin := x, time := { t.time with reported := none } } : State).refreshHealth

/-- The partner is declared lost: what R529 makes of it in each role (R533, R548). -/
def State.declareLost (s : State) (cause : Nat) : State :=
  if s.twin.asleep || s.twin.switchAt.isSome then s
  else if s.role = roleStandby then s.takeOver cause
  else if s.role = roleResync && s.partnerRole = roleActive then s.takeLost cause
  else s

/-- ELECTION: a RESYNC unit that is ready for safe-scene audio takes the drive (R529, R530). -/
def execElection (s : State) : Outcome State Fault Refusal :=
  if s.role = roleResync && s.power.phase = .running && !s.twin.roleIn && !s.twin.asleep &&
      (s.twin.slotZero || s.twin.hbLost) then
    .next (s.fence.becomeActive 5)
  else .next s

/-- ROLE_LINE_FALL: TW_ROLE_I has fallen and stayed low for 0.4 µs (R533). A partner whose
self-test failed has stepped down (R552). -/
def execRoleLineFall (s : State) : Outcome State Fault Refusal :=
  let t : State := { s with twin := { s.twin with roleIn := false } }
  if s.getB D.twin_enable && s.partnerRole = roleActive then
    .next (t.declareLost (if s.twin.theirResult = some false then 4 else 1))
  else .next t

/-- HEARTBEAT_TIMEOUT: a path has been silent for 30 µs, or both have (R533). -/
def execHeartbeatTimeout (sideband lace : Bool) (s : State) : Outcome State Fault Refusal :=
  if !s.getB D.twin_enable then .next s
  else
    let t : State := { s with twin := { s.twin with hbLost := sideband, laceLost := lace } }
    if sideband && lace then
      .next ((t.declareLost 2).set D.twin_partner_role 5).refreshHealth
    else if sideband then .next (t.refreshHealth.error 0x68 0 0x0B08 .warn)
    else if lace then .next (t.refreshHealth.error 0x68 0 0x0B09 .warn)
    else .next t.refreshHealth

/-- TW_TAKE_FALL: the partner pulls nTW_TAKE low (R529, R532). -/
def execTwTakeFall (s : State) : Outcome State Fault Refusal :=
  if s.getB D.twin_enable && s.twin.drive then .next s.enterFailed else .next s

/-- TW_HB_EDGE: an edge on TW_HB_I, with the level found at TW_ROLE_I; it wakes a DORMANT unit
(R533, R548, R621). -/
def execTwHbEdge (roleIn : Bool) (s : State) : Outcome State Fault Refusal :=
  if !s.getB D.twin_enable then .next s
  else
    let t : State := { s with twin := { s.twin with roleIn := roleIn, hbSeen := true, hbLost := false } }
    .next (t.wakeUp .partner).refreshHealth

/-- The unit shows that it lives: sound, and neither DORMANT nor in reset (R528, R531). -/
def State.beats (s : State) : Bool :=
  s.getB D.twin_enable && s.twin.sound && s.powered && s.power.phase != .dormant &&
    s.power.phase != .reset

/-- TW_HB_TOGGLE: every 5 µs (R531). -/
def execTwHbToggle (s : State) : Outcome State Fault Refusal :=
  if s.beats then
    .next (({ s with twin := { s.twin with hbOut := !s.twin.hbOut } } : State).send
      ⟨.sideband, "TW_HB_O", [if s.twin.hbOut then 0 else 1]⟩)
  else .next s

/-- Twin switch at its boundary, the present one: the units exchange the drive (R529, R555). -/
def State.switchNow (s : State) : State :=
  if s.role = roleActive && s.partnerRole = roleStandby then
    (((s.dropDrive).set D.twin_role roleStandby).set D.twin_partner_role roleActive).refreshHealth
  else if s.role = roleStandby then
    ((s.set D.twin_partner_role roleStandby).becomeActive 3).refreshHealth
  else s

/-- TWIN_SWITCH: the command twin_switch at its boundary (R555). -/
def execTwinSwitch (s : State) : Outcome State Fault Refusal := .next s.switchNow

/-- Pair-wide values and BLOBs as the own persistent image holds them (R560, R626). -/
def State.loadSafeScene (s : State) : State :=
  let base := s.dict.filter fun e => !pairWide e.1
  let dict := (s.nand.image.filter fun e => pairWide e.1).foldl (fun m e => put m e.1 e.2) base
  let own := s.blobs.filter fun b => !pairWide b.addr
  let kept := (s.nand.imageBlobs ++ s.nand.store).filter fun b => pairWide b.addr
  let t : State := { s with
    dict := kept.foldl (fun m b => put m b.addr (handleOf b.data.length b.gen)) dict
    blobs := kept.foldl (fun l b => blobPut l b) own
    render := { loadDirty := true }
    svc := {}
    timeline := {} }
  t.loadTri

/-- SAFE_SCENE_LOADED: the safe scene is loaded; the outputs unmute at the next boundary (R560). -/
def execSafeSceneLoaded (s : State) : Outcome State Fault Refusal :=
  if s.twin.loading then
    let t := s.loadSafeScene.derived
    .next { t with twin := { s.twin with loaded := true } }
  else .next s

/-! ### Lace frames (R538–R542) -/

/-- What a Lace frame of a type does: one with a bad CRC is counted, a SOLO unit and a lane that is not UP take none
(R528, R539). A frame of another version, type or length is dropped (log entry 127). -/
def State.laceFrame (s : State) (f : LaceIn) (type : Nat) (body : List Byte) (act : State → State) : State :=
  if !s.getB D.twin_enable then s
  else if !f.holds body then s.count D.lace_crc_errors f.lane.val
  else if f.formed type body && s.laneUp f.lane.val then act s
  else s

/-- The firmware that runs, as HELLO names it (log entry 37). -/
def State.firmwareNow (s : State) : Nat := s.get D.fw_version (s.get D.fw_running % 2)

/-- The slot this unit acts as. -/
def State.actsAs (s : State) : Nat := if s.twin.slotZero then 0 else 1

def LaceHello.bytes (h : LaceHello) : List Byte :=
  beBytes 1 h.slot ++ beBytes 1 h.enabled.toNat ++ beBytes 1 h.role ++ tyEncode .str32 h.firmware ++ beBytes 16 h.certFp ++
    beBytes 8 h.claim ++ beBytes 2 h.offset ++ beBytes 2 h.total ++ h.data

/-- Send HELLO on a lane, with the whole chain in parts of 1024 bytes (R540, R542). -/
def State.sendLaceHello (s : State) (lane : Nat) : State :=
  let chain := s.linkChain
  (partsOf 1024 chain).foldl (fun t p => t.sendLace lane ltHello (LaceHello.bytes
    { slot := s.get D.twin_slot, enabled := s.getB D.twin_enable, role := s.role, firmware := s.firmwareNow
      certFp := s.certFp, claim := s.get D.fab_claim_time, offset := p.1, total := chain.length, data := p.2 })) s

/-- LACE_LANE_UP: a lane finishes training, and starts with HELLO (R538, R542). -/
def execLaceLaneUp (lane : Fin 2) (s : State) : Outcome State Fault Refusal :=
  if !s.getB D.twin_enable || s.get D.lace_state lane.val = 3 then .next s
  else .next ((s.set D.lace_state 2 lane.val).sendLaceHello lane.val).refreshHealth

/-- A wiring fault: bit WIRING, and a record with its number (R537). -/
def State.wiring (s : State) (n : Nat) (sev : Severity) : State :=
  (s.setHealth hWiring true).error 0x68 n 0x0B04 sev

/-- The earlier of two claim times; one that is unset gives way (R542). -/
def earlier (a b : Nat) : Nat := if a = 0 then b else if b = 0 then a else min a b

/-- The pair forms (R499, R542). -/
def State.formPair (s : State) (h : LaceHello) : State :=
  let id := if s.twin.slotZero then s.get D.dev_fp_hi else h.certFp / 2 ^ 64
  let t := (s.setHealth hPaired true).setHealth hMixed (h.firmware != s.firmwareNow)
  let t := t.set D.fab_claim_time (earlier (s.get D.fab_claim_time) h.claim)
  let fresh := s.twin.pairId != some id
  let t : State := { t with twin := { t.twin with pairId := some id, step := 0, heard := [] } }
  let t : State := { t with time := { t.time with reported := none } }
  if fresh then t.floodOwn 0 else t

/-- The wiring faults that the first part of a HELLO shows (R537). -/
def State.helloFaults (s : State) (f : LaceIn) (h : LaceHello) : State :=
  let t := if f.from_ != f.lane.val then s.wiring 2 .info else s
  if h.slot = t.get D.twin_slot then
    ({ t with twin := { t.twin with slotZero := decide (t.certFp < h.certFp) } } : State).wiring 1 .warn
  else t

/-- A HELLO of the partner: faults, its part of the chain, and once the chain is whole the forming of the pair or its
refusal (R537, R542). -/
def State.hearHello (s : State) (f : LaceIn) (h : LaceHello) : State :=
  let x := s.twin.lanes.getD f.lane.val {}
  let first := h.offset == 0
  let chain := (if first then [] else x.chain) ++ h.data
  let t := s.set D.twin_partner_role h.role
  let t : State := { t with twin := { t.twin with
    partner := some h, laceSeen := true, laceLost := false
    lanes := modAt t.twin.lanes f.lane.val fun _ => { x with chain := chain } } }
  let t := if first then t.helloFaults f h else t
  if chain.length ≠ h.offset + h.data.length || chain.length < h.total then t.refreshHealth
  else if (t.peerChain chain).isNone then
    ((((t.set D.lace_state 3 0).set D.lace_state 3 1).setHealth hPaired false).wiring 4 .degraded).refreshHealth
  else if h.enabled then (t.formPair h).refreshHealth
  else t.refreshHealth

/-- LACE_HELLO: wiring faults, and the forming of the pair (R537, R542). A SOLO unit that receives one drives nothing until
its next reset. -/
def execLaceHello (f : LaceIn) (h : LaceHello) (s : State) : Outcome State Fault Refusal :=
  if !f.holds h.bytes then .next (s.count D.lace_crc_errors f.lane.val)
  else if !f.formed ltHello h.bytes then .next s
  else if !s.getB D.twin_enable then
    .next ((({ s with twin := { s.twin with noDrive := true, drive := false } } : State).idacsOff).wiring 3 .failed)
  else .next (s.hearHello f h)

/-- The body of a HEARTBEAT. -/
def LaceBeat.bytes (h : LaceBeat) (boundary sent : Nat) : List Byte :=
  beBytes 1 h.role.val ++ beBytes 1 h.sound.toNat ++ beBytes 8 boundary ++ beBytes 8 sent ++ beBytes 8 h.journal

/-- LACE_HEARTBEAT: the partner's role and progress (R540). DIVERGED clears when the partner reaches
STANDBY (R552). -/
def execLaceHeartbeat (f : LaceIn) (h : LaceBeat) (boundary sent : Nat) (s : State) :
    Outcome State Fault Refusal :=
  .next (s.laceFrame f ltHeartbeat (h.bytes boundary sent) fun s =>
    let reached := h.role.val == roleStandby && s.partnerRole != roleStandby
    let t := s.set D.twin_partner_role h.role.val
    let t := if reached then t.setHealth hDiverged false else t
    ({ t with twin := { t.twin with
      laceSeen := true, laceLost := false, partnerBlock := boundary, partnerSent := sent } } : State).refreshHealth)

/-- LACE_HEARTBEAT_TIMER: every 10 µs on each lane (R531). -/
def execLaceHeartbeatTimer (s : State) : Outcome State Fault Refusal :=
  if s.beats then
    .next ((List.range 2).foldl (fun t n =>
      if t.laneUp n then
        t.sendLace n ltHeartbeat (LaceBeat.bytes ⟨Fin.ofNat 5 t.role, true, t.twin.index⟩ t.blockNow (t.blockNow - 1))
      else t) s)
  else .next s

/-- Media time in 2⁻¹⁶ ns. -/
def State.mediaT80 (s : State) : Int := s.media / 2 ^ 16

/-- The body of a TIME message: two stamps. -/
def timeBody (a b : Int) : List Byte := tyEncode .t80 (ofSigned 80 a) ++ tyEncode .t80 (ofSigned 80 b)

/-- LACE_TIME_TIMER: every 1 ms (R541). -/
def execLaceTimeTimer (s : State) : Outcome State Fault Refusal :=
  if s.getB D.twin_enable && (s.laneFor 0).isSome then
    let t := s.sendLace 0 ltTime (timeBody (s.twin.timeSent.getD 0) (s.twin.timeReceived.getD 0))
    .next { t with twin := { t.twin with timeSent := some s.mediaT80 } }
  else .next s

/-- LACE_TIME: the partner's stamp of its previous TIME, its stamp of the last TIME it received,
and our stamp of this one, all in 2⁻¹⁶ ns of media time. The offset of the partner follows from
the four stamps (R541), and a STANDBY or RESYNC unit follows the ACTIVE's media time (R545). -/
def execLaceTime (f : LaceIn) (prevSent lastReceived received : Int) (s : State) :
    Outcome State Fault Refusal :=
  .next (s.laceFrame f ltTime (timeBody prevSent lastReceived) fun s =>
    let t : State := { s with twin := { s.twin with timeReceived := some received } }
    match s.twin.timeSent, s.twin.timeReceived with
    | some t1, some t4 =>
      let o := ((lastReceived - t1) + (prevSent - t4)) * 2 ^ 15 +
        ofPs (s.getI D.lace_delay_asymmetry f.lane.val)
      let t := t.setF D.twin_time_offset (nsF32 o)
      if (s.role = roleStandby || s.role = roleResync) && s.partnerRole = roleActive && s.paired then
        { t with time := { t.time with bridge := t.time.bridge + o } }
      else t
    | _, _ => t)

/-! ### Inputs (R549, R550) -/

/-- The body of a MIRROR: a block, its first channel, and the word and samples of each channel. -/
def mirrorBody (block first : Nat) (rows : List (Nat × List (BitVec 32))) : List Byte :=
  beBytes 8 block ++ beBytes 2 first ++ beBytes 2 rows.length ++ (rows.flatMap fun r => beBytes 2 r.1) ++
    rows.flatMap fun r => r.2.flatMap fun x => beBytes 4 x.toNat

/-- MIRROR: a block of local input channels of the ACTIVE, from channel `first` on: word and
samples of each (R549). -/
def execMirror (f : LaceIn) (block first : Nat) (rows : List (Nat × List (BitVec 32))) (s : State) :
    Outcome State Fault Refusal :=
  .next (s.laceFrame f ltMirror (mirrorBody block first rows) fun s =>
    if s.role = roleStandby || s.role = roleResync then
      rows.zipIdx.foldl (fun t r =>
        t.putInput ⟨2, first + r.2, block, (List.range r.1.2.length).zip r.1.2, r.1.1, true⟩) s
    else s)

/-- Send the local input channels of block `k` to the partner (R549). -/
def State.mirrorBlock (s : State) (k : Nat) : State :=
  let mine := s.render.inputs.filter fun b => b.kind == 2 && b.block == k
  mine.foldl (fun t b => t.sendLace 1 ltMirror (mirrorBody k b.ch
    [(b.word, (List.range s.blockLen).map fun p => (sampleAt b.samples p).getD F32.zero)])) s

/-- The samples of a block that an ingress context holds, as bits (R550). -/
def State.presenceOf (s : State) (c k : Nat) : Nat :=
  match s.input 1 (s.get D.is_first_ch c) k with
  | none => 0
  | some b => (List.range s.blockLen).foldl (fun a p => a + bitIf (sampleAt b.samples p).isSome (2 ^ p)) 0

/-- The presence map of a block over every enabled ingress context. -/
def State.presenceMap (s : State) (k : Nat) : List (Nat × Nat) :=
  ((List.range 512).filter fun c => s.get D.is_kind c != 0).map fun c => (c, s.presenceOf c k)

def presenceAt (l : List Presence) (own : Bool) (k : Nat) : Option Presence :=
  l.find? fun x => x.own == own && x.block == k

def bitsAt (maps : List (Nat × Nat)) (c : Nat) : Nat :=
  ((maps.find? fun e => e.1 == c).map fun e => e.2).getD 0

/-- The samples that one map has and the other lacks, by context and sample. -/
def lackList (have_ lacks : List (Nat × Nat)) (l : Nat) : List (Nat × Nat) :=
  have_.flatMap fun e => ((List.range l).filter fun p =>
    e.2.testBit p && !(bitsAt lacks e.1).testBit p).map fun p => (e.1, p)

/-- Split a repair list at its budget of sample bytes (R550): sent, and cut. -/
def cutBudget (chans : Nat → Nat) : Nat → List (Nat × Nat) → List (Nat × Nat) × List (Nat × Nat)
  | _, [] => ([], [])
  | left, e :: l =>
    let n := 4 * chans e.1
    if left < n then ([], e :: l)
    else
      let r := cutBudget chans (left - n) l
      (e :: r.1, r.2)

/-- The budget of sample data per block and direction (R550). -/
def repairBudget : Nat := 49152

/-- Remove a sample of a context from a block: the partner does not get it (R550). -/
def State.cutSample (s : State) (k c p : Nat) : State :=
  (List.range (s.get D.is_channels c)).foldl (fun t i =>
    match t.input 1 (t.get D.is_first_ch c + i) k with
    | some b => t.putInput { b with samples := b.samples.filter fun e => e.1 != p }
    | none => t) s

/-- The body of a REPAIR: a block, a context, the first sample, the words of its channels, and a row of channels for each
sample. -/
def repairBody (block ctx first : Nat) (words : List Nat) (rows : List (List (BitVec 32))) : List Byte :=
  beBytes 8 block ++ beBytes 2 ctx ++ beBytes 1 first ++ beBytes 1 rows.length ++ beBytes 1 words.length ++
    (words.flatMap fun w => beBytes 2 w) ++ rows.flatMap fun r => r.flatMap fun x => beBytes 4 x.toNat

/-- Send one repaired sample of a context. -/
def State.sendRepair (s : State) (k : Nat) (e : Nat × Nat) : State :=
  let n := s.get D.is_channels e.1
  let bs := (List.range n).map fun i => s.input 1 (s.get D.is_first_ch e.1 + i) k
  let words := bs.map fun b => (b.map (·.word)).getD 0
  let xs := bs.map fun b => (b.bind fun x => sampleAt x.samples e.2).getD F32.zero
  s.sendLace 1 ltRepair (repairBody k e.1 e.2 words [xs])

/-- With both maps of a block: send what the partner lacks, drop what the budget cuts, and note
what must arrive (R550). -/
def State.reconcile (s : State) (k : Nat) : State :=
  match presenceAt s.twin.presence true k, presenceAt s.twin.presence false k with
  | some mine, some theirs =>
    let ch (c : Nat) : Nat := s.get D.is_channels c
    let out := cutBudget ch repairBudget (lackList mine.maps theirs.maps s.blockLen)
    let inn := cutBudget ch repairBudget (lackList theirs.maps mine.maps s.blockLen)
    let t := out.1.foldl (fun t e => t.sendRepair k e) s
    let t := out.2.foldl (fun t e => t.cutSample k e.1 e.2) t
    let t := (t.count D.repair_sent 0 out.1.length).count D.repair_overflow 0 out.2.length
    { t with twin := { t.twin with expected := t.twin.expected ++ inn.1.map fun e => (k, e.1, e.2) } }
  | _, _ => s

/-- The body of an IN_PRESENCE: a block, and a context with its bits for each entry. -/
def presenceBody (block : Nat) (maps : List (Nat × Nat)) : List Byte :=
  beBytes 8 block ++ beBytes 2 maps.length ++ maps.flatMap fun e => beBytes 2 e.1 ++ beBytes 4 e.2

/-- IN_PRESENCE_SEND: 30 µs before boundary k + P − 1, for block k (R550). -/
def execInPresenceSend (s : State) : Outcome State Fault Refusal :=
  let k := s.blockNow + 2 - s.get D.pres_offset
  if !s.paired || s.role = roleFailed || (presenceAt s.twin.presence true k).isSome then .next s
  else
    let m := s.presenceMap k
    let t := s.sendLace 0 ltInPresence (presenceBody k m)
    let l : List Presence := ⟨k, true, m⟩ :: t.twin.presence.take 8
    .next (({ t with twin := { t.twin with presence := l } } : State).reconcile k)

/-- IN_PRESENCE: the partner's map of a block (R550). -/
def execInPresence (f : LaceIn) (block : Nat) (maps : List (Nat × Nat)) (s : State) :
    Outcome State Fault Refusal :=
  .next (s.laceFrame f ltInPresence (presenceBody block maps) fun s =>
    let l : List Presence := ⟨block, false, maps⟩ :: s.twin.presence.take 8
    ({ s with twin := { s.twin with presence := l } } : State).reconcile block)

/-- REPAIR: samples of a context from sample `first` of a block on, one row of channels for each
(R550). A block that has been closed takes none. -/
def execRepair (f : LaceIn) (block ctx first : Nat) (words : List Nat) (rows : List (List (BitVec 32)))
    (s : State) : Outcome State Fault Refusal :=
  .next (s.laceFrame f ltRepair (repairBody block ctx first words rows) fun s =>
    if decide (block + s.get D.pres_offset ≤ s.blockNow + 1) || s.get D.is_kind ctx = 0 then s
    else
      let base := s.get D.is_first_ch ctx
      let t := rows.zipIdx.foldl (fun t r => r.1.zipIdx.foldl (fun u x =>
        u.placeSample 1 (base + x.2) (block * u.blockLen + first + r.2) x.1 (words.getD x.2 0)) t) s
      let left := t.twin.expected.filter fun e =>
        !(e.1 == block && e.2.1 == ctx && decide (first ≤ e.2.2) && decide (e.2.2 < first + rows.length))
      ({ t with twin := { t.twin with expected := left } } : State).count D.repair_received 0 rows.length)

/-- A block of ingress closes: repairs that have not arrived are lost, one frame per context
(R550). -/
def State.closeRepairs (s : State) (k : Nat) : State :=
  let lost := s.twin.expected.filter fun e => e.1 == k
  let ctxs := (lost.map fun e => e.2.1).eraseDups
  let t : State := { s with twin := { s.twin with
    expected := s.twin.expected.filter fun e => decide (k < e.1)
    repairLost := s.twin.repairLost || !ctxs.isEmpty } }
  if ctxs.isEmpty then t else t.count D.repair_lost 0 ctxs.length

/-! ### Digests (R551, R552) -/

/-- The OUT samples and the status words of every output (R551). -/
def State.outBytes (s : State) : List Byte :=
  s.liveOutputs.flatMap fun j =>
    let x := match s.render.chains.find? (·.out = j) with
      | some c => c.taps6.getD 5 []
      | none => []
    ((List.range s.blockLen).flatMap fun p => beBytes 4 (x.getD p F32.zero).toNat) ++
      beBytes 2 (s.get D.out_status j)

/-- The digest of the block presented at boundary `k` (R551). -/
def State.ownDigest (s : State) (k : Nat) : Digest :=
  ⟨k, s.twin.event, s.twin.repairLost, (s.get D.twin_health).testBit 11, crc64 s.outBytes,
    s.twin.slotTiles, s.twin.slotRecords⟩

/-- The body of an OUT_DIGEST (R540). -/
def Digest.bytes (d : Digest) : List Byte :=
  beBytes 8 d.block ++ beBytes 1 (d.localEvent.toNat + 2 * d.repairLost.toNat + 4 * d.mixed.toNat) ++ beBytes 8 d.out ++
    (d.tiles.flatMap fun x => beBytes 4 x) ++ d.records.flatMap fun x => beBytes 4 x

/-- OUT_DIGEST: the partner's digest of a block; both units compare at the second boundary after
it (R552). -/
def execOutDigest (f : LaceIn) (d : Digest) (s : State) : Outcome State Fault Refusal :=
  .next (s.laceFrame f ltOutDigest d.bytes fun s =>
    { s with twin := { s.twin with theirs := d :: s.twin.theirs.take 8 } })

/-- The first index at which two lists differ. -/
def firstDiff : List Nat → List Nat → Nat → Option Nat
  | a :: l, b :: m, n => if a = b then firstDiff l m (n + 1) else some n
  | [], [], _ => none
  | _, _, n => some n

/-- The unit that two differing digests involve (R552). -/
def involvedUnit (a b : Digest) : Nat :=
  match firstDiff a.records b.records 0 with
  | some t => 0x18 + t % 8
  | none =>
    match firstDiff a.tiles b.tiles 0 with
    | some t => t
    | none => 0x20

/-- Compare the digests of block `m` (R552). -/
def State.compareDigests (s : State) (m : Nat) : State :=
  match s.twin.own.find? (fun d => d.block == m), s.twin.theirs.find? (fun d => d.block == m) with
  | some a, some b =>
    if a.localEvent || a.repairLost || b.localEvent || b.repairLost then
      (if s.role = roleStandby then s.enterResync else s)
    else if a.mixed || b.mixed then s
    else if a.out = b.out && a.tiles = b.tiles && a.records = b.records then
      { s with twin := { s.twin with mismatches := 0 } }
    else
      let n := s.twin.mismatches + 1
      let u := if n = 1 then involvedUnit a b else s.twin.involved
      let t := s.count D.twin_mismatches
      let go := n == 3
      { t with twin := { t.twin with
        mismatches := if go then 0 else n
        involved := u
        testing := t.twin.testing || go
        ownResult := if go then none else t.twin.ownResult
        theirResult := if go then none else t.twin.theirResult } }
  | some a, none => if (a.localEvent || a.repairLost) && s.role = roleStandby then s.enterResync else s
  | _, _ => s

/-- At boundary `k` a unit of a pair sends the digest of the block presented there and compares
that of the block two before (R551, R552). -/
def State.digestBoundary (s : State) (k : Nat) : State :=
  if !s.paired || !(s.role = roleActive || s.role = roleStandby) then s
  else
    let d := s.ownDigest k
    let t := s.sendLace 0 ltOutDigest d.bytes
    let t : State := { t with twin := { t.twin with
      own := d :: t.twin.own.take 4, event := false, repairLost := false } }
    if 2 ≤ k then t.compareDigests (k - 2) else t

/-! ### Self-tests (R529, R552, R561) -/

/-- The pair reports DIVERGED (R552). -/
def State.diverge (s : State) : State :=
  ((s.setHealth hDiverged true).count D.twin_diverged).error 0x68 0 0x0B05 .degraded

/-- The outcome once both results of a test of R552 are held. -/
def State.judgeTests (s : State) : State :=
  match s.twin.ownResult, s.twin.theirResult with
  | some own, some theirs =>
    let t : State := { s with twin := { s.twin with testing := false } }
    if s.role = roleActive then
      (if !own && theirs then t.enterFailed
       else if own && theirs then t.diverge.refreshHealth
       else t)
    else if s.role = roleStandby then
      (if !own then t.enterFailed.error 0x68 0 0x0B03 .degraded
       else if theirs then t.diverge.enterResync
       else t)
    else t
  | _, _ => s

/-- The body of a SELFTEST: the unit, and PASS 0 or FAIL 1. -/
def selftestBody (unit : Nat) (pass : Bool) : List Byte := beBytes 1 unit ++ beBytes 1 (!pass).toNat

/-- SELFTEST_DONE: a known-answer test of a unit completes (R529, R552, R561). -/
def execSelftestDone (unit : Nat) (pass : Bool) (s : State) : Outcome State Fault Refusal :=
  let t := s.setHealth hSelftest (!pass)
  let t := if pass then t else (t.set D.twin_selftest_unit (unit % 256)).error 0x68 0 0x0B07 .degraded
  if s.twin.testing && unit = s.twin.involved then
    (let t := t.sendLace 0 ltSelftest (selftestBody unit pass)
     let t : State := { t with twin := { t.twin with ownResult := some pass } }
     .next t.judgeTests)
  else if pass then .next t
  else if s.role = roleActive && s.partnerRole = roleStandby then .next t.enterFailed
  else if s.role = roleStandby then .next (t.enterFailed.error 0x68 0 0x0B03 .degraded)
  else .next t

/-- SELFTEST: the partner's result (R552). -/
def execSelftest (f : LaceIn) (unit : Nat) (pass : Bool) (s : State) : Outcome State Fault Refusal :=
  .next (s.laceFrame f ltSelftest (selftestBody unit pass) fun s =>
    if s.twin.testing && unit = s.twin.involved then
      ({ s with twin := { s.twin with theirResult := some pass } } : State).judgeTests
    else s)

/-- SELFTEST_RESULT_TIMEOUT: no result of the partner within 100 ms of our own (R552). -/
def execSelftestResultTimeout (s : State) : Outcome State Fault Refusal :=
  match s.twin.testing, s.twin.ownResult, s.twin.theirResult with
  | true, some own, none =>
    let t := ({ s with twin := { s.twin with testing := false } } : State).diverge
    if s.role = roleStandby then
      .next (if own then t.enterResync else t.enterFailed.error 0x68 0 0x0B03 .degraded)
    else .next t.refreshHealth
  | _, _, _ => .next s

/-! ### Copying state (R556) -/

/-- The bodies of CHECKPOINT_ACK, and of BLOB and CHECKPOINT. -/
def checkpointAckBody (block held : Nat) : List Byte := beBytes 8 block ++ beBytes 4 held
def checkpointBody (block offset total : Nat) (data : List Byte) : List Byte :=
  beBytes 8 block ++ beBytes 4 offset ++ beBytes 4 total ++ data
def blobBody (addr gen offset total : Nat) (data : List Byte) : List Byte :=
  beBytes 4 addr ++ beBytes 4 gen ++ beBytes 4 offset ++ beBytes 4 total ++ data

/-- A whole BLOB value leaves in BLOB messages. -/
def State.sendBlob (s : State) (b : Blob) : State :=
  (partsOf laceData b.data).foldl (fun t p => t.sendLace 1 ltBlob (blobBody b.addr b.gen p.1 b.data.length p.2)) s

/-- The checkpoint of a block leaves in CHECKPOINT messages. -/
def State.sendCheckpoint (s : State) (k : Nat) (c : Checkpoint) : State :=
  let l := Config.checkpointBytes c
  (partsOf laceData l).foldl (fun t p => t.sendLace 1 ltCheckpoint (checkpointBody k p.1 l.length p.2)) s

/-- CHECKPOINT_ACK: how many bytes of a checkpoint the partner holds (R556). -/
def execCheckpointAck (f : LaceIn) (block held : Nat) (s : State) : Outcome State Fault Refusal :=
  .next (s.laceFrame f ltCheckpointAck (checkpointAckBody block held) fun s =>
    if s.twin.checkpoint = some block then { s with twin := { s.twin with held_ := held } } else s)

/-- LACE_BLOB: a piece of a pair-wide BLOB; a complete one is put in force (R556). -/
def execLaceBlob (f : LaceIn) (addr gen offset total : Nat) (data : List Byte) (s : State) :
    Outcome State Fault Refusal :=
  .next (s.laceFrame f ltBlob (blobBody addr gen offset total data) fun s =>
    if s.role != roleResync || !pairWide addr then s
    else
      let had := (s.twin.blobs.find? fun e => e.1 == addr && e.2.1 == gen).map fun e => e.2.2
      let sofar := if offset = 0 then some [] else had
      match sofar with
      | none => s
      | some old =>
        if old.length ≠ offset then s
        else
          let now := old ++ data
          let rest := s.twin.blobs.filter fun e => e.1 != addr
          if now.length < total then
            { s with twin := { s.twin with blobs := (addr, gen, now) :: rest } }
          else
            let b := blobAt s.blobs addr
            { s with
              twin := { s.twin with blobs := rest }
              dict := put s.dict addr (handleOf now.length gen)
              blobs := blobPut s.blobs ⟨addr, max gen b.counter, gen, now⟩ })

end Sys2Proof.Machine
end

