-- ==== Sys2Proof/Machine/Check.lean ====
section
/-! DEFINITION. The checks that a request makes of an item: existence, access, role, type,
range, mode and state (R57–R67, R95, R656). -/

namespace Sys2Proof.Machine

open Sys2Proof

/-- Who asks: where a request comes from, its role and its session (R64, R89, R115). -/
structure Who where
  src : Source
  session : Nat := 0
  role : Role
  ownerChain : Bool := false
  deriving DecidableEq, Repr

/-! ### Existence and use (R58, R59) -/

/-- Addresses inside an object's span that no table lists: configuration of rings 0–7 (R480). -/
def unlisted (a : Nat) : Bool :=
  let ring := a / 256 % 65536
  a / 2 ^ 24 == 0x29 && decide (a % 256 ≤ 5) &&
    (decide (ring < 8) || (decide (0x20 ≤ ring) && decide (ring < 0x28)))

/-- A recovery image serves areas 00, 02, 7E and 7F only (R613). -/
def recoveryArea (a : Nat) : Bool := [0x00, 0x02, 0x7E, 0x7F].contains (a / 2 ^ 24)

/-- The object that an address names now (R59, R613). -/
def State.object (s : State) (a : Nat) : Option (Obj × Nat × Nat) :=
  if unlisted a || (s.power.phase == .recovery && !recoveryArea a) then none else objAt a

/-- An object cannot be used in the present mode (R59, R224). -/
def State.unusable (s : State) (a : Nat) : Bool :=
  s.get D.render_rate == 1 && a / 2 ^ 24 == 0x30 && decide (0x200 ≤ a / 256 % 65536)

/-! ### Ranges (R60, R61, R656) -/

/-- The continuation bytes of a UTF-8 character. -/
def utf8Tail : Nat → List Byte → Option (List Byte)
  | 0, l => some l
  | _ + 1, [] => none
  | n + 1, b :: l => if b.toNat / 64 = 2 then utf8Tail n l else none

/-- Valid UTF-8, with `n` bytes at most to read: no overlong form, no surrogate, at most
U+10FFFF. -/
def utf8Ok : Nat → List Byte → Bool
  | _, [] => true
  | 0, _ => false
  | n + 1, b :: l =>
    let x := b.toNat
    let c := ((l.headD 0#8).toNat)
    let k :=
      if x < 0x80 then some 0
      else if 0xC2 ≤ x && x ≤ 0xDF then some 1
      else if x = 0xE0 then (if 0xA0 ≤ c then some 2 else none)
      else if x = 0xED then (if c < 0xA0 then some 2 else none)
      else if 0xE1 ≤ x && x ≤ 0xEF then some 2
      else if x = 0xF0 then (if 0x90 ≤ c then some 3 else none)
      else if 0xF1 ≤ x && x ≤ 0xF3 then some 3
      else if x = 0xF4 then (if c < 0x90 then some 3 else none)
      else none
    match k.bind fun k => utf8Tail k l with
    | some r => utf8Ok n r
    | none => false

/-- A STR32 value: its length byte, then so many bytes of UTF-8 (R60). -/
def strOk (v : Nat) : Bool :=
  match strBytes v with
  | [] => false
  | n :: l => decide (n.toNat = l.length) && decide (l.length ≤ 32) && utf8Ok l.length l

/-- A value is an encoding of its type (R60). -/
def tyOk (t : Ty) (v : Nat) : Bool :=
  match t with
  | .bool => decide (v ≤ 1)
  | .f32 => decide (v < 2 ^ 32) && (F32.isFinite (BitVec.ofNat 32 v))
  | .pos3 =>
    let p := posOf v
    decide (v < 2 ^ 96) && F32.isFinite p.1 && F32.isFinite p.2.1 && F32.isFinite p.2.2
  | .str32 => strOk v
  | _ => decide (v < 2 ^ (8 * tyBytes t))

/-- A value lies in the set of its range column, at its widest extent (R656). -/
def rngOk (o : Obj) (i v : Nat) : Bool :=
  match o.rng with
  | .any => true
  | .ivals l => l.any fun e => decide (e.1 ≤ tyInt o.ty v) && decide (tyInt o.ty v ≤ e.2)
  | .enum l => l.any fun e => e.1 == v
  | .enumAt l last only => if i = last then only.contains v else l.any fun e => e.1 == v
  | .f32 lo hi openAbove =>
    let x : F32 := BitVec.ofNat 32 v
    F32.le (BitVec.ofNat 32 lo) x &&
      (if openAbove then F32.lt x (BitVec.ofNat 32 hi) else F32.le x (BitVec.ofNat 32 hi))
  | .pos3 limit =>
    match limit with
    | none => true
    | some h =>
      let p := posOf v
      [p.1, p.2.1, p.2.2].all fun c => F32.le (F32.abs c) (BitVec.ofNat 32 h)
  | .mult m => decide (v % m = 0)
  | .pow2 lo hi => v == 0 || (decide (lo ≤ v) && decide (v ≤ hi) && decide (2 ^ Nat.log2 v = v))
  | .mask m => decide (v &&& m = v)
  | .blob _ _ _ => true

/-- A BLOB length lies in the set of its range column (R656). -/
def lengthOk (o : Obj) (n : Nat) : Bool :=
  match o.rng with
  | .blob lo hi m => decide (lo ≤ n) && decide (n ≤ hi) && decide (n % max 1 m = 0)
  | _ => true

/-- A local input channel exists (R434). -/
def State.localChannel (s : State) (ch : Nat) : Bool :=
  (decide (ch < 0x100) && (s.get D.render_rate == 0 || decide (ch % 32 < 16))) ||
    (decide (0x100 ≤ ch) && decide (ch < 0x108)) || (decide (0x120 ≤ ch) && decide (ch < 0x140))

/-- A hist_select names a value of a hist_source (R638). -/
def State.histSelectOk (s : State) (src sel : Nat) : Bool :=
  match src with
  | 1 => decide (sel < 0x200)
  | 2 => decide (sel < 8)
  | 3 => decide (sel ≤ 1) || (decide (0x1000 ≤ sel) && decide (sel < 0x1000 + 0x1000))
  | 4 => decide (sel < 2)
  | 5 => decide (sel < 0x400)
  | 6 => s.localChannel sel
  | _ => true

/-- The period of an event pin in 2⁻¹⁶ ns; none where its mode has no period (R159). -/
def State.pinPeriod (s : State) (p : Nat) : Option Nat :=
  match s.get D.ev_mode p with
  | 2 => some (s.get D.ev_period p)
  | 3 => some (s.get D.ev_period_samples p * 1000000000 * 2 ^ 16 / s.fs)
  | _ => none

/-- The modes of an event pin: PPS_OUT (4) captures nothing, and PPS_IN (5) generates nothing (R159). -/
def pinTakes (p mode : Nat) : Bool :=
  if p = 4 then decide (mode < 4) else if p = 5 then mode == 0 || decide (4 ≤ mode) else true

/-- The exact range of a value, where it names another object or the rate, against the values
in force (R656). -/
def State.exactOk (s : State) (o : Obj) (i v : Nat) : Bool :=
  let at96 := s.get D.render_rate == 1
  if o.base = D.ev_mode.base then pinTakes i v
  else if o.base = D.ev_width.base then
    (match s.pinPeriod i with
     | some p => decide (20 ≤ v) && decide ((v + 20) * 2 ^ 16 ≤ p)
     | none => true)
  else if o.base = D.dmc_port_age_limit.base then decide (s.get D.dmc_port_target i ≤ v)
  else if o.base = D.hist_select.base then s.histSelectOk (s.get D.hist_source i) v
  else if o.base = D.ring_base.base then matrixTarget v == some 0
  else if o.base = D.dma_base.base then inUser v 1
  else if o.base = D.lst_delay_base.base || o.base = D.out_delay.base then at96 || decide (v ≤ 96000)
  else if o.base = D.etch_max_taps.base then (stageEnds at96).contains v
  else if o.base = D.sp_slots.base then
    (if s.get D.sp_format i = 2 then !at96 || decide (v ≤ 16) else v == 2)
  else if o.base = D.node_phase.base then decide (v < s.get D.node_period i)
  else if o.base = D.pf_level_min.base then
    decide (toSigned 16 v ≤ s.getI D.pf_level_max)
  else if o.base = D.pf_level_max.base then
    decide (s.getI D.pf_level_min ≤ toSigned 16 v)
  else if o.base = D.pf_lag.base then decide (v + s.irLen ≤ 16383)
  else if o.base = D.ls_i_high.base then decide (s.get D.ls_i_low i + 100 ≤ v)
  else if o.base = D.inj_ch.base then
    (match s.get D.inj_kind i with
     | 1 => s.localChannel v
     | 2 => decide (v < 256)
     | _ => true)
  else if o.base = D.amb_mic_ch.base || o.base = D.pr_ch.base || o.base = D.ls_sense_ch.base then
    s.localChannel v
  else true

/-! ### Run controls (R67, R68) -/

/-- The run control that governs an address (R67, R68, R136, R175, R222, R492, R493, R526,
R597): its object and instance. Run controls themselves have none. -/
def governor (a : Nat) : Option (Obj × Nat) :=
  let area := a / 2 ^ 24
  let index := a / 256 % 65536
  let sub := a % 256
  if index ≥ 0xFFF0 && area != 0x60 && area != 0x50 && area != 0x53 then none
  else if sub = 0xFF then none
  else if area = 0x12 then some (D.run12, 0)
  else if a = D.pres_offset.base || a = D.pres_fast_path.base then some (D.run12, 0)
  else if area = 0x20 then some (D.run20, 0)
  else if area = 0x4C then some (D.run4C, 0)
  else if 0x22 ≤ area && area ≤ 0x28 then some (D.runPort, area - 0x22)
  else if area = 0x10 && (index = 0x10 || index = 0x11) then some (D.runDom, index - 0x10)
  else if area = 0x29 && 8 ≤ index && index < 0x20 then some (D.runRingRx, index - 8)
  else if area = 0x29 && 0x28 ≤ index && index < 0x40 then some (D.runRingTx, index - 0x28)
  else if area = 0x71 && 8 ≤ index && index < 0x10 then some (D.runDma, index - 8)
  else none

/-- The run_state of a run control; an instance form has none (R68). -/
def stateOfRun (o : Obj) : Option Obj :=
  if o.base = D.run12.base then some D.runState12
  else if o.base = D.run20.base then some D.runState20
  else if o.base = D.run4C.base then some D.runState4C
  else if o.base = D.runPort.base then some D.runStatePort
  else none

/-- The block that governs an address counts as running (R67). -/
def State.blockRuns (s : State) (a : Nat) : Bool :=
  match governor a with
  | none => true
  | some (o, i) =>
    match stateOfRun o with
    | some st => s.get st i != 0
    | none => s.get o i != 0

/-! ### Mode and state -/

/-- A unit in STANDBY, RESYNC or FAILED accepts writes to these objects only (R72, R544). -/
def directWrite (a : Nat) : Bool :=
  [D.twin_enable.base, D.twin_rejoin.base, D.twin_selftest_period.base, D.lace_delay_asymmetry.base,
    D.lace_delay_asymmetry.base + 256, D.sens_module_warn.base, D.log_min_severity.base,
    D.log_window_start.base, D.log_clear.base].contains a || a / 2 ^ 24 == 0x7F

/-- The unit accepts writes, commands and transaction messages (R72). -/
def State.writable (s : State) : Bool := s.role ≤ 1

/-- The state of a slot's transaction (R217). -/
def State.txnAt (s : State) (id : Nat) : Option Txn := s.cu.slots.find? fun t => t.id == id

/-- An announcement of rung 1 or 3 is active (R618, R619). -/
def State.urgent (s : State) : Bool :=
  s.svc.active.any fun a => s.get D.obj_rung a.1 == 1 || s.get D.obj_rung a.1 == 3

/-- The checks of the rules of each chapter on a written value: a status, OK when they pass
(R95, step 6; R461, R573, R581, R607, R611 and their like). -/
def State.modeStatus (s : State) (who : Who) (o : Obj) (i v : Nat) : Nat :=
  let b := o.base
  if b = D.tb_increment.base then
    (if s.getB D.dom_servo_enable 0 || s.getB D.dom_servo_enable 1 then scNotEligible else scOk)
  else if b = D.dom_rate.base || b = D.dom_adjust.base then
    (if s.getB D.dom_servo_enable i then scNotEligible else scOk)
  else if b = D.idac_value.base then (if s.get D.idac_mode i = 1 then scNotEligible else scOk)
  else if b = D.idac_q_push.base then
    (if s.get D.idac_mode i = 0 then scNotEligible
     else if 16 ≤ s.get D.idac_q_count i &&
        !((idacOf s.io.idac i).queue.any fun e => e.1 == s.get D.idac_q_time i) then scBusy
     else scOk)
  else if b = D.dmc_retrain.base then
    (if s.get D.pw_state ≠ 1 then scNotEligible
     else if s.mem.training.isSome then scBusy else scOk)
  else if b = D.txn_resolve_commit.base || b = D.txn_resolve_abort.base then
    (if (s.txnAt v).any fun t => t.st == 7 then scOk else scNotEligible)
  else if b = D.twin_switch.base then
    (if s.role = roleActive && s.partnerRole = roleStandby then scOk else scNotEligible)
  else if b = D.twin_rejoin.base then (if s.role = roleFailed then scOk else scNotEligible)
  else if b = D.pw_request.base then
    (if v = 2 && (s.urgent || decide (1 < s.role)) then scNotEligible else scOk)
  else if b = D.fw_activate.base then
    (if s.get D.fw_slot_state v ≠ 2 || (s.role = roleActive && s.partnerRole = roleStandby) then
      scNotEligible else scOk)
  else if b = D.fw_image.base then (if s.get D.fw_running = i then scNotEligible else scOk)
  else if b = D.aod_alarm.base || b = D.aod_alarm_enable.base then
    (if i = 0 then scNotEligible else scOk)
  else if b = D.show_run.base || b = D.show_jump.base || b = D.show_set_rate.base then
    (if s.showInternal then scOk else scNotEligible)
  else if b = D.owner_cert.base then
    (if who.src = .spi || (s.get D.owner_state = 1 && who.ownerChain) then scOk else scAuth)
  else if b = D.owner_clear.base then (if who.src = .spi then scOk else scAuth)
  else scOk

/-- The range checks that the rules of each chapter add to a LIVE write (R481, R573, R597). -/
def State.liveRange (s : State) (o : Obj) (i v : Nat) : Bool :=
  if o.base = D.ring_tail.base then s.ringTailOk i v
  else if o.base = D.dma_tail.base then decide (v < s.get D.dma_size i)
  else if o.base = D.runRingRx.base then v == 0 || s.ringPlaced (i + 8)
  else if o.base = D.runRingTx.base then v == 0 || s.ringPlaced (i + 40)
  else s.exactOk o i v

/-- sp_mask takes no LIVE write on a side with ASRC (R442). -/
def State.liveMode (s : State) (o : Obj) (i : Nat) : Bool :=
  !(o.base == D.sp_mask.base && s.sideAsrc i)

/-- Every object but an RO one is open to the role that its column names, and an RO object to
readers of that role (R64). -/
def roleReads (r : Role) (o : Obj) : Bool := o.acc != .ro || decide (o.role.rank ≤ r.rank)
def roleWrites (r : Role) (o : Obj) : Bool := decide (o.role.rank ≤ r.rank)

/-- The status of an item of a READ (R93, R95). -/
def State.checkRead (s : State) (who : Who) (a : Nat) : Nat :=
  match s.object a with
  | none => scNoObject
  | some (o, _, _) =>
    if o.acc = .wo then scAccess
    else if !roleReads who.role o then scRole
    else scOk

/-- Type and range at the widest extent (R61, R656). -/
def typeRange (o : Obj) (i : Nat) (it : Item) : Nat :=
  if it.ty ≠ tyCode o.ty then scType
  else if !tyOk o.ty it.val || !rngOk o i it.val then scRange
  else scOk

/-- A BLOB item's handle: the empty value needs a range that admits it (R105). -/
def handleStatus (o : Obj) (v : Nat) : Nat :=
  if o.ty != .blob then scOk
  else if v = 0 then (if lengthOk o 0 then scOk else scRange)
  else scOk

/-- The status of an item of a WRITE (R62–R67, R95, R105); `alone` says that it is the only
item. -/
def State.checkWrite (s : State) (who : Who) (alone : Bool) (it : Item) : Nat :=
  match s.object it.addr with
  | none => scNoObject
  | some (o, i, _) =>
    if o.acc = .ro || o.acc = .rs || (o.acc = .wo && o.effect = .staged && !alone) then scAccess
    else if !roleWrites who.role o then scRole
    else if typeRange o i it ≠ scOk then typeRange o i it
    else if handleStatus o it.val ≠ scOk then handleStatus o it.val
    else if o.acc = .rw && o.ty != .blob && !s.liveRange o i it.val then scRange
    else if o.effect = .stopped && s.blockRuns it.addr then scRunning
    else if !s.writable && !directWrite it.addr then scNotEligible
    else if s.unusable it.addr || !s.liveMode o i then scNotEligible
    else if o.ty = .blob && o.acc = .rw && it.val ≠ 0 then scIntegrity
    else s.modeStatus who o i it.val

/-- The status of an item of a transaction under R61–R64 (R201). -/
def State.checkStaged (s : State) (who : Who) (fabric : Bool) (it : Item) : Nat :=
  match s.object it.addr with
  | none => scNoObject
  | some (o, i, _) =>
    if o.acc = .ro || o.effect = .stopped || o.effect = .reset || (o.acc = .wo && o.effect != .staged) ||
        (fabric && o.ty = .blob) then scAccess
    else if !roleWrites who.role o then scRole
    else if typeRange o i it ≠ scOk then typeRange o i it
    else handleStatus o it.val

/-- The checks of mode and state on an item of a transaction (R59, R127, R136, R183, R658). -/
def State.stagedMode (s : State) (who : Who) (it : Item) : Nat :=
  match s.object it.addr with
  | none => scOk
  | some (o, i, _) => if s.unusable it.addr then scNotEligible else s.modeStatus who o i it.val

/-- Transport commands are refused at TXN_ADD already (R183). -/
def State.transportStatus (s : State) (it : Item) : Nat :=
  if (it.addr == D.show_run.base || it.addr == D.show_jump.base || it.addr == D.show_set_rate.base) &&
      !s.showInternal then scNotEligible else scOk

/-- The first item that fails, with its status and position (R95). -/
def firstFailure (check : Item → Nat) : List Item → Nat → Option (Nat × Nat)
  | [], _ => none
  | it :: l, n => if check it = scOk then firstFailure check l (n + 1) else some (check it, n)

end Sys2Proof.Machine
end

