-- ==== Sys2Proof/Machine/Slots.lean ====
section
/-! DEFINITION. The slots of the Commit Unit: taking and releasing one, settling a transaction,
and the messages that carry it (R199–R202, R213–R218). -/

namespace Sys2Proof.Machine

open Sys2Proof

/-- The states of a transaction (R221). -/
def tsOpen : Nat := 1
def tsPreparing : Nat := 2
def tsPrepared : Nat := 3
def tsCommitted : Nat := 4
def tsApplied : Nat := 5
def tsAborted : Nat := 6
def tsInDoubt : Nat := 7
def tsAppliedLate : Nat := 8

/-- The refusal reasons (R220). -/
def rsNone : Nat := 0x00
def rsBudget : Nat := 0x01
def rsValidation : Nat := 0x02
def rsIncomplete : Nat := 0x03
def rsConflict : Nat := 0x04
def rsLate : Nat := 0x05
def rsNotEligible : Nat := 0x06
def rsTxnFull : Nat := 0x07
def rsMissing : Nat := 0x08
def rsUserAbort : Nat := 0x09
def rsNoCommit : Nat := 0x0A
def rsResolved : Nat := 0x0B
def rsIntegrity : Nat := 0x0C

/-! ### Slots (R199, R200) -/

/-- The lowest free slot of the 16. -/
def State.freeSlot (s : State) : Option Nat :=
  (List.range 16).find? fun n => !(s.cu.slots.any fun t => t.slot == n)

/-- Put a transaction in the slot it holds. -/
def State.putTxn (s : State) (t : Txn) : State :=
  let l := s.cu.slots.map fun x => if x.id = t.id then { t with slot := x.slot } else x
  { s with cu := { s.cu with slots := l } }

/-- Take a slot for a new transaction; none when every slot is taken. -/
def State.takeSlot (s : State) (t : Txn) : Option State :=
  s.freeSlot.map fun n => { s with cu := { s.cu with slots := s.cu.slots ++ [{ t with slot := n }] } }

/-- The next transaction sequence: it wraps and skips 0 (R200). -/
def nextTxnSeq (n : Nat) : Nat := if (n + 1) % 2 ^ 20 = 0 then 1 else (n + 1) % 2 ^ 20

/-- A new transaction ID, and the state that has used it (R200). -/
def State.newTxnId (s : State) : State × Nat :=
  let n := nextTxnSeq s.cu.seq
  ({ s with cu := { s.cu with seq := n } }, s.fabNode % 4096 * 2 ^ 20 + n)

/-- A transaction this module holds, or held and can still be asked about (R221). -/
def State.txnKnown (s : State) (id : Nat) : Option Txn :=
  match s.txnAt id with
  | some t => some t
  | none => s.cu.finished.find? fun t => t.id == id

/-! ### Messages (R218, R219) -/

/-- The message codes of R218. -/
def txData : Nat := 0x01
def txPrepare : Nat := 0x02
def txVote : Nat := 0x03
def txNack : Nat := 0x04
def txDecision : Nat := 0x05
def txQuery : Nat := 0x06
def txOutcome : Nat := 0x07
def txAck : Nat := 0x08

/-- A message: its code, version, transaction and sender node, then its fields (R218). -/
def txnMessage (code version id node : Nat) (fields : List Byte) : List Byte :=
  beBytes 1 code ++ beBytes 1 version ++ beBytes 4 id ++ beBytes 2 node ++ fields

/-- The fields of the messages (R219). -/
def dataFields (index count : Nat) (data : List Byte) : List Byte :=
  beBytes 2 index ++ beBytes 2 count ++ beBytes 2 data.length ++ data
def voteFields (yes : Bool) (reason : Nat) : List Byte := beBytes 1 yes.toNat ++ beBytes 1 reason
def nackFields (first count : Nat) : List Byte := beBytes 2 first ++ beBytes 2 count
def decisionFields (commit : Bool) (block : Nat) : List Byte := beBytes 1 commit.toNat ++ beBytes 8 block
def outcomeFields (outcome block : Nat) : List Byte := beBytes 1 outcome ++ beBytes 8 block
def TxnAck.fields (a : TxnAck) : List Byte := beBytes 8 a.applied ++ beBytes 1 a.late.toNat

/-- A bitmap of 4096 nodes, bit n for node n (R219, R221). -/
def nodeBitmap (l : List Nat) : List Byte := beBytes 512 (l.foldl (fun a n => a ||| 2 ^ n) 0)

/-- The fields of PREPARE (R219). -/
def FabPrepare.fields (p : FabPrepare) : List Byte :=
  beBytes 8 p.orderTime ++ beBytes 1 p.kind ++ beBytes 8 p.applyBlock ++ beBytes 8 p.show_ ++ beBytes 2 p.entry ++
    beBytes 1 p.rung ++ beBytes 1 (p.autoCommit.toNat + 2 * p.allowShed.toNat) ++ beBytes 1 p.late ++ [0#8] ++
    beBytes 2 p.chunks ++ beBytes 4 p.length ++ beBytes 32 p.digest ++ nodeBitmap p.nodes

/-- Send a message on a transaction to a node; a node of 0 stands for the participants (R218). -/
def State.sendTxn (s : State) (code : Nat) (t : Txn) (node : Nat) (fields : List Byte) : State :=
  s.sendTxnFrame node (txnMessage code 1 t.id s.fabNode fields)

/-- DECISION to every participant (R212, R219). -/
def State.sendDecision (s : State) (t : Txn) (commit : Bool) : State :=
  s.sendTxn txDecision t 0 (decisionFields commit t.applyBlock)

/-! ### Settling (R202, R208, R213) -/

/-- A transaction leaves its slot: its reservation ends, and its outcome is kept (R213). -/
def State.finish (s : State) (t : Txn) (st reason : Nat) : State :=
  let done : Txn := { t with st := st, reason := reason }
  let l := s.cu.slots.filter fun x => x.id != t.id
  let u : State := { s with cu := { s.cu with
    slots := l, finished := done :: s.cu.finished.filter fun x => x.id != t.id } }
  if st = tsAborted then u.count D.txn_aborted
  else if st = tsAppliedLate then (u.count D.txn_applied).count D.txn_late
  else u.count D.txn_applied

/-- Abort a transaction; the originator of a FABRIC one tells every participant (R202). -/
def State.abortTxn (s : State) (t : Txn) (reason : Nat) : State :=
  let u := if t.scope = 1 && t.originator then s.sendDecision t false else s
  u.finish t tsAborted reason

/-- Abort a transaction for the module's own cause: the originator of a FABRIC one with a partner tells the participants
once the partner has confirmed the decision (R213). -/
def State.abortTold (s : State) (t : Txn) (reason : Nat) : State :=
  if t.scope = 1 && t.originator && s.mirrored then s.hold t.applyBlock (.values []) (.decision t.id false reason)
  else s.abortTxn t reason

/-- The first boundary whose seal follows the present instant (R203). -/
def State.nextBlock (s : State) : Nat :=
  match s.cu.lastSeal with
  | some b => max (s.blockNow + 1) (b + 1)
  | none => s.blockNow + 1

/-- An IN_DOUBT transaction learns its outcome (R202, R214). -/
def State.learn (s : State) (t : Txn) (commit : Bool) (block reason : Nat) : State :=
  if commit then
    (let late := decide (block < s.nextBlock)
     s.putTxn { t with
       st := tsCommitted, sealed_ := false, isLate := t.isLate || late, reason := reason
       applyBlock := if late then s.nextBlock else block })
  else s.finish t tsAborted reason

/-- txn_resolve_commit or txn_resolve_abort of an IN_DOUBT transaction (R217). -/
def State.txnResolve (s : State) (id : Nat) (commit : Bool) : State :=
  match s.txnAt id with
  | none => s
  | some t =>
    if t.st ≠ tsInDoubt then s
    else ((s.learn t commit t.applyBlock rsResolved).count D.txn_resolved).error 0x19 0 0x0403 .warn

/-- A transaction holds the values it writes and its reservation: it is PREPARED, COMMITTED or IN_DOUBT, or its
originator has admitted it and awaits the votes (R106, R202, R206, R208). -/
def Txn.holds (t : Txn) : Bool :=
  t.st == tsPrepared || t.st == tsCommitted || t.st == tsInDoubt || (t.originator && t.st == tsPreparing)

/-- Order keys, field by field (R205). -/
def Txn.before (a b : Txn) : Bool :=
  decide (a.orderTime < b.orderTime) || (a.orderTime == b.orderTime &&
    (decide (a.orderNode < b.orderNode) || (a.orderNode == b.orderNode && decide (a.orderSeq < b.orderSeq))))

def insertTxn (t : Txn) : List Txn → List Txn
  | [] => [t]
  | u :: l => if t.before u then t :: u :: l else u :: insertTxn t l

/-- Transactions in ascending order key. -/
def sortTxns (l : List Txn) : List Txn := l.foldl (fun a t => insertTxn t a) []

/-- This member takes part in a transaction (R210). -/
def State.takesPart (s : State) (t : Txn) : Bool := t.scope == 0 || t.participants.contains s.fabNode

/-- The items of a transaction that are for this member (R201). -/
def State.itemsHere (s : State) (t : Txn) : List Item :=
  if t.scope = 0 then t.items
  else if s.takesPart t then t.items.filter fun it => it.node == 0 || it.node == s.fabNode
  else []

/-- The completed shadow of an object. -/
def State.shadowDone (s : State) (a : Nat) : Option Shadow :=
  s.mdap.shadows.find? fun x => x.addr == a && x.complete

/-- A transaction holds the completed shadow of an object (R106, R310). -/
def State.shadowHeld (s : State) (a : Nat) : Bool :=
  match s.shadowDone a with
  | none => false
  | some x =>
    s.cu.slots.any fun t => t.holds && (s.itemsHere t).any fun it => it.addr == a && it.val == handleOf x.total x.gen

end Sys2Proof.Machine
end

