-- ==== Sys2Proof/Machine/Frame.lean ====
section
/-! DEFINITION. The frames of MDAP: message types, the bodies of requests and replies as bytes, the header, the
protection of a session's frames, and the queues of the host SPI port (R80–R84, R87, R88, R93–R110, R116, R221). -/

namespace Sys2Proof.Machine

open Sys2Proof

/-! ### Message types (R83) -/

def mtRead : Nat := 0x01
def mtWrite : Nat := 0x02
def mtWriteStaged : Nat := 0x03
def mtDescribe : Nat := 0x04
def mtSubscribe : Nat := 0x05
def mtNotify : Nat := 0x07
def mtBlobRead : Nat := 0x08
def mtBlobWrite : Nat := 0x09
def mtTxnOpen : Nat := 0x10
def mtTxnAdd : Nat := 0x11
def mtTxnPrepare : Nat := 0x12
def mtTxnCommit : Nat := 0x13
def mtTxnAbort : Nat := 0x14
def mtTxnStatus : Nat := 0x15
def mtSesPing : Nat := 0x24
def mtSesClose : Nat := 0x25

/-- The types that requests carry. -/
def requestTypes : List Nat :=
  [mtRead, mtWrite, mtWriteStaged, mtDescribe, mtSubscribe, mtBlobRead, mtBlobWrite, mtTxnOpen, mtTxnAdd, mtTxnPrepare,
    mtTxnCommit, mtTxnAbort, mtTxnStatus, mtSesInit, mtSesCert, mtSesFinish, mtSesPing, mtSesClose]

/-- The type of a request's reply: bit 7 set; SES_REPLY for SES_INIT, and 0xFF for a type of no message (R82, R83,
R110; log entry 99). -/
def replyType (kind : Nat) : Nat :=
  if kind = mtSesInit then mtSesReply else if requestTypes.contains kind then kind + 128 else 0xFF

/-- The type of a request. -/
def kindOf : Msg → Nat
  | .read _ => mtRead
  | .write _ _ => mtWrite
  | .writeStaged _ => mtWriteStaged
  | .describe _ _ _ => mtDescribe
  | .subscribe _ _ _ _ => mtSubscribe
  | .blobWrite _ _ _ _ _ _ _ => mtBlobWrite
  | .blobRead _ _ _ => mtBlobRead
  | .txnOpen _ _ => mtTxnOpen
  | .txnAdd _ _ => mtTxnAdd
  | .txnPrepare _ => mtTxnPrepare
  | .txnCommit _ => mtTxnCommit
  | .txnAbort _ => mtTxnAbort
  | .txnStatus _ => mtTxnStatus
  | .ping => mtSesPing
  | .close _ => mtSesClose
  | .sesInit _ _ => mtSesInit
  | .sesCertRead _ _ _ => mtSesCert
  | .sesCertSend _ _ _ _ => mtSesCert
  | .sesFinish _ _ => mtSesFinish
  | .unknown t => t

/-! ### The bodies of requests -/

/-- An item: address, type code and value (R95, R221). -/
def itemBytes (it : Item) : List Byte := beBytes 4 it.addr ++ beBytes 1 it.ty ++ codedValue it.ty it.val

/-- A count and the items it counts; each names its node where `nodes` says so (R95, R221). -/
def itemsBytes (nodes : Bool) (l : List Item) : List Byte :=
  beBytes 1 l.length ++ l.flatMap fun it => (if nodes then beBytes 2 it.node else []) ++ itemBytes it

/-- The flags of a request (R97, R103, R110, R544). -/
def Msg.flags : Msg → Nat
  | .write _ target => 2 * target
  | .describe _ _ next => next.toNat
  | .blobWrite _ first last other _ _ _ => first.toNat + 2 * last.toNat + 4 * other.val
  | .sesCertSend _ _ _ _ => 1
  | _ => 0

/-- The flags of a request that a message names. -/
def Msg.flagMask : Msg → Nat
  | .write _ _ => 6
  | .describe _ _ _ => 1
  | .blobWrite _ _ _ _ _ _ _ => 255
  | .sesCertRead _ _ _ => 1
  | .sesCertSend _ _ _ _ => 1
  | _ => 0

/-- What follows the common bytes of a request (R93–R107, R110, R118, R221; log entry 99); `fabric` is the scope of
the transaction that a TXN_ADD names. -/
def Msg.payload (fabric : Bool) : Msg → List Byte
  | .read l => beBytes 1 l.length ++ l.flatMap fun a => beBytes 4 a
  | .write l _ => itemsBytes false l
  | .writeStaged l => itemsBytes false l
  | .describe a start _ => beBytes 4 a ++ beBytes 1 start
  | .subscribe sub a mode interval => beBytes 2 sub ++ beBytes 4 a ++ beBytes 1 mode ++ beBytes 2 interval
  | .blobWrite a _ _ _ offset total data => beBytes 4 a ++ beBytes 4 offset ++ beBytes 4 total ++ data
  | .blobRead a offset most => beBytes 4 a ++ beBytes 4 offset ++ beBytes 2 most
  | .txnOpen scope rung => beBytes 1 scope ++ beBytes 1 rung
  | .txnAdd id l => beBytes 4 id ++ itemsBytes fabric l
  | .txnPrepare p =>
    beBytes 4 p.id ++ beBytes 1 p.kind ++ beBytes 8 p.time ++ beBytes 2 p.entry ++ beBytes 1 p.late ++
      beBytes 1 (p.autoCommit.toNat + 2 * p.allowShed.toNat) ++
      (match p.nodes with
       | none => [0#8]
       | some l => 1#8 :: nodeBitmap l)
  | .txnCommit id => beBytes 4 id
  | .txnAbort id => beBytes 4 id
  | .txnStatus id => beBytes 4 id
  | .ping => []
  | .close reason => beBytes 1 reason
  | .sesInit nonce key => nonce ++ key
  | .sesCertRead id offset len => beBytes 4 id ++ beBytes 2 offset ++ beBytes 2 len
  | .sesCertSend id offset total data => beBytes 4 id ++ beBytes 2 offset ++ beBytes 2 total ++ data
  | .sesFinish id sig => beBytes 4 id ++ sig
  | .unknown _ => []

/-- A body: type, flags and request ID before what follows them (R82). -/
def messageBody (type flags id : Nat) (rest : List Byte) : List Byte :=
  beBytes 1 type ++ beBytes 1 flags ++ beBytes 2 id ++ rest

/-- A TXN_ADD names a FABRIC transaction, whose items name their nodes. -/
def State.addsFabric (s : State) : Msg → Bool
  | .txnAdd id _ => (s.txnKnown id).any fun t => t.scope == 1
  | _ => false

/-- The body of a request. -/
def State.requestBody (s : State) (r : Req) (m : Msg) : List Byte :=
  messageBody (kindOf m) m.flags r.id (m.payload (s.addsFabric m))

/-! ### The bodies of replies -/

/-- Fields in so many bytes each; those beyond the widths take a byte each. -/
def packed : List Nat → List Nat → List Byte
  | w :: ws, f :: l => beBytes w f ++ packed ws l
  | [], f :: l => beBytes 1 f ++ packed [] l
  | _, [] => []

/-- The items of a READ reply (R93). -/
def readBytes : List Nat → List Byte
  | a :: 0 :: ty :: v :: l => beBytes 4 a ++ [0#8] ++ beBytes 1 ty ++ codedValue ty v ++ readBytes l
  | a :: c :: l => beBytes 4 a ++ beBytes 1 c ++ readBytes l
  | _ => []

/-- The widths of the fields of a reply from its status on (R96, R99, R103, R107, R110, R221). -/
def replyWidths (kind n : Nat) : List Nat :=
  if kind = mtWrite || kind = mtWriteStaged then (if n = 3 then [1, 8, 1] else [1, 1])
  else if kind = mtSubscribe then [1, 2]
  else if kind = mtBlobWrite then [1, 4]
  else if kind = mtBlobRead then [1, 8]
  else if kind = mtTxnOpen || kind = mtSesInit then [1, 4]
  else if kind = mtTxnAdd then [1, 2, 4, 1]
  else if kind = mtTxnPrepare then [1, 1, 8, 1, 2]
  else if kind = mtTxnCommit then [1, 8]
  else if kind = mtTxnStatus then [1, 1, 1, 8, 2, 4, 2, 2, 2, 2, 1, 2]
  else []

/-- The body of a reply to a request of a type: its fields from the status on. Those of READ and DESCRIBE hold
PARTIAL, which is flag bit 0, after their status (R94, R98). -/
def replyBody (kind id : Nat) : List Nat → List Byte
  | status :: flag :: fields =>
    if kind = mtRead then
      messageBody (replyType kind) flag id (beBytes 1 status ++ beBytes 1 (fields.headD 0) ++ readBytes fields.tail)
    else if kind = mtDescribe then messageBody (replyType kind) flag id (beBytes 1 status ++ packed [] fields)
    else
      messageBody (replyType kind) 0 id (packed (replyWidths kind (fields.length + 2)) (status :: flag :: fields))
  | l => messageBody (replyType kind) 0 id (packed [1] l)

/-- The body of a NOTIFY: sub_id, change_count, block, address, type code and value (R101). -/
def notifyBody (sub changes block addr ty v : Nat) : List Byte :=
  messageBody mtNotify 0 0 (beBytes 2 sub ++ beBytes 2 changes ++ beBytes 8 block ++ beBytes 4 addr ++ beBytes 1 ty ++
    codedValue ty v)

/-! ### Headers and protection (R80, R81, R116) -/

/-- The header of a frame: version, PROTECTED, session, sequence and body length. -/
def headerBytes (version : Nat) (isProtected : Bool) (session seq len : Nat) : List Byte :=
  beBytes 1 version ++ [if isProtected then 0x80#8 else 0#8] ++ beBytes 4 session ++ beBytes 8 seq ++ beBytes 2 len

/-- The header of a request's frame. -/
def Req.header (r : Req) (len : Nat) : List Byte := headerBytes r.version r.isProtected r.session r.seq len

/-- A protected body and its tag under a key, the salt of its direction and its sequence. -/
def sealBody (key salt : List Byte) (seq : Nat) (header body : List Byte) : List Byte × List Byte :=
  let nonce := salt ++ beBytes 8 seq
  let c := gcmCrypt key nonce body
  (c, gcmTag key nonce header c)

/-- The tag of a request's frame is the one that its session's key gives (R116). -/
def Session.tagHolds (x : Session) (r : Req) (body : List Byte) : Bool :=
  r.tag == (sealBody x.keyPm x.ivPm r.seq (r.header body.length) body).2

/-- The bytes of a request's frame: its header, its body, and a tag when it is protected. -/
def Req.frameLength (r : Req) (body : List Byte) : Nat := 16 + body.length + if r.isProtected then 16 else 0

def State.session (s : State) (id : Nat) : Option Session :=
  s.mdap.sessions.find? fun x => x.id == id

def State.putSession (s : State) (x : Session) : State :=
  let l := s.mdap.sessions.map fun y => if y.id = x.id then x else y
  { s with mdap := { s.mdap with sessions := l } }

/-- The frame of a body that the module sends: in a session protected, with the next sequence of its direction
(R81, R116, R118). -/
def State.frameFor (s : State) (session : Nat) (body : List Byte) : State × List Byte :=
  match if session = 0 then none else s.session session with
  | some x =>
    let n := x.sent + 1
    let h := headerBytes 1 true x.id n body.length
    let c := sealBody x.keyMp x.ivMp n h body
    (s.putSession { x with sent := n }, h ++ c.1 ++ c.2)
  | none =>
    let n := s.mdap.sentSeq + 1
    ({ s with mdap := { s.mdap with sentSeq := n } }, headerBytes 1 false 0 n body.length ++ body)

/-! ### The host SPI port's queues (R87, R88) -/

/-- The first entry of a list that passes a test is taken out. -/
def dropFirst {α : Type} (p : α → Bool) : List α → List α
  | [] => []
  | x :: l => if p x then l else x :: dropFirst p l

/-- The output queue is full and holds only replies. -/
def State.spiOutStuck (s : State) : Bool :=
  decide (32 ≤ s.mdap.spiOut.length) && s.mdap.spiOut.all fun f => !f.notify

/-- A frame for the output queue, which holds 32. When it is full the oldest NOTIFY makes room. DESIGN CHOICE (log
entry 100): a NOTIFY makes room so too, and one that finds only replies is itself discarded; a reply that finds only
replies waits for a place. -/
def State.spiEmit (s : State) (f : SpiFrame) : State :=
  let q := s.mdap.spiOut
  if q.length < 32 then { s with mdap := { s.mdap with spiOut := q ++ [f] } }
  else if q.any fun e => e.notify then
    (let l := dropFirst (fun e => e.notify) q ++ [f]
     ({ s with mdap := { s.mdap with spiOut := l } } : State).count D.hspi_notify_drops)
  else if f.notify then s.count D.hspi_notify_drops
  else { s with mdap := { s.mdap with spiLate := s.mdap.spiLate ++ [f] } }

/-- The input queue takes no frame: it holds 8, or the output queue is stuck. -/
def State.spiInFull (s : State) : Bool := decide (8 ≤ s.mdap.spiIn.length) || s.spiOutStuck

/-- The status byte of the host SPI port: RX_READY and IN_FULL (R87). -/
def State.spiStatus (s : State) : Nat :=
  (if s.mdap.spiOut.isEmpty then 0 else 1) + if s.spiInFull then 2 else 0

/-- nHIRQ is held low (R88). -/
def State.hirqLow (s : State) : Bool := !s.mdap.spiOut.isEmpty

/-- The command bytes of the port (R87). -/
def spiPutByte : Nat := 0x01
def spiGetByte : Nat := 0x02
def spiStatusByte : Nat := 0x03

/-! ### Sending -/

/-- What carries a frame to a source; UDP leaves from mdap_udp_port (R84, R85). -/
def State.viaOf (s : State) : Source → Via
  | .spi => .miso
  | .udp addr port => .udp addr port (s.get D.mdap_udp_port)
  | .l2 mac => .l2 mac

/-- A body goes out to a source in a frame; on the host SPI port it waits for a GET. -/
def State.emit (s : State) (src : Source) (session : Nat) (body : List Byte) (notify : Bool := false) : State :=
  let p := s.frameFor session body
  match src with
  | .spi => p.1.spiEmit ⟨notify, p.2⟩
  | _ => p.1.send ⟨s.viaOf src, "MDAP", p.2.map fun b => b.toNat⟩

end Sys2Proof.Machine
end

