-- ==== Sys2Proof/Machine/Sessions.lean ====
section
/-! DEFINITION. MDAP sessions: how they are looked up, how their role follows the role table, and
what closing one ends (R109–R121). -/

namespace Sys2Proof.Machine

open Sys2Proof Host

/-- The reasons of SES_CLOSE (R118). -/
def crNormal : Nat := 0
def crIdle : Nat := 1
def crRekey : Nat := 2
def crRoleChanged : Nat := 3
def crIntegrity : Nat := 4
def crAdmin : Nat := 5

/-- The role that a leaf certificate's fingerprint gets: that of the entry it matches, NONE included, or default_role
(R115). -/
def State.roleOf (s : State) (fp : Nat) : Role :=
  let hit := (List.range 64).find? fun n =>
    s.get D.role_fp_hi n * 2 ^ 64 + s.get D.role_fp_lo n == fp
  match hit with
  | some n => roleOfNat (s.get D.role_role n)
  | none => roleOfNat (s.get D.default_role)

/-- A shadow is discarded; the pending Etcher set goes with it (R103, R310). -/
def State.dropShadow (s : State) (x : Shadow) : State :=
  let l := s.mdap.shadows.filter fun y => !(y.addr == x.addr && y.complete == x.complete)
  let t : State := { s with mdap := { s.mdap with shadows := l } }
  match D.etch_taps.locate x.addr with
  | some (j, _) =>
    if t.get D.etch_pending_state j = 1 && !x.complete then
      (t.set D.etch_pending_state 0 j).set D.etch_pending_taps 0 j
    else t
  | none => t

/-- What the end of a session ends with it (R120). -/
def State.endSession (s : State) (id : Nat) (src : Source) : State :=
  let mine := s.mdap.shadows.filter fun x => x.session == id && x.src == src && !x.complete
  let t := mine.foldl (fun t x => t.dropShadow x) s
  let own := t.cu.slots.filter fun x => x.owner == some (src, id) && decide (x.st ≤ tsPreparing)
  let t := own.foldl (fun t x => t.abortTold x rsUserAbort) t
  { t with mdap := { t.mdap with
    sessions := t.mdap.sessions.filter fun x => x.id != id
    caches := t.mdap.caches.filter fun x => x.session != id
    subs := t.mdap.subs.filter fun x => !(x.session == id && x.src == src) } }

/-- The SES_CLOSE that the module sends in a session: request ID 0, and its reason (R118; log entry 99). -/
def State.sendClose (s : State) (x : Session) (reason : Nat) : State :=
  s.emit x.src x.id (messageBody mtSesClose 0 0 (beBytes 1 reason))

/-- The module closes a session and says why (R118). -/
def State.closeSession (s : State) (id reason : Nat) : State :=
  match s.session id with
  | none => s
  | some x => (s.sendClose x reason).endSession id x.src

/-- Every session closes (R620). -/
def State.closeSessions (s : State) (reason : Nat) : State :=
  s.mdap.sessions.foldl (fun t x => t.closeSession x.id reason) s

/-- A session on UDP. -/
def Session.onUdp (x : Session) : Bool := match x.src with
  | .udp _ _ => true
  | _ => false

/-- Every session on UDP closes: mdap_udp_port has a new value (R123). -/
def State.closeUdp (s : State) : State :=
  (s.mdap.sessions.filter Session.onUdp).foldl (fun t x => t.closeSession x.id crAdmin) s

/-- mdap_udp_port may have changed since a state before; the sessions on UDP then close (R123). -/
def State.portMoved (before s : State) : State :=
  if s.get D.mdap_udp_port = before.get D.mdap_udp_port then s else s.closeUdp

/-- The sessions whose role the table would now change (R119). -/
def State.changedRoles (s : State) : List Session :=
  s.mdap.sessions.filter fun x => s.roleOf x.fp != x.role

/-- HANDSHAKE_TIMEOUT: 5 s after its SES_INIT a handshake is not finished (R121). -/
def execHandshakeTimeout (id : Nat) (s : State) : Outcome State Fault Refusal :=
  .next { s with mdap := { s.mdap with handshakes := s.mdap.handshakes.filter fun h => h.id != id } }

/-- SESSION_IDLE_TIMEOUT: no frame of a session for session_idle_timeout (R118). -/
def execSessionIdleTimeout (id : Nat) (s : State) : Outcome State Fault Refusal :=
  .next (s.closeSession id crIdle)

/-- SESSION_REKEY: a session has carried 2³¹ frames in a direction, or is 24 h old (R118). -/
def execSessionRekey (id : Nat) (s : State) : Outcome State Fault Refusal :=
  .next (s.closeSession id crRekey)

/-- ROLE_CHANGE_CLOSE: sessions whose role a change of the role table alters close (R119). -/
def execRoleChangeClose (s : State) : Outcome State Fault Refusal :=
  .next (s.changedRoles.foldl (fun t x => t.closeSession x.id crRoleChanged) s)

/-- BLOB_SHADOW_EXPIRE: 60 s after its last chunk an incomplete shadow is discarded (R103). -/
def execBlobShadowExpire (addr : Nat) (s : State) : Outcome State Fault Refusal :=
  match s.mdap.shadows.find? fun x => x.addr == addr && !x.complete with
  | none => .next s
  | some x => .next (s.dropShadow x)

end Sys2Proof.Machine
end

