-- ==== Sys2Proof/Machine/Power.lean ====
section
/-! DEFINITION. Shank (chapter 16): sensors and service life, the owner certificate, firmware
images, the persistent image, and the power states with their transitions. -/

namespace Sys2Proof.Machine

open Sys2Proof Host

/-! ### The persistent image (R73–R79) -/

/-- Every change noted so far is in NAND (R75, R77). -/
def State.persistAll (s : State) : State :=
  let n := s.nand
  { s with nand := { n with
    image := n.journal.foldl (fun m e => put m e.addr e.val) n.image
    imageBlobs := n.journal.foldl Change.into n.imageBlobs
    journal := [], fault := false } }

/-- Local time of 24 h, in 2⁻³² ns. -/
def day24 : Int := 86400 * 1000000000 * ns32

/-- The journal bytes of the last 24 h (R76). -/
def State.persistBytes (s : State) : Nat :=
  s.nand.appends.foldl (fun a e => if s.time.local_ - e.1 ≤ day24 then a + e.2 else a) 0

/-- Account for the journal bytes of an append, and report an excess once while it lasts (R76). -/
def State.noteAppend (s : State) (bytes : Nat) : State :=
  let kept := s.nand.appends.filter fun e => decide (s.time.local_ - e.1 ≤ day24)
  let t : State := { s with nand := { s.nand with appends := (s.time.local_, bytes) :: kept } }
  let overr := decide (24 * 1048576 < t.persistBytes)
  let u := if overr && !t.nand.warned then t.error 0x01 0 0x0404 .warn else t
  { u with nand := { u.nand with warned := overr } }

/-- The journal bytes of a value: its address and type code, its encoding, and the contents that a handle names (log
entry 112). -/
def entryBytes (a v len : Nat) : Nat :=
  match objAt a with
  | some (o, _, _) => 5 + (tyEncode o.ty v).length + len
  | none => 0

/-- The journal bytes of the changes that wait. -/
def NandState.waitingBytes (n : NandState) : Nat :=
  n.journal.foldl (fun k e => k + entryBytes e.addr e.val ((e.blob.map fun b => b.data.length).getD 0)) 0

/-- The journal bytes of the whole image, which a compaction writes. -/
def NandState.wholeBytes (n : NandState) : Nat :=
  n.image.foldl (fun k e => k + entryBytes e.1 e.2 (blobAt n.imageBlobs e.1).data.length) 0

/-- A half of the region, in bytes (R75). -/
def halfBytes : Nat := 8388608

/-- So many journal bytes go into the half that the journal fills; where they do not fit, the image is compacted into
the other half (R75). -/
def NandState.fill (n : NandState) (bytes : Nat) : NandState :=
  if n.filled + bytes ≤ halfBytes then { n with filled := n.filled + bytes }
  else { n with half := n.half + 1, filled := n.wholeBytes }

/-- The changes that wait are appended with so many journal bytes (R75, R76). -/
def State.appendBytes (s : State) (bytes : Nat) : State :=
  let t := s.persistAll
  ({ t with nand := t.nand.fill bytes } : State).noteAppend bytes

/-- The changes that wait are appended. -/
def State.appendAll (s : State) : State := s.appendBytes s.nand.waitingBytes

/-- A NAND write of the image fails (R78). -/
def State.persistFails (s : State) : State :=
  ({ s with nand := { s.nand with fault := true } } : State).error 0x01 0 0x0405 .degraded

/-- PERSIST_APPEND: the changes that took effect are appended, with so many journal bytes (R75, R76,
R78). -/
def execPersistAppend (ok : Bool) (bytes : Nat) (s : State) : Outcome State Fault Refusal :=
  if ok then .next (s.appendBytes bytes) else .next s.persistFails

/-! ### Sensors (R52, R601) -/

/-- A record when its condition starts, and none while it lasts (R601). -/
def State.condition (s : State) (index code : Nat) (sev : Severity) (on : Bool) : State :=
  let key := index * 2 ^ 16 + code
  let was := s.power.warned.contains key
  if on && !was then
    (({ s with power := { s.power with warned := key :: s.power.warned } } : State).error 0x7E index code sev)
  else if !on && was then { s with power := { s.power with warned := s.power.warned.filter (· != key) } }
  else s

/-- 115.0, 85.0 and 20.0 as F32. -/
def f115 : F32 := 0x42E60000#32
def f85 : F32 := 0x42AA0000#32
def f20 : F32 := 0x41A00000#32

/-- A lane is UP: FAB0–FAB5, MGT, LACE0, LACE1. -/
def State.laneIsUp (s : State) (k : Nat) : Bool :=
  if k < 7 then s.get D.port_link k == 1 else s.laneUp (k - 7)

/-- SENSOR_SAMPLE: every 100 ms (R52, R601). PGOOD is low while an internal rail is out of regulation (R34). -/
def execSensorSample (x : Sensors) (s : State) : Outcome State Fault Refusal :=
  let t := (List.range 8).foldl (fun u n =>
    (u.setF D.sens_die_temp (x.die.getD n F32.zero) n).setF D.rail_v (x.rails.getD n F32.zero) n) s
  let t := (List.range 9).foldl (fun u n => u.setF D.eye_margin (x.eyes.getD n F32.zero) n) t
  let t := ((((((t.setF D.sens_module_temp x.module).setF D.sens_dram_temp x.dram).setF D.sens_vin x.vin).setF
    D.sens_iin x.iin).setF D.sens_vio x.vio).setF D.sens_vao x.vao).setF D.sens_vdac x.vdac
  let t := (List.range 8).foldl (fun u n =>
    u.condition n 0x0103 .warn (F32.le f115 (u.getF D.sens_die_temp n))) t
  let up := x.out.isEmpty
  let t : State := if t.railsRun then { t with power := { t.power with
      rails := up, pgood := up && t.power.vin && t.power.vio } } else t
  let t := t.condition 0x10 0x0106 .warn (F32.lt (t.getF D.sens_module_warn) x.module)
  let t := (List.range 8).foldl (fun u n => u.condition (0x20 + n) 0x0105 .degraded (x.out.contains n)) t
  let t := (t.condition 0x10 0x0107 .info (F32.lt f85 x.dram)).set D.dmc_refresh_rate (if F32.lt f85 x.dram then 1 else 0)
  .next ((List.range 9).foldl (fun u k =>
    u.condition (0x30 + k) 0x0108 .warn (u.laneIsUp k && F32.lt (u.getF D.eye_margin k) f20)) t)

/-! ### Service life (R54, R602) -/

/-- LIFE_UPDATE: every 60 s (R54, R602). -/
def execLifeUpdate (s : State) : Outcome State Fault Refusal :=
  .next (s.live 60 (s.getF D.sens_module_temp))

/-! ### The owner certificate (R606, R607) -/

/-- Every trust that rested on the old owner ends (R607). -/
def State.ownerChanged (s : State) : State :=
  let net := s.mdap.sessions.filter fun x => x.src != .spi
  let t := net.foldl (fun t x => t.closeSession x.id crAdmin) s
  let t := (List.range 6).foldl (fun u p => if u.get D.nbr_state p = 0 then u else u.nbrMove p 1) t
  (List.range 2).foldl (fun u n =>
    if u.laneUp n || u.get D.lace_state n == 3 then (u.set D.lace_state 2 n).sendLaceHello n else u) t

/-- The owner certificate in force becomes these bytes; none clears it (R606, R607). -/
def State.setOwner (s : State) (cert : Option (List Byte)) : State :=
  let d := match cert with
    | some d => sha256 d
    | none => []
  let t := (s.set D.owner_state (if cert.isSome then 1 else 0)).set D.owner_fp_hi (beNat (d.take 8))
  (t.set D.owner_fp_lo (beNat ((d.drop 8).take 8))).ownerChanged

/-- OWNER_CLEAR at its acceptance (R606, R607). -/
def State.ownerClear (s : State) : State :=
  (({ s with blobs := blobPut s.blobs ⟨D.owner_cert.base, (s.blob D.owner_cert).counter, 0, []⟩ } : State).set
    D.owner_cert 0).setOwner none

/-! ### Firmware (R609–R612) -/

/-- An image that LAST completed has been checked (R610). -/
def State.imageLoaded (s : State) (k : Nat) (valid : Bool) : State :=
  let t := s.set D.fw_slot_state (if valid then 2 else 3) k
  t.set D.fw_version (frameField (s.blob D.fw_image k).data 8 4) k

/-- fw_activate at boundary `k`: rendering stops, and the reset follows at boundary k + P + 1
(R611). -/
def State.fwActivate (s : State) (k slot : Nat) : State :=
  let p := s.presOffset
  let t := if s.get D.pw_state = 0 then s.closeProof else s
  { t with power := { t.power with
    activate := some (slot, k + p + 1)
    stopAt := match t.power.stopAt with
      | some b => some b
      | none => some (k + p - 1) } }

/-- FW_ACTIVATE: the command fw_activate at its boundary, the present one (R611). -/
def execFwActivate (slot : Fin 2) (s : State) : Outcome State Fault Refusal :=
  if s.get D.fw_slot_state slot.val = 2 then .next (s.fwActivate s.blockNow slot.val) else .next s

/-- The reset of R611: the slot boots as TRIAL. -/
def State.activateNow (s : State) (slot : Nat) : State :=
  let t := ((s.set D.fw_slot_state 4 slot).set D.fw_attempts 0).noteCause 5
  let t : State := { t with power := { t.power with bootSlot := slot, trialFresh := true } }
  t.enterReset .reset

/-- FW_TRIAL_CONFIRM: a TRIAL image has run for fw_trial_time from the end of the start-up; in a
pair the unit has been STANDBY or ACTIVE (R612). -/
def execFwTrialConfirm (s : State) : Outcome State Fault Refusal :=
  match s.trialSlot with
  | none => .next s
  | some k =>
    if s.power.startedUp && s.get D.fw_running = k && decide (s.role ≤ 2) then
      (let fuses := frameField (s.blob D.fw_image k).data 12 1
       let t := (s.set D.fw_slot_state 5 k).set D.fw_attempts 0
       let t := if t.get D.fw_slot_state (1 - k) = 0 then t else t.set D.fw_slot_state 6 (1 - k)
       .next (t.set D.rollback_fuses (max (t.get D.rollback_fuses) (min 64 fuses))))
    else .next s

/-! ### The always-on domain (R197, R621, R622) -/

/-- The next boundary at or after `k` at which an entry with timebase BLOCK fires (R192). -/
def State.nextFire (s : State) (e k : Nat) : Option Nat :=
  let b := s.get D.act_block e
  let r := s.get D.act_repeat e
  if k ≤ b then some b
  else if r = 0 then none
  else some (b + (k - b + r - 1) / r * r)

/-- Alarm 0: 400 ms before the earliest boundary of an armed entry with act_wake (R197). -/
def State.wakeAlarm (s : State) : Option Nat :=
  let es := (s.instancesWhere D.act_wake (· == 1)).filter fun e =>
    s.get D.act_timebase e == 0 && (s.get D.act_state e == 1 || (s.get D.act_state e != 0 && s.get D.act_repeat e != 0))
  let bs := es.filterMap fun e => s.nextFire e (s.blockNow + 1)
  match bs with
  | [] => none
  | b :: l => some (s.tBoundary (l.foldl min b) - 400000000)

/-- Set alarm 0 for the armed entries as they stand (R197, R620). -/
def State.armAlarm (s : State) : State :=
  let x := match s.wakeAlarm with
    | some t => (t, 1)
    | none => (0, 0)
  if s.get D.aod_alarm 0 = x.1 && s.get D.aod_alarm_enable 0 = x.2 then s
  else (s.set D.aod_alarm x.1 0).set D.aod_alarm_enable x.2 0

/-- AOD_SLEW: every 1 s the time-keeper is slewed toward media time, or stepped when it is more than
1 ms off; the crystal's measured rate is recorded (R622). How far a slew moves is open. -/
def execAodSlew (trim : Int) (s : State) : Outcome State Fault Refusal :=
  let want := s.media - s.time.local_
  let d := want - s.power.aod.offset
  let far := decide (1000000 * ns32 < (d.natAbs : Int))
  let step := if far then d else if d < 0 then boundFree s.freeHere d 0 else boundFree s.freeHere 0 d
  let t : State := { s with power := { s.power with aod := { s.power.aod with offset := s.power.aod.offset + step } } }
  .next ((if far then t else t.pass).setI D.aod_trim trim)

/-- A wake event that its settings allow (R621). -/
def State.wakeAdmits (s : State) : Wake → Bool
  | .alarm n => s.getB D.aod_alarm_enable n.val
  | .comparator n => s.get D.wcmp_wake n.val != 0
  | .input n => s.get D.wake_in_edge n.val != 0
  | .mgt => s.getB D.wake_enable_mgt
  | .fab0 => s.getB D.wake_enable
  | .hspi => s.getB D.hspi_wake && s.power.vio
  | .partner => s.getB D.twin_enable

/-- AOD_ALARM: aod_time reaches an enabled alarm (R621). -/
def execAodAlarm (n : Fin 4) (s : State) : Outcome State Fault Refusal :=
  if s.wakeAdmits (.alarm n) then .next (s.wakeUp (.alarm n)) else .next s

/-- What a wake event shows at its land. -/
def State.showWake (s : State) : Wake → State
  | .comparator n => s.set D.wcmp_state (if s.get D.wcmp_wake n.val = 1 then 1 else 0) n.val
  | .input n =>
    match s.get D.wake_in_edge n.val with
    | 1 => s.set D.wake_in_state 1 n.val
    | 2 => s.set D.wake_in_state 0 n.val
    | _ => s.set D.wake_in_state (1 - s.get D.wake_in_state n.val) n.val
  | _ => s

/-- WAKE_EVENT: a comparator, a wake input, the host SPI port or the partner asks for a wake
(R621). -/
def execWakeEvent (w : Wake) (s : State) : Outcome State Fault Refusal :=
  if s.wakeAdmits w then .next ((s.showWake w).wakeUp w) else .next s

/-! ### Transitions (R616–R620, R625) -/

/-- Rendering stops at boundary `k` (R620). -/
def State.stopRender (s : State) (k : Nat) : State :=
  { s with power := { s.power with stopAt := some (k + s.presOffset - 1) } }

/-- Rendering starts again: pairs and history start at rest (R259; log entry 68). -/
def State.startRender (s : State) : State :=
  { s with
    power := { s.power with stopAt := none }
    render := { s.render with
      objs := [], pairs := [], rings := [], recs := [], slot := none } }

/-- Entry to QUIET or DORMANT applies at boundary `k` (R620, R430). DORMANT also ends transactions
and sessions, and leaves the fabric; in a pair the partner's role becomes RESYNC (R547, R548). -/
def State.powerEntry (s : State) (k target : Nat) : State :=
  let s1 := if s.get D.pw_state = 0 then s.closeProof.stopRender k else s
  let s1 := s1.spoilOutputs fun _ => true
  let s2 : State := { s1 with power := { s1.power with entry := some (target, k) } }
  if target = 1 then s2.set D.pw_state 2
  else
    let l := s2.cu.slots.filter fun t => t.st != tsInDoubt
    let t := l.foldl (fun t x => t.abortTold x rsNotEligible) (s2.set D.pw_state 3)
    let t := (t.closeSessions crAdmin).leave
    if t.getB D.twin_enable then
      (let u : State := { t with twin := { t.twin with asleep := true } }
       if u.role = roleStandby then u.enterResync else u)
    else t

/-- POWER_ENTRY: entry to QUIET (1) or DORMANT (2) applies at the present boundary (R620). -/
def execPowerEntry (dormant : Bool) (s : State) : Outcome State Fault Refusal :=
  if s.power.entry.isSome || (s.get D.pw_state != 0 && !dormant) then .next s
  else .next (s.powerEntry s.blockNow (if dormant then 2 else 1))

/-- A transition runs, or dmc_retrain does (R617). -/
def State.powerBusy (s : State) : Bool := s.power.entry.isSome || s.mem.training.any fun t => t.asked

/-- A request that applies at boundary `k` (R617). -/
def State.transition (s : State) (k target : Nat) : State :=
  let now := s.get D.pw_state
  if target = now then s
  else if target = 0 then ((s.set D.pw_state 0).askSetPoint 0).startRender
  else s.powerEntry k target

/-- pw_request: it applies once the steps of its boundary are done, or is held (R617, R635). -/
def State.pwRequest (s : State) (target : Nat) : State :=
  { s with power := { s.power with held := some target, asked := true } }

/-- A held request applies when nothing runs (R617). -/
def State.powerHeld (s : State) (k : Nat) : State :=
  match s.power.held with
  | none => s
  | some target =>
    if s.powerBusy then s
    else ({ s with power := { s.power with held := none } } : State).transition k target

/-- PW_REQUEST: the command pw_request at its boundary, the present one (R617, R618). -/
def execPwRequest (v : Fin 3) (s : State) : Outcome State Fault Refusal :=
  if v.val = 2 && (s.urgent || decide (1 < s.role)) then .next s
  else .next ((s.pwRequest v.val).powerHeld s.blockNow)

/-- Entry to QUIET is complete after boundary B + P: DRAM moves to SP1 (R620). -/
def State.quietReached (s : State) (k : Nat) : State :=
  match s.power.entry with
  | some (1, b) =>
    if b + s.presOffset ≤ k then
      (({ s with power := { s.power with entry := none } } : State).set D.pw_state 1).askSetPoint 1
    else s
  | some (_, b) => if b + s.presOffset = k then s.askSetPoint 1 else s
  | none => s

/-- In QUIET an announcement of rung 1 or 3 brings the module back to ON (R619). -/
def State.autoOn (s : State) (k : Nat) : State :=
  if s.get D.pw_state = 1 && s.getB D.pw_auto_on && s.urgent then
    (s.error 0x08 0 0x0705 .info).transition k 0
  else s

/-- After a wake by alarm 0 the module asks for DORMANT when nothing holds it in ON (R625). -/
def State.autoReturn (s : State) : State :=
  if s.getB D.pw_return_pending && s.get D.pf_window_state = 0 && !s.power.asked && !s.urgent &&
      s.get D.pw_state = 0 && s.power.entry.isNone && decide (s.role ≤ 1) then
    (if s.mirrored then
      (if s.twin.journal.any fun e => e.held == some (.power 2) then s
       else s.hold (s.blockNow + 1) (.power 2) (.power 2))
     else { s with power := { s.power with held := some 2 } })
  else s

/-- Power at boundary `k`, after the steps of R209 and a twin switch (R635); alarm 0 follows the entries (R197). -/
def State.powerBoundary (s : State) (k : Nat) : State :=
  ((((s.quietReached k).autoOn k).autoReturn).powerHeld k).armAlarm

/-! ### DORMANT (R616, R620, R623) -/

/-- What stops when the module reaches DORMANT. -/
def State.dormantNow (s : State) : State :=
  let t := s.appendAll.armAlarm
  let t := (List.range 7).foldl (fun u p => u.linkDown p) (t.set D.fab_state 0)
  let t := (List.range 2).foldl (fun u d => u.set D.dom_state domHoldover d) t
  let t := ((t.set D.synt_state 4).set D.synt_port 1).apllStop
  let t := (t.set D.pll_n 0 0).set D.pll_state 0 0
  { t with
    power := { t.power with
      phase := .dormant, entry := none, saved := true, stopAt := none
      enteredTemp := t.getF D.sens_module_temp
      aod := { t.power.aod with entered := t.aodTime, precharge := true, onVao := 0 } }
    time := { t.time with block := none, stepAt := none, rampUp := none }
    twin := { t.twin with hbOut := false }
    fabric := { t.fabric with neighbours := [], lsdb := [], waiting := [], gens := [], windows := [], flows := [], quiet := false }
    render := { t.render with inputs := [], rings := [], recs := [], slot := none, traffic := [] }
    cu := { t.cu with live := [], sealed_ := [], lastSeal := none } }

/-- DORMANT_REACHED: DRAM is in self-refresh; a wake event that came during entry, or a wake level
that stands now, starts the wake at once (R620, R621). -/
def execDormantReached (level : Option Wake) (s : State) : Outcome State Fault Refusal :=
  match s.power.entry with
  | some (2, _) =>
    let early := match s.power.early with
      | some w => some w
      | none => level.filter fun w => s.wakeAdmits w
    let t := s.dormantNow
    match early with
    | some w => .next ((t.showWake w).startWake w)
    | none => .next t
  | _ => .next s

/-- Entries whose time passed in DORMANT count as armed at the first boundary (R624). -/
def State.armPassed (s : State) : State :=
  let l := s.timeline.notes.map fun n => if s.get D.act_state n.entry = 1 then { n with fresh := true } else n
  { s with timeline := { s.timeline with notes := l } }

/-- WAKE_COMPLETE: the wake is complete, and block `k` is the first that will be presented; the
media source joins its domain by a step when it is usable, and the time in DORMANT counts (R602,
R623–R625). -/
def execWakeComplete (k : Nat) (s : State) : Outcome State Fault Refusal :=
  if s.power.phase != .waking then .next s
  else
    let c := s.get D.media_source
    let s1 : State := if s.sourceUsable c then
        { (s.set D.media_source_now c) with time := { s.time with bridge := 0 } }
      else s
    let t := s1.countDormant.armPassed
    let t := ((t.set D.pw_state 0).set D.pw_wake_block k).setB D.pw_return_pending (t.get D.pw_wake_cause == 1)
    .next { t with
      power := { t.power with phase := .running, asked := false, saved := false, held := none }
      time := { t.time with wakeJoin := false } }

end Sys2Proof.Machine
end

