-- ==== Sys2Proof/Machine/Apply.lean ====
section
/-! DEFINITION. Applying a value: what a changed object sets going, the run controls, the
commands that are objects, and the items of a commit (R57–R79, R105, R198, R209). -/

namespace Sys2Proof.Machine

open Sys2Proof Host

/-- An object is one of a list. -/
def oneOf (o : Obj) (l : List Obj) : Bool := l.any fun p => p.base == o.base

/-! ### BLOB values (R103–R106, R657) -/

/-- The contents of a BLOB object: those in force, or its default (R655). -/
def State.blobData (s : State) (o : Obj) (i : Nat) : List Byte :=
  let b := s.blob o i
  let n := s.get o i / 2 ^ 32
  if b.data.length = n then b.data
  else if o.base = D.pll_ramp.base then (s.rampOf i).flatMap fun p => beBytes 2 p.1 ++ beBytes 2 p.2
  else List.replicate n 0#8

/-- Put a value of a generation in force in a BLOB object. -/
def State.setBlobGen (s : State) (o : Obj) (i gen : Nat) (data : List Byte) : State :=
  let b := s.blob o i
  { s with
    dict := put s.dict (o.addr i) (handleOf data.length gen)
    blobs := blobPut s.blobs ⟨o.addr i, max b.counter gen, gen, data⟩ }

/-- Note a +P BLOB for the persistent image; clips, Etcher sets and references go elsewhere (R74,
R313, R397, R423). -/
def State.keepBlob (s : State) (o : Obj) (i : Nat) : State :=
  let b := s.blob o i
  if o.persist && !inStore b then
    s.keep b.addr (handleOf b.data.length b.gen) (some b)
  else s

/-- The generation counter of a BLOB object is kept across a reset, with the value in force (R657). -/
def State.keepCounter (s : State) (o : Obj) (i : Nat) : State :=
  let b := s.blob o i
  if inStore b then
    { s with nand := { s.nand with store := blobPut s.nand.store { blobAt s.nand.store b.addr with counter := b.counter } } }
  else s.keepBlob o i

/-- The shadows without the completed one of an object. -/
def State.spendShadow (s : State) (a : Nat) : State :=
  let l := s.mdap.shadows.filter fun x => !(x.addr == a && x.complete)
  { s with mdap := { s.mdap with shadows := l } }

/-- The value that a handle names becomes the object's value (R105). -/
def State.takeHandle (s : State) (o : Obj) (i h : Nat) : State :=
  if s.get o i = h then s
  else if h = 0 then s.setBlobGen o i 0 []
  else
    match s.shadowDone (o.addr i) with
    | some x =>
      if handleOf x.total x.gen = h then (s.setBlobGen o i x.gen x.data).spendShadow (o.addr i) else s
    | none => s

/-! ### The Etcher's sets (R302, R309, R310, R312) -/

/-- The Etcher holds no pending set for an output. -/
def State.dropEtchSet (s : State) (j : Nat) : State :=
  let l := s.render.etchSets.filter fun e => e.out != j
  { s with render := { s.render with etchSets := l } }

/-- A commit that writes the handle of an output's filter set (R310). DESIGN CHOICE (log entry 114): what else was pending,
a shadow in progress among it, is discarded. -/
def State.swapEtch (s : State) (j h : Nat) : State :=
  let t := s.takeHandle D.etch_taps j h
  if t.get D.etch_taps j = s.get D.etch_taps j then s
  else
    let old := (s.blob D.etch_taps j).data.length / 4
    let now := (t.blob D.etch_taps j).data.length / 4
    let x := t.get D.etch_xfade j
    let t : State := { t with mdap := { t.mdap with shadows := t.mdap.shadows.filter fun y => y.addr != D.etch_taps.addr j } }
    let t := (t.dropEtchSet j).set D.etch_active_taps now j
    let go := x != 0
    ((t.set D.etch_pending_state (if go then 5 else 0) j).set D.etch_pending_taps (if go then old else 0) j).set
      D.etch_xfade_left x j

/-- A committed etch_max_taps below the length of a READY set that no transaction holds makes that
set BAD (R309, R310). -/
def State.etchShrinks (s : State) (j : Nat) : State :=
  if s.get D.etch_pending_state j = 3 && decide (s.get D.etch_max_taps j < s.get D.etch_pending_taps j) &&
      !s.shadowHeld (D.etch_taps.addr j) then
    (s.set D.etch_pending_state 4 j).error 0x41 j 0x0602 .warn
  else s

/-- An Etcher set of an output that is longer than etch_max_taps is replaced by the empty set
(R656). -/
def State.etchFits (s : State) (j : Nat) : State :=
  let most := s.get D.etch_max_taps j
  let long (b : Blob) : Bool := decide (most * 4 < b.data.length)
  let a := D.etch_taps.addr j
  let t := if long (s.blob D.etch_taps j) then
      (s.setBlobGen D.etch_taps j 0 []).set D.etch_active_taps 0 j
    else s
  let pend := t.mdap.shadows.any fun x => x.addr == a && x.complete && decide (most * 4 < x.data.length)
  let t := if pend then (((t.spendShadow a).dropEtchSet j).set D.etch_pending_state 0 j).set D.etch_pending_taps 0 j else t
  let kept := t.nand.store.map fun b => if b.addr == a && long b then { b with gen := 0, data := [] } else b
  { t with nand := { t.nand with store := kept } }

/-! ### A new render rate (R656) -/

/-- A stored value that lies outside its range at the new rate takes its default. -/
def State.refit (s : State) (e : Nat × Nat) : State :=
  match objAt e.1 with
  | none => s
  | some (o, i, k) =>
    if (o.acc == .rw || o.acc == .rs) && !s.exactOk o i e.2 then
      (let t := s.unset o i k
       if o.persist then t.keep e.1 (dfltValue t.dict o i k) else t)
    else s

/-- render_rate has a new value: values outside their range at that rate take their defaults, and
Etcher sets that no longer fit are emptied (R656). -/
def State.rateChanged (old s : State) : State :=
  let kept := if s.get D.render_rate = 1 then
      (List.range 1024).foldl (fun t j =>
        if (look old.dict (D.etch_max_taps.addr j)).isSome then t else t.set D.etch_max_taps 16384 j) s
    else s
  let t := old.dict.foldl State.refit kept
  (List.range 1024).foldl (fun t j => t.etchFits j) t

/-! ### Run controls (R67–R69) -/

/-- Every PDM channel that runs is synchronised (R457). -/
def State.pdmSyncAll (s : State) (k : Nat) (p : Nat → Bool) : State :=
  ((List.range 32).filter p).foldl (fun t c => t.pdmSync k c) s

/-- Rendering stops at once: nothing that runs in it is left (R69, R171). -/
def State.renderStop (s : State) : State :=
  let r := s.render
  ({ s with render := { r with
    objs := [], pairs := [], rings := [], recs := [], chains := [], before := [], slot := none
    ingest := [], weltHeld := [], chainHeld := [], resumed := false } } : State).apllStop

/-- An area run control has a new value at boundary `k`. -/
def State.runArea (s : State) (k : Nat) (st : Obj) (i v : Nat) : State :=
  let t := s.set st (if v = 0 then 0 else 1) i
  if st.base = D.runState12.base then
    (if v = 0 then t.renderStop
     else (if t.power.phase = .dormant then t else t.apllStart).pdmSyncAll k fun c => t.getB D.pdm_ch_enable c)
  else if st.base = D.runState20.base then (if v = 0 then t.leave else { t with fabric := { t.fabric with quiet := false } })
  else if st.base = D.runState4C.base then
    (if v = 0 then
      (List.range 16).foldl (fun u l => (u.set D.idac_state 3 l).driveIdac l (u.get D.idac_fault l)) t
     else t)
  else if v = 0 then t.linkDown i
  else t

/-- A run control has a new value at boundary `k` (R69, R134, R480, R486, R590). -/
def State.runChanged (s : State) (k : Nat) (o : Obj) (i v : Nat) : State :=
  match stateOfRun o with
  | some st => s.runArea k st i v
  | none =>
    if o.base = D.runDom.base then
      (if v = 0 then s.domStop i
       else if s.getB D.dom_enable i then (s.set D.dom_state domListening i).syntUpdate else s)
    else if o.base = D.runRingRx.base then (if v = 0 then s.ringStop (i + 8) else s.ringStart (i + 8))
    else if o.base = D.runRingTx.base then (if v = 0 then s.ringStop (i + 40) else s.ringStart (i + 40))
    else if o.base = D.runDma.base then
      (if v = 0 then s.dmaStop i
       else (s.set D.dma_head 0 i).set D.dma_tail 0 i)
    else s

/-- The current outputs move from FAULT to their mode values (R463). -/
def State.idacsResume (s : State) : State :=
  (List.range 16).foldl (fun t l =>
    if t.get D.idac_state l = 3 then
      (let x := idacOf t.io.idac l
       let v := if t.get D.idac_mode l = 0 then t.get D.idac_value l else x.target
       (t.set D.idac_state 2 l).putIdac { x with target := v })
    else t) s

/-- A block that has been STARTING for one block runs (R69). -/
def State.startsDone (s : State) : State :=
  areaRuns.foldl (fun t e =>
    if t.get e.2.1 e.2.2 = 1 then
      (let u := t.set e.2.1 2 e.2.2
       if e.2.1.base = D.runState12.base then { u with render := { u.render with resumed := true } }
       else if e.2.1.base = D.runState4C.base then u.idacsResume
       else u)
    else t) s

/-! ### What a changed value sets going -/

/-- Areas 10, 11 and 12: the syntonisation source, the event pins and the clock lands (R146, R162, R170). -/
def State.reactTime (s : State) (o : Obj) (i : Nat) (changed : Bool) : State :=
  if oneOf o [D.ev_mode, D.ev_start, D.ev_start_sample] then s.rearm i
  else if o.base = D.synt_source.base && changed then s.syntUpdate
  else if oneOf o [D.mclk0_enable, D.mclk1_enable, D.mclk1_div, D.apll_mult, D.render_rate] then s.driveMclk
  else s

/-- Areas 30, 31, 38 and 39: trajectories, the triangulation, the speed of sound and the Welt load
(R237, R246, R253, R285). -/
def State.reactScene (s : State) (o : Obj) (i k : Nat) : State :=
  let load := oneOf o [D.obj_mode, D.obj_keep_nearest, D.lst_type, D.welt_interp, D.render_rate, D.pll_spread]
  let tri := oneOf o [D.lst_pos, D.lst_type, D.lst_service, D.pan_origin, D.tri_max_span, D.render_rate]
  let touched :=
    if o.base = D.kf_traj.base then [k, s.get D.kf_traj i].filter (· < 0x400)
    else if oneOf o [D.kf_time, D.kf_pos, D.kf_interp] then [s.get D.kf_traj i].filter (· < 0x400)
    else if oneOf o [D.traj_loop, D.traj_period, D.traj_join] then [i]
    else []
  let r := s.render
  let t : State := { s with render := { r with
    loadDirty := r.loadDirty || load, triDirty := r.triDirty || tri, dirty := r.dirty ++ touched } }
  if o.base = D.venue_temp.base then t.setF D.sound_speed (soundSpeed (t.getF D.venue_temp))
  else if o.base = D.etch_max_taps.base then t.etchShrinks i
  else t

/-- A field of a serial side or a receiver restarts it, with the sides aligned with it (R444, R446). -/
def State.restartSides (s : State) (n : Nat) : State :=
  let g := s.get D.sp_group n
  let mates := if n < 16 && g != 0 then
      (List.range 16).filter fun m => m != n && s.get D.sp_group m == g && s.getB D.sp_enable m
    else []
  let l := (s.io.restart ++ n :: mates).eraseDups
  { s with io := { s.io with restart := l } }

/-- Area 48 to 4C: sides, PDM channels and current outputs (R444, R457, R460, R464). -/
def State.reactLocal (s : State) (k : Nat) (o : Obj) (i : Nat) : State :=
  if o.base / 2 ^ 24 = 0x48 && !oneOf o [D.sp_mask, D.sp_tx_idle, D.sp_slave_offset] then s.restartSides i
  else if oneOf o [D.aes_rx_enable, D.aes_rx_asrc] then s.restartSides (16 + i)
  else if o.base = D.pdm_ch_enable.base then (if s.getB D.pdm_ch_enable i then s.pdmSync k i else s)
  else if o.base = D.pdm_preset.base then s.pdmSync k i
  else if o.base = D.pdm_line_clock.base then s.pdmSyncAll k fun c => c / 2 == i
  else if oneOf o [D.pdm_ck_enable, D.pdm_ck_rate] then
    s.pdmSyncAll k fun c => s.get D.pdm_line_clock (c / 2) == i
  else if o.base = D.idac_mode.base then
    (if s.get D.idac_mode i = 0 then s.idacTarget i (s.get D.idac_value i) else s)
  else if o.base = D.idac_value.base then s.idacTarget i (s.get D.idac_value i)
  else if o.base = D.idac_fault.base then
    (if s.get D.idac_state i = 3 then s.driveIdac i (s.get D.idac_fault i) else s)
  else if o.base = D.idac_powerup.base then
    (let l := (List.range 16).map fun n => s.get D.idac_powerup n
     { s with power := { s.power with aod := { s.power.aod with idacs := l } } })
  else s

/-- Areas 52, 60 and 51: clips, voices and Proof (R400, R402, R419, R422). -/
def State.reactServices (s : State) (o : Obj) (i : Nat) : State :=
  let playing (n : Nat) : List Nat := (s.svc.voices.filter fun x => x.clip == n).map fun x => x.voice
  if o.base = D.clip_blob.base then
    ((playing i).foldl (fun t v => t.stopVoice v) s).set D.clip_state (if s.get D.clip_blob i = 0 then 0 else 3) i
  else if o.base = D.clip_rate.base then (playing i).foldl (fun t v => t.stopVoice v) s
  else if o.base = D.voice_clip.base then s.stopVoice i
  else if o.base = D.pf_ir_len.base then
    (List.range 1024).foldl (fun t j =>
      if t.get D.pf_ref_state j = 0 then t else (t.setBlobGen D.pf_ref j 0 []).set D.pf_ref_state 0 j)
      ({ s.spoilOutputs (fun _ => true) with svc := { (s.spoilOutputs fun _ => true).svc with refs := [] } })
  else if o.base = D.pf_ref.base then
    (let t := s.set D.pf_ref_state (if s.get D.pf_ref i / 2 ^ 32 = 0 then 0 else 2) i
     { t with svc := { t.svc with refs := t.svc.refs.filter fun x => x.out != i } })
  else if oneOf o [D.pf_code, D.pf_probe, D.pf_lag] then s.spoilOutputs fun j => j == i
  else if oneOf o [D.pr_kind, D.pr_ch] then s.spoilOutputs fun j => s.get D.pf_probe j == i
  else s

/-- Areas 20 and 2A: the fabric's run, the link costs and the stream contexts (R489, R491, R507,
R511). -/
def State.reactFabric (s : State) (o : Obj) (i old : Nat) : State :=
  if o.base = D.fab_enable.base then
    (if s.getB D.fab_enable then ({ s with fabric := { s.fabric with quiet := false } } : State).fabMoves else s.leave)
  else if o.base = D.fab_node_addr.base then
    ((if s.get D.fab_state = 3 then s.set D.fab_state 0 else s).set D.fab_claim_time 0).fabMoves
  else if o.base = D.nbr_cost.base then (if s.get D.fab_state = 0 then s else s.linksChanged)
  else if o.base / 2 ^ 24 = 0x2A && o.base < D.es_kind.base then
    (if s.ports.restart.any fun e => e.1 == i then s
     else
      (let kind := if o.base = D.is_kind.base then old else s.get D.is_kind i
       let ports := if o.base = D.is_ports.base then old else s.get D.is_ports i
       let ip := if o.base = D.is_addr.base then old else s.get D.is_addr i
       let l := s.ports.restart ++ [(i, kind, ports, ip)]
       { s with ports := { s.ports with restart := l } }))
  else s

/-- The region sizes of the entries of an image differ. -/
def entriesDiffer (a b : List Byte) : Bool :=
  (List.range 16).any fun e =>
    let x := imgEntry a e
    let y := imgEntry b e
    !(x.param == y.param && x.state == y.state && x.scratch == y.scratch)

/-- Areas 58 and 59: the nodes that are to be bound again (R360). -/
def State.reactNodes (s : State) (o : Obj) (i : Nat) (before : List Byte) : State :=
  let again (l : List Nat) : State := { s with graver := { s.graver with rebind := (s.graver.rebind ++ l).eraseDups } }
  if o.base = D.img_blob.base then
    (if entriesDiffer before (s.blob D.img_blob i).data then
      again ((s.instancesWhere D.node_kind fun v => v == 1).filter fun n => s.get D.node_image n == i)
     else s)
  else if o.base / 2 ^ 24 = 0x59 && decide (o.base < D.core_mode.base) && o.base != D.node_param.base then again [i]
  else s

/-- Areas 08 and 78: spread and histogram units (R594, R642). -/
def State.reactMonitor (s : State) (o : Obj) (i : Nat) : State :=
  if o.base = D.pll_spread.base then s.setF D.pll_f_min (s.pllFmin i) i
  else if oneOf o [D.hist_source, D.hist_select, D.hist_scale, D.hist_lo, D.hist_hi] then
    { s with hist := modAt s.hist i fun h => { h with clear := true } }
  else s

/-- What follows when an object has taken a value at boundary `k`; `changed` says whether it
differs from the one before, `old`, and `before` holds the bytes of a BLOB before. -/
def State.react (s : State) (k : Nat) (o : Obj) (i old : Nat) (changed : Bool) (before : List Byte) : State :=
  let s1 := s.reactTime o i changed
  if !changed then s1
  else
    ((((((s1.reactScene o i old).reactLocal k o i).reactServices o i).reactFabric o i old).reactNodes o i
      before).reactMonitor o i)

/-! ### Commands that are objects -/

/-- persist_flush: every change accepted so far is in NAND, unless the NAND write fails (R77,
R78). -/
def State.persistFlush (s : State) : State :=
  if s.freeHere % 2 = 0 then s.pass.appendAll else s.pass.persistFails

/-- idac_q_push: the entry of idac_q_time and idac_q_value (R461). -/
def State.idacPush (s : State) (l : Nat) : State :=
  let x := idacOf s.io.idac l
  let n := s.get D.idac_q_time l
  let t := s.putIdac { x with queue := queuePut n (s.get D.idac_q_value l) x.queue }
  if n < s.sampleNow then (t.count D.idac_q_late l).idacApply l else t

/-- twin_rejoin: a FAILED unit returns to RESYNC (R529). -/
def State.twinRejoin (s : State) : State := if s.role = roleFailed then s.enterResync else s

/-- pf_ref_capture: a following window captures the reference (R421). -/
def State.askCapture (s : State) (j : Nat) : State :=
  let l := ⟨j, [], 8⟩ :: s.svc.refs.filter fun x => x.out != j
  ({ s with svc := { s.svc with refs := l } } : State).set D.pf_ref_state 1 j

/-- The commands of the show and of the services, at boundary `k`. -/
def State.commandShow (s : State) (k : Nat) (o : Obj) (i v : Nat) : State :=
  if o.base = D.show_run.base then (if s.showInternal then s.showRun k (v == 1) else s)
  else if o.base = D.show_jump.base then (if s.showInternal then s.showJump k (toSigned 64 v) else s)
  else if o.base = D.show_set_rate.base then (if s.showInternal then s.showSetRate k v else s)
  else if o.base = D.lst_clear_fail.base then s.clearFail i
  else if o.base = D.voice_cmd.base then (if v = 1 then s.startVoice i else s.stopVoice i)
  else if o.base = D.pf_window_open.base then s.pfWindowOpen k v
  else if o.base = D.pf_ref_capture.base then s.askCapture i
  else if o.base = D.ls_learn.base then s.putLine { lineOf s.svc.lines i with learn := true }
  else if o.base = D.pdm_ch_sync.base then s.pdmSync k i
  else if o.base = D.mtr_reset.base then s.clearMeters
  else s

/-- The commands of Shank, the twin and the ports. -/
def State.commandUnit (s : State) (k : Nat) (o : Obj) (i v : Nat) : State :=
  if o.base = D.twin_switch.base then { s with twin := { s.twin with switchAt := some k } }
  else if o.base = D.twin_rejoin.base then s.twinRejoin
  else if o.base = D.pw_request.base then s.pwRequest v
  else if o.base = D.fw_activate.base then s.fwActivate k v
  else if o.base = D.session_close.base then s.closeSession v crAdmin
  else if o.base = D.persist_flush.base then s.persistFlush
  else if o.base = D.persist_reset.base then { s with nand := { s.nand with toDefaults := true } }
  else if o.base = D.ev_pop.base then s.popCapture i
  else if o.base = D.dom_adjust.base then s.stepDomain i (toSigned 32 v * ns32)
  else if o.base = D.dmc_retrain.base then s.startTraining v true
  else if o.base = D.dma_start.base then s.dmaStart i
  else if o.base = D.dma_stop.base then s.dmaStop i
  else if o.base = D.dma_reset.base then s.pass.dmaReset i s.freeHere
  else if o.base = D.idac_q_push.base then s.idacPush i
  else if o.base = D.idac_q_clear.base then s.putIdac { idacOf s.io.idac i with queue := [] }
  else if o.base = D.txn_resolve_commit.base then s.txnResolve v true
  else if o.base = D.txn_resolve_abort.base then s.txnResolve v false
  else if o.base = D.hist_snap.base then { s with hist := modAt s.hist i fun h => { h with snap := true } }
  else if o.base = D.err_alarm_ack.base then s.alarmAck
  else if o.base = D.err_fault_clear.base then s.faultClear
  else if o.base = D.log_clear.base then s.logClear
  else if o.base = D.owner_clear.base then s.ownerClear
  else s

/-- A command that is an object takes effect, at boundary `k`. -/
def State.command (s : State) (k : Nat) (o : Obj) (i v : Nat) : State :=
  (s.commandShow k o i v).commandUnit k o i v

/-! ### Values -/

/-- A value is noted for the persistent image when its object is +P (R74). -/
def State.persistValue (s : State) (o : Obj) (i k v : Nat) : State :=
  if o.persist then s.keep (o.addr i k) v else s

/-- The objects whose write is more than a stored value, and those that only store one. -/
def State.assign (s : State) (k : Nat) (o : Obj) (i sub v : Nat) : State :=
  if o.base = D.dom_enable.base then s.domEnable i v
  else if o.base = D.dom_rate.base then s.writeRate i (toSigned 32 v)
  else if o.base = D.ring_tail.base then s.ringHandOver i v
  else if o.base = D.sp_mask.base then
    (let t := s.set o v i sub
     let x := sideOf t.io.sides i
     if t.sideAsrc i then t else t.putSide { x with mask := x.mask.map fun _ => v })
  else
    let t := s.set o v i sub
    if (stateOfRun o).isSome || oneOf o [D.runDom, D.runRingRx, D.runRingTx, D.runDma] then
      (if s.get o i = v then t else t.runChanged k o i v)
    else if o.base = D.render_rate.base && s.get o i != v then s.rateChanged t
    else if o.base = D.log_window_start.base then { t with nand := { t.nand with logGen := t.nand.logGen + 1 } }
    else t

/-- The healing transaction of an output: it is excluded as FAILED (R254). One that lst_clear_fail has returned to OK
before it applies stays in use (R256). -/
def State.excludeFailed (s : State) (j : Nat) : State :=
  if !(s.mark j).failed then s else
  let t := s.modMark j fun m => { m with excluded := true }
  { t with render := { t.render with triDirty := true } }

/-- A value takes effect at boundary `k`: a command runs, a handle is swapped in, any other value is
stored; `keep` says that it is to be persisted now. A RESET value waits for the next reset; the empty persist_image
is the image that sets no value (R62, R65, R74, R105; log entry 113). -/
def State.applyValue (s : State) (k a v : Nat) (keep : Bool) : State :=
  match objAt a with
  | none => s
  | some (o, i, sub) =>
    if o.acc = .wo then s.command k o i v
    else if o.base = D.lst_status.base then s.excludeFailed i
    else if o.base = D.persist_image.base then { s with nand := { s.nand with replace := some ([], []) } }
    else if o.effect = .reset then (if keep then s.persistValue o i sub v else s)
    else if o.ty = .blob then
      (let before := (s.blob o i).data
       let old := s.get o i
       let t := if o.base = D.etch_taps.base then s.swapEtch i v else s.takeHandle o i v
       let t := if keep && t.get o i != old then t.keepBlob o i else t
       t.react k o i old (t.get o i != old) before)
    else
      (let old := s.get o i sub
       let t := s.assign k o i sub v
       let t := if keep then t.persistValue o i sub v else t
       t.react k o i old (t.get o i sub != old) [])

/-! ### The items of a commit -/

/-- The entry of the Timeline Unit whose writable fields an address lies in (R198). -/
def entryOf (a : Nat) : Option Nat :=
  let d := a - D.act_kind.base
  if D.act_kind.base ≤ a && decide (d / 256 < 1024) && decide (d % 256 ≤ 10) then some (d / 256) else none

/-- The fields of an entry beside act_kind: the ones a commit writes, and those it sets (R198). -/
def entryFields : List Obj :=
  [D.act_timebase, D.act_block, D.act_show, D.act_repeat, D.act_arg, D.act_late, D.act_on_skip, D.act_on_back, D.act_wake]

/-- Change what is noted of an entry. -/
def State.modNote (s : State) (e : Nat) (f : ActionNote → ActionNote) : State :=
  let l := s.timeline.notes
  let x := f ((l.find? fun n => n.entry == e).getD { entry := e })
  { s with timeline := { s.timeline with notes := x :: l.filter fun n => n.entry != e } }

def State.noteOf (s : State) (e : Nat) : ActionNote :=
  (s.timeline.notes.find? fun n => n.entry == e).getD { entry := e }

/-- What applies requires shedding under a rung: r_p is the greatest of those in force (R285). -/
def State.shedUnder (s : State) (rung : Nat) : State :=
  { s with render := { s.render with shedRung := some (max rung (s.render.shedRung.getD 0)), loadDirty := true } }

/-- A transaction that requires shedding has applied; an entry that it armed sheds again when it fires (R285). -/
def State.shedFor (s : State) (rung : Nat) (addrs : List Nat) : State :=
  let note (n : ActionNote) : ActionNote :=
    if addrs.any fun a => entryOf a == some n.entry then { n with rung := some rung } else n
  ({ s with timeline := { s.timeline with notes := s.timeline.notes.map note } } : State).shedUnder rung

/-- A +P object returns to its default, which is persisted with it. -/
def State.toDefault (s : State) (o : Obj) (i : Nat) : State :=
  let t := s.unset o i
  if o.persist then t.keep (o.addr i) (dfltValue t.dict o i 0) else t

/-- An entry that a commit has written: writing EMPTY clears it, an EMPTY entry keeps what is written
to it, a new kind gives the fields the commit does
not write their defaults, and any other entry is ARMED (R191, R198). -/
def State.settleEntry (s : State) (e oldKind : Nat) (written : List Nat) : State :=
  let kind := s.get D.act_kind e
  if kind = 0 then
    if !written.contains (D.act_kind.addr e) then s else
    (let t := entryFields.foldl (fun t o => t.toDefault o e) s
     let t := (t.setBlobGen D.act_payload e 0 []).keepBlob D.act_payload e
     let t := ((t.unset D.act_state e).unset D.act_fired_block e).unset D.act_late_count e
     { t with timeline := { t.timeline with notes := t.timeline.notes.filter fun n => n.entry != e } })
  else
    let free (o : Obj) (t : State) : State :=
      if kind != oldKind && !written.contains (o.addr e) then t.toDefault o e else t
    let t := free D.act_on_skip (free D.act_late s)
    (t.set D.act_state 1 e).modNote e fun _ => { entry := e, pausedArm := !t.showRuns, fresh := true }

/-- The addresses of items, and the last value of each: when an object is written twice the later
item wins (R201). Commands are kept in their places. -/
def lastItems (command : Item → Bool) : List Item → List Item
  | [] => []
  | it :: l =>
    let rest := lastItems command l
    if !command it && rest.any (fun x => x.addr == it.addr) then rest else it :: rest

def isCommand (it : Item) : Bool :=
  match objAt it.addr with
  | some (o, _, _) => o.acc == .wo
  | none => false

def isVoiceCommand (it : Item) : Bool := (D.voice_cmd.locate it.addr).isSome

/-- A commit that writes node_kind releases a FAULTED node again (R371). -/
def State.unfault (s : State) (items : List Item) : State :=
  let l := s.graver.nodes.map fun x =>
    if items.any fun it => it.addr == D.node_kind.addr x.node then { x with faulted := false, exceptions := 0 } else x
  { s with graver := { s.graver with nodes := l } }

/-- The items of one commit apply at boundary `k`; voice commands act after the rest (R402). -/
def State.applyItems (s : State) (k : Nat) (l : List Item) : State :=
  let items := lastItems isCommand l
  let entries := (items.filterMap fun it => entryOf it.addr).eraseDups
  let kinds := entries.map fun e => (e, s.get D.act_kind e)
  let first := items.filter fun it => !isVoiceCommand it
  let t := first.foldl (fun t it => t.applyValue k it.addr it.val true) s
  let written := items.map fun it => it.addr
  let t := (kinds.foldl (fun t e => t.settleEntry e.1 e.2 written) t).unfault items
  (items.filter isVoiceCommand).foldl (fun t it => t.applyValue k it.addr it.val true) t

/-- What the changes of a boundary ask for once they are all in force: sides and stream contexts
restart, nodes are bound, and their images are in program memory (R358, R360, R444, R491). -/
def State.settleChanges (s : State) (k : Nat) : State :=
  let sides := s.io.restart
  let t : State := { s with io := { s.io with restart := [] } }
  let t := sides.foldl (fun t n => t.restartSide k n) t
  let ctxs := t.ports.restart
  let t : State := { t with ports := { t.ports with restart := [] } }
  let t := ctxs.foldl (fun t e => t.streamRestart e.1 e.2.1 e.2.2.1 e.2.2.2) t
  let nodes := t.graver.rebind
  let t : State := { t with graver := { t.graver with rebind := [] } }
  let t := if nodes.isEmpty then t else (t.bindAll nodes).1
  (t.placeImages k).1

end Sys2Proof.Machine
end

