-- ==== Sys2Proof/Machine/Actions.lean ====
section
/-! DEFINITION. The Timeline Unit: which entries fire at a boundary, in which order, and what a
firing entry does (R191–R198, R660). -/

namespace Sys2Proof.Machine

open Sys2Proof Host

/-! ### Payloads (R198, R221) -/

/-- The first item that bytes spell as TXN_ADD spells items in LOCAL form, and the bytes after it:
address, type code and value. -/
def parseItem (l : List Byte) : Option (Item × List Byte) :=
  if l.length < 6 then none
  else
    match tyOfCode (beNat ((l.drop 4).take 1)) with
    | none => none
    | some t =>
      let rest := l.drop 5
      let len := match t with
        | .str32 => 1 + (rest.headD 0#8).toNat
        | _ => tyBytes t
      if rest.length < len then none
      else some (⟨beNat (l.take 4), tyCode t, beNat (rest.take len), 0⟩, rest.drop len)

/-- The items that bytes spell; none where they spell no such sequence. The fuel is the number of
bytes. -/
def parseItems : Nat → List Byte → Option (List Item)
  | _, [] => some []
  | 0, _ => none
  | n + 1, l =>
    match parseItem l with
    | none => none
    | some p => (parseItems n p.2).map fun r => p.1 :: r

/-- The payload of an entry as items. -/
def State.payload (s : State) (e : Nat) : Option (List Item) :=
  let d := (s.blob D.act_payload e).data
  parseItems d.length d

/-- The source that stands for the module itself, with the role of R198. -/
def ownWho : Who := { src := .spi, role := .own, ownerChain := true }

/-- An item is still good at the firing boundary (R59, R61–R64, R105, R198). -/
def State.itemHolds (s : State) (it : Item) : Bool :=
  s.checkStaged ownWho false it == scOk && s.stagedMode ownWho it == scOk &&
    (match objAt it.addr with
     | some (o, i, _) =>
       o.ty != .blob || it.val == 0 || it.val == s.get o i ||
         (s.shadowDone it.addr).any fun x => handleOf x.total x.gen == it.val
     | none => false)

/-! ### Firing (R196, R209) -/

/-- An address whose write by a fired payload waits for the next boundary: show transport, show
mapping and action entries (R209). -/
def waitsABoundary (a : Nat) : Bool :=
  let index := a / 256 % 65536
  a / 2 ^ 24 == 0x18 && (index == 1 || index == 2 || decide (0x100 ≤ index))

/-- The end of a Proof window that an entry opens: counted from its own boundary, or from the firing
boundary with timebase SHOW (R196). -/
def State.windowEnd (s : State) (k e due : Nat) : Nat :=
  (if s.get D.act_timebase e = 0 then due else k) + s.get D.act_arg e * 3000

/-- PROOF_WINDOW fires (R196, R429, R430). -/
def State.fireWindow (s : State) (k e due : Nat) : State :=
  let stop := s.windowEnd k e due
  if s.get D.pw_state ≠ 0 then s.count D.pf_windows_missed
  else if stop ≤ k then s
  else s.openProof stop

/-- TXN fires: its payload applies as a transaction, but for what waits for the next boundary; when
an item fails, nothing of it applies (R198, R209). -/
def State.fireTxn (s : State) (k e : Nat) : State × Bool :=
  match s.payload e with
  | some l =>
    if l.all fun it => s.itemHolds it then
      (let later := l.filter fun it => waitsABoundary it.addr
       let t := s.applyItems k (l.filter fun it => !waitsABoundary it.addr)
       let t := match (s.noteOf e).rung with
         | some r => t.shedUnder r
         | none => t
       let d := t.cu.deferred ++ (if later.isEmpty then [] else [(k, e, later)])
       ({ t with cu := { t.cu with deferred := d } }, true))
    else (s, false)
  | none => (s, false)

/-- An entry fires at boundary `k`, for the boundary `due`; `late` says that its time had passed when
it was armed (R195, R196). -/
def State.fire (s : State) (k e due : Nat) (late : Bool) : State :=
  let s0 := if late then s.count D.act_late_count e else s
  let r : State × Bool :=
    match s0.get D.act_kind e with
    | 1 => s0.fireTxn k e
    | 2 => ((s0.set D.cue_last (s0.get D.act_arg e)).count D.cue_count, true)
    | 3 => (s0.startVoice (s0.get D.act_arg e), true)
    | _ => (s0.fireWindow k e due, true)
  if r.2 then (r.1.set D.act_state 2 e).set D.act_fired_block k e
  else (r.1.set D.act_state 3 e).error 0x18 e 0x0406 .warn

/-! ### Entries with timebase BLOCK (R192, R194, R195) -/

/-- The latest time of an entry at or before boundary `k`. -/
def State.latestDue (s : State) (e k : Nat) : Option Nat :=
  let b := s.get D.act_block e
  let r := s.get D.act_repeat e
  if k < b then none else if r = 0 then some b else some (b + (k - b) / r * r)

/-- An entry can still fire. -/
def State.entryLives (s : State) (e : Nat) : Bool :=
  s.get D.act_kind e != 0 &&
    (s.get D.act_state e == 1 || (s.get D.act_timebase e == 0 && s.get D.act_repeat e != 0))

/-- An entry with timebase BLOCK at boundary `k`. -/
def State.blockEntry (s : State) (k e : Nat) : State :=
  let note := s.noteOf e
  let t := s.modNote e fun n => { n with fresh := false }
  match s.latestDue e k with
  | none => t
  | some due =>
    if note.passed.any fun p => decide (due ≤ p) then t
    else
      let u := t.modNote e fun n => { n with passed := some due }
      if note.fresh && decide (s.get D.act_block e < k) then
        (if s.get D.act_late e = 0 then u.fire k e due true
         else if s.get D.act_repeat e = 0 then u.set D.act_state 3 e
         else if due = k then u.fire k e due false
         else u)
      else if due = k then u.fire k e due false
      else if s.get D.act_on_skip e = 0 then u.fire k e due false
      else u.set D.act_state 4 e

/-! ### Entries with timebase SHOW (R193–R195, R660) -/

/-- Insert an entry by act_show, then by index. -/
def insertShow (x : Int × Nat) : List (Int × Nat) → List (Int × Nat)
  | [] => [x]
  | y :: l =>
    if decide (x.1 < y.1) || (x.1 == y.1 && decide (x.2 < y.2)) then x :: y :: l else y :: insertShow x l

/-- Entries in ascending act_show, then by index. -/
def State.byShow (s : State) (l : List Nat) : List Nat :=
  ((l.map fun e => (s.getI D.act_show e, e)).foldl (fun a x => insertShow x a) []).map fun x => x.2

/-- A jump from show time `old` to `now` while the entry stands: what it becomes (R194, R660). -/
def State.jumpEntry (s : State) (e : Nat) (old now : Int) : State :=
  let at_ := s.getI D.act_show e
  if old < now then
    (if old < at_ && at_ < now && s.get D.act_state e = 1 then
      (if s.get D.act_on_skip e = 1 then s.set D.act_state 4 e
       else s.modNote e fun n => { n with fireAtRun := true })
     else s)
  else if now ≤ at_ && s.get D.act_on_back e = 0 then
    (s.set D.act_state 1 e).modNote e fun n => { n with fireAtRun := at_ == now }
  else s

/-- An entry armed with its time passed fires or is MISSED, as act_late decides (R195). -/
def State.lateShow (s : State) (k e : Nat) : State :=
  if s.get D.act_late e = 0 then s.fire k e k true else s.set D.act_state 3 e

/-- The entries with timebase SHOW at boundary `k`: show time was `old` at the boundary before and is
`now`; `jumped` says that a jump applies here. Paused entries are settled first when the show runs
again (R193, R194, R660). -/
def State.showEntries (s : State) (k : Nat) (old now : Int) (jumped : Bool) : State :=
  let es := (s.instancesWhere D.act_kind (· != 0)).filter fun e => s.get D.act_timebase e == 1
  let runs := s.showRuns
  let was := s.timeline.ran
  let fresh := es.filter fun e => (s.noteOf e).fresh
  let s1 := fresh.foldl (fun t e => t.modNote e fun n => { n with fresh := false, pausedArm := !runs }) s
  let s2 := if jumped then
      (es.filter fun e => !fresh.contains e).foldl (fun t e => t.jumpEntry e old now) s1
    else s1
  if !runs then s2
  else
    let armed (t : State) (e : Nat) : Bool := t.get D.act_state e == 1
    let paused := if was then [] else es.filter fun e => armed s2 e && !fresh.contains e &&
      ((s2.noteOf e).fireAtRun || ((s2.noteOf e).pausedArm && decide (s2.getI D.act_show e ≤ old)))
    let s3 := (s2.byShow paused).foldl (fun t e =>
      if (t.noteOf e).fireAtRun then t.fire k e k false else t.lateShow k e) s2
    let due := es.filter fun e => armed s3 e && !paused.contains e &&
      (if fresh.contains e then decide (s3.getI D.act_show e ≤ now)
       else (s3.noteOf e).fireAtRun || (decide (old < s3.getI D.act_show e) && decide (s3.getI D.act_show e ≤ now)))
    let s4 := (s3.byShow due).foldl (fun t e => if fresh.contains e then t.lateShow k e else t.fire k e k false) s3
    es.foldl (fun t e =>
      let n := t.noteOf e
      if n.fireAtRun || n.pausedArm then t.modNote e fun n => { n with fireAtRun := false, pausedArm := false } else t) s4

/-- Step 5 of R209: entries with timebase BLOCK fire in entry order, then those with timebase SHOW. -/
def State.actions (s : State) (k : Nat) (old now : Int) (jumped : Bool) : State :=
  let es := (s.instancesWhere D.act_kind (· != 0)).filter fun e => s.get D.act_timebase e == 0
  let t := es.foldl (fun t e => if t.entryLives e && t.get D.act_timebase e = 0 then t.blockEntry k e else t) s
  t.showEntries k old now jumped

end Sys2Proof.Machine
end

