-- ==== Sys2Proof/Machine/View.lean ====
section
/-! DEFINITION. The scene view of a prepare: what transactions, held writes and armed payloads
would make of the dictionary, without the effects of applying them (R206, R326, R656). -/

namespace Sys2Proof.Machine

open Sys2Proof

/-! ### Items as bytes (R199, R221) -/

/-- The encoded size of an item; a FABRIC item carries its node too (R199). -/
def itemSize (fabric : Bool) (it : Item) : Nat := (itemBytes it).length + if fabric then 2 else 0

def itemsSize (fabric : Bool) (l : List Item) : Nat := l.foldl (fun n it => n + itemSize fabric it) 0

/-! ### Arming an entry (R219, R221) -/

/-- A transaction of kind SHOW arms its entry on a participant, with its items as payload; what the entry held is
replaced (R210). -/
def State.arm (s : State) (t : Txn) : State :=
  if !s.takesPart t then s else
  let e := t.entry
  let u := ((s.unset D.act_fired_block e).unset D.act_late_count e).keepValue D.act_kind 1 e
  let u := entryFields.foldl (fun u o => u.toDefault o e) u
  let u := (u.keepValue D.act_timebase 1 e).keepValue D.act_show (ofSigned 64 t.show_) e
  let u := u.keepValue D.act_late t.late e
  let data := (s.itemsHere t).flatMap itemBytes
  let u := (u.setBlob D.act_payload data e).keepBlob D.act_payload e
  (u.set D.act_state 1 e).modNote e fun _ => { entry := e, pausedArm := !u.showRuns, fresh := true }

/-- The addresses of an entry that a commit writes. -/
def entryAddrs (e : Nat) : List Nat := (List.range 11).map fun k => D.act_kind.addr e + k

/-- The addresses that a transaction writes on this member. -/
def State.txnAddrs (s : State) (t : Txn) : List Nat :=
  if t.kind = 2 then (if s.takesPart t then entryAddrs t.entry else []) else (s.itemsHere t).map fun it => it.addr

/-! ### Views -/

/-- What an item makes of a view: a value or a handle. Commands change no load. -/
def State.viewItem (v : State) (it : Item) : State :=
  match objAt it.addr with
  | none => v
  | some (o, i, sub) =>
    if o.acc = .wo || o.base = D.lst_status.base then v
    else
      let before := (v.blob o i).data
      let old := v.get o i sub
      let t := if o.ty = .blob then v.takeHandle o i it.val else v.set o it.val i sub
      if t.get o i sub = old then t else t.reactNodes o i before

/-- The items of one commit in a view, with what it makes of the entries it writes (R198). -/
def State.viewItems (v : State) (l : List Item) : State :=
  let kinds := ((l.filterMap fun it => entryOf it.addr).eraseDups).map fun e => (e, v.get D.act_kind e)
  let written := l.map fun it => it.addr
  kinds.foldl (fun u e => u.settleEntry e.1 e.2 written) (l.foldl (fun v it => v.viewItem it) v)

/-- A transaction in a view. -/
def State.viewTxn (v : State) (t : Txn) : State :=
  if t.kind = 2 then v.arm t else v.viewItems (v.itemsHere t)

/-- The transactions other than `t` whose values are held, in ascending order key. -/
def State.heldTxns (s : State) (t : Txn) : List Txn :=
  sortTxns (s.cu.slots.filter fun x => x.holds && x.id != t.id)

/-- The LIVE writes that have been accepted and not applied, in acceptance order. -/
def State.waitingLive (s : State) : List (Nat × Nat) :=
  s.cu.sealed_.flatMap (fun x => x.live) ++ s.cu.live

/-- The nodes whose binding a view changes are bound in it; false when a region does not fit
(R359, R360). -/
def State.viewBind (v : State) : State × Bool :=
  let r := v.bindAll v.graver.rebind
  ({ r.1 with graver := { r.1.graver with rebind := [] } }, r.2)

/-- The values that would be in force at the apply boundary of a transaction, before it applies. -/
def State.viewBefore (s : State) (t : Txn) : State :=
  let v := s.viewItems (s.waitingLive.map fun w => ⟨w.1, 0, w.2, 0⟩)
  ((s.heldTxns t).filter fun x => decide (x.applyBlock ≤ t.applyBlock)).foldl (fun v x => v.viewTxn x) v

/-- Step 1 of R206: every transaction held, and this one, in ascending order key. -/
def State.viewScene (s : State) (t : Txn) : State :=
  (insertTxn t (s.heldTxns t)).foldl (fun v x => v.viewTxn x) s

/-- The transactions held whose order key comes before that of another (R183, R206). -/
def State.viewEarlier (s : State) (t : Txn) : State :=
  ((s.heldTxns t).filter fun x => x.before t).foldl (fun v x => v.viewTxn x) s

/-- Step 2 of R206: the payloads of every armed TXN entry, in ascending entry. -/
def State.viewPayloads (v : State) : State :=
  let es := (v.instancesWhere D.act_kind (· == 1)).filter fun e => v.entryLives e
  es.foldl (fun v e =>
    match v.payload e with
    | some l => v.viewItems l
    | none => v) v

/-! ### Loads (R283, R314, R375, R524) -/

/-- The outputs whose Etcher set counts twice: OUTGOING, held, or named by this transaction (R314). -/
def State.etchTwice (s v : State) (t : Txn) (j : Nat) : Bool :=
  let a := D.etch_taps.addr j
  v.get D.etch_pending_state j == 5 || s.shadowHeld a ||
    (t.kind != 2 && (s.itemsHere t).any fun it => it.addr == a && it.val != 0 && it.val != s.get D.etch_taps j)

/-- The Etcher load in hundredths of a MFLOP/s; `twice` names the outputs that count twice. -/
def State.etchLoad (v : State) (twice : Nat → Bool) : Nat :=
  let at96 := v.get D.render_rate == 1
  v.liveOutputs.foldl (fun n j =>
    n + (if twice j then 2 else 1) * etchCost at96 (v.get D.etch_max_taps j)) 0

/-- The Etcher load exceeds a ceiling in percent of 96,000 MFLOP/s, scaled by R595. -/
def State.etchOver (v : State) (load pct : Nat) : Bool := decide (pct * 960 * v.budgetScale < load * 100)

/-- The Graver load exceeds a ceiling in percent. -/
def State.graverOver (v : State) (pct : Nat) : Bool :=
  let f := v.graverLoad
  decide (pct * f.2 < 100 * f.1)

/-- A link of the present trees would exceed fab_link_ceiling (R524). -/
def State.linksOver (v : State) : Bool :=
  decide (v.get D.fab_link_ceiling * 10000 < maxLoad v.treesNow v.knownFlows v.blockLen v.graph.2)

/-- A transaction enables or changes an egress FABRIC context (R524). -/
def State.changesEgress (s v : State) (t : Txn) : Bool :=
  t.kind != 2 && (s.itemsHere t).any fun it =>
    decide (D.es_kind.base ≤ it.addr) && decide (it.addr < D.es_kind.base + 512 * 256) &&
      v.get D.es_kind ((it.addr - D.es_kind.base) / 256) == 2

end Sys2Proof.Machine
end

