-- ==== Sys2Proof/Machine/Validate.lean ====
section
/-! DEFINITION. The rules that fail a transaction at prepare with VALIDATION, judged in the view of
its apply boundary (R198, R227, R233, R242, R309, R316, R326, R357–R375, R398, R405, R416, R424,
R426, R437–R454, R487, R488, R516, R518, R656). -/

namespace Sys2Proof.Machine

open Sys2Proof

/-- The instances of an object that items write, by any field of the object's table row. -/
def touchedAt (o : Obj) (l : List Item) : List Nat :=
  (l.filterMap fun it => (o.locate (it.addr / 256 * 256 + o.base % 256)).map fun p => p.1).eraseDups

/-- A list holds no value twice. -/
def distinct (l : List Nat) : Bool := l.eraseDups.length == l.length

/-! ### Items and entries (R198, R656) -/

/-- The exact ranges of the items (R656). -/
def State.exactItems (v : State) (l : List Item) : Bool :=
  l.all fun it =>
    match objAt it.addr with
    | some (o, i, _) => o.acc == .wo || o.ty == .blob || v.exactOk o i it.val
    | none => true

/-- The items of a payload pass R59 and R61–R64 under the role of the one who prepares. -/
def State.payloadOk (v : State) (who : Who) (l : List Item) : Bool :=
  l.all fun it => v.checkStaged who false it == scOk && !v.unusable it.addr

/-- What an entry may hold (R198). -/
def State.entryOk (v : State) (who : Who) (e : Nat) : Bool :=
  match v.get D.act_kind e with
  | 1 => (match v.payload e with
    | some l => v.payloadOk who l
    | none => false)
  | 3 => decide (v.get D.act_arg e ≤ 63)
  | 4 => decide (1 ≤ v.get D.act_arg e) && decide (v.get D.act_arg e ≤ 86400)
  | _ => true

/-- The payloads of all entries hold at most 1 MiB. -/
def State.payloadsFit (v : State) : Bool :=
  decide ((v.instancesWhere D.act_kind (· != 0)).foldl
    (fun n e => n + (v.blob D.act_payload e).data.length) 0 ≤ 2 ^ 20)

/-! ### The scene (R227, R233, R242) -/

/-- The source channel of an object exists, and a local-only object has a LOCAL source (R227). -/
def State.sourceOk (v : State) (i : Nat) : Bool :=
  let ch := v.get D.obj_source_ch i
  let kind := v.get D.obj_source_kind i
  (match kind with
   | 0 => true
   | 1 => decide (ch < 4096)
   | 2 => v.localChannel ch
   | 3 => decide (ch < 64)
   | _ => decide (ch < 256)) && (!v.getB D.obj_local_only i || kind == 2)

/-- The bulk delay line holds W_j and the bulk delay: at most 2.000 s (R233). -/
def State.delayOk (v : State) (j : Nat) : Bool :=
  decide (v.get D.lst_delay_base j + v.get D.out_delay j ≤ 2 * v.fs)

/-- A trajectory holds at most 4096 keyframes, and loops over a period that spans them (R242). -/
def State.trajOk (v : State) (t : Nat) : Bool :=
  let k := v.keyframes t
  let span := match k.head?, k.getLast? with
    | some a, some b => b.1 - a.1
    | _, _ => 0
  let p := v.get D.traj_period t
  decide (k.length ≤ 4096) && (v.get D.traj_loop t == 0 || (p != 0 && decide (span ≤ (p : Int))))

/-- The trajectories that items change. -/
def State.touchedTraj (s v : State) (l : List Item) : List Nat :=
  let kf := touchedAt D.kf_traj l
  ((touchedAt D.traj_loop l) ++ kf.map (s.get D.kf_traj ·) ++ kf.map (v.get D.kf_traj ·)).eraseDups.filter (· < 1024)

/-! ### Outputs (R309, R316, R326, R435) -/

/-- |a2| < 1 and |a1| < 1 + a2, exactly (R316). -/
def bqStable (c : BqCoef) : Bool :=
  let one := exactCoord F32.one
  [c.b0, c.b1, c.b2, c.a1, c.a2].all F32.isFinite &&
    decide (((exactCoord c.a2).natAbs : Int) < one) && decide (((exactCoord c.a1).natAbs : Int) < one + exactCoord c.a2)

def State.biquadsOk (v : State) (j : Nat) : Bool :=
  let byp := v.get D.out_bq_bypass j
  (List.range 16).all fun q => byp.testBit q || bqStable (v.bqCoef j q)

/-- The active set of every output, and a pending set that a transaction holds, fit etch_max_taps
(R309). -/
def State.etchSetsOk (s v : State) : Bool :=
  ((v.instancesWhere D.etch_taps (· != 0)).all fun j =>
    decide ((v.blob D.etch_taps j).data.length / 4 ≤ v.get D.etch_max_taps j)) &&
  s.mdap.shadows.all fun x =>
    match D.etch_taps.locate x.addr with
    | some (j, _) => !(x.complete && s.shadowHeld x.addr) || decide (x.total / 4 ≤ v.get D.etch_max_taps j)
    | none => true

/-- The channels of a stream context. -/
def channelsOf (first count : Nat) : List Nat := (List.range count).map fun n => first + n

/-- The egress contexts that are not OFF. -/
def State.egress (v : State) : List Nat := v.instancesWhere D.es_kind (· != 0)
def State.ingress (v : State) : List Nat := v.instancesWhere D.is_kind (· != 0)

/-- A destination channel exists and is configured for transmission (R326, R435). -/
def State.destOk (v : State) (d : Dest) : Bool :=
  match d.kind with
  | 1 =>
    let side := 2 * (d.ch / 32)
    let slot := d.ch % 32
    decide (d.ch < 256) && v.getB D.sp_enable side && decide (slot < v.get D.sp_slots side) &&
      (v.get D.sp_mask side).testBit slot && (v.get D.render_rate != 1 || decide (slot < 16))
  | 2 => decide (d.ch < 8) && v.getB D.aes_tx_enable (d.ch / 2)
  | _ => v.egress.any fun c =>
      decide (v.get D.es_first_ch c ≤ d.ch) && decide (d.ch < v.get D.es_first_ch c + v.get D.es_channels c)

/-- Every destination that the outputs name. -/
def State.allDests (v : State) : List Dest :=
  ((v.instancesWhere D.out_dest_a_kind (· != 0) ++ v.instancesWhere D.out_dest_b_kind (· != 0)).eraseDups).flatMap
    fun j => v.outDests j

/-- The destinations: none twice, and each configured (R326). -/
def State.destsOk (v : State) : Bool :=
  distinct (v.allDests.map fun d => d.kind * 65536 + d.ch) && v.allDests.all fun d => v.destOk d

/-! ### The dispatch graph (R357, R359, R361, R367, R375, R379) -/

/-- The nodes that run a kernel. -/
def State.kernels (v : State) : List Nat := v.instancesWhere D.node_kind (· == 1)

/-- node_period and node_phase of any node; a vendor node runs in every block. -/
def State.nodeTiming (v : State) (n : Nat) : Nat × Nat :=
  if vendorNode n then (1, 0) else (v.get D.node_period n, v.get D.node_phase n)

/-- The predecessors of a node. -/
def State.preds (v : State) (n : Nat) : List Nat :=
  ((List.range 4).map fun k => v.get D.node_pred n k).filter (· != 0xFFFF)

/-- A node's image has its entry, its param block fits, and its predecessors keep its time (R361,
R379). -/
def State.kernelOk (v : State) (n : Nat) : Bool :=
  decide (v.get D.node_entry n < imgEntryCount (v.blob D.img_blob (v.get D.node_image n)).data) &&
    decide ((v.blob D.node_param n).data.length ≤ (v.nodeEntry n).param) &&
    (v.preds n).all fun m => v.nodeTiming m == v.nodeTiming n

/-- Nodes left when those without a predecessor among them are taken away, again and again. -/
def State.peel (v : State) : Nat → List Nat → List Nat
  | 0, l => l
  | k + 1, l => v.peel k (l.filter fun n => (v.preds n).any fun m => l.contains m)

/-- No cycle of predecessors (R361). -/
def State.acyclic (v : State) : Bool := (v.peel v.kernels.length v.kernels).isEmpty

/-- Each GRAVER channel has one producer (R379). -/
def State.producersOk (v : State) : Bool :=
  distinct (v.kernels.flatMap fun n => channelsOf (v.get D.node_out_first n) (v.get D.node_out_count n))

/-- What the members of a flow have in common (R367). -/
def State.flowOk (v : State) (f : Nat) : Bool :=
  let l := v.flowMembers f
  let kinds := (l.map fun n => (v.get D.node_image n, v.get D.node_entry n, v.get D.node_class n)).eraseDups
  decide (2 ≤ l.length) && decide (l.length ≤ 8) && kinds.length == 1 &&
    l.all (fun n => v.get D.node_period n == 1 && (v.nodeEntry n).state == 0) &&
    distinct (l.filterMap fun n => (v.nodeNow n).map fun x => x.core)

/-- Images written by the items have a header in the table of R356. -/
def State.imagesOk (v : State) (l : List Item) : Bool :=
  (touchedAt D.img_blob l).all fun i =>
    let d := (v.blob D.img_blob i).data
    d.isEmpty || imgHeaderOk d

/-- The graph as a whole. -/
def State.graphOk (v : State) (l : List Item) : Bool :=
  v.imagesOk l && (v.kernels.all fun n => v.kernelOk n) && v.acyclic && v.producersOk &&
    ((v.kernels.map fun n => v.get D.node_flow n).eraseDups.filter (· != 0)).all (fun f => v.flowOk f) &&
    (v.placeImages v.blockNow).2 && (List.range 8).all fun c =>
        !(v.get D.core_mode c == 2 && !(v.get D.core_classes c).testBit 0)

/-! ### Services and Proof (R398, R405, R416, R424, R426) -/

/-- Clips that start before safe-scene audio hold at most 32 MiB (R398). -/
def State.bootClipsOk (v : State) : Bool :=
  decide ((v.instancesWhere D.clip_boot (· == 1)).foldl (fun n c => n + v.get D.clip_blob c / 2 ^ 32) 0 ≤ 2 ^ 25)

/-- No two enabled standby groups name one GPIO (R405). -/
def State.standbyOk (v : State) : Bool :=
  distinct (((v.instancesWhere D.sb_enable (· == 1)).map fun g => v.get D.sb_pin g).filter (· != 0))

/-- The codes of the outputs of one probe differ, and their lags fit a period (R416). -/
def State.probesOk (v : State) : Bool :=
  distinct ((v.instancesWhere D.pf_probe (· != 0xFF)).map fun j => v.get D.pf_probe j * 256 + v.get D.pf_code j) &&
    (v.instancesWhere D.pf_lag (· != 0)).all fun j => decide (v.get D.pf_lag j + v.irLen ≤ 16383)

/-- pf_snr_min is at least pf_dead_db + 3 dB (R424). -/
def State.proofOk (v : State) : Bool :=
  decide (exactCoord (v.getF D.pf_dead_db) + 3 * exactCoord F32.one ≤ exactCoord (v.getF D.pf_snr_min))

/-- The DC blocker of a sense channel is off or frozen (R426). -/
def State.linesOk (v : State) : Bool :=
  (v.instancesWhere D.ls_enable (· == 1)).all fun l =>
    let ch := v.get D.ls_sense_ch l
    !(decide (0x120 ≤ ch) && decide (ch < 0x140)) || v.get D.pdm_dc (ch - 0x120) != 1

/-! ### Local audio (R437, R438, R447, R454) -/

/-- A side's words fit their slots, and its bit clock its limit (R437, R438). -/
def State.sideOk (v : State) (n : Nat) : Bool :=
  decide (v.get D.sp_word_bits n ≤ v.get D.sp_slot_bits n) &&
    decide (v.get D.sp_slots n * v.get D.sp_slot_bits n * v.fs ≤ 49152000)

/-- An enabled PDM channel has an enabled clock (R454). -/
def State.pdmClocksOk (v : State) : Bool :=
  (v.instancesWhere D.pdm_ch_enable (· == 1)).all fun c => v.getB D.pdm_ck_enable (v.get D.pdm_line_clock (c / 2))

def State.localOk (v : State) : Bool :=
  ((List.range 16).all fun n => v.sideOk n) && decide (v.asrcChannels ≤ 256) &&
    decide (v.pdmUnits ≤ 32) && v.pdmClocksOk

/-! ### Stream contexts (R471, R487, R488, R516, R518) -/

/-- The channels of contexts do not overlap and stay below 4096 (R487). -/
def contextsOk (l : List (Nat × Nat)) : Bool :=
  l.all (fun c => decide (c.1 + c.2 ≤ 4096)) && distinct (l.flatMap fun c => channelsOf c.1 c.2)

/-- Bytes of a sample in an AES67 encoding: L16 or L24 (R488). -/
def encodingBytes (e : Nat) : Nat := if e = 0 then 2 else 3

/-- The bit rate of an AES67 egress context on its port: its packets with their RTP, UDP, IPv4 and
Ethernet headers, the frame check, preamble and gap. -/
def State.aesRate (v : State) (c : Nat) : Nat :=
  let n := v.packetSamples (v.get D.es_ptime c)
  let tag := if v.get D.es_vid c = 0xFFFF then 0 else 4
  let bytes := v.get D.es_channels c * n * encodingBytes (v.get D.es_encoding c) + 12 + 8 + 20 + 18 + 20 + tag
  bytes * 8 * v.fs / n

/-- The AES67 egress contexts of a port take at most 90 % of its line rate (R487). -/
def State.portRateOk (v : State) (p : Nat) : Bool :=
  let l := v.egress.filter fun c => v.get D.es_kind c == 1 && v.get D.es_port c == p
  let line := if v.get D.port_speed p = 0 then 10 ^ 10 else 10 ^ 9
  decide (l.foldl (fun n c => n + v.aesRate c) 0 * 10 ≤ line * 9)

/-- No AES67 context names a port of FABRIC personality (R471). -/
def State.personalityOk (v : State) : Bool :=
  let edge (p : Nat) : Bool := p == 6 || v.get D.port_personality p != 0
  (v.egress.all fun c => v.get D.es_kind c != 1 || edge (v.get D.es_port c)) &&
    v.ingress.all fun c => v.get D.is_kind c != 1 ||
      (List.range 7).all fun p => !(v.get D.is_ports c).testBit p || edge p

/-- Channels × S × bytes of AES67 contexts (R488), and channels of FABRIC contexts (R516). -/
def State.contextSizesOk (v : State) : Bool :=
  let most := if v.get D.render_rate = 1 then 8 else 16
  let ok (kind ch ptime enc : Nat) : Bool :=
    if kind = 1 then decide (ch * v.packetSamples ptime * encodingBytes enc ≤ 1440) else decide (ch ≤ most)
  (v.egress.all fun c => ok (v.get D.es_kind c) (v.get D.es_channels c) (v.get D.es_ptime c) (v.get D.es_encoding c)) &&
    v.ingress.all fun c => ok (v.get D.is_kind c) (v.get D.is_channels c) (v.get D.is_ptime c) (v.get D.is_encoding c)

/-- The stream IDs of egress FABRIC contexts: this node, and none twice (R516). -/
def State.streamIdsOk (v : State) : Bool :=
  let ids := (v.egress.filter fun c => v.get D.es_kind c == 2).map fun c => v.get D.es_fab_stream c
  distinct ids && ids.all fun n => n / 2 ^ 20 == v.get D.fab_node_addr

/-- No channel is fed both by an injection and by a destination slot (R518). -/
def State.injectionsOk (v : State) : Bool :=
  v.allDests.all fun d => d.kind != 3 || v.get D.inj_kind d.ch == 0

def State.streamsOk (v : State) : Bool :=
  contextsOk (v.egress.map fun c => (v.get D.es_first_ch c, v.get D.es_channels c)) &&
    contextsOk (v.ingress.map fun c => (v.get D.is_first_ch c, v.get D.is_channels c)) &&
    v.personalityOk && v.contextSizesOk && v.streamIdsOk && v.injectionsOk &&
    (List.range 7).all fun p => v.portRateOk p

/-! ### All of them -/

/-- The rules that look at what the transaction's items write. -/
def State.itemsValid (s v : State) (who : Who) (l : List Item) : Bool :=
  v.exactItems l && ((l.filterMap fun it => entryOf it.addr).eraseDups.all fun e => v.entryOk who e) &&
    ((touchedAt D.obj_mode l).all fun i => v.sourceOk i) &&
    (((touchedAt D.lst_pos l) ++ (touchedAt D.out_delay l)).eraseDups.all fun j => v.delayOk j) &&
    ((s.touchedTraj v l).all fun t => v.trajOk t) &&
    ((touchedAt D.out_delay l).all fun j => v.biquadsOk j)

/-- The rules that look at the configuration that would be in force. -/
def State.configValid (s v : State) (l : List Item) : Bool :=
  v.payloadsFit && s.etchSetsOk v && v.destsOk && v.graphOk l && v.bootClipsOk && v.standbyOk &&
    v.probesOk && v.proofOk && v.linesOk && v.localOk && v.streamsOk

end Sys2Proof.Machine
end

