-- ==== Sys2Proof/Machine/Prepare.lean ====
section
/-! DEFINITION. Prepare: the checks of R658 in their order, admission (R206–R208, R524), and the
commit of a LOCAL transaction (R203). -/

namespace Sys2Proof.Machine

open Sys2Proof

/-- What prepare finds: a reason of R220, and for an admitted transaction what it breaks. -/
structure Verdict where
  reason : Nat
  /-- The Welt load exceeds the ceiling: shedding starts where it applies (R285). -/
  sheds : Bool := false
  /-- Another resource does, or shedding does not help (R289). -/
  overload : Bool := false
  /-- A link does (R524). -/
  link : Bool := false
  deriving DecidableEq, Repr

/-! ### Handles (R105, R106, R311, R357) -/

/-- What prepare finds of a handle that an item writes. -/
def State.handleReason (s : State) (it : Item) : Nat :=
  match objAt it.addr with
  | none => rsNone
  | some (o, i, _) =>
    if o.ty != .blob || it.val = 0 || it.val = s.get o i then rsNone
    else
      match s.shadowDone it.addr with
      | some x =>
        if handleOf x.total x.gen ≠ it.val then rsIntegrity
        else if o.base = D.etch_taps.base && s.get D.etch_pending_state i = 2 then rsIncomplete
        else if o.base = D.etch_taps.base && s.get D.etch_pending_state i = 4 then rsValidation
        else if o.base = D.img_blob.base && !imgDigestOk x.data then rsIntegrity
        else rsNone
      | none =>
        let loading := s.mdap.shadows.any fun x => x.addr == it.addr && !x.complete
        if loading && it.val % 2 ^ 32 = (s.blob o i).counter + 1 then rsIncomplete else rsIntegrity

/-- The first reason of a list that items give. -/
def State.handlesGive (s : State) (l : List Item) (reason : Nat) : Bool :=
  l.any fun it => s.handleReason it == reason

/-! ### Mode (R59, R72, R183) -/

/-- Every item is eligible; a transport command is judged where the items before it leave the view. -/
def State.eligible (who : Who) : State → List Item → Bool
  | _, [] => true
  | v, it :: l => v.stagedMode who it == scOk && State.eligible who (v.viewItem it) l

/-! ### Validation -/

/-- The transaction passes every rule of VALIDATION. -/
def State.valid (s : State) (who : Who) (t : Txn) (foreign : Bool) : Bool :=
  let l := if t.kind = 2 then [] else s.itemsHere t
  let b := (s.viewBefore t).viewTxn t
  let v := b.viewBind
  let items := !foreign || (s.itemsHere t).all fun it => s.checkStaged who true it == scOk
  let entry := t.kind != 2 || (decide (t.entry < 1024) && v.1.entryOk who t.entry)
  items && entry && v.2 && !s.handlesGive l rsValidation && s.itemsValid v.1 who l && s.configValid v.1 l

/-! ### Conflict and budget (R206, R207, R216, R524) -/

/-- The transaction writes an object that an IN_DOUBT transaction holds (R216). -/
def State.conflicts (s : State) (t : Txn) : Bool :=
  let mine := s.txnAddrs t
  s.cu.slots.any fun x => x.st == tsInDoubt && x.id != t.id && (s.txnAddrs x).any fun a => mine.contains a

/-- Admission (R206, R207, R288, R289, R524). -/
def State.budget (s : State) (t : Txn) : Verdict :=
  let v := (((s.viewScene t).viewBind.1).viewPayloads).viewBind.1
  let pct := s.get D.admit_ceiling
  let welt := v.overCeiling (v.weltLoad []) pct
  let other := v.etchOver (v.etchLoad fun j => s.etchTwice v t j) pct || v.graverOver pct
  let link := s.changesEgress v t && v.linksOver
  let strong := decide (1 ≤ t.rung) && decide (t.rung ≤ 3)
  if (link && !strong) || ((welt || other) && !(strong || t.allowShed)) then { reason := rsBudget }
  else
    let rp := max t.rung (s.render.shedRung.getD 0)
    let still := welt && v.overCeiling (v.weltLoad (v.shedLoop rp 1024 [])) pct
    { reason := rsNone, sheds := welt, overload := other || still, link := link }

/-- The checks of prepare, and of a participant's vote, in the order of R658; the first that fails
is the reason. `foreign` says that a participant judges, and `lost` that its payload is incomplete. -/
def State.judgeTxn (s : State) (who : Who) (t : Txn) (foreign lost : Bool) : Verdict :=
  let l := if t.kind = 2 then [] else s.itemsHere t
  if !s.writable || !(s.viewEarlier t).eligible who l then { reason := rsNotEligible }
  else if lost || s.handlesGive l rsIncomplete then { reason := rsIncomplete }
  else if s.handlesGive l rsIntegrity then { reason := rsIntegrity }
  else if !s.valid who t foreign then { reason := rsValidation }
  else if s.conflicts t then { reason := rsConflict }
  else s.budget t

/-- The records of an admission that breaks a guarantee (R289, R524). -/
def State.noteBroken (s : State) (v : Verdict) : State :=
  let t := if v.overload then s.error 0x39 0 0x0504 .warn else s
  if v.link then t.error 0x21 0 0x0A06 .warn else t

/-! ### Apply blocks (R203, R210) -/

/-- The media time at which a block starts, in 2⁻³² ns. -/
def State.blockTime (s : State) (k : Nat) : Int := (k * s.blockLen * 1000000000 * 2 ^ 32 / s.fs : Nat)

/-- The first boundary at least txn_lead blocks ahead (R210). -/
def State.leadBlock (s : State) : Nat :=
  let now := s.sampleNow
  let k := now / s.blockLen
  let k := if s.blockTime k < s.media then k + 1 else k
  k + s.get D.txn_lead

/-- The apply block that a request gets, and whether its late policy moved it; none when it is
dropped. -/
def applyAt (kind time late first : Nat) : Option (Nat × Bool) :=
  if kind = 1 && decide (time < first) then (if late = 0 then some (first, true) else none)
  else if kind = 1 then some (time, false)
  else some (first, false)

/-! ### Order keys (R205) -/

/-- Give a transaction the order key of an instant: media time, this node, and the sequence of its
ID. -/
def State.stamp (s : State) (t : Txn) : Txn :=
  { t with orderTime := toNT64 s.media, orderNode := s.fabNode, orderSeq := t.id % 2 ^ 20 }

/-! ### A LOCAL prepare (R202, R203, R221) -/

/-- The outcome of a request on a transaction: the state, and the status of its reply. -/
structure Settled where
  state : State
  status : Nat

/-- Prepare a LOCAL transaction whose fields hold the request: it is committed, or PREPARED, or
aborted. -/
def State.prepareLocal (s : State) (who : Who) (t : Txn) (time : Nat) : Settled :=
  let first := s.nextBlock
  let r := s.judgeTxn who { s.stamp t with applyBlock := if t.kind = 1 then max time first else first } false false
  if r.reason ≠ rsNone then ⟨s.abortTxn t r.reason, scAborted⟩
  else
    match applyAt t.kind time t.late first with
    | none => ⟨s.abortTxn t rsLate, scAborted⟩
    | some (b, moved) =>
      let u : Txn := { s.stamp t with
        st := if t.autoCommit then tsCommitted else tsPrepared, applyBlock := b, sheds := r.sheds, isLate := moved }
      ⟨(s.putTxn u).noteBroken r, if moved then scLate else scOk⟩

/-- TXN_COMMIT of a PREPARED LOCAL transaction (R203). -/
def State.commitLocal (s : State) (t : Txn) : Settled :=
  let first := s.nextBlock
  if first ≤ t.applyBlock && !t.sealed_ then ⟨s.putTxn { s.stamp t with st := tsCommitted }, scOk⟩
  else if t.late = 0 then
    ⟨s.putTxn { s.stamp t with st := tsCommitted, applyBlock := first, sealed_ := false, isLate := true }, scLate⟩
  else ⟨s.abortTxn t rsLate, scAborted⟩

/-- Open a transaction (R200); none when no slot is free. -/
def State.openTxn (s : State) (scope rung : Nat) (owner : Option (Source × Nat)) (role : Role) : Option (State × Txn) :=
  let n := s.newTxnId
  let t : Txn := { id := n.2, scope := scope, rung := rung, owner := owner, role := role }
  (n.1.takeSlot t).map fun u => (u, t)

/-- A LOCAL transaction of the module's own, or of a WRITE_STAGED: opened, filled and committed in
one (R96). It answers the status, the apply block and the reason of R96's reply. -/
def State.commitItems (s : State) (who : Who) (rung : Nat) (l : List Item) : State × Nat × Nat × Nat :=
  match s.openTxn 0 rung (some (who.src, who.session)) who.role with
  | none => (s, scTxnFull, 0, rsTxnFull)
  | some (u, t) =>
    let r := u.prepareLocal who { t with items := l } 0
    match r.state.txnAt t.id with
    | some x => (r.state, r.status, x.applyBlock, rsNone)
    | none =>
      let reason := match r.state.cu.finished.head? with
        | some x => x.reason
        | none => rsNone
      (r.state, r.status, 0, reason)

end Sys2Proof.Machine
end

