-- ==== Sys2Proof/Machine/Reply.lean ====
section
/-! DEFINITION. Replies of MDAP, and the caches that keep them (R82, R92). -/

namespace Sys2Proof.Machine

open Sys2Proof

/-- The session whose cache serves a request; 0 for its source's own. -/
def Req.cacheSession (r : Req) : Nat := if r.isProtected then r.session else 0

def ReplyCache.serves (c : ReplyCache) (r : Req) : Bool :=
  c.session == r.cacheSession && (r.isProtected || c.src == r.src)

/-- The kept reply of a repeated request: one of the same type and ID. -/
def State.keptReply (s : State) (r : Req) (kind : Nat) : Option Kept :=
  match s.mdap.caches.find? fun c => c.serves r with
  | some c => c.replies.find? fun k => k.id == r.id && k.kind == kind
  | none => none

/-- The caches of unprotected network sources; a new source replaces the one least recently heard. -/
def trimCaches (l : List ReplyCache) : List ReplyCache :=
  let net := l.filter fun c => c.session == 0 && c.src != .spi
  let gone := net.drop 16
  l.filter fun c => !gone.contains c

/-- The source of a request has been heard: its cache, if it has one, is the most recent. -/
def State.heard (s : State) (r : Req) : State :=
  let l := (s.mdap.caches.filter fun c => c.serves r) ++ s.mdap.caches.filter fun c => !c.serves r
  { s with mdap := { s.mdap with caches := l } }

/-- Keep a reply. -/
def State.keepReply (s : State) (r : Req) (kind : Nat) (body : List Byte) : State :=
  let old := (s.mdap.caches.find? fun c => c.serves r).getD { src := r.src, session := r.cacheSession, replies := [] }
  let c : ReplyCache := { old with replies := (⟨kind, r.id, body⟩ :: old.replies).take 32 }
  let l := trimCaches (c :: s.mdap.caches.filter fun c => !c.serves r)
  { s with mdap := { s.mdap with caches := l } }

/-- Answer a request of a type with the fields of its reply, the status first; a session that has closed hears
nothing. -/
def State.reply (s : State) (r : Req) (kind : Nat) (fields : List Nat) : State :=
  if r.isProtected && (s.session r.session).isNone then s
  else
    let body := replyBody kind r.id fields
    (s.keepReply r kind body).emit r.src r.cacheSession body

end Sys2Proof.Machine
end

