-- ==== Sys2Proof/Machine/Txn.lean ====
section
/-! DEFINITION. Transactions: the fabric commit at its originator (R202, R210–R213), and the
requests of MDAP on transactions (R201–R203, R221). -/

namespace Sys2Proof.Machine

open Sys2Proof

/-! ### Payload (R199, R201, R218) -/

/-- The payload of a FABRIC transaction: each item with its node before it. -/
def fabPayload (t : Txn) : List Byte := t.items.flatMap fun it => beBytes 2 it.node ++ itemBytes it

/-- Cut bytes into chunks; the fuel is their number. -/
def chunksOf (n : Nat) : Nat → List Byte → List (List Byte)
  | 0, _ => []
  | _ + 1, [] => []
  | k + 1, l => l.take n :: chunksOf n k (l.drop n)

/-- The DATA chunks of a transaction: at most 1344 bytes each. -/
def txnChunks (t : Txn) : List (List Byte) :=
  let p := fabPayload t
  chunksOf 1344 p.length p

/-- Send the chunks from `first` on, `count` of them, to the participants (R218). -/
def State.sendChunks (s : State) (t : Txn) (first count : Nat) : State :=
  let all := txnChunks t
  ((all.zipIdx.drop first).take count).foldl (fun u c =>
    u.sendTxn txData t 0 (dataFields c.2 all.length c.1)) s

/-- PREPARE (R219). -/
def State.sendPrepare (s : State) (t : Txn) : State :=
  let p := fabPayload t
  let m : FabPrepare :=
    { id := t.id, node := s.fabNode, orderTime := t.orderTime, kind := if t.kind = 2 then 2 else 1
      applyBlock := t.applyBlock, show_ := ofSigned 64 t.show_, entry := t.entry, rung := t.rung
      autoCommit := t.autoCommit, allowShed := t.allowShed, late := t.late, chunks := (txnChunks t).length
      length := p.length, digest := beNat (sha256 p), nodes := t.participants }
  s.sendTxn txPrepare t 0 m.fields

/-! ### Replies to TXN_PREPARE (R221) -/

/-- The body of a TXN_PREPARE reply. -/
def prepareBody (t : Txn) (status : Nat) : List Nat := [status, t.st, t.applyBlock, t.reason, t.refusing]

/-- Answer the TXN_PREPARE that waits for a transaction's votes. -/
def State.answerPrepare (s : State) (id : Nat) : State :=
  match s.txnKnown id with
  | none => s
  | some t =>
    match t.waiting with
    | none => s
    | some r =>
      let clear (x : Txn) : Txn := if x.id = id then { x with waiting := none } else x
      let status := if t.st = tsAborted then scAborted else if t.isLate then scLate else scOk
      let u : State := { s with cu := { s.cu with
        slots := s.cu.slots.map clear, finished := s.cu.finished.map clear } }
      u.reply r mtTxnPrepare (prepareBody t status)

/-! ### Decisions (R202, R212, R213) -/

/-- The items that a commit applies on this member, as the partner is told them: an arming as the
fields of its entry (R543). -/
def State.commitsHere (s : State) (t : Txn) : List Item :=
  if t.kind = 2 && !s.takesPart t then []
  else if t.kind = 2 then
    (let item (o : Obj) (v : Nat) : Item := ⟨o.addr t.entry, tyCode o.ty, v, 0⟩
     [item D.act_kind 1, item D.act_timebase 1, item D.act_show (ofSigned 64 t.show_), item D.act_late t.late,
      item D.act_payload (handleOf ((s.itemsHere t).flatMap itemBytes).length ((s.blob D.act_payload t.entry).counter + 1)),
      item D.act_block 0, item D.act_repeat 0, item D.act_arg 0, item D.act_on_skip 0, item D.act_on_back 0,
      item D.act_wake 0])
  else s.itemsHere t

/-- The payload bytes that the partner needs to arm an entry (R543). -/
def State.journalPayload (s : State) (t : Txn) : State :=
  if t.kind = 2 && s.takesPart t then
    s.enter t.applyBlock (.blob (D.act_payload.addr t.entry) ((s.blob D.act_payload t.entry).counter + 1)
      ((s.itemsHere t).flatMap itemBytes)) none
  else s

/-- The commit decision takes effect on this member. -/
def State.decideNow (s : State) (id : Nat) (commit : Bool) (reason : Nat) : State :=
  match s.txnAt id with
  | none => s
  | some t =>
    if !t.originator then s.learn t commit t.applyBlock reason
    else if !commit then (s.abortTxn { t with reason := reason } reason).answerPrepare id
    else
      let late := decide (t.applyBlock < s.nextBlock)
      let u : Txn := { t with
        st := tsCommitted, confirmed := true, sealed_ := false, isLate := t.isLate || late
        applyBlock := if late then s.nextBlock else t.applyBlock }
      ((s.putTxn u).sendDecision u true).answerPrepare id

/-- A decision is taken: with a partner it is journaled first (R213, R543). -/
def State.decideTxn (s : State) (t : Txn) (commit : Bool) (reason : Nat) : State :=
  if s.mirrored then
    (let u := if commit then s.journalPayload t else s
     u.hold t.applyBlock (if commit then .commit (s.commitsHere t) t.shedRung else .values []) (.decision t.id commit reason))
  else s.decideNow t.id commit reason

/-- Every participant has voted. -/
def Txn.votesIn (t : Txn) : Bool := t.participants.all fun n => t.yes.contains n || t.no.contains n

/-- The votes are counted: when all have arrived, or at the vote deadline (R212, R221). -/
def State.tally (s : State) (t : Txn) (deadline : Bool) : State :=
  if t.st ≠ tsPreparing || !(t.votesIn || deadline) then s
  else if !t.no.isEmpty then s.decideTxn t false t.reason
  else
    match t.participants.find? fun n => !t.yes.contains n with
    | some n =>
      let u : Txn := { t with refusing := n }
      (s.putTxn u).decideTxn u false rsMissing
    | none =>
      let u : Txn := { t with st := tsPrepared }
      let v := s.putTxn u
      if t.autoCommit then v.decideTxn u true rsNone else v.answerPrepare t.id

/-! ### A FABRIC prepare at the originator (R202, R210, R221) -/

/-- The members of the fabric: the participants ALL. -/
def State.members (s : State) : List Nat := (s.fabNode :: s.graphNodes).eraseDups

/-- Prepare a FABRIC transaction whose fields hold the request: this member checks what is its own,
and the others are asked. -/
def State.prepareFabric (s : State) (who : Who) (t : Txn) (time : Nat) : State :=
  let mine := t.participants.contains s.fabNode
  let first := s.leadBlock
  let t0 := { s.stamp t with applyBlock := if t.kind = 1 then max time first else first }
  let r := if mine then s.judgeTxn who t0 false false else { reason := if s.writable then rsNone else rsNotEligible }
  let refuse (reason : Nat) : State :=
    (s.finish { t with reason := reason, refusing := s.fabNode } tsAborted reason).answerPrepare t.id
  if r.reason ≠ rsNone then refuse r.reason
  else
    match applyAt t.kind time t.late first with
    | none => refuse rsLate
    | some (b, moved) =>
      let u : Txn := { t0 with
        st := tsPreparing, applyBlock := b, isLate := moved, sheds := r.sheds
        yes := if mine then [s.fabNode] else [] }
      let v := (s.putTxn u).noteBroken r
      let v := (v.sendChunks u 0 (txnChunks u).length).sendPrepare u
      v.tally u false

/-! ### The decision deadline (R210, R212) -/

/-- A decision is sent 400 µs before the boundary at the latest. -/
def State.decisionOpen (s : State) (b : Nat) : Bool := decide (s.media ≤ s.blockTime b - 400000 * ns32)

/-- The first boundary whose decision deadline follows. -/
def State.decisionBlock (s : State) : Nat :=
  let k := s.sampleNow / s.blockLen + 1
  if s.decisionOpen k then k else if s.decisionOpen (k + 1) then k + 1 else k + 2

/-- TXN_COMMIT of a PREPARED FABRIC transaction (R212): the state, and the status of the reply. -/
def State.commitFabric (s : State) (t : Txn) : Settled :=
  if s.decisionOpen t.applyBlock then ⟨s.decideTxn t true rsNone, scOk⟩
  else if t.late = 0 then
    (let u : Txn := { t with applyBlock := s.decisionBlock, isLate := true }
     ⟨(s.putTxn u).decideTxn u true rsNone, scLate⟩)
  else ⟨s.decideTxn t false rsLate, scAborted⟩

/-! ### The requests (R201, R221) -/

/-- The transaction that a request of its session names: a status when it may not. -/
def State.ownTxn (s : State) (who : Who) (id : Nat) : Nat × Option Txn :=
  match s.txnKnown id with
  | none => (scNoObject, none)
  | some t => if t.owner = some (who.src, who.session) then (scOk, some t) else (scAccess, none)

/-- TXN_OPEN. A refused reply has its field at 0 (log entry 42). -/
def State.doTxnOpen (s : State) (who : Who) (scope rung : Nat) : State × List Nat :=
  if who.role.rank < Role.opr.rank then (s, [scRole, 0])
  else if 1 < scope || rung = 0 || 7 < rung then (s, [scRange, 0])
  else if !s.writable then (s, [scNotEligible, 0])
  else
    match s.openTxn scope rung (some (who.src, who.session)) who.role with
    | none => (s, [scTxnFull, 0])
    | some (u, t) => (u, [scOk, t.id])

/-- The status of an item of TXN_ADD: a FABRIC item for another node is checked there (R201). -/
def State.checkAdd (s : State) (who : Who) (t : Txn) (it : Item) : Nat :=
  if t.scope = 1 && it.node ≠ 0 && it.node ≠ s.fabNode then
    (match s.object it.addr with
     | some (o, _, _) => if o.ty = .blob then scAccess else scOk
     | none => if it.ty = tyCode .blob then scAccess else scOk)
  else
    let c := s.checkStaged who (t.scope == 1) it
    if c ≠ scOk then c else s.transportStatus it

/-- The items a transaction holds: of those that write one object of one node twice, the later
(R201). Commands are kept in their places. -/
def lastNodeItems (command : Item → Bool) : List Item → List Item
  | [] => []
  | it :: l =>
    let rest := lastNodeItems command l
    if !command it && rest.any (fun x => x.addr == it.addr && x.node == it.node) then rest else it :: rest

/-- TXN_ADD. A refused reply carries the counts the transaction keeps, and the failing position. -/
def State.doTxnAdd (s : State) (who : Who) (id : Nat) (items : List Item) : State × List Nat :=
  match s.ownTxn who id with
  | (c, none) => (s, [c, 0, 0, 0])
  | (_, some t) =>
    let refuse (c n : Nat) : State × List Nat := (s, [c, t.items.length, itemsSize (t.scope == 1) t.items, n])
    if items.isEmpty || 64 < items.length then refuse scRange 0
    else if t.st ≠ tsOpen || !s.writable then refuse scNotEligible 0
    else
      match firstFailure (s.checkAdd who t) items 0 with
      | some (c, n) => refuse c n
      | none =>
        let all := lastNodeItems isCommand (t.items ++ items)
        let bytes := itemsSize (t.scope == 1) all
        if 4096 < all.length || 65536 < bytes then refuse scTxnFull 0
        else (s.putTxn { t with items := all }, [scOk, all.length, bytes])

/-- TXN_PREPARE: the body of its reply, or none while the votes are awaited. -/
def State.doTxnPrepare (s : State) (r : Req) (who : Who) (p : PrepareArgs) : State × Option (List Nat) :=
  match s.ownTxn who p.id with
  | (c, none) => (s, some [c, 0, 0, 0, 0])
  | (_, some t) =>
    if 2 < p.kind || 1 < p.late || (p.kind = 2 && decide (1023 < p.entry)) then (s, some (prepareBody t scRange))
    else if t.st ≠ tsOpen || !s.writable then (s, some (prepareBody t scNotEligible))
    else
      let t1 : Txn := { t with
        kind := p.kind, show_ := if p.kind = 2 then toSigned 64 p.time else 0, entry := p.entry
        late := p.late, autoCommit := p.autoCommit, allowShed := p.allowShed }
      if t.scope = 0 then
        (let out := s.prepareLocal who t1 p.time
         match out.state.txnKnown p.id with
         | some x =>
           let x := if x.st = tsAborted then { x with refusing := s.fabNode, applyBlock := 0 } else x
           (out.state, some (prepareBody x out.status))
         | none => (out.state, some [scInternal, 0, 0, 0, 0]))
      else
        let parts := match p.nodes with
          | none => s.members
          | some l => l
        let t2 : Txn := { t1 with participants := parts, waiting := some r }
        ((s.putTxn t2).prepareFabric who t2 p.time, none)

/-- TXN_COMMIT. -/
def State.doTxnCommit (s : State) (who : Who) (id : Nat) : State × List Nat :=
  match s.ownTxn who id with
  | (c, none) => (s, [c, 0])
  | (_, some t) =>
    if !s.writable || t.st = tsOpen || t.st = tsPreparing then (s, [scNotEligible, t.applyBlock])
    else if t.st = tsAborted then (s, [scAborted, t.applyBlock])
    else if t.st = tsInDoubt then (s, [scInDoubt, t.applyBlock])
    else if t.st ≠ tsPrepared then (s, [scOk, t.applyBlock])
    else
      let out := if t.scope = 0 then s.commitLocal t else s.commitFabric t
      if out.status = scAborted then (out.state, [scAborted, t.applyBlock])
      else
        match out.state.txnKnown id with
        | some x => (out.state, [out.status, x.applyBlock])
        | none => (out.state, [scInternal, 0])

/-- TXN_ABORT. -/
def State.doTxnAbort (s : State) (who : Who) (id : Nat) : State × List Nat :=
  match s.ownTxn who id with
  | (c, none) => (s, [c])
  | (_, some t) =>
    if !s.writable || (t.st ≠ tsOpen && t.st ≠ tsPrepared) then (s, [scNotEligible])
    else if t.scope = 1 then (s.decideTxn t false rsUserAbort, [scOk])
    else (s.abortTxn t rsUserAbort, [scOk])

/-- TXN_STATUS. -/
def State.doTxnStatus (s : State) (who : Who) (id : Nat) : State × List Nat :=
  if who.role.rank < Role.obs.rank then (s, [scRole])
  else
    match s.txnKnown id with
    | none => (s, [scNoObject])
    | some t =>
      if !s.writable then (s, [scNotEligible]) else
      let missing := (t.participants.filter fun n => !t.yes.contains n && !t.no.contains n).length
      (s, [scOk, t.st, t.scope, t.applyBlock, t.items.length, itemsSize (t.scope == 1) t.items,
        t.yes.length, t.no.length, missing, t.membersLate, t.reason, t.refusing])

/-! ### Transactions of the module's own (R188, R254, R392) -/

/-- Open, fill and prepare a transaction of the module's own; a FABRIC one goes to every member with
late policy APPLY_NEXT. It answers its ID, or none when no slot is free. -/
def State.originate (s : State) (rung scope : Nat) (l : List Item) : State × Option Nat :=
  match s.openTxn scope rung none .own with
  | none => (s, none)
  | some (u, t) =>
    if scope = 0 then ((u.prepareLocal ownWho { t with items := l } 0).state, some t.id)
    else
      let t1 : Txn := { t with items := l, participants := s.members }
      ((u.putTxn t1).prepareFabric ownWho t1 0, some t.id)

end Sys2Proof.Machine
end

