-- ==== Sys2Proof/Machine/FabTxn.lean ====
section
/-! DEFINITION. The fabric commit at a participant, the messages of R218, and the timers of
transactions (R202, R203, R210–R217). -/

namespace Sys2Proof.Machine

open Sys2Proof Host

/-! ### Frames (R218, R519) -/

/-- Elimination of a TXN frame, by its originating node (R519); the counters of R527 are those of contexts. -/
def State.eliminateTxn (s : State) (f : FabFrame) : State × Bool :=
  let r := s.eliminate (512 + f.source % 4096) f.sequence f.treeB
  ({ r.1 with dict := s.dict }, r.2)

/-- A TXN frame with a message: its format, its trailer and its parent port are checked, and it goes on (R500, R501,
R514, R515); it is taken where it is for this node, the unit acts for the node, the message has the version of R218, and
elimination accepts it. DEDUCED (log entry 117): a message of another version is not taken. -/
def State.txnFrame (s : State) (f : TxnIn) (code id : Nat) (fields : List Byte) : State × Bool :=
  let body := txnMessage code f.version id f.node fields
  let r := s.linkFrame f.port.val ftTxn f.frame body
  if !s.fabPort f.port.val then (s, false)
  else if !r.2 then (r.1, false)
  else
    match r.1.cameBy f.port.val f.frame with
    | none => (r.1.count D.fab_rpf_drops, false)
    | some t =>
      let u := r.1.passOn t f.frame body
      if (f.frame.forEvery || f.frame.forNode == s.fabNode) && s.originates && f.version == 1 then
        u.eliminateTxn f.frame
      else (u, false)

/-! ### Payload at a participant (R211, R218) -/

/-- Insert a chunk by rising index; one that has arrived stays. -/
def putChunk (n : Nat) (d : List Byte) : List (Nat × List Byte) → List (Nat × List Byte)
  | [] => [(n, d)]
  | c :: l => if c.1 = n then c :: l else if n < c.1 then (n, d) :: c :: l else c :: putChunk n d l

/-- The first missing chunk of a participant's payload. -/
def Txn.missing (t : Txn) : Option Nat :=
  (List.range t.chunkCount).find? fun n => !(t.chunks.any fun c => c.1 == n)

/-- The items that the bytes of a FABRIC payload spell; the fuel is their number. -/
def parseFab : Nat → List Byte → Option (List Item)
  | _, [] => some []
  | 0, _ => none
  | n + 1, l =>
    if l.length < 2 then none
    else
      match parseItem (l.drop 2) with
      | none => none
      | some p => (parseFab n p.2).map fun r => { p.1 with node := beNat (l.take 2) } :: r

/-- The payload of a participant as its chunks join it. -/
def Txn.payloadIn (t : Txn) : List Byte := t.chunks.flatMap fun c => c.2

/-- The payload has its length and its digest. -/
def Txn.payloadGood (t : Txn) : Bool :=
  let p := t.payloadIn
  p.length == t.payloadLength && beNat (sha256 p) == t.digest

/-! ### Votes (R211, R543) -/

/-- The vote of a transaction that this member has judged leaves. -/
def State.sendVote (s : State) (id : Nat) : State :=
  match s.txnKnown id with
  | none => s
  | some t => s.sendTxn txVote t t.origin (voteFields (t.st != tsAborted) t.reason)

/-- A vote leaves, once the partner holds it (R543). -/
def State.castVote (s : State) (t : Txn) : State :=
  if s.mirrored then s.hold t.applyBlock (.values []) (.vote t.id) else s.sendVote t.id

/-- Vote NO: the transaction ends here. -/
def State.voteNo (s : State) (t : Txn) (reason : Nat) : State :=
  let u : Txn := { t with reason := reason }
  (s.finish u tsAborted reason).castVote u

/-- A vote can still leave 800 µs before the apply boundary. -/
def State.voteOpen (s : State) (b : Nat) : Bool := decide (s.media ≤ s.blockTime b - 800000 * ns32)

/-- The whole payload is there: check, reserve and vote (R211, R658). -/
def State.voteNow (s : State) (t : Txn) : State :=
  if !s.voteOpen t.applyBlock then s.voteNo t rsLate
  else if !s.writable then s.voteNo t rsNotEligible
  else
    match parseFab t.payloadLength t.payloadIn with
    | none => s.voteNo t (if t.payloadGood then rsValidation else rsIncomplete)
    | some l =>
      let u : Txn := { t with items := l }
      let r := s.judgeTxn ownWho u true (!t.payloadGood)
      if r.reason ≠ rsNone then s.voteNo u r.reason
      else
        let v : Txn := { u with st := tsPrepared, sheds := r.sheds }
        ((s.putTxn v).noteBroken r).castVote v

/-- Vote when every chunk is there or no vote can leave in time, else ask for the missing chunks (R211). -/
def State.voteOrAsk (s : State) (t : Txn) : State :=
  match t.missing with
  | none => s.voteNow t
  | some n =>
    if !s.voteOpen t.applyBlock then s.voteNo t rsLate
    else
      let count := ((List.range t.chunkCount).filter fun k => !(t.chunks.any fun c => c.1 == k)).length
      s.sendTxn txNack t t.origin (nackFields n count)

/-- The votes of a participant that still lacks chunks at the last boundary before no vote can leave: NO with INCOMPLETE
(R211). DESIGN CHOICE (log entry 83): the spec names no instant for this vote. -/
def State.votesDue (s : State) (k : Nat) : State :=
  let due := s.cu.slots.filter fun t =>
    !t.originator && t.st == tsPreparing && t.missing.isSome && decide (t.applyBlock ≤ k + 3)
  due.foldl (fun u t => u.voteNo t (if u.voteOpen t.applyBlock then rsIncomplete else rsLate)) s

/-! ### The messages (R218, R219) -/

/-- FAB_TXN_DATA: a chunk of a payload (R211, R218). -/
def execFabTxnData (f : TxnIn) (id index count : Nat) (data : List (BitVec 8)) (s : State) : Outcome State Fault Refusal :=
  let a := s.txnFrame f txData id (dataFields index count data)
  if !a.2 then .next a.1
  else
    match a.1.txnAt id with
    | some t =>
      if t.originator || t.st ≠ tsPreparing then .next a.1
      else
        let u : Txn := { t with chunks := putChunk index data t.chunks }
        .next (if u.missing.isNone then (a.1.putTxn u).voteNow u else a.1.putTxn u)
    | none =>
      if (a.1.txnKnown id).isSome then .next a.1
      else .next { a.1 with cu := { a.1.cu with data := a.1.cu.data ++ [(id, index, count, data)] } }

/-- FAB_TXN_PREPARE: a participant takes a slot, checks, reserves and votes (R202, R211). -/
def execFabTxnPrepare (f : TxnIn) (p : FabPrepare) (s : State) : Outcome State Fault Refusal :=
  let a := s.txnFrame f txPrepare p.id p.fields
  if !a.2 || !p.nodes.contains a.1.fabNode || (a.1.txnKnown p.id).isSome then .next a.1
  else
    let got := a.1.cu.data.filter fun c => c.1 == p.id
    let rest := a.1.cu.data.filter fun c => c.1 != p.id
    let u : State := { a.1 with cu := { a.1.cu with data := rest } }
    let t : Txn :=
      { id := p.id, scope := 1, rung := p.rung, st := tsPreparing
        kind := if p.kind = 2 then 2 else 1, show_ := toSigned 64 p.show_, entry := p.entry
        applyBlock := p.applyBlock, late := p.late, autoCommit := p.autoCommit, allowShed := p.allowShed
        orderTime := p.orderTime, orderNode := p.node, orderSeq := p.id % 2 ^ 20
        originator := false, participants := p.nodes, origin := p.node
        chunks := got.foldl (fun l c => putChunk c.2.1 c.2.2.2 l) []
        chunkCount := p.chunks, payloadLength := p.length, digest := p.digest }
    match u.takeSlot t with
    | none => .next (u.voteNo t (if u.voteOpen t.applyBlock then rsTxnFull else rsLate))
    | some v => .next (v.voteOrAsk t)

/-- FAB_TXN_VOTE: the originator receives a vote (R212). -/
def execFabTxnVote (f : TxnIn) (id : Nat) (yes : Bool) (reason : Nat) (s : State) : Outcome State Fault Refusal :=
  let a := s.txnFrame f txVote id (voteFields yes reason)
  if !a.2 then .next a.1
  else
    match a.1.txnAt id with
    | none => .next a.1
    | some t =>
      if !t.originator || t.st ≠ tsPreparing || t.yes.contains f.node || t.no.contains f.node then .next a.1
      else
        let u : Txn :=
          if yes then { t with yes := t.yes ++ [f.node] }
          else if t.no.isEmpty then { t with no := [f.node], reason := reason, refusing := f.node }
          else { t with no := t.no ++ [f.node] }
        .next ((a.1.putTxn u).tally u false)

/-- FAB_TXN_NACK: the originator sends the missing chunks again, on both multicast trees (R211, R218). -/
def execFabTxnNack (f : TxnIn) (id first count : Nat) (s : State) : Outcome State Fault Refusal :=
  let a := s.txnFrame f txNack id (nackFields first count)
  if !a.2 then .next a.1
  else
    match a.1.txnAt id with
    | none => .next a.1
    | some t => .next (if t.originator then a.1.sendChunks t first count else a.1)

/-- A participant learns the decision; with a partner it is journaled first (R202, R543). -/
def State.told (s : State) (t : Txn) (commit : Bool) (block reason : Nat) : State :=
  let u : Txn := { t with
    applyBlock := if commit then block else t.applyBlock, moved := t.moved || (commit && decide (t.applyBlock < block)) }
  (s.putTxn u).decideTxn u commit reason

/-- A participant without a decision. -/
def Txn.undecided (t : Txn) : Bool := !t.originator && (t.st == tsPrepared || t.st == tsInDoubt)

/-- FAB_TXN_DECISION: a participant commits or aborts (R202, R214). -/
def execFabTxnDecision (f : TxnIn) (id : Nat) (commit : Bool) (block : Nat) (s : State) : Outcome State Fault Refusal :=
  let a := s.txnFrame f txDecision id (decisionFields commit block)
  if !a.2 then .next a.1
  else
    match a.1.txnAt id with
    | none => .next { a.1 with cu := { a.1.cu with data := a.1.cu.data.filter fun c => c.1 != id } }
    | some t =>
      if t.undecided then .next (a.1.told t commit block rsNone)
      else if !t.originator && t.st = tsPreparing && !commit then .next (a.1.finish t tsAborted rsNone)
      else .next a.1

/-- What a member answers to a QUERY: COMMIT 1, ABORT 2, PENDING 3, UNKNOWN 4, VOTED_YES 5,
NOT_VOTED_YES 6, and the apply block (R215). -/
def State.outcomeOf (s : State) (id : Nat) : Nat × Nat :=
  match s.txnKnown id with
  | none => (4, 0)
  | some t =>
    if t.st = tsCommitted || t.st = tsApplied || t.st = tsAppliedLate then (1, t.applyBlock)
    else if t.originator then (if t.st = tsAborted then (2, 0) else (3, t.applyBlock))
    else if t.undecided then (5, t.applyBlock)
    else if t.st = tsAborted && t.reason = rsNone || t.reason = rsResolved then (2, 0)
    else (6, 0)

/-- The OUTCOME that answers the QUERY of a node. -/
def State.sendOutcome (s : State) (id node : Nat) : State :=
  let o := s.outcomeOf id
  let t := (s.txnKnown id).getD { id := id }
  s.sendTxn txOutcome t node (outcomeFields o.1 o.2)

/-- FAB_TXN_QUERY: a member answers with an OUTCOME, once the partner holds it (R215, R543). -/
def execFabTxnQuery (f : TxnIn) (id : Nat) (s : State) : Outcome State Fault Refusal :=
  let a := s.txnFrame f txQuery id []
  if !a.2 then .next a.1
  else if a.1.mirrored then .next (a.1.hold a.1.blockNow (.values []) (.outcome id f.node))
  else .next (a.1.sendOutcome id f.node)

/-- FAB_TXN_OUTCOME: a participant without a decision settles, or stays as it is (R215). -/
def execFabTxnOutcome (f : TxnIn) (id outcome block : Nat) (s : State) : Outcome State Fault Refusal :=
  let a := s.txnFrame f txOutcome id (outcomeFields outcome block)
  if !a.2 then .next a.1
  else
    match a.1.txnAt id with
    | none => .next a.1
    | some t =>
      if !t.undecided then .next a.1
      else if outcome = 1 then .next (a.1.told t true block rsNone)
      else if outcome = 2 || outcome = 6 then .next (a.1.told t false block rsNone)
      else .next a.1

/-- FAB_TXN_ACK: the originator notes the applied block and the late flag (R210, R221). -/
def execFabTxnAck (f : TxnIn) (id : Nat) (x : TxnAck) (s : State) : Outcome State Fault Refusal :=
  let a := s.txnFrame f txAck id x.fields
  if !a.2 then .next a.1
  else
    let note (t : Txn) : Txn :=
      if t.id = id && t.originator && !t.acked.contains f.node then
        { t with
          acked := t.acked ++ [f.node], applied := t.applied ++ [(f.node, x.applied)]
          membersLate := t.membersLate + if x.late then 1 else 0 }
      else t
    .next { a.1 with cu := { a.1.cu with slots := a.1.cu.slots.map note, finished := a.1.cu.finished.map note } }

/-! ### Timers -/

/-- VOTE_DEADLINE: 450 µs before the apply boundary the originator decides (R212). -/
def execVoteDeadline (id : Nat) (s : State) : Outcome State Fault Refusal :=
  match s.txnAt id with
  | none => .next s
  | some t => .next (if t.originator then s.tally t true else s)

/-- TXN_COMMIT_WAIT_EXPIRE: no TXN_COMMIT came within txn_commit_wait after the decision deadline
(R203, R212). -/
def execTxnCommitWaitExpire (id : Nat) (s : State) : Outcome State Fault Refusal :=
  match s.txnAt id with
  | none => .next s
  | some t =>
    if !t.originator || t.st ≠ tsPrepared || t.autoCommit then .next s
    else if t.scope = 0 then .next (s.abortTxn t rsNoCommit)
    else .next (s.decideTxn t false rsNoCommit)

/-- QUERY_TIMER: a participant without a decision asks the originator from B − 100 µs on, and from
10 ms after the seal every participant (R215). -/
def execQueryTimer (id : Nat) (s : State) : Outcome State Fault Refusal :=
  match s.txnAt id with
  | none => .next s
  | some t =>
    if !t.undecided then .next s
    else
      let u := s.sendTxn txQuery t t.origin []
      if s.media < s.blockTime t.applyBlock - 20000 * ns32 + 10000000 * ns32 then .next u
      else
        let others := t.participants.filter fun n => n != s.fabNode && n != t.origin
        .next (others.foldl (fun u n => u.sendTxn txQuery t n []) u)

/-- TXN_INDOUBT_ALARM: txn_indoubt_alarm has elapsed in IN_DOUBT (R215). -/
def execTxnIndoubtAlarm (id : Nat) (s : State) : Outcome State Fault Refusal :=
  match s.txnAt id with
  | none => .next s
  | some t => .next (if t.st = tsInDoubt then s.error 0x19 0 0x0402 .degraded else s)

/-- TXN_OUTCOME_EXPIRE: txn_outcome_keep has elapsed; the record is discarded (R213, R221). -/
def execTxnOutcomeExpire (id : Nat) (s : State) : Outcome State Fault Refusal :=
  .next { s with cu := { s.cu with finished := s.cu.finished.filter fun t => t.id != id } }

/-! ### Applying (R209, R214) -/

/-- The ACK of a participant that has applied a transaction (R210). -/
def State.sendAck (s : State) (id : Nat) : State :=
  match s.txnKnown id with
  | none => s
  | some t => s.sendTxn txAck t t.origin (TxnAck.fields ⟨t.appliedBlock, t.st == tsAppliedLate⟩)

/-- A participant acknowledges, once the partner holds it; the originator notes its own (R210,
R543). -/
def State.acknowledge (s : State) (id : Nat) : State :=
  match s.txnKnown id with
  | none => s
  | some t =>
    if t.scope = 0 then s
    else if t.originator then
      (if t.participants.contains s.fabNode then
        (let note (x : Txn) : Txn :=
          if x.id = id then
            { x with acked := x.acked ++ [s.fabNode], membersLate := x.membersLate + if x.st = tsAppliedLate then 1 else 0 }
          else x
         { s with cu := { s.cu with finished := s.cu.finished.map note } })
       else s)
    else if s.mirrored then s.hold t.applyBlock (.values []) (.ack id)
    else s.sendAck id

/-- The outputs of an area 38, 40, 41, 53 or 60 index, and those in a zone (R214). -/
def State.touchesOutput (s : State) (a j : Nat) : Bool :=
  let area := a / 2 ^ 24
  let index := a / 256 % 65536
  if area = 0x50 then decide (index < 256) && s.inZone j index
  else ([0x38, 0x40, 0x41, 0x53, 0x60].contains area) && index == j

/-- The objects that an address touches (R214). -/
def State.touchesObject (s : State) (a i : Nat) : Bool :=
  let area := a / 2 ^ 24
  let index := a / 256 % 65536
  if area = 0x30 then index == i
  else if area = 0x50 then index == 0x1000 + i
  else if area = 0x31 then
    (match s.objTraj i with
     | none => false
     | some t => if index < 0x4000 then s.get D.kf_traj index == t else index == 0x8000 + t)
  else false

/-- The channels that a late transaction touched carry LATE in the block (R214). -/
def State.markLate (s : State) (addrs : List Nat) : State :=
  let objs := s.liveObjects.filter fun i => addrs.any fun a => s.touchesObject a i
  let outs := s.liveOutputs.filter fun j => addrs.any fun a => s.touchesOutput a j
  { s with render := { s.render with
    lateObjs := (objs ++ s.render.lateObjs).eraseDups, lateOuts := (outs ++ s.render.lateOuts).eraseDups } }

/-- A transaction applies at boundary `k` (R202, R205, R209); `skipped` says that its own boundary was
passed over. What it touches before or after it applies carries LATE when it applies later than scheduled (R12, R214). -/
def State.applyTxn (s : State) (k : Nat) (t : Txn) (skipped : Bool) : State :=
  let late := t.isLate && t.scope = 1 && !t.originator || skipped
  let addrs := s.txnAddrs t
  let marks (v : State) : State := if late || t.isLate || t.moved then v.markLate addrs else v
  let u := if t.kind = 2 then (marks s).arm t else marks ((marks s).applyItems k (s.itemsHere t))
  let u := if t.sheds then u.shedFor t.rung addrs else u
  let u := if late then u.error 0x19 0 0x0401 .warn else u
  (u.finish { t with appliedBlock := k } (if late then tsAppliedLate else tsApplied) t.reason).acknowledge t.id

end Sys2Proof.Machine
end

