-- ==== Sys2Proof/Machine/Views.lean ====
section
/-! DEFINITION. What a READ returns: the stored value of an object, or the value that its rule
computes from the state (R59, R122, R655, R659). -/

namespace Sys2Proof.Machine

open Sys2Proof

/-- The objects that show a measurement or a count which the model leaves free (log entry 1). -/
def freeObjects : List Obj := [D.sp_frame_rate]

/-- The running slot. -/
def State.fwSlot (s : State) : Nat := s.get D.fw_running

/-- Area 00 (R122); a recovery image differs in three ways. -/
def State.viewIdentity (s : State) (o : Obj) : Option Nat :=
  let rec_ := s.power.phase == .recovery
  let b := o.base
  if b = D.id_fw_version.base then some (if rec_ then Config.unitValue 0x6 % 2 ^ 32 else s.get D.fw_version s.fwSlot)
  else if b = D.id_fw_mode.base then
    some (if rec_ then 2 else if s.get D.fw_slot_state s.fwSlot = 4 then 1 else 0)
  else if b = D.id_mac_base.base then some (s.get D.port_mac 0)
  else if b = D.id_dev_fp_hi.base then some (s.get D.dev_fp_hi)
  else if b = D.id_dev_fp_lo.base then some (s.get D.dev_fp_lo)
  else if b = D.id_owner_state.base then some (s.get D.owner_state)
  else if b = D.id_node_addr.base then some (if rec_ then 0 else s.fabNode)
  else if b = D.id_twin_slot.base then some (s.get D.twin_slot)
  else if b = D.id_twin_role.base then some (if rec_ then 0 else s.role)
  else if b = D.id_render_rate.base then some (if rec_ then 0 else s.get D.render_rate)
  else if b = D.id_uptime.base then some ((s.time.local_ - s.time.released) / (1000000000 * ns32)).toNat
  else none

/-- The bytes of the persistent image as it stands, with the changes that wait for NAND (R75, R79). -/
def State.imageNow (s : State) : List Byte :=
  let blobs := s.nand.journal.foldl Change.into s.nand.imageBlobs
  Config.imageBytes (s.nand.journal.foldl (fun m e => put m e.addr e.val) s.nand.image)
    (blobs.map fun b => (b.addr, b.data))

/-- Areas 01, 08, 10 and 18: sessions, persistence and the times (R74–R78, R123, R125, R150, R183, R190). -/
def State.viewCore (s : State) (who : Who) (o : Obj) (i : Nat) : Option Nat :=
  let b := o.base
  if b = D.sessions_open.base then some s.mdap.sessions.length
  else if b = D.own_session_id.base then some who.session
  else if b = D.own_role.base then some who.role.rank
  else if b = D.persist_state.base then some (if s.nand.fault then 3 else if s.nand.journal.isEmpty then 0 else 1)
  else if b = D.persist_image.base then some (handleOf s.imageNow.length (s.nand.imageGen % 2 ^ 32))
  else if b = D.persist_rate.base then some (s.persistBytes / 24)
  else if b = D.aod_time.base then some s.aodTime
  else if b = D.local_time.base then some (toT80 s.time.local_)
  else if b = D.dom_time.base then some (toT80 (s.domainTime i))
  else if b = D.media_time.base then some (toT80 s.media)
  else if b = D.media_bridge.base then some (ofSigned 32 (s.bridgeNow / ns32))
  else if b = D.media_sample.base then some s.sampleNow
  else if b = D.media_block.base then some s.blockNow
  else if b = D.show_state.base then some (if s.showRuns then 1 else 0)
  else if b = D.show_time.base then some (ofSigned 64 (s.showTime s.blockNow))
  else if b = D.show_rate_now.base then some (s.get D.show_map_rate)
  else none

/-- The transaction of a slot (R199). -/
def State.slotTxn (s : State) (n : Nat) : Option Txn := s.cu.slots.find? fun t => t.slot == n

/-- Area 19 (R222). -/
def State.viewTxns (s : State) (o : Obj) (i : Nat) : Option Nat :=
  let b := o.base
  let f (g : Txn → Nat) : Option Nat := some (match s.slotTxn i with
    | some t => g t
    | none => 0)
  if b = D.txn_open.base then some s.cu.slots.length
  else if b = D.txn_in_doubt.base then some (s.cu.slots.filter fun t => t.st == tsInDoubt).length
  else if b = D.pres_latency.base then
    some (F32.ofQuot ((s.presOffset * s.blockLen * 1000000 : Nat) : Int) s.fs).toNat
  else if b = D.slot_txn_id.base then f fun t => t.id
  else if b = D.slot_state.base then f fun t => t.st
  else if b = D.slot_scope.base then f fun t => t.scope
  else if b = D.slot_apply_block.base then f fun t => t.applyBlock
  else if b = D.slot_reason.base then f fun t => t.reason
  else none

/-- A vertex of a triangle of tri_vertices: 16 bits each. -/
def State.triWord (s : State) (n : Nat) : Nat :=
  match s.render.tri.triangles[n]? with
  | some t => t.a * 2 ^ 32 + t.b * 2 ^ 16 + t.c
  | none => 2 ^ 64 - 1

/-- The outputs that a shed object is not rendered to count no pair. -/
def State.shedSet (s : State) : List Nat := s.render.shed.map fun x => x.obj

/-- The Etcher load now (R314). -/
def State.etchUtil (s : State) : F32 :=
  let load := s.etchLoad fun j => s.get D.etch_pending_state j == 5 || s.shadowHeld (D.etch_taps.addr j)
  F32.ofQuot ((load * 100 : Nat) : Int) (960 * s.budgetScale)

/-- The Etcher's DRAM traffic of a block in 2⁻¹³ bytes: for each sample of an output 8 bytes of its bulk line, and
40 × (B + 1) / B for each of the stages F3–F9 that it runs (R307). -/
def State.etcherBytes (s : State) : Nat :=
  let dram := (stages (logL s.blockLen)).drop 2
  let total := s.liveOutputs.foldl (fun n j =>
    (dram.filter fun g => decide (g.t0 < s.get D.etch_max_taps j)).foldl
      (fun n g => n + 40 * (2 ^ g.lgB + 1) * 2 ^ (13 - g.lgB)) (n + 8 * 2 ^ 13)) 0
  if s.get D.pw_state = 0 && s.get D.runState12 = 2 then total * s.blockLen else 0

/-- The first blocks of a list of runs. -/
def firstRuns : Nat → List (Nat × Nat) → List (Nat × Nat)
  | _, [] => []
  | n, e :: l => if n ≤ e.2 then [(e.1, n)] else e :: firstRuns (n - e.2) l

/-- Note the traffic of a block; a second has 3000 blocks at either rate. -/
def State.noteTraffic (s : State) : State :=
  let b := s.etcherBytes
  let l := match s.render.traffic with
    | (v, n) :: l => if v = b then (v, n + 1) :: l else (b, 1) :: (v, n) :: l
    | [] => [(b, 1)]
  { s with render := { s.render with traffic := firstRuns 3000 l } }

/-- etcher_dram: the traffic of the last second in GB/s (R331). -/
def State.etcherDram (s : State) : F32 :=
  F32.ofQuot ((s.render.traffic.foldl (fun a e => a + e.1 * e.2) 0 : Nat) : Int) (2 ^ 13 * 1000000000)

/-- Areas 30, 31, 38, 39 and 41 (R248, R257, R290, R332). -/
def State.viewScene_ (s : State) (o : Obj) (i : Nat) : Option Nat :=
  let b := o.base
  if b = D.traj_kf_count.base then some (s.keyframes i).length
  else if b = D.traj_state.base then some (s.trajState i)
  else if b = D.kf_free.base then some (16384 - (s.instancesWhere D.kf_traj (· != 0xFFFF)).length)
  else if b = D.lst_status.base then some (s.outStatus i)
  else if b = D.lst_tri_count.base then
    some (s.render.tri.triangles.filter fun t => t.a == i || t.b == i || t.c == i).length
  else if b = D.tri_state.base then some s.render.tri.state
  else if b = D.tri_count.base then some s.render.tri.triangles.length
  else if b = D.tri_gaps.base then some s.render.tri.gaps
  else if b = D.tri_vertices.base then some (s.triWord i)
  else if b = D.welt_util.base then some (s.weltPercent (s.weltLoad s.shedSet)).toNat
  else if b = D.welt_util_unshed.base then some (s.weltPercent (s.weltLoad [])).toNat
  else if b = D.tile_util.base then some (s.weltPercent (s.tileLoad s.shedSet i)).toNat
  else if b = D.tile_objects.base then some (s.liveObjects.filter fun n => n % 16 == i).length
  else if b = D.etcher_util.base then some s.etchUtil.toNat
  else if b = D.etcher_dram.base then some s.etcherDram.toNat
  else none

/-- Areas 58 and 59 (R378–R380). -/
def State.viewGraver (s : State) (o : Obj) (i : Nat) : Option Nat :=
  let b := o.base
  let img := (s.blob D.img_blob i).data
  if b = D.img_entries.base then some (if img.isEmpty then 0 else imgEntryCount img)
  else if b = D.img_bundles.base then some (if img.isEmpty then 0 else imgBundleCount img)
  else if b = D.img_users.base then
    some ((s.instancesWhere D.node_kind (· == 1)).filter fun n => s.get D.node_image n == i).length
  else if b = D.node_bound_core.base then
    some (if vendorNode i then (if i ≤ 0xF15 then vendorCore i else 0xFF)
      else match s.nodeNow i with
        | some x => x.core
        | none => 0xFF)
  else if b = D.core_load.base then some (fracPercent (s.coreLoad i)).toNat
  else if b = D.core_rt0.base then some (fracPercent (s.coreRt0 i)).toNat
  else if b = D.core_pm_free.base then some (8 * (4096 - s.coreBundles i))
  else if b = D.graver_util.base then some (fracPercent s.graverLoad).toNat
  else none

/-- A port wakes from DORMANT: OFF 0, ARMED 1, UNAVAILABLE 2 (R476). -/
def State.wakeState (s : State) (p : Nat) : Nat :=
  let on := if p = 6 then s.getB D.wake_enable_mgt else s.getB D.wake_enable
  if s.power.phase != .dormant || !on then 0 else if s.get D.port_speed p = 0 then 2 else 1

/-- Areas 22, 28, 48, 4A, 4B, 50 and 52 (R397, R407, R447, R454, R476). -/
def State.viewUnits (s : State) (o : Obj) (i : Nat) : Option Nat :=
  let b := o.base
  if b = D.zn_owner.base then some (s.zoneOwner i)
  else if b = D.arb_state.base then some (s.arbState i)
  else if b = D.clip_digest.base then some (beNat ((sha256 (s.blob D.clip_blob i).data).take 8))
  else if b = D.clip_store_free.base then some (402653184 - s.storeBytes)
  else if b = D.pdm_units.base then some s.pdmUnits
  else if b = D.asrc_channels.base then some s.asrcChannels
  else if b = D.wake_state.base then some (s.wakeState 0)
  else if b = D.wake_state_mgt.base then some (s.wakeState 6)
  else if b = D.sp_mask.base then
    some (match (sideOf s.io.sides i).mask with
      | some m => if s.sideEnabled i then m else s.get D.sp_mask i
      | none => s.get D.sp_mask i)
  else none

/-- The warm time W of R559 in blocks. -/
def State.warmBlocks (s : State) : Nat :=
  let most := s.liveOutputs.foldl (fun n j =>
    max n (s.ringLen + s.get D.lst_delay_base j + s.get D.out_delay j + s.get D.etch_max_taps j)) 0
  (most + s.blockLen - 1) / s.blockLen + 1

/-- Areas 68, 78, 7C and 7E (R559, R563, R604, R643, R654). -/
def State.viewMonitors (s : State) (o : Obj) (i : Nat) : Option Nat :=
  let b := o.base
  let h := s.hist.getD i {}
  if b = D.twin_warm_blocks.base then some s.warmBlocks
  else if b = D.twin_journal_pending.base then some (min 65535 s.twin.journal.length)
  else if b = D.hist_live_count.base then some h.count
  else if b = D.hist_live_min.base then some h.least.toNat
  else if b = D.hist_live_max.base then some h.greatest.toNat
  else if b = D.hist_state.base then
    some (if s.get D.hist_source i = 0 then 0 else if s.histInvalid i then 2 else 1)
  else if b = D.err_queue_depth.base then some s.err.queue.length
  else if b = D.nalarm_state.base then some (if s.get D.err_alarm_pending = 0 then 0 else 1)
  else if b = D.nfault_state.base then some (if s.err.nfault then 1 else 0)
  else if b = D.log_window.base then some (handleOf (s.logWindow (s.get D.log_window_start)).length (s.nand.logGen % 2 ^ 32))
  else none

/-- The value that an object shows to a reader; `n` places of free values have been met before it. -/
def State.shown (s : State) (who : Who) (n : Nat) (o : Obj) (i sub : Nat) : Nat :=
  let found := match s.viewIdentity o with
    | some v => some v
    | none => match s.viewCore who o i with
      | some v => some v
      | none => match s.viewTxns o i with
        | some v => some v
        | none => match s.viewScene_ o i with
          | some v => some v
          | none => match s.viewGraver o i with
            | some v => some v
            | none => match s.viewUnits o i with
              | some v => some v
              | none => s.viewMonitors o i
  match found with
  | some v => v
  | none =>
    if oneOf o freeObjects then Config.freeValue (s.free + n) % 2 ^ (8 * tyBytes o.ty) else s.get o i sub

/-- The bytes of a BLOB object as a reader finds them (R107, R604). -/
def State.shownData (s : State) (o : Obj) (i : Nat) : List Byte :=
  if o.base = D.log_window.base then s.logWindow (s.get D.log_window_start)
  else if o.base = D.persist_image.base then s.imageNow
  else s.blobData o i

end Sys2Proof.Machine
end

