-- ==== Sys2Proof/Machine/Accept.lean ====
section
/-! DEFINITION. What an accepted write does: values by their takes-effect class, and BLOB shadows
(R62, R65, R74, R103–R106, R544, R657). -/

namespace Sys2Proof.Machine

open Sys2Proof

/-! ### Values (R65, R67, R74) -/

/-- A LIVE write waits for the first boundary whose seal follows. -/
def State.queueLive (s : State) (a v : Nat) : State :=
  let l := s.cu.live ++ [(a, v)]
  { s with cu := { s.cu with live := l } }

/-- The value that an accepted BLOB write is about to put in force is noted for the persistent image
(R74). -/
def State.persistBlob (s : State) (o : Obj) (i gen : Nat) (data : List Byte) : State :=
  let b : Blob := ⟨o.addr i, max (s.blob o i).counter gen, gen, data⟩
  if o.persist && !inStore b then
    s.keep b.addr (handleOf data.length gen) (some b)
  else s

/-- A value of an RW object, or a command, has been accepted: it takes effect as the class of its
object decides. -/
def State.acceptValue (s : State) (o : Obj) (i sub v : Nat) : State :=
  let a := o.addr i sub
  match o.effect with
  | .live => if s.blockRuns a then s.queueLive a v else s.applyValue s.blockNow a v false
  | .liveFrame => s.set o v i sub
  | .reset => s.applyValue s.blockNow a v true
  | _ => s.applyValue s.blockNow a v false

/-- An accepted item of a WRITE. -/
def State.acceptItem (s : State) (it : Item) : State :=
  match objAt it.addr with
  | none => s
  | some (o, i, sub) =>
    let t :=
      if o.acc != .rw || o.effect = .reset then s
      else if o.ty = .blob then s.persistBlob o i 0 []
      else s.persistValue o i sub it.val
    t.acceptValue o i sub it.val

/-- A unit is a target of a write: 0 names both units, 1 the slot-0 unit, 2 the slot-1 unit (R544). -/
def State.targeted (s : State) (target : Nat) : Bool :=
  target == 0 || (target == 1) == s.twin.slotZero

/-- The items that a WRITE applies on this unit. -/
def State.acceptItems (s : State) (l : List Item) (target : Nat) : State :=
  l.foldl (fun t it => if !pairWide it.addr && !s.targeted target then t else t.acceptItem it) s

/-- A WRITE of one STAGED command, which is carried out as a WRITE_STAGED (R62). -/
def stagedCommand : List Item → Bool
  | [it] =>
    (match objAt it.addr with
     | some (o, _, _) => o.acc == .wo && o.effect == .staged
     | none => false)
  | _ => false

/-! ### Shadows (R103–R106) -/

/-- The incomplete shadow of an object. -/
def State.shadowOpen (s : State) (a : Nat) : Option Shadow :=
  s.mdap.shadows.find? fun x => x.addr == a && !x.complete

/-- Put the incomplete shadow of an object. -/
def State.putShadow (s : State) (x : Shadow) : State :=
  let l := s.mdap.shadows.filter fun y => !(y.addr == x.addr && !y.complete)
  { s with mdap := { s.mdap with shadows := l ++ [x] } }

/-- The generation counter of a BLOB object rises to that of a completed shadow, and a +P one is kept across a reset
(R657). -/
def State.raiseGen (s : State) (o : Obj) (i gen : Nat) : State :=
  let b := s.blob o i
  let v := if b.data.length = s.get o i / 2 ^ 32 then b.data else s.blobData o i
  let t : State := { s with blobs := blobPut s.blobs ⟨o.addr i, gen, b.gen, v⟩ }
  if o.persist then t.keepCounter o i else t

/-- The bytes that other clips, the Etcher sets and the other shadows of clips take of the clip store
when a clip is written at an address (R397). -/
def State.clipTaken (s : State) (a : Nat) : Nat :=
  let isClip (x : Nat) : Bool := (D.clip_blob.locate x).isSome
  let kept := s.blobs.filter fun b => (isClip b.addr && b.addr != a) || (D.etch_taps.locate b.addr).isSome
  let shadows := s.mdap.shadows.filter fun x => isClip x.addr && x.addr != a
  kept.foldl (fun n b => n + b.data.length) 0 + shadows.foldl (fun n x => n + x.total) 0

/-- The total length that FIRST states is admitted (R397, R422, R656). -/
def State.totalOk (s : State) (o : Obj) (i total : Nat) : Bool :=
  lengthOk o total &&
    (if o.base = D.pf_ref.base then total == 4 * s.irLen
     else if o.base = D.clip_blob.base then decide (s.clipTaken (o.addr i) + total ≤ 402653184)
     else true)

/-- A shadow that a FIRST may not replace: the pending set of an Etcher output that is held or
OUTGOING, a completed shadow that a transaction holds, or another session's (R104, R106, R310). -/
def State.shadowBusy (s : State) (who : Who) (o : Obj) (i : Nat) (first : Bool) : Bool :=
  let a := o.addr i
  let theirs := (s.shadowOpen a).any fun x => !(x.src == who.src && x.session == who.session)
  theirs || (first && o.acc == .rs && (s.shadowHeld a || (o.base == D.etch_taps.base && s.get D.etch_pending_state i == 5)))

/-- The status of a BLOB_WRITE before its chunk is looked at (R95, R103). -/
def State.blobStatus (s : State) (who : Who) (a : Nat) : Nat :=
  match s.object a with
  | none => scNoObject
  | some (o, _, _) =>
    if o.ty = .blob && o.acc = .ro then scAccess
    else if !roleWrites who.role o then scRole
    else if o.ty ≠ .blob then scType
    else scOk

/-- The chunk fits its shadow: its offset, total and flags (R103). -/
def chunkOk (have_ total offset stated len : Nat) (last : Bool) : Bool :=
  offset == have_ && stated == total && decide (have_ + len ≤ total) && (last == (have_ + len == total)) &&
    decide (1 ≤ len) && decide (len ≤ 1024)

/-- The status of a chunk (R95, R103, R104, R106, R310, R397, R422). -/
def State.chunkStatus (s : State) (who : Who) (o : Obj) (i : Nat) (first last : Bool) (offset total len : Nat) : Nat :=
  let a := o.addr i
  let mine := match s.shadowOpen a with
    | some x => if x.src = who.src && x.session = who.session then some x else none
    | none => none
  let fits :=
    if first then s.totalOk o i total && chunkOk 0 total offset total len last
    else match mine with
      | some x => chunkOk x.data.length x.total offset total len last
      | none => (s.shadowOpen a).isSome
  if !fits then scRange
  else if !s.writable && !directWrite a then scNotEligible
  else if s.unusable a then scNotEligible
  else if s.modeStatus who o i 0 ≠ scOk then s.modeStatus who o i 0
  else if s.shadowBusy who o i first then scBusy
  else scOk

/-- FIRST discards what it replaces and starts a shadow (R103, R106, R310). -/
def State.startShadow (s : State) (who : Who) (o : Obj) (i total : Nat) : State :=
  let a := o.addr i
  let t := if o.acc = .rs then s.spendShadow a else s
  let t := t.putShadow { addr := a, src := who.src, session := who.session, total := total, data := [] }
  if o.base = D.etch_taps.base then
    (((t.dropEtchSet i).set D.etch_pending_state 1 i).set D.etch_pending_taps 0 i)
  else t

/-- The F32 values that bytes spell, big end first. -/
def f32sOf : Nat → List Byte → List Word32
  | 0, _ => []
  | n + 1, l => BitVec.ofNat 32 (beNat (l.take 4)) :: f32sOf n (l.drop 4)

/-- A profile of pll_ramp whose points R593 refuses. -/
def badRamp (o : Obj) (i : Nat) (data : List Byte) : Bool :=
  o.base = D.pll_ramp.base && !(rampValid (pllSpan i).1 (pllSpan i).2 (rampPoints data))

/-- A value, or the contents of a BLOB, that an image may set: of a +P object, within its type and range (R61, R79). -/
def goodValue (a v : Nat) : Bool :=
  match objAt a with
  | some (o, i, _) => o.persist && tyOk o.ty v && rngOk o i v
  | none => false

def goodBlob (a : Nat) (data : List Byte) : Bool :=
  match objAt a with
  | some (o, i, _) => o.persist && o.ty == .blob && lengthOk o data.length && !badRamp o i data
  | none => false

/-- The image that a BLOB written to persist_image spells: it must be for this product and set no
value that a write would be refused for under R61 (R79). -/
def goodImage (data : List Byte) : Option (List (Nat × Nat) × List (Nat × List Byte)) :=
  (Config.imageOf data).filter fun m => m.1.all (fun e => goodValue e.1 e.2) && m.2.all fun e => goodBlob e.1 e.2

/-- LAST completes a shadow: the status of its reply, and the new generation (R103, R105, R310, R422,
R593, R606, R610, R657). -/
def State.completeShadow (s : State) (o : Obj) (i : Nat) (data : List Byte) : State × Nat × Nat :=
  let a := o.addr i
  let gen := (s.blob o i).counter + 1
  let h := handleOf data.length gen
  let s0 : State := { s with mdap := { s.mdap with shadows := s.mdap.shadows.filter fun y => !(y.addr == a && !y.complete) } }
  let done (t : State) : State :=
    let l := t.mdap.shadows.filter fun y => y.addr != a
    let x : Shadow := { addr := a, src := .spi, session := 0, total := data.length, data := data, gen := gen, complete := true }
    ({ t with mdap := { t.mdap with shadows := l ++ [x] } } : State).raiseGen o i gen
  if o.base = D.owner_cert.base then
    (if ownerCertOk data then ((s0.setBlobGen o i gen data).setOwner (some data), scOk, gen) else (s0, scIntegrity, 0))
  else if o.base = D.fw_image.base then
    (let valid := firmwareOk (s.get D.rollback_fuses) data
     ((s0.setBlobGen o i gen data).imageLoaded i valid, if valid then scOk else scIntegrity, gen))
  else if o.base = D.persist_image.base then
    (match goodImage data with
     | some m => (({ s0 with nand := { s0.nand with replace := some m } } : State).raiseGen o i gen, scOk, gen)
     | none => (s0, scIntegrity, 0))
  else if badRamp o i data then (s0, scRange, 0)
  else if o.acc = .rw then ((done s0).persistBlob o i gen data |>.acceptValue o i 0 h, scOk, gen)
  else if o.base = D.etch_taps.base then
    (let n := data.length / 4
     let t := ((done s0).dropEtchSet i).set D.etch_pending_state 2 i
     let l := t.render.etchSets ++ [⟨i, f32sOf n data, gen⟩]
     (({ t with render := { t.render with etchSets := l } } : State).set D.etch_pending_taps n i, scOk, gen))
  else (done s0, scOk, gen)

/-- An accepted chunk is appended; LAST completes the shadow. -/
def State.acceptChunk (s : State) (who : Who) (o : Obj) (i : Nat) (first last : Bool) (total : Nat) (data : List Byte) :
    State × List Nat :=
  let t := if first then s.startShadow who o i total else s
  match t.shadowOpen (o.addr i) with
  | none => (s, [scInternal])
  | some x =>
    let all := x.data ++ data
    if last then
      (let r := t.completeShadow o i all
       (r.1, if r.2.1 = scOk then [scOk, r.2.2] else [r.2.1]))
    else (t.putShadow { x with data := all, last := t.time.local_ }, [scOk])

end Sys2Proof.Machine
end

