-- ==== Sys2Proof/Machine/Describe.lean ====
section
/-! DEFINITION. DESCRIBE: the object that follows an address, and the fields that describe it
(R97, R98, R655, R656). -/

namespace Sys2Proof.Machine

open Sys2Proof

/-! ### Enumeration (R59, R97) -/

/-- The least address of an object at or after an address. -/
def Obj.nextAt (o : Obj) (a : Nat) : Option Nat :=
  if a ≤ o.base then some o.base
  else
    let i := (a - o.base) / o.stride
    let k := (a - o.base) % o.stride
    if i < o.count && k < o.subs then some a
    else if i + 1 < o.count then some (o.base + (i + 1) * o.stride)
    else none

/-- The lesser of two addresses that may be absent. -/
def least : Option Nat → Option Nat → Option Nat
  | some a, some b => some (min a b)
  | some a, none => some a
  | none, b => b

/-- The least address at or after an address that names an object; addresses that no table lists are
passed over. The fuel covers the longest run of those. -/
def State.nextObject (s : State) : Nat → Nat → Option Nat
  | 0, _ => none
  | n + 1, a =>
    let table := if s.power.phase = .recovery then Dict.table.filter fun o => recoveryArea o.base else Dict.table
    match table.foldl (fun x o => least x (o.nextAt a)) none with
    | none => none
    | some b => if unlisted b then s.nextObject n (b + 1) else some b

/-! ### Limits (R98, R656) -/

/-- The least and greatest F32. -/
def f32Limit : Nat := 0x7F7FFFFF

/-- The least and greatest value of a numeric type, as encoded. -/
def tyLimits (t : Ty) : List Nat :=
  match t with
  | .f32 => [0xFF7FFFFF, f32Limit]
  | .pos3 =>
    [posPack (BitVec.ofNat 32 0xFF7FFFFF, BitVec.ofNat 32 0xFF7FFFFF, BitVec.ofNat 32 0xFF7FFFFF),
      posPack (BitVec.ofNat 32 f32Limit, BitVec.ofNat 32 f32Limit, BitVec.ofNat 32 f32Limit)]
  | .bool | .str32 | .blob | .keyref | .enum8 => []
  | _ =>
    let b := 8 * tyBytes t
    if tySigned t then [2 ^ (b - 1), 2 ^ (b - 1) - 1] else [0, 2 ^ b - 1]

/-- The least member and the greatest of a range, as encoded; none for the types without limits. -/
def limits (o : Obj) : List Nat :=
  if (tyLimits o.ty).isEmpty then []
  else
    match o.rng with
    | .ivals l =>
      let lo := l.foldl (fun n e => min n e.1) ((l.headD (0, 0)).1)
      let hi := l.foldl (fun n e => max n e.2) ((l.headD (0, 0)).2)
      [ofSigned (8 * tyBytes o.ty) lo, ofSigned (8 * tyBytes o.ty) hi]
    | .f32 lo hi openAbove => [lo, if openAbove then hi - 1 else hi]
    | .pos3 (some h) =>
      let neg : F32 := BitVec.ofNat 32 (h + 0x80000000)
      let top : F32 := BitVec.ofNat 32 h
      [posPack (neg, neg, neg), posPack (top, top, top)]
    | .mult m => [0, (2 ^ (8 * tyBytes o.ty) - 1) / m * m]
    | .pow2 _ hi => [0, hi]
    | .mask m => [0, m]
    | _ => tyLimits o.ty

/-- The named values that DESCRIBE lists for an instance. -/
def named (o : Obj) (i : Nat) : List (Nat × String) :=
  match o.rng with
  | .enum l => l
  | .enumAt l last only => if i = last then l.filter fun e => only.contains e.1 else l
  | _ => []

/-- The UTF-8 bytes of a character. -/
def utf8Char (c : Nat) : List Nat :=
  if c < 0x80 then [c]
  else if c < 0x800 then [0xC0 + c / 64, 0x80 + c % 64]
  else if c < 0x10000 then [0xE0 + c / 4096, 0x80 + c / 64 % 64, 0x80 + c % 64]
  else [0xF0 + c / 262144, 0x80 + c / 4096 % 64, 0x80 + c / 64 % 64, 0x80 + c % 64]

def utf8 (t : String) : List Nat := t.toList.flatMap fun c => utf8Char c.toNat

/-- The named values that fit in so many bytes. -/
def namesThatFit : List (Nat × String) → Nat → List (Nat × String)
  | [], _ => []
  | e :: l, room =>
    let n := 2 + (utf8 e.2).length
    if room < n then [] else e :: namesThatFit l (room - n)

/-! ### The reply (R98) -/

def accCode : Acc → Nat
  | .ro => 0 | .rw => 1 | .rs => 2 | .wo => 3

def effectCode : Effect → Nat
  | .none => 0 | .live => 1 | .liveSample => 2 | .staged => 3 | .stopped => 4 | .liveFrame => 5 | .reset => 6

/-- The address of the run control that governs an address. -/
def governorAddr (a : Nat) : Nat :=
  match governor a with
  | some (o, i) => o.addr i
  | none => 0xFFFFFFFF

/-- The default that DESCRIBE reports; the zero of the type where the table states none. -/
def State.defaultOf (s : State) (o : Obj) (i sub : Nat) : Nat :=
  if o.stated then dfltValue s.dict o i sub else 0

/-- A text in UTF-8, after the number of its bytes. -/
def textField (t : String) : List Nat := (utf8 t).length :: utf8 t

/-- The bytes of a number, big end first, as the fields of a body. -/
def byteFields (n v : Nat) : List Nat := (beBytes n v).map fun b => b.toNat

/-- The bytes that describe an object, with PARTIAL before them: in `room` bytes of body, its named values from
`start` on. -/
def State.describeAt (s : State) (a start room : Nat) : Option (Bool × List Nat) :=
  match s.object a with
  | none => none
  | some (o, i, sub) =>
    let dflt := s.defaultOf o i sub
    let coded (v : Nat) : List Nat := (tyEncode o.ty v).map fun b => b.toNat
    let head := byteFields 4 a ++ [tyCode o.ty, accCode o.acc + (if o.persist then 128 else 0), o.role.rank,
      effectCode o.effect] ++ byteFields 4 (governorAddr a) ++ coded dflt
    let tail := textField o.unit ++ textField o.name
    let all := (named o i).filter fun e => decide (start ≤ e.1)
    let bounds := (limits o).flatMap coded
    let used := head.length + bounds.length + tail.length + (if o.ty = .enum8 then 1 else 0)
    let fit := namesThatFit all (room - used)
    let names := if o.ty = .enum8 then fit.length :: fit.flatMap fun e => e.1 :: textField e.2 else []
    some (decide (fit.length < all.length), head ++ bounds ++ names ++ tail)

end Sys2Proof.Machine
end

