-- ==== Sys2Proof/Machine/Handshake.lean ====
section
/-! DEFINITION. The handshake of a network session: its steps, the transcript and the keys that follow from it, and
the admission of the peer (R110–R115, R121). -/

namespace Sys2Proof.Machine

open Sys2Proof

/-! ### The transcript and the keys (R112) -/

/-- The module's ephemeral public key. -/
def Handshake.keyM (h : Handshake) : List Byte := keyBytes (publicKey h.secret)

/-- H, for a module whose chain is `own`. -/
def Handshake.transcript (h : Handshake) (own : List Byte) : List Byte :=
  transcriptOf h.nonceP h.keyP h.nonceM h.keyM h.id own h.chain

/-- Z: what the two ephemeral keys agree on. -/
def Handshake.agreed (h : Handshake) : List Byte := sharedSecret h.secret ((keyOf h.keyP).getD eccG)

/-- K: two keys of 16 bytes, then two salts of 4. -/
def Handshake.keys (h : Handshake) (own : List Byte) : List Byte :=
  keysOf "MDAP v1" h.nonceP h.nonceM h.agreed (h.transcript own)

/-! ### Admission (R113, R115) -/

/-- A chain verifies to the enrolled owner certificate. -/
def State.ownerTrusts (s : State) (l : List Cert) : Bool :=
  s.get D.owner_state != 0 && verifiesTo (s.blob D.owner_cert).data l

/-- The module admits the peer of a handshake. -/
def State.admitsPeer (s : State) (h : Handshake) (sig : List Byte) : Bool :=
  match certChain h.chain with
  | some (leaf :: m) =>
    (verifiesTo Config.rootCert (leaf :: m) || s.ownerTrusts (leaf :: m)) && leaf.signs &&
      signed leaf.key (h.transcript s.ownChain) sig && s.utcNow.all fun now => chainValidAt now (leaf :: m)
  | _ => false

/-- The session that a handshake opens. -/
def State.sessionOf (s : State) (h : Handshake) (src : Source) : Session :=
  let k := h.keys s.ownChain
  { id := h.id, src := src, role := s.roleOf (leafPrint h.chain), fp := leafPrint h.chain
    keyPm := k.take 16, keyMp := (k.drop 16).take 16, ivPm := (k.drop 32).take 4, ivMp := k.drop 36
    ownerChain := (certChain h.chain).any s.ownerTrusts, opened := s.time.local_, last := s.time.local_ }

/-! ### The steps (R110, R111, R114, R121) -/

def State.handshake (s : State) (id : Nat) : Option Handshake := s.mdap.handshakes.find? fun h => h.id == id

def State.dropHandshake (s : State) (id : Nat) : State :=
  { s with mdap := { s.mdap with handshakes := s.mdap.handshakes.filter fun h => h.id != id } }

/-- A handshake is refused with AUTH. -/
def State.refuseAuth (s : State) : State × List Nat := (s.count D.auth_failures, [scAuth])

/-- The next session ID; it is never 0. -/
def State.newSession (s : State) : Nat := if s.mdap.nextSession % 2 ^ 32 = 0 then 1 else s.mdap.nextSession % 2 ^ 32

/-- SES_INIT: SES_REPLY carries the status, the session ID, the module's nonce and ephemeral key, and the length of its
chain. The host SPI port has no sessions. DESIGN CHOICE (log entry 105): a step in a protected frame is served as one
without protection is. -/
def State.doSesInit (s : State) (r : Req) (nonce key : List Byte) : State × List Nat :=
  if r.src = .spi then (s, [scNotEligible])
  else if s.get D.owner_state = 0 || nonce.length ≠ 16 || (keyOf key).isNone then s.refuseAuth
  else if 16 ≤ s.mdap.sessions.length || 4 ≤ s.mdap.handshakes.length then (s, [scBusy])
  else
    let h : Handshake :=
      { id := s.newSession, src := r.src, started := s.time.local_, nonceP := nonce, keyP := key
        nonceM := (List.range 16).map (Config.freeByte s.free), secret := scalarOf s.pass.freeHere }
    let t : State := { s with mdap := { s.mdap with handshakes := s.mdap.handshakes ++ [h], nextSession := h.id + 1 } }
    (t.pass.pass, [scOk, h.id] ++ (h.nonceM ++ h.keyM ++ beBytes 2 s.ownChain.length).map fun b => b.toNat)

/-- SES_CERT with flag bit 0 clear: part of the module's chain. -/
def State.doSesCertRead (s : State) (r : Req) (id offset len : Nat) : State × List Nat :=
  if r.src = .spi then (s, [scNotEligible])
  else if (s.handshake id).isNone then s.refuseAuth
  else if 1024 < len || s.ownChain.length < offset then (s, [scRange])
  else (s, scOk :: ((s.ownChain.drop offset).take len).map fun b => b.toNat)

/-- SES_CERT with flag bit 0 set: part of the peer's chain, which is at most 8 KiB (R111). -/
def State.doSesCertSend (s : State) (r : Req) (id offset total : Nat) (data : List Byte) : State × List Nat :=
  if r.src = .spi then (s, [scNotEligible])
  else
    match s.handshake id with
    | none => s.refuseAuth
    | some h =>
      if 1024 < data.length || 8192 < total || offset ≠ h.chain.length || total < offset + data.length ||
          (!h.chain.isEmpty && total != h.total) then (s, [scRange])
      else
        let l := s.mdap.handshakes.map fun x => if x.id = id then { x with chain := x.chain ++ data, total := total } else x
        ({ s with mdap := { s.mdap with handshakes := l } }, [scOk])

/-- SES_FINISH: the peer is admitted with the role of its leaf certificate, or refused. Where no clock holds a valid
time an INFO record says so. DESIGN CHOICE (log entry 106): a 17th session is refused with BUSY, and its handshake
ends. -/
def State.doSesFinish (s : State) (r : Req) (id : Nat) (sig : List Byte) : State × List Nat :=
  if r.src = .spi then (s, [scNotEligible])
  else
    match s.handshake id with
    | none => s.refuseAuth
    | some h =>
      let t := s.dropHandshake id
      let t := if t.utcNow.isSome then t else t.error 0x01 0 0x0308 .info
      let x := t.sessionOf h r.src
      if h.chain.length ≠ h.total || !t.admitsPeer h sig || x.role = .none then t.refuseAuth
      else if 16 ≤ t.mdap.sessions.length then (t, [scBusy])
      else
        let own := ecdsaSign Config.deviceKey (scalarOf t.freeHere) (h.transcript t.ownChain)
        ({ t.pass with mdap := { t.mdap with sessions := t.mdap.sessions ++ [x] } }, scOk :: own.map fun b => b.toNat)

end Sys2Proof.Machine
end

