-- ==== Sys2Proof/Machine/Mdap.lean ====
section
/-! DEFINITION. MDAP: how a frame is admitted, what each message does, and the rows of the requests and of the host
SPI port (R80–R121). -/

namespace Sys2Proof.Machine

open Sys2Proof Host

/-! ### Who asks (R64, R89, R113, R115) -/

def isNet (src : Source) : Bool := src != .spi

/-- The source of a request: its session, the host SPI port, or a network source without a session. -/
def State.whoOf (s : State) (r : Req) : Option Who :=
  if r.src = .spi then some { src := .spi, role := roleOfNat (s.get D.hspi_role) }
  else if r.isProtected then
    (s.session r.session).map fun x => { src := x.src, session := x.id, role := x.role, ownerChain := x.ownerChain }
  else some { src := r.src, role := .obs }

/-- The lands of the host SPI port answer: firmware has configured them, and VIO is good (R20, R33, R124). -/
def State.hspiAnswers (s : State) : Bool :=
  s.getB D.hspi_enable && s.power.vio && (s.power.phase == .running || s.power.phase == .recovery)

/-- The unit serves requests over this transport now (R33, R84, R85, R124, R613, R627). UDP frames come from and go to
mdap_udp_port. -/
def State.serving (s : State) (src : Source) : Bool :=
  let open_ := match src with
    | .spi => s.getB D.hspi_enable && s.power.vio && !s.spiOutStuck
    | .udp _ port => s.getB D.mdap_udp_enable && port == s.get D.mdap_udp_port
    | .l2 _ => s.getB D.mdap_l2_enable
  match s.power.phase with
  | .running => open_
  | .recovery => open_ && s.get D.boot_strap == (if src = .spi then 1 else 2)
  | _ => false

/-! ### Protected frames (R109, R116–R118) -/

/-- A sequence has not been accepted and does not lie below the window of 64 under the highest accepted (R117). -/
def Session.fresh (x : Session) (seq : Nat) : Bool :=
  decide (x.top ≤ seq + 64) && !x.seen.contains seq

/-- A frame of a session is accepted. -/
def Session.accept (x : Session) (seq : Nat) (now : Int) : Session :=
  let top := max x.top seq
  { x with
    top := top, seen := (seq :: x.seen).filter fun n => decide (top ≤ n + 64)
    bad := 0, received := x.received + 1, last := now }

/-- A protected frame: none when it is dropped, with the state that leaves. DESIGN CHOICE (log entry 102): its tag is
checked before its sequence, and a replayed frame whose tag holds leaves the run of failed tags as it is. -/
def State.checkTag (s : State) (r : Req) (body : List Byte) : State × Bool :=
  match s.session r.session with
  | none => (s.count D.integrity_drops, false)
  | some x =>
    if !x.tagHolds r body then
      (let t := (s.count D.integrity_drops).putSession { x with bad := x.bad + 1 }
       (if 16 ≤ x.bad + 1 then t.closeSession x.id crIntegrity else t, false))
    else if !x.fresh r.seq then (s.count D.replay_drops, false)
    else (s.putSession (x.accept r.seq s.time.local_), true)

/-! ### Arrival (R80, R81, R86–R92) -/

/-- What the examination of a frame comes to: it is dealt with, or it is served. -/
inductive Arrival
  | done (s : State)
  | serve (s : State) (r : Req) (who : Who)

/-- Send a kept reply again. -/
def State.resend (s : State) (r : Req) (k : Kept) : State := s.emit r.src r.cacheSession k.body

/-- The dispatcher is full: BUSY, which is not kept (R91). -/
def State.turnAway (s : State) (r : Req) (m : Msg) : State :=
  let p := if r.isProtected then s.checkTag r (s.requestBody r m) else (s, true)
  if p.2 then p.1.emit r.src r.cacheSession (replyBody (kindOf m) r.id [scBusy]) else p.1

/-- The same request waits for its reply: its partner or its votes have not answered yet. -/
def State.inFlight (s : State) (r : Req) (kind : Nat) : Bool :=
  let same (x : Req) : Bool := x.id == r.id && x.src == r.src && x.cacheSession == r.cacheSession
  (s.twin.journal.any fun e => match e.held with
    | some (.request x m) => same x && kindOf m == kind
    | _ => false) ||
  (kind == mtTxnPrepare && s.cu.slots.any fun t => t.waiting.any same)

/-- R86 serves a message without protection. -/
def State.openTo (s : State) : Msg → Bool
  | .read l => s.getB D.open_identity && l.all fun a => a / 2 ^ 24 == 0
  | .describe a _ _ => s.getB D.open_identity && a / 2 ^ 24 == 0
  | .sesInit _ _ => true
  | .sesCertRead _ _ _ => true
  | .sesCertSend _ _ _ _ => true
  | .sesFinish _ _ => true
  | _ => false

/-- A request is examined: its version, its protection, whether it repeats one, and whether its source may ask
(R81, R86, R92, R109). -/
def State.examine (s : State) (r : Req) (m : Msg) : Arrival :=
  if r.version ≠ 1 then .done (s.count D.integrity_drops)
  else
    let p := if r.isProtected then s.checkTag r (s.requestBody r m) else (s, true)
    if !p.2 then .done p.1
    else
      let s := p.1.heard r
      match s.keptReply r (kindOf m) with
      | some k => .done (s.resend r k)
      | none =>
        match s.whoOf r with
        | none => .done s
        | some who =>
          if s.inFlight r (kindOf m) then .done s
          else if who.role = .none || (isNet r.src && !r.isProtected && !s.openTo m) then
            .done (s.reply r (kindOf m) [scAuth])
          else .serve s r who

/-- A frame of the host SPI port's input queue carries a request: its version, type, ID and the flags that mean
something, and what follows them. The rest of its header is ignored (R81, R89). -/
def State.carries (s : State) (r : Req) (m : Msg) (f : List Byte) : Bool :=
  let body := f.drop 16
  beNat (f.take 1) == r.version && beNat (body.take 1) == kindOf m &&
    (beNat ((body.drop 1).take 1) &&& m.flagMask) == m.flags && beNat ((body.drop 2).take 2) == r.id % 2 ^ 16 &&
    body.drop 4 == m.payload (s.addsFabric m)

/-- The frame of a request leaves its transport: on the host SPI port it is the first of the input queue that carries
it, or, when none waits, it is put and taken at once. A frame of more than 1400 bytes is none of MDAP (R80, R88; log
entry 103). -/
def State.received (s : State) (r : Req) (m : Msg) : Option State :=
  if !s.serving r.src || decide (1400 < r.frameLength (s.requestBody r m)) then none
  else if r.src ≠ .spi || s.mdap.spiIn.isEmpty then some s
  else
    match s.mdap.spiIn.dropWhile fun f => !s.carries r m f with
    | [] => none
    | _ :: l => some { s with mdap := { s.mdap with spiIn := l } }

/-- A request that has been examined and is not accepted yet: its journal entry has not been acknowledged (R90,
R543). -/
def State.accepting (s : State) : Bool :=
  s.twin.journal.any fun e => match e.held with
    | some (.request _ _) => true
    | _ => false

/-! ### READ (R93, R94) -/

/-- The bytes of a reply's body. -/
def bodyLimit (r : Req) : Nat := if r.isProtected then 1368 else 1384

/-- An item of a READ reply: its fields, and its bytes. -/
def State.readItem (s : State) (who : Who) (n a : Nat) : List Nat × Nat :=
  let c := s.checkRead who a
  match s.object a with
  | some (o, i, sub) =>
    if c = scOk then
      (let v := s.shown who n o i sub
       ([a, c, tyCode o.ty, v], 6 + (tyEncode o.ty v).length))
    else ([a, c], 5)
  | none => ([a, c], 5)

/-- The items that fit, in request order: their number, their fields, and whether all fit. -/
def State.readItems (s : State) (who : Who) : List Nat → Nat → Nat → Nat × List Nat × Bool
  | [], _, _ => (0, [], true)
  | a :: l, n, room =>
    let e := s.readItem who n a
    if room < e.2 then (0, [], false)
    else
      let rest := s.readItems who l (n + 1) (room - e.2)
      (rest.1 + 1, e.1 ++ rest.2.1, rest.2.2)

/-- READ: the status, PARTIAL, the count and the items. -/
def State.doRead (s : State) (r : Req) (who : Who) (addrs : List Nat) : State × List Nat :=
  if addrs.isEmpty || 64 < addrs.length then (s, [scRange])
  else
    let x := s.readItems who addrs 0 (bodyLimit r - 6)
    ({ s with free := s.free + addrs.length }, [scOk, if x.2.2 then 0 else 1, x.1] ++ x.2.1)

/-! ### WRITE and WRITE_STAGED (R62, R72, R95, R96, R544) -/

/-- The status of an item of a WRITE with its target. -/
def State.checkTarget (s : State) (who : Who) (alone : Bool) (target : Nat) (it : Item) : Nat :=
  let c := s.checkWrite who alone it
  if (target = 3 || (target ≠ 0 && pairWide it.addr)) && !([scNoObject, scAccess, scRole, scType].contains c) then
    scRange
  else c

/-- The status of an item of a WRITE_STAGED. -/
def State.checkCommit (s : State) (who : Who) (it : Item) : Nat :=
  let c := s.checkStaged who false it
  if c ≠ scOk then c
  else if !s.writable && !directWrite it.addr then scNotEligible
  else s.stagedMode who it

/-- Commit items as a WRITE_STAGED does. A unit in STANDBY, RESYNC or FAILED commits the command that
R544 lets it take for itself alone. -/
def State.commitNow (s : State) (who : Who) (l : List Item) : State × List Nat :=
  let role := s.role
  let r := if s.writable then s.commitItems who 6 l else (s.set D.twin_role roleSolo).commitItems who 6 l
  (if s.writable then r.1 else r.1.set D.twin_role role, [r.2.1, r.2.2.1, r.2.2.2])

/-- The first failure of the items of a request: the body of its reply. -/
def refusal (items : List Item) (check : Item → Nat) : Option (List Nat) :=
  if items.isEmpty || 64 < items.length then some [scRange]
  else (firstFailure check items 0).map fun e => [e.1, e.2]

/-- A WRITE that flushes the persistent image reports a NAND write that failed (R77). -/
def flushed (before after : State) (items : List Item) : Nat :=
  if (items.any fun it => it.addr == D.persist_flush.base && it.val == 1) && after.nand.fault &&
      before.free != after.free then scInternal else scOk

/-- An item that applies on both units whatever the target of its WRITE: a pair-wide value, a planned
switch and a request for DORMANT (R544, R547, R555). -/
def forBoth (it : Item) : Bool :=
  pairWide it.addr || it.addr == D.twin_switch.base || (it.addr == D.pw_request.base && it.val == 2)

/-- The items of a WRITE that the partner applies (R544). -/
def State.forPartner (s : State) (items : List Item) (target : Nat) : List Item :=
  items.filter fun it => forBoth it || target == 0 || (target == 1) != s.twin.slotZero

/-- An accepted WRITE; a command for the partner alone commits there (R544). -/
def State.writeNow (s : State) (who : Who) (items : List Item) (target : Nat) : State × List Nat :=
  if stagedCommand items then
    (if items.all fun it => forBoth it || s.targeted target then s.commitNow who items
     else (s, [scOk, s.nextBlock, rsNone]))
  else
    let t := s.acceptItems items target
    (t, [flushed s t items])

/-! ### SUBSCRIBE (R99, R102) -/

/-- The least sub_id that a session does not use. -/
def State.newSub (s : State) (who : Who) : Nat :=
  ((List.range 257).map (· + 1)).find? (fun n => !(s.mdap.subs.any fun x =>
    x.id == n && x.src == who.src && x.session == who.session)) |>.getD 0

def State.setSubs (s : State) (l : List Sub) : State := { s with mdap := { s.mdap with subs := l } }

/-- SUBSCRIBE: the status and the sub_id. DESIGN CHOICE (log entry 104): a sub_id other than 0 with ON_CHANGE or
PERIODIC starts that subscription anew, and an unknown one answers NO_OBJECT; the host SPI port counts as a session for
the limit of 64. -/
def State.doSubscribe (s : State) (who : Who) (sub addr mode interval : Nat) : State × List Nat :=
  let mine (x : Sub) : Bool := x.src == who.src && x.session == who.session
  let known := s.mdap.subs.any fun x => mine x && x.id == sub
  let others := s.mdap.subs.filter fun x => !(mine x && x.id == sub)
  let start (id : Nat) : Sub :=
    let seen := match s.object addr with
      | some (o, i, k) => s.shown who 0 o i k
      | none => 0
    { id := id, src := who.src, session := who.session, addr := addr, mode := mode, interval := interval
      last := s.blockNow, seen := seen }
  if mode = 0 then (if known then (s.setSubs others, [scOk, sub]) else (s, [scNoObject, sub]))
  else if s.checkRead who addr ≠ scOk then (s, [s.checkRead who addr, sub])
  else if 2 < mode || interval = 0 || 65535 < interval then (s, [scRange, sub])
  else if sub ≠ 0 then
    (if known then (s.pass.setSubs (others ++ [start sub]), [scOk, sub]) else (s, [scNoObject, sub]))
  else if 256 ≤ s.mdap.subs.length || 64 ≤ (s.mdap.subs.filter mine).length then (s, [scBusy, 0])
  else
    let id := s.newSub who
    (s.pass.setSubs (s.mdap.subs ++ [start id]), [scOk, id])

/-! ### Large values (R103, R107) -/

/-- BLOB_READ: the status, the handle and the data. -/
def State.doBlobRead (s : State) (who : Who) (addr offset most : Nat) : List Nat :=
  let c := s.checkRead who addr
  if c ≠ scOk then [c]
  else
    match s.object addr with
    | none => [scNoObject]
    | some (o, i, sub) =>
      if o.ty ≠ .blob then [scType]
      else
        let d := s.shownData o i
        if d.length < offset || most = 0 || 1024 < most then [scRange]
        else [scOk, s.shown who 0 o i sub] ++ ((d.drop offset).take most).map fun b => b.toNat

/-- BLOB_WRITE: what refuses the chunk, or the object it is for. -/
def State.blobTarget (s : State) (who : Who) (a : Nat) (first last : Bool) (offset total len : Nat) :
    Nat × Option (Obj × Nat) :=
  let c := s.blobStatus who a
  if c ≠ scOk then (c, none)
  else
    match s.object a with
    | none => (scNoObject, none)
    | some (o, i, _) =>
      let c := s.chunkStatus who o i first last offset total len
      if c ≠ scOk then (c, none) else (scOk, some (o, i))

/-! ### What waits for the partner (R543) -/

/-- What the partner must acknowledge before an accepted request takes effect: the block of its
entry and what the entry carries. -/
def State.needsPartner (s : State) (r : Req) (who : Who) (m : Msg) : Option (Nat × JournalAct × State) :=
  if !s.mirrored then none
  else
    let here := s.blockNow
    match m with
    | .write items target =>
      if (refusal items (s.checkTarget who (items.length == 1) target)).isSome then none
      else if stagedCommand items then
        (let c := s.writeNow who items target
         some (c.2.getD 1 here, .commit (s.forPartner items target) none, s))
      else
        some (s.nextBlock, .live ((s.forPartner items target).map fun it => (it.addr, it.val)), s)
    | .writeStaged items =>
      if (refusal items (s.checkCommit who)).isSome then none
      else
        (let c := s.commitNow who items
         if c.2.headD 0 = scOk then some (c.2.getD 1 here, .commit items none, s) else none)
    | .blobWrite a first last _ offset total data =>
      (match last, (s.blobTarget who a first last offset total data.length).2 with
       | true, some (o, i) =>
         let c := s.acceptChunk who o i first last total data
         let whole := (if first then [] else ((s.shadowOpen a).map fun x => x.data).getD []) ++ data
         if c.2.headD 0 ≠ scOk then none
         else if pairWide a then some (here, .blob a (c.2.getD 1 0) whole, s)
         else some (here, .values [], s)
       | _, _ => none)
    | .txnOpen scope rung =>
      if (s.doTxnOpen who scope rung).2.headD 0 = scOk then some (here, .values [], s) else none
    | .txnPrepare p =>
      (match s.ownTxn who p.id with
       | (_, some t) =>
         if t.scope = 0 then
           (match (s.doTxnPrepare r who p).1.txnKnown p.id with
            | some x =>
              if x.st = tsCommitted then some (x.applyBlock, .commit (s.commitsHere x) x.shedRung, s.journalPayload x) else none
            | none => none)
         else none
       | _ => none)
    | .txnCommit id =>
      (match s.ownTxn who id with
       | (_, some t) =>
         if t.scope = 0 && t.st = tsPrepared then
           (match (s.doTxnCommit who id).1.txnKnown id with
            | some x =>
              if x.st = tsCommitted then some (x.applyBlock, .commit (s.commitsHere x) x.shedRung, s.journalPayload x) else none
            | none => none)
         else none
       | _ => none)
    | _ => none

/-! ### Serving (R90) -/

/-- DESCRIBE: the status, PARTIAL and the fields; an unprotected network frame reaches area 00 only
(R86, R97). -/
def State.doDescribe (s : State) (r : Req) (addr start : Nat) (next : Bool) : List Nat :=
  let found := if next then s.nextObject 128 addr else (s.object addr).map fun _ => addr
  match found with
  | none => [scNoObject]
  | some a =>
    if isNet r.src && !r.isProtected && a / 2 ^ 24 ≠ 0 then [scAuth]
    else
      match s.describeAt a start (bodyLimit r - 5) with
      | none => [scNoObject]
      | some (p, l) => [scOk, if p then 1 else 0] ++ l

/-- The effect of a request and the body of its reply; none while its votes are awaited. -/
def State.perform (s : State) (r : Req) (who : Who) (m : Msg) : State × Option (List Nat) :=
  let some' (x : State × List Nat) : State × Option (List Nat) := (x.1, some x.2)
  match m with
  | .read l => some' (s.doRead r who l)
  | .write items target =>
    (match refusal items (s.checkTarget who (items.length == 1) target) with
     | some b => (s, some b)
     | none => some' (s.writeNow who items target))
  | .writeStaged items =>
    if who.role.rank < Role.opr.rank then (s, some [scRole])
    else
      (match refusal items (s.checkCommit who) with
       | some b => (s, some b)
       | none => some' (s.commitNow who items))
  | .describe a start next => (s, some (s.doDescribe r a start next))
  | .subscribe sub a mode interval => some' (s.doSubscribe who sub a mode interval)
  | .blobWrite a first last _ offset total data =>
    (match s.blobTarget who a first last offset total data.length with
     | (_, some (o, i)) => some' (s.acceptChunk who o i first last total data)
     | (c, none) => (s, some [c]))
  | .blobRead a offset most => (s, some (s.doBlobRead who a offset most))
  | .txnOpen scope rung => some' (s.doTxnOpen who scope rung)
  | .txnAdd id items => some' (s.doTxnAdd who id items)
  | .txnPrepare p => s.doTxnPrepare r who p
  | .txnCommit id => some' (s.doTxnCommit who id)
  | .txnAbort id => some' (s.doTxnAbort who id)
  | .txnStatus id => some' (s.doTxnStatus who id)
  | .ping => (s, some [scOk])
  | .close _ => (s, some [scOk])
  | .sesInit nonce key => some' (s.doSesInit r nonce key)
  | .sesCertRead id offset len => some' (s.doSesCertRead r id offset len)
  | .sesCertSend id offset total data => some' (s.doSesCertSend r id offset total data)
  | .sesFinish id sig => some' (s.doSesFinish r id sig)
  | .unknown _ => (s, some [scNoObject])

/-- Serve a request to its end: its effect, then its reply; a SES_CLOSE closes its session last, and so do the
sessions on UDP that a new mdap_udp_port ends (R118, R123). -/
def State.finishRequest (s : State) (r : Req) (who : Who) (m : Msg) : State :=
  let x := s.perform r who m
  let t := match x.2 with
    | some fields => x.1.reply r (kindOf m) fields
    | none => x.1
  match m with
  | .close _ => if r.isProtected then t.endSession r.session who.src else t
  | .write items _ => if items.any fun it => it.addr == D.mdap_udp_port.base then s.portMoved t else t
  | _ => t

/-- Serve a request; what leaves the pair waits for the partner's acknowledgement. -/
def State.serveRequest (s : State) (r : Req) (who : Who) (m : Msg) : State :=
  match s.needsPartner r who m with
  | some (block, act, t) => t.hold block act (.request r m)
  | none => s.finishRequest r who m

/-- A request waits while the one before it is not accepted yet, and is served otherwise (R90). -/
def State.dispatch (s : State) (x : Req × Msg) : State :=
  if s.accepting then { s with mdap := { s.mdap with waiting := s.mdap.waiting ++ [x] } }
  else
    match s.examine x.1 x.2 with
    | .done t => t
    | .serve t q who => t.serveRequest q who x.2

/-- The requests that waited for an acceptance are served in order, up to the next that waits for its own (R90). -/
def State.drain (s : State) : State :=
  s.mdap.waiting.foldl State.dispatch { s with mdap := { s.mdap with waiting := [] } }

/-- A request as the host SPI port reads it: PROTECTED and the session ID of its header are ignored (R89). -/
def Req.onPort (r : Req) : Req := if r.src = .spi then { r with isProtected := false, session := 0 } else r

/-- A request arrives: it is served, or it waits in the dispatcher, which holds 64; a network request that finds it full
is turned away, and a frame of the host SPI port stays where it is (R90, R91). -/
def State.answer (s : State) (r0 : Req) (m : Msg) : State :=
  let r := r0.onPort
  match s.received r m with
  | none => s
  | some t =>
    if t.accepting && decide (64 ≤ t.mdap.waiting.length) then (if isNet r.src then t.turnAway r m else s)
    else t.dispatch (r, m)

/-- A request that the partner has acknowledged takes effect (R543). -/
def State.released (s : State) (r : Req) (m : Msg) : State :=
  s.finishRequest r ((s.whoOf r).getD { src := r.src, session := r.session, role := .own }) m

/-! ### The rows of the messages -/

/-- READ (R93). -/
def execRead (r : Req) (addrs : List Nat) (s : State) : Outcome State Fault Refusal := .next (s.answer r (.read addrs))

/-- WRITE (R95). -/
def execWrite (r : Req) (items : List Item) (target : Nat) (s : State) : Outcome State Fault Refusal :=
  .next (s.answer r (.write items target))

/-- WRITE_STAGED (R96). -/
def execWriteStaged (r : Req) (items : List Item) (s : State) : Outcome State Fault Refusal :=
  .next (s.answer r (.writeStaged items))

/-- DESCRIBE (R97). -/
def execDescribe (r : Req) (addr start : Nat) (next : Bool) (s : State) : Outcome State Fault Refusal :=
  .next (s.answer r (.describe addr start next))

/-- SUBSCRIBE (R99). -/
def execSubscribe (r : Req) (sub addr mode interval : Nat) (s : State) : Outcome State Fault Refusal :=
  .next (s.answer r (.subscribe sub addr mode interval))

/-- BLOB_WRITE (R103). -/
def execBlobWrite (r : Req) (addr : Nat) (first last : Bool) (other : Fin 64) (offset total : Nat) (data : List (BitVec 8))
    (s : State) : Outcome State Fault Refusal :=
  .next (s.answer r (.blobWrite addr first last other offset total data))

/-- BLOB_READ (R107). -/
def execBlobRead (r : Req) (addr offset most : Nat) (s : State) : Outcome State Fault Refusal :=
  .next (s.answer r (.blobRead addr offset most))

/-- UNKNOWN_MESSAGE_TYPE (R83); a NOTIFY has no reply (R82). -/
def execUnknownMessageType (r : Req) (type : Nat) (s : State) : Outcome State Fault Refusal :=
  if type = 0x07 then .next s else .next (s.answer r (.unknown type))

/-- TXN_OPEN (R221). -/
def execTxnOpen (r : Req) (scope rung : Nat) (s : State) : Outcome State Fault Refusal :=
  .next (s.answer r (.txnOpen scope rung))

/-- TXN_ADD (R201). -/
def execTxnAdd (r : Req) (id : Nat) (items : List Item) (s : State) : Outcome State Fault Refusal :=
  .next (s.answer r (.txnAdd id items))

/-- TXN_PREPARE (R203, R210). -/
def execTxnPrepare (r : Req) (p : PrepareArgs) (s : State) : Outcome State Fault Refusal :=
  .next (s.answer r (.txnPrepare p))

/-- TXN_COMMIT (R203, R212). -/
def execTxnCommit (r : Req) (id : Nat) (s : State) : Outcome State Fault Refusal := .next (s.answer r (.txnCommit id))

/-- TXN_ABORT (R202). -/
def execTxnAbort (r : Req) (id : Nat) (s : State) : Outcome State Fault Refusal := .next (s.answer r (.txnAbort id))

/-- TXN_STATUS (R221). -/
def execTxnStatus (r : Req) (id : Nat) (s : State) : Outcome State Fault Refusal := .next (s.answer r (.txnStatus id))

/-- SES_PING (R118). -/
def execSesPing (r : Req) (s : State) : Outcome State Fault Refusal := .next (s.answer r .ping)

/-- SES_CLOSE from the peer (R118, R120). -/
def execSesClose (r : Req) (reason : Nat) (s : State) : Outcome State Fault Refusal := .next (s.answer r (.close reason))

/-- SES_INIT (R110). -/
def execSesInit (m : SesInit) (s : State) : Outcome State Fault Refusal := .next (s.answer m.req (.sesInit m.nonce m.key))

/-- SES_CERT with flag bit 0 clear (R110). -/
def execSesCertRead (r : Req) (id offset len : Nat) (s : State) : Outcome State Fault Refusal :=
  .next (s.answer r (.sesCertRead id offset len))

/-- SES_CERT with flag bit 0 set (R110). -/
def execSesCertSend (r : Req) (id offset total : Nat) (data : List (BitVec 8)) (s : State) : Outcome State Fault Refusal :=
  .next (s.answer r (.sesCertSend id offset total data))

/-- SES_FINISH (R113). -/
def execSesFinish (r : Req) (id : Nat) (sig : List (BitVec 8)) (s : State) : Outcome State Fault Refusal :=
  .next (s.answer r (.sesFinish id sig))

/-! ### The host SPI port (R20, R87, R88) -/

/-- What HSPI_MISO carries in a transaction: the status byte, then what the command returns. While the port does not
answer, the land is high impedance (R20). -/
def State.miso (s : State) (kind : String) (rest : List Byte) : State :=
  if s.hspiAnswers then s.send ⟨.miso, kind, s.spiStatus :: rest.map fun b => b.toNat⟩ else s

/-- The output queue after its first frame has left: a reply that waits takes the place. -/
def MdapState.popOut (x : MdapState) : MdapState :=
  match x.spiLate with
  | [] => { x with spiOut := x.spiOut.drop 1 }
  | f :: l => { x with spiOut := x.spiOut.drop 1 ++ [f], spiLate := l }

/-- PUT: the status byte leaves; a frame is queued, or discarded when the input queue is full. -/
def State.spiPut (s : State) (frame : List Byte) : State :=
  let t := s.miso "PUT" []
  if !s.hspiAnswers || frame.isEmpty || 1400 < frame.length then t
  else if s.spiInFull then t.count D.hspi_in_full
  else
    let l := s.mdap.spiIn ++ [frame]
    { t with mdap := { t.mdap with spiIn := l } }

/-- GET: the oldest frame of the output queue leaves after its length; length 0 when there is none. -/
def State.spiGet (s : State) : State :=
  match s.mdap.spiOut with
  | [] => s.miso "GET" (beBytes 2 0)
  | f :: _ =>
    if s.hspiAnswers then { s.miso "GET" (beBytes 2 f.bytes.length ++ f.bytes) with mdap := s.mdap.popOut } else s

/-- A transaction of the host SPI port: its command byte, then what follows it; another byte asks for nothing but the
status byte (R87). On a DORMANT unit with hspi_wake the access is a wake event of its own (R621). -/
def State.spiTransaction (s : State) : List Byte → State
  | [] => s
  | b :: rest =>
    if b.toNat = spiPutByte then s.spiPut rest
    else if b.toNat = spiGetByte then s.spiGet
    else s.miso "STATUS" []

/-- SPI_PUT (R87, R88). -/
def execSpiPut (frame : List (BitVec 8)) (s : State) : Outcome State Fault Refusal :=
  .next (s.spiTransaction (BitVec.ofNat 8 spiPutByte :: frame))

/-- SPI_GET (R87). -/
def execSpiGet (s : State) : Outcome State Fault Refusal := .next (s.spiTransaction [BitVec.ofNat 8 spiGetByte])

/-- SPI_STATUS (R87). -/
def execSpiStatus (s : State) : Outcome State Fault Refusal := .next (s.spiTransaction [BitVec.ofNat 8 spiStatusByte])

end Sys2Proof.Machine
end

