-- ==== Sys2Proof/Machine/Writes.lean ====
section
/-! DEFINITION. The commands that are a WRITE of one object: each is served as any WRITE is, with the
checks, the takes-effect class and the reply of one (R62, R65, R95). -/

namespace Sys2Proof.Machine

open Sys2Proof Host

/-- A WRITE of one value to one object. -/
def State.writeOne (s : State) (r : Req) (o : Obj) (i v : Nat) : State :=
  s.answer r (.write [⟨o.addr i, tyCode o.ty, v, 0⟩] 0)

/-- TB_INCREMENT_WRITE: a write of tb_increment: the counter's rate from the next tick, refused
while a servo runs (R127). -/
def execTbIncrementWrite (r : Req) (v : Nat) (s : State) : Outcome State Fault Refusal :=
  .next (s.writeOne r D.tb_increment 0 v)

/-- DOM_RATE_WRITE: a write of r_d re-anchors the domain (R131). -/
def execDomRateWrite (r : Req) (d : Fin 2) (v : Int) (s : State) : Outcome State Fault Refusal :=
  .next (s.writeOne r D.dom_rate d.val (ofSigned 32 v))

/-- DOM_ADJUST: a step of the domain's offset (R132). -/
def execDomAdjust (r : Req) (d : Fin 2) (v : Int) (s : State) : Outcome State Fault Refusal :=
  .next (s.writeOne r D.dom_adjust d.val (ofSigned 32 v))

/-- DOM_ENABLE_WRITE: DISABLED or LISTENING (R134). -/
def execDomEnableWrite (r : Req) (d : Fin 2) (v : Bool) (s : State) : Outcome State Fault Refusal :=
  .next (s.writeOne r D.dom_enable d.val v.toNat)

/-- EV_POP: the oldest capture is removed (R163). -/
def execEvPop (r : Req) (pin : Fin 6) (s : State) : Outcome State Fault Refusal :=
  .next (s.writeOne r D.ev_pop pin.val 1)

/-- TXN_RESOLVE_COMMIT: an IN_DOUBT transaction is settled as COMMIT on this member (R217). -/
def execTxnResolveCommit (r : Req) (id : Nat) (s : State) : Outcome State Fault Refusal :=
  .next (s.writeOne r D.txn_resolve_commit 0 id)

/-- TXN_RESOLVE_ABORT: an IN_DOUBT transaction is settled as ABORT on this member (R217). -/
def execTxnResolveAbort (r : Req) (id : Nat) (s : State) : Outcome State Fault Refusal :=
  .next (s.writeOne r D.txn_resolve_abort 0 id)

/-- MTR_RESET: every meter is cleared at the next boundary (R403). -/
def execMtrReset (r : Req) (s : State) : Outcome State Fault Refusal :=
  .next (s.writeOne r D.mtr_reset 0 1)

/-- IDAC_VALUE_WRITE: the value of an output in VALUE mode (R460). -/
def execIdacValueWrite (r : Req) (l : Fin 16) (v : Nat) (s : State) : Outcome State Fault Refusal :=
  .next (s.writeOne r D.idac_value l.val v)

/-- IDAC_Q_PUSH: the entry of idac_q_time and idac_q_value is queued, replaced or refused (R461).
-/
def execIdacQPush (r : Req) (l : Fin 16) (s : State) : Outcome State Fault Refusal :=
  .next (s.writeOne r D.idac_q_push l.val 1)

/-- IDAC_Q_CLEAR: the queue is emptied (R461). -/
def execIdacQClear (r : Req) (l : Fin 16) (s : State) : Outcome State Fault Refusal :=
  .next (s.writeOne r D.idac_q_clear l.val 1)

/-- IDAC_POWERUP_WRITE: the power-up value, copied to the always-on domain (R464). -/
def execIdacPowerupWrite (r : Req) (l : Fin 16) (v : Nat) (s : State) : Outcome State Fault Refusal :=
  .next (s.writeOne r D.idac_powerup l.val v)

/-- RING_TAIL_WRITE: descriptors are handed to the module (R481). -/
def execRingTailWrite (r : Req) (ring : Fin 64) (v : Nat) (s : State) : Outcome State Fault Refusal :=
  .next (s.writeOne r D.ring_tail ring.val v)

/-- TWIN_REJOIN: a FAILED unit returns to RESYNC (R529). -/
def execTwinRejoin (r : Req) (s : State) : Outcome State Fault Refusal :=
  .next (s.writeOne r D.twin_rejoin 0 1)

/-- DMC_RETRAIN: a set point is retrained, in QUIET only (R581). -/
def execDmcRetrain (r : Req) (sp : Fin 2) (s : State) : Outcome State Fault Refusal :=
  .next (s.writeOne r D.dmc_retrain 0 sp.val)

/-- DMA_START: a COMMAND-triggered channel starts (R589). -/
def execDmaStart (r : Req) (c : Fin 8) (s : State) : Outcome State Fault Refusal :=
  .next (s.writeOne r D.dma_start c.val 1)

/-- DMA_STOP: a channel stops at the next descriptor boundary (R590). -/
def execDmaStop (r : Req) (c : Fin 8) (s : State) : Outcome State Fault Refusal :=
  .next (s.writeOne r D.dma_stop c.val 1)

/-- DMA_RESET: a channel is aborted at once (R590). -/
def execDmaReset (r : Req) (c : Fin 8) (s : State) : Outcome State Fault Refusal :=
  .next (s.writeOne r D.dma_reset c.val 1)

/-- LOG_WINDOW_START: the records that log_window returns (R604). -/
def execLogWindowStart (r : Req) (v : Nat) (s : State) : Outcome State Fault Refusal :=
  .next (s.writeOne r D.log_window_start 0 v)

/-- LOG_CLEAR: the log is erased (R604). -/
def execLogClear (r : Req) (s : State) : Outcome State Fault Refusal :=
  .next (s.writeOne r D.log_clear 0 1)

/-- OWNER_CLEAR: the owner certificate is removed, over the host SPI port only (R606, R607). -/
def execOwnerClear (r : Req) (s : State) : Outcome State Fault Refusal :=
  .next (s.writeOne r D.owner_clear 0 1)

/-- ERR_ALARM_ACK: err_alarm_pending becomes zero and nALARM is released (R653). -/
def execErrAlarmAck (r : Req) (s : State) : Outcome State Fault Refusal :=
  .next (s.writeOne r D.err_alarm_ack 0 1)

/-- ERR_FAULT_CLEAR: nFAULT is released (R652). -/
def execErrFaultClear (r : Req) (s : State) : Outcome State Fault Refusal :=
  .next (s.writeOne r D.err_fault_clear 0 1)

/-- SESSION_CLOSE_WRITE: the named session closes (R118). -/
def execSessionCloseWrite (r : Req) (id : Nat) (s : State) : Outcome State Fault Refusal :=
  .next (s.writeOne r D.session_close 0 id)

/-- PERSIST_FLUSH: the reply follows once every earlier change is in NAND (R77). -/
def execPersistFlush (r : Req) (s : State) : Outcome State Fault Refusal :=
  .next (s.writeOne r D.persist_flush 0 1)

/-- PERSIST_RESET: every +P object takes its default at the next reset (R79). -/
def execPersistReset (r : Req) (s : State) : Outcome State Fault Refusal :=
  .next (s.writeOne r D.persist_reset 0 1)

/-- The field of an event pin whose write rearms it (R162). -/
def rearmField (n : Fin 3) : Obj :=
  match n.val with
  | 0 => D.ev_mode
  | 1 => D.ev_start
  | _ => D.ev_start_sample

/-- EV_REARM: a write of ev_mode, ev_start or ev_start_sample (0, 1, 2) rearms the pin (R162). -/
def execEvRearm (r : Req) (pin : Fin 6) (field : Fin 3) (v : Nat) (s : State) : Outcome State Fault Refusal :=
  .next (s.writeOne r (rearmField field) pin.val v)

/-- The objects that are run controls (R68). -/
def runControls : List Obj :=
  [D.run12, D.run20, D.run4C, D.runPort, D.runDom, D.runRingRx, D.runRingTx, D.runDma]

/-- RUN_CONTROL_WRITE: the run control at an address is written; another address is no run control, and
nothing is written (R68, R69). -/
def execRunControlWrite (r : Req) (a : Nat) (run : Bool) (s : State) : Outcome State Fault Refusal :=
  match objAt a with
  | some (o, i, _) => if oneOf o runControls then .next (s.writeOne r o i run.toNat) else .next s
  | none => .next s

/-- PLL_RAMP_WRITE: a ramp profile in one chunk, stored or refused with RANGE (R593). -/
def execPllRampWrite (r : Req) (p : Fin 2) (data : List (BitVec 8)) (s : State) : Outcome State Fault Refusal :=
  .next (s.answer r (.blobWrite (D.pll_ramp.addr p.val) true true 0 0 data.length data))

/-- OWNER_CERT_WRITE: a chunk of an owner certificate; LAST enrols or replaces it, and ends every trust
that rests on the old one (R606, R607). -/
def execOwnerCertWrite (r : Req) (first last : Bool) (other : Fin 64) (offset total : Nat) (data : List (BitVec 8)) (s : State) :
    Outcome State Fault Refusal :=
  .next (s.answer r (.blobWrite D.owner_cert.base first last other offset total data))

/-- HIST_SNAP: the command hist_snap at its boundary, the present one: the unit's live contents become
its snapshot (R641). -/
def execHistSnap (u : Fin 32) (s : State) : Outcome State Fault Refusal := .next (s.histSnap u.val s.blockNow)

end Sys2Proof.Machine
end

