-- ==== Sys2Proof/Machine/Boundary.lean ====
section
/-! DEFINITION. The seal and the block boundary: what a boundary applies and in which order
(R65–R71, R100, R101, R202–R205, R209, R635). -/

namespace Sys2Proof.Machine

open Sys2Proof Host

/-! ### What the module originates itself (R254, R395, R543) -/

/-- A LOCAL transaction of the module's own commits with the partner's acknowledgement when there is
a partner; true once it no longer has to be asked for. -/
def State.originateLocal (s : State) (b rung : Nat) (l : List Item) : State × Option Nat :=
  if s.mirrored then (s.hold (b + 1) (.commit l none) (.originate rung 0 l), some 0)
  else s.originate rung 0 l

/-- The healing transactions of the outputs that Proof has declared FAILED; without a free slot they
are tried again at the next boundary (R254). -/
def State.healDue (s : State) (b : Nat) : State :=
  let waiting := s.render.heal
  let s0 : State := { s with render := { s.render with heal := [] } }
  if 1 < s.role then s0
  else
    waiting.foldl (fun t j =>
      let r := t.originateLocal b 2 [⟨D.lst_status.addr j, tyCode D.lst_status.ty, 2, 0⟩]
      match r.2 with
      | some _ => r.1
      | none => { r.1 with render := { r.1.render with heal := r.1.render.heal ++ [j] } }) s0

/-- A tracker whose publication was aborted publishes again after its next window (R395). -/
def State.trackersSettle (s : State) : State :=
  let aborted (id : Nat) : Bool := s.cu.finished.any fun t => t.id == id && t.st == tsAborted
  let l := s.svc.trackers.map fun x =>
    if x.txn.any aborted then { x with txn := none, published := none } else x
  { s with svc := { s.svc with trackers := l } }

/-- The publications that trackers have asked for (R395). -/
def State.publishDue (s : State) (b : Nat) : State :=
  let waiting := s.svc.publish
  let s0 : State := ({ s with svc := { s.svc with publish := [] } } : State).trackersSettle
  waiting.foldl (fun t e =>
    let l : List Item := [⟨D.amb_gain.addr e.1, tyCode D.amb_gain.ty, e.2, 0⟩]
    let r := if t.get D.amb_publish_scope e.1 = 0 then t.originateLocal b 5 l else t.originate 5 1 l
    let x := trackerOf r.1.svc.trackers e.1
    r.1.putTracker { x with txn := r.2, published := if r.2.isNone then none else x.published }) s0

/-- An LTC re-anchor or pause is journaled for the boundary whose seal passes (R543). -/
def State.ltcSeal (s : State) (b : Nat) : State :=
  let x := s.timeline.ltc
  if !s.mirrored || x.acked then s
  else
    let s1 := if x.reanchor && !s.getB D.ltc_publish then
        (let m := s.ltcMap b
         s.hold b (.values [(D.show_map_st.base, ofSigned 64 m.1), (D.show_map_nt.base, m.2.1),
           (D.show_map_rate.base, m.2.2)]) .reanchor)
      else s
    if x.pause && s.showRuns then
      s1.hold b (.values [(D.show_resume_rate.base, s.get D.show_map_rate),
        (D.show_map_st.base, ofSigned 64 (s.showTime b)), (D.show_map_rate.base, 0)]) .pause
    else s1

/-! ### The seal (R202, R204) -/

/-- What the seal of boundary `b` makes of a transaction: a participant without a decision is IN_DOUBT,
and the seal of one that only waits for its TXN_COMMIT has passed. -/
def Txn.atSeal (t : Txn) (b : Nat) : Txn :=
  if t.st = tsPrepared && decide (t.applyBlock ≤ b) then
    (if t.originator then { t with sealed_ := true } else { t with st := tsInDoubt })
  else t

/-- The snapshot of boundary `b` (R204). -/
def State.seal (s : State) (b : Nat) : State :=
  let slots := s.cu.slots.map fun t => t.atSeal b
  let ids := (slots.filter fun t => t.st == tsCommitted && decide (t.applyBlock ≤ b)).map fun t => t.id
  let snap : Snapshot := ⟨b, s.cu.live, ids⟩
  { s with cu := { s.cu with slots := slots, live := [], sealed_ := s.cu.sealed_ ++ [snap], lastSeal := some b } }

/-- SEAL: 20 µs before boundary `b`. -/
def execSeal (b : Nat) (s : State) : Outcome State Fault Refusal :=
  if s.power.phase = .running then .next ((((s.healDue b).publishDue b).ltcSeal b).seal b) else .next s

/-! ### Steps 1 and 2 of R209 -/

/-- The snapshots that boundary `k` takes: its own, and those of boundaries a forward step skipped. -/
def State.snapsDue (s : State) (k : Nat) : List Snapshot := s.cu.sealed_.filter fun x => decide (x.block ≤ k)

/-- The transactions that boundary `k` applies, in ascending order key; the payload writes that waited
are among them, keyed by their entry (R205, R209). -/
def State.txnsDue (s : State) (k : Nat) : List Txn :=
  let ids := (s.snapsDue k).flatMap fun x => x.txns
  let due := s.cu.slots.filter fun t =>
    t.st == tsCommitted && (decide (t.applyBlock < k) || (t.applyBlock == k && ids.contains t.id))
  let waited := s.cu.deferred.map fun e =>
    ({ id := 0, st := tsCommitted, items := e.2.2, applyBlock := k, orderTime := s.tBoundary e.1
       orderNode := e.2.1, orderSeq := 0 } : Txn)
  sortTxns (due ++ waited)

/-- Apply one of them. -/
def State.applyDue (s : State) (k : Nat) (t : Txn) : State :=
  if t.id = 0 then s.applyItems k t.items else s.applyTxn k t (decide (t.applyBlock < k))

/-- A BLOB value that the ACTIVE has completed, with the generation it has there. -/
def State.blobEntry (s : State) (k a gen : Nat) (data : List Byte) : State :=
  match objAt a with
  | none => s
  | some (o, i, _) =>
    let t := ((s.raiseGen o i (gen - 1)).completeShadow o i data).1
    if t.cu.live.length = s.cu.live.length then t
    else ({ t with cu := { t.cu with live := s.cu.live } } : State).applyValue k a (handleOf data.length gen) false

/-- A pair-wide value that the ACTIVE has set itself. A status of an output sets Proof's marks
(R420). -/
def State.valueEntry (s : State) (e : Nat × Nat) : State :=
  match D.lst_status.locate e.1 with
  | some (j, _) => s.modMark j fun m => { m with suspect := e.2 == 1, failed := e.2 == 2 }
  | none => { s with dict := put s.dict e.1 e.2 }

/-- What the ACTIVE has journaled for boundaries up to `k`, in the order of R209: what it completed or
set itself, LIVE writes, then commits; `p` says which of the values apply here. -/
def State.heldEntries (s : State) (k : Nat) (p : Nat → Bool) : State :=
  let due := s.twin.held.filter fun e => decide (e.block ≤ k)
  let t := due.foldl (fun t e =>
    match e.act with
    | .blob a g d => if p a then t.blobEntry k a g d else t
    | .values l => (l.filter fun v => p v.1).foldl State.valueEntry t
    | _ => t) s
  let t := due.foldl (fun t e =>
    match e.act with
    | .live l => (l.filter fun v => p v.1).foldl (fun t v => t.applyValue k v.1 v.2 true) t
    | _ => t) t
  due.foldl (fun t e =>
    match e.act with
    | .commit l shed =>
      let here := l.filter fun it => p it.addr
      let u := t.applyItems k here
      match shed with
      | some r => u.shedFor r (here.map fun it => it.addr)
      | none => u
    | _ => t) t

/-- Steps 1 and 2: LIVE writes in acceptance order, then transactions. A new mdap_udp_port closes the sessions on UDP
(R123). -/
def State.applyChanges (s : State) (k : Nat) : State :=
  let live := (s.snapsDue k).flatMap fun x => x.live
  let txns := s.txnsDue k
  let written := txns.flatMap fun t => s.txnAddrs t
  let lost := (live.filter fun e => written.contains e.1).length
  let rest := s.cu.sealed_.filter fun x => !decide (x.block ≤ k)
  let s0 : State := { s with cu := { s.cu with sealed_ := rest, deferred := [] } }
  let t := live.foldl (fun t e => t.applyValue k e.1 e.2 false) (s0.count D.superseded_writes 0 lost)
  let t := txns.foldl (fun t x => t.applyDue k x) t
  let t := t.heldEntries k fun a => !t.awaitsState || pairWide a
  let kept := t.twin.held.filter fun e => !decide (e.block ≤ k)
  s.portMoved (({ t with twin := { t.twin with held := kept } } : State).settleChanges k)

/-! ### Step 3: media time (R153–R156, R545, R633) -/

/-- JOINED, with another node in the graph, and a source that no other node shares (R633). -/
def State.timeUnshared (s : State) : Bool :=
  s.get D.fab_state == 2 && decide (1 < s.members.length) &&
    (s.get D.media_source_now == 2 || s.get D.media_source_now == 3)

/-- The source is evaluated and tested; a partner takes both from the ACTIVE. -/
def State.timeBoundary (s : State) (k : Nat) : State :=
  let t := if s.followsTime then s else (s.evalSource).bridgeTest k
  let d := if s.followsTime then t.time.degraded else t.sourceDegraded
  let u := t.timeUnshared
  let t1 := if u && !t.time.unshared then t.error 0x10 0 0x0306 .warn else t
  let t2 : State := { t1 with time := { t1.time with degraded := d, unshared := u } }
  if t2.mirrored then t2.enter k (.time (t2.get D.media_source_now) t2.time.bridge d) none else t2

/-! ### LTC (R185, R187, R188) -/

/-- A re-anchor that waits is made at boundary `k`, or published as a fabric transaction; a pause that
waits is made. -/
def State.ltcDue (s : State) (k : Nat) : State :=
  let x := s.timeline.ltc
  let rest : LtcTracker := { x with reanchor := false, pause := false, acked := false }
  if !(x.reanchor || x.pause) then s
  else if 1 < s.role || s.get D.show_source ≠ 0 then s.modLtc fun _ => rest
  else if x.reanchor && s.getB D.ltc_publish then
    (let m := s.ltcMap s.leadBlock
     let item (o : Obj) (v : Nat) : Item := ⟨o.base, tyCode o.ty, v, 0⟩
     let r := (s.modLtc fun _ => rest).originate 4 1
       [item D.show_map_st (ofSigned 64 m.1), item D.show_map_nt m.2.1, item D.show_map_rate m.2.2]
     let waits := x.pause && s.mirrored && !x.acked
     let t := r.1.modLtc fun y => { y with published := r.2, reanchor := r.2.isNone, pause := waits }
     if x.pause && !waits then t.showRun k false else t)
  else if s.mirrored && !x.acked then s
  else
    let t := s.modLtc fun _ => rest
    let t := if x.reanchor then
        (let m := t.ltcMap k
         t.setMap m.1 m.2.1 m.2.2)
      else t
    if x.pause then t.showRun k false else t

/-! ### Steps 4 and 5: show time and actions (R181, R184, R193–R198) -/

/-- Show time advances to boundary `k`, and the entries that are due fire; `under` is ST at `k` under
the mapping that held before this boundary. It also answers whether the mapping jumped. -/
def State.showBoundary (s : State) (k : Nat) (under : Int) (first : Bool) : State × Bool :=
  let now := s.showTime k
  let jumped := decide ((s.get D.show_jump_threshold : Int) < (now - under).natAbs)
  let old := if first then s.showTime (k - 1) else s.timeline.last
  let t := if jumped then s.count D.show_jumps else s
  let t := (t.actions k old now jumped).settleChanges k
  ({ t with timeline := { t.timeline with last := now, ran := t.showRuns } }, jumped)

/-- The mapping has changed at the present boundary, whose actions have fired under the mapping before; ST was `under`
(R184, R194). -/
def State.showMoved (s : State) (under : Int) : State :=
  let k := s.blockNow
  let now := s.showTime k
  let jumped := decide ((s.get D.show_jump_threshold : Int) < (now - under).natAbs)
  if jumped then
    (let t := ((s.count D.show_jumps).showEntries k under now true).settleChanges k
     { t with timeline := { t.timeline with last := now } })
  else s

/-- SHOW_JUMP: the command show_jump at its commit boundary, the present one (R183, R184). -/
def execShowJump (j : Int) (s : State) : Outcome State Fault Refusal :=
  if s.showInternal then .next ((s.showJump s.blockNow j).showMoved (s.showTime s.blockNow)) else .next s

/-- LTC_REANCHOR: the re-anchor or pause that waits, at the present boundary (R184, R185, R187, R188). -/
def execLtcReanchor (s : State) : Outcome State Fault Refusal :=
  .next ((s.ltcDue s.blockNow).showMoved (s.showTime s.blockNow))

/-! ### The scene (R178, R226, R253, R387, R400, R405, R429) -/

/-- Rendering takes the block of boundary `k`. -/
def State.renders (s : State) (k : Nat) : Bool :=
  s.get D.runState12 != 0 && !(s.power.stopAt.any fun b => decide (b < k + s.presOffset))

/-- The pair-wide part of boundary `k`. -/
def State.sceneHalf (s : State) (k : Nat) (first : Bool) : State :=
  let under := s.showTime k
  let t := (s.endVoices.applyChanges k).timeBoundary k
  let t := (t.ltcDue k).present k
  let r := t.showBoundary k under first
  let t := ((r.1.bindVoices.arbitrate k).voicesBoundary k).swapDue k 64
  let t := if t.render.triDirty then t.startTri k else t
  let t := if t.renders k then t.sceneBoundary k r.2 else t
  (t.standbyBoundary.proofDue k).proofRelease

/-! ### Inputs that are complete (R443, R489, R490, R549, R550) -/

/-- MIC_LEVEL of block `k` (R638). -/
def State.micLevels (s : State) (k : Nat) : State :=
  let chs := ((List.range 32).filter fun u => s.get D.hist_source u == 6).map fun u => s.get D.hist_select u
  chs.eraseDups.foldl (fun t ch =>
    let x := (t.channelBlock 2 ch k).1
    let sum := x.foldl (fun a y => F32.add a (F32.mul y y)) F32.zero
    t.histRecord 6 ch (level10 (F32.div sum (F32.ofInt x.length)))) s

/-- The blocks of input that boundary `k` completes, and what measures them. -/
def State.inputsBoundary (s : State) (k : Nat) : State :=
  let t := if 1 ≤ k then (((s.closeLocal (k - 1)).mirrorBlock (k - 1)).micLevels (k - 1)) else s
  let late := k + 1 - t.presOffset
  let t := if t.presOffset ≤ k + 1 then (t.closeStreams late).closeRepairs late else t
  if 1 ≤ k && t.role ≤ 1 && t.get D.pw_state = 0 then
    ((t.foldBlock (k - 1)).senseAll (k - 1)).trackAll (k - 1)
  else if 1 ≤ k && t.role ≤ 1 then t.trackAll (k - 1)
  else t

/-! ### Step 6: subscriptions (R100, R101) -/

/-- Who a subscription reads for. -/
def State.subWho (s : State) (x : Sub) : Who :=
  match s.session x.session with
  | some y => { src := y.src, session := y.id, role := y.role, ownerChain := y.ownerChain }
  | none => { src := x.src, role := roleOfNat (s.get D.hspi_role) }

/-- The `n`-th subscription at boundary `k`: what becomes of it, and its NOTIFY. DESIGN CHOICE (log entry 107): the
first NOTIFY leaves at the first boundary after the creation in either mode, and the value is compared at boundaries
only, so that several changes between two of them count as one. -/
def State.evalSub (s : State) (k n : Nat) (x : Sub) : Sub × Option (List Byte) :=
  match s.object x.addr with
  | none => (x, none)
  | some (o, i, sub) =>
    let v := s.shown (s.subWho x) n o i sub
    let changes := if v = x.seen then x.changes else (x.changes + 1) % 65536
    let waited := decide (x.last + x.interval ≤ k) || decide (k < x.last)
    let due := x.notified.isNone || (waited && (x.mode == 2 || x.notified != some v))
    let y : Sub := { x with seen := v, changes := changes }
    if due then
      ({ y with last := k, notified := some v }, some (notifyBody x.id changes k x.addr (tyCode o.ty) v))
    else (y, none)

/-- Every subscription at boundary `k`. -/
def State.subscriptions (s : State) (k : Nat) : State :=
  let all := s.mdap.subs.zipIdx.map fun x => (x.1, s.evalSub k x.2 x.1)
  let t : State := { s with
    mdap := { s.mdap with subs := all.map fun e => e.2.1 }
    free := s.free + all.length }
  all.foldl (fun t e => match e.2.2 with
    | some body => t.emit e.1.src e.1.session body true
    | none => t) t

/-! ### Histograms (R641, R642) -/

/-- A histogram unit at boundary `k`: a snapshot that is due, then a change of its configuration. -/
def State.histBoundary (s : State) (k : Nat) : State :=
  (List.range 32).foldl (fun t u =>
    let h := t.hist.getD u {}
    let p := t.get D.hist_period u
    let t1 := if h.snap || (p != 0 && k % p == 0) then t.histSnap u k else t
    if h.clear then { t1 with hist := modAt t1.hist u fun _ => { start := k } } else t1) s

/-! ### The unit (R463, R529, R548, R560, R611, R626, R635) -/

/-- The member is fully joined (R525). -/
def State.fullyJoined (s : State) : Bool :=
  s.get D.fab_state == 2 && s.getB D.fab_scene_match && s.get D.media_source_now < 2 &&
    s.get D.dom_state (s.get D.media_source_now) == domLocked

/-- The safe scene ends (R626). -/
def State.safeEnds (s : State) : State :=
  let alone := !s.getB D.fab_enable || s.fabNode = 0
  if s.power.safe && (if alone then s.sourceUsable (s.get D.media_source) else s.fullyJoined) then
    { s with power := { s.power with safe := false } }
  else s

/-- A planned switch, then power, then the reset into another image (R529, R611, R635). -/
def State.lastSteps (s : State) (k : Nat) : State :=
  let t := if s.twin.switchAt = some k then s.switchNow else s
  let t := t.powerBoundary k
  match t.power.activate with
  | some (slot, b) => if b ≤ k then t.activateNow slot else t
  | none => t

/-- What twin operation ends at a boundary: a switch that is past, the quiet after waking, and the mute
of a take-over whose safe scene is loaded (R533, R548, R560). -/
def State.twinBoundary (s : State) (k : Nat) : State :=
  let x := s.twin
  let awake := x.asleep && s.get D.pw_state = 0 && s.power.entry.isNone
  { s with twin := { x with
    switchAt := if x.switchAt.any fun b => decide (b < k) then none else x.switchAt
    asleep := x.asleep && !awake
    loading := x.loading && !x.loaded
    loaded := x.loaded && !x.loading } }

/-! ### Resync, at the ACTIVE (R556) -/

/-- The pair-wide values that a resync copies: every value that the dictionary holds. -/
def State.pairValues (s : State) : List (Nat × Nat) := s.dict.filter fun e => pairWide e.1

/-- The state of R557, as a checkpoint of the state at the end of a block (log entry 36). -/
def State.checkpointNow (s : State) : Checkpoint :=
  { pairs := s.render.pairs, ingest := s.render.ingest, objs := s.render.objs, chains := s.render.chains
    dests := s.render.dests, stipple := s.svc.stipple, meters := s.svc.meters, silence := s.svc.silence
    voices := s.svc.voices, notes := s.timeline.notes
    values := s.pairValues ++ s.render.marks.map fun m => (D.lst_status.addr m.out, s.outStatus m.out)
    excluded := (s.render.marks.filter (·.excluded)).map (·.out)
    nodes := s.graver.nodes, insts := s.graver.insts, published := s.graver.published
    regions := s.graver.nodes.map fun n =>
      let a := xAddr n.core (n.x + n.param)
      (a, s.mem.cells.bytes a (4 * n.state)) }

/-- At the end of block C − 1 the ACTIVE captures and sends the checkpoint. -/
def State.captureNow (s : State) (k : Nat) : State :=
  if s.role = roleActive && s.twin.step = 1 && s.twin.checkpoint = some k then
    (let c := s.checkpointNow
     let t := s.sendCheckpoint k c
     { t with twin := { t.twin with step := 2 } })
  else s

/-- An ACTIVE whose partner is in RESYNC: it journals its values, sends its BLOBs and chooses the checkpoint
block 3 blocks ahead. When the partner has not taken the checkpoint within 3000 blocks, a new one is
chosen. -/
def State.resyncBoundary (s : State) (k : Nat) : State :=
  if s.role ≠ roleActive then s
  else if s.partnerRole ≠ roleResync || !s.paired then
    { s with twin := { s.twin with step := 0, checkpoint := none } }
  else if s.twin.step = 0 then
    (let t := s.enter k (.dictionary s.pairValues) none
     let t := (s.blobs.filter fun b => pairWide b.addr).foldl State.sendBlob t
     { t with twin := { t.twin with step := 1, checkpoint := some (k + 3) } })
  else if s.twin.checkpoint.any fun c => decide (c + 3000 < k) then
    { s with twin := { s.twin with step := 1, checkpoint := some (k + 3) } }
  else s

/-! ### The boundary (R209, R635) -/

/-- What a unit in RESYNC applies while its render waits for the checkpoint: its own LIVE writes, its own
transactions, and the items of journaled commits that are unit-own (R544, R556). -/
def State.resyncHalf (s : State) (k : Nat) : State :=
  let live := (s.snapsDue k).flatMap fun x => x.live
  let rest := s.cu.sealed_.filter fun x => !decide (x.block ≤ k)
  let txns := s.txnsDue k
  let s0 : State := { s with cu := { s.cu with sealed_ := rest, deferred := [] } }
  let t := live.foldl (fun t e => t.applyValue k e.1 e.2 false) s0
  let t := txns.foldl (fun t x => t.applyDue k x) t
  let now := t.twin.held.filter fun e => e.block == k
  let u := ({ t with twin := { t.twin with held := now } } : State).heldEntries k fun a => !pairWide a
  let u : State := { u with twin := { u.twin with held := t.twin.held } }
  ((s.portMoved (u.settleChanges k)).timeBoundary k).presentQuiet k

/-- The unit's own part of boundary `k`, after its scene. -/
def State.unitHalf (s : State) (k : Nat) : State :=
  let t := (s.localBoundary k).idacsStart.idacsBoundary k
  let t := ((t.subscriptions k).histBoundary k).pruneInputs (k - (if s.role = roleResync then 3000 else 2 * s.presOffset + 70))
  let t := (t.twinBoundary k).safeEnds
  let t := (t.digestBoundary k).resyncBoundary k
  t.lastSteps k

/-- Boundary `k`. -/
def State.boundary (s : State) (k : Nat) : State :=
  let first := s.time.block.isNone
  let s0 : State := { s with time := { s.time with block := some k } }
  let t := ((((s0.captureNow k).startsDone).inputsBoundary k).portsResume).stageRewrite k
  let t := if t.awaitsState then t.resyncHalf k else t.sceneHalf k first
  ((t.noteTraffic.clockBlock k).votesDue k).unitHalf k

/-- BLOCK_BOUNDARY: media time reaches the boundary of block `k`. -/
def execBlockBoundary (k : Nat) (s : State) : Outcome State Fault Refusal :=
  if s.power.phase = .running then .next (s.boundary k) else .next s

end Sys2Proof.Machine
end

