-- ==== Sys2Proof/Machine/Journal.lean ====
section
/-! DEFINITION. The journal of a pair, the loss of Lace, and the copying and replay of state
(R528, R529, R538, R539, R543–R548, R556–R559). -/

namespace Sys2Proof.Machine

open Sys2Proof Host

/-! ### The partner's side (R543–R547) -/

/-- An entry received is kept in the order of the indices. -/
def insertHeld (e : JournalHeld) : List JournalHeld → List JournalHeld
  | [] => [e]
  | x :: l => if e.index < x.index then e :: x :: l else x :: insertHeld e l

/-- Keep an entry until its block. -/
def State.holdEntry (s : State) (index block : Nat) (act : JournalAct) : State :=
  { s with twin := { s.twin with held := insertHeld ⟨index, block, act⟩ s.twin.held } }

/-- Every pair-wide value of the ACTIVE takes the place of this unit's (R556). -/
def State.takeDictionary (s : State) (l : List (Nat × Nat)) : State :=
  let base := s.dict.filter fun e => !pairWide e.1
  let t : State := { s with dict := base, render := { s.render with loadDirty := true } }
  ((l.filter fun e => pairWide e.1).foldl State.valueEntry t).loadTri

/-- The source in effect, the bridge and the test of R156, as the ACTIVE reports them: media time stays
continuous through a switch of source, and moves with a step of the bridge (R545). -/
def State.takeTime (s : State) (source : Nat) (bridge : Int) (degraded : Bool) : State :=
  let moved := if s.get D.media_source_now = source then bridge - s.time.reported.getD bridge else 0
  let t := s.keepMedia fun u => u.set D.media_source_now source
  { t with time := { t.time with
    degraded := degraded, reported := some bridge
    bridge := t.time.bridge + moved } }

/-- What a new entry of the ACTIVE does. -/
def State.hear (s : State) (index block : Nat) : JournalAct → State
  | .dictionary l => s.takeDictionary l
  | .time source bridge degraded => s.takeTime source bridge degraded
  | .power target => { s with power := { s.power with held := some target } }
  | .grant f t => { s with twin := { s.twin with frameGrant := f, txnGrant := t } }
  | act => s.holdEntry index block act

/-- JOURNAL: an entry is acknowledged; one that is heard for the first time takes effect in STANDBY and
RESYNC (R539, R543). -/
def execJournal (f : LaceIn) (index block : Nat) (act : JournalAct) (s : State) : Outcome State Fault Refusal :=
  .next (s.laceFrame f ltJournal (journalBody index block act) fun s =>
    let known := s.twin.heard.contains index
    let l := index :: s.twin.heard.take 1023
    let t : State := if known then s else { s with twin := { s.twin with heard := l } }
    let t := if !known && (s.role = roleStandby || s.role = roleResync) then t.hear index block act else t
    t.sendLace 0 ltJournalAck (beBytes 8 index))

/-! ### The ACTIVE's side (R539, R543) -/

/-- The module originates a transaction that the partner has acknowledged; one that finds no slot is
asked for again (R254, R395). -/
def State.originateHeld (s : State) (rung scope : Nat) (l : List Item) : State :=
  let r := s.originate rung scope l
  match l.head?.bind fun it => objAt it.addr with
  | none => r.1
  | some (o, i, _) =>
    if o.base = D.lst_status.base && r.2.isNone then
      { r.1 with render := { r.1.render with heal := r.1.render.heal ++ [i] } }
    else if o.base = D.amb_gain.base then
      (let x := trackerOf r.1.svc.trackers i
       r.1.putTracker { x with txn := r.2, published := if r.2.isNone then none else x.published })
    else r.1

/-- The effect that an entry holds back; once a request is accepted, those that waited for it are served (R90). -/
def State.release (s : State) : Held → State
  | .request r m => (s.released r m).drain
  | .vote id => s.sendVote id
  | .decision id commit reason => s.decideNow id commit reason
  | .outcome id node => s.sendOutcome id node
  | .ack id => s.sendAck id
  | .verdict j => s.proofVerdict j
  | .line l => s.linePeriod l
  | .originate rung scope l => s.originateHeld rung scope l
  | .reanchor => s.modLtc fun x => { x with acked := true }
  | .pause => s.modLtc fun x => { x with acked := true }
  | .power target => { s with power := { s.power with held := some target } }

/-- The effect of an entry, when it holds one back. -/
def State.releaseEntry (s : State) (e : JournalEntry) : State :=
  match e.held with
  | some h => s.release h
  | none => s

/-- JOURNAL_ACK: the acceptance instant of what the entry carries (R90, R543). -/
def execJournalAck (f : LaceIn) (index : Nat) (s : State) : Outcome State Fault Refusal :=
  .next (s.laceFrame f ltJournalAck (beBytes 8 index) fun s =>
    match s.twin.journal.find? fun e => e.index == index with
    | none => s
    | some e =>
      let rest := s.twin.journal.filter fun x => x.index != index
      ({ s with twin := { s.twin with journal := rest } } : State).releaseEntry e)

/-- JOURNAL_RETRANSMIT: no JOURNAL_ACK has arrived within 10 µs (R539). -/
def execJournalRetransmit (index : Nat) (s : State) : Outcome State Fault Refusal :=
  match s.twin.journal.find? (fun e => e.index == index), s.laneFor 0 with
  | some e, some lane =>
    .next ((s.count D.lace_retransmits lane).sendLace 0 ltJournal (journalBody e.index e.block e.act))
  | _, _ => .next s

/-! ### Lace DOWN (R528, R529, R538, R543) -/

/-- Both lanes are DOWN: the ACTIVE goes on without acknowledgement, and a STANDBY discards what it has
copied. -/
def State.laceLost (s : State) : State :=
  if s.role = roleActive then
    (let t := s.error 0x68 0 0x0B02 .warn
     let waiting := t.twin.journal
     waiting.foldl State.releaseEntry { t with twin := { t.twin with journal := [] } })
  else if s.role = roleStandby then s.enterResync
  else s

/-- LACE_LANE_DOWN. -/
def execLaceLaneDown (lane : Fin 2) (s : State) : Outcome State Fault Refusal :=
  if !s.getB D.twin_enable then .next s
  else
    let t := s.set D.lace_state 0 lane.val
    .next ((if s.laneUp lane.val && !t.laneUp (1 - lane.val) then t.laceLost else t).refreshHealth)

/-! ### Resync, at the partner (R556–R558) -/

/-- The state of R557 takes its place; what fills from the inputs starts empty. -/
def State.loadCheckpoint (s : State) (c : Checkpoint) : State :=
  let chains := c.chains.map fun x => { x with line := [], etchIn := [] }
  let s0 : State := { s with
    dict := s.dict.filter fun e => !pairWide e.1
    render := { s.render with
      pairs := c.pairs, ingest := c.ingest, objs := c.objs, chains := chains, dests := c.dests
      marks := [], recs := [], rings := [], loadDirty := true }
    svc := { s.svc with
      stipple := c.stipple, meters := c.meters, silence := c.silence, voices := c.voices }
    timeline := { s.timeline with notes := c.notes }
    graver := { s.graver with nodes := c.nodes, insts := c.insts, published := c.published } }
  let t := (c.values.filter fun e => pairWide e.1).foldl State.valueEntry s0
  let t := c.excluded.foldl (fun t j => t.modMark j fun m => { m with excluded := true }) t
  (c.regions.foldl (fun t e => t.writeMem e.1 e.2) t).loadTri

/-- Replay block `m`: its boundary, with the journal's entries, then its render slot (R558). -/
def State.replayBlock (s : State) (m : Nat) : State :=
  let t : State := { s with time := { s.time with block := some m } }
  (t.sceneHalf m false).renderSlot [] [] []

/-- Load the checkpoint of block `c` and replay blocks `c` to the present one. -/
def State.replay (s : State) (c : Nat) (x : Checkpoint) : State :=
  let n := s.blockNow
  let t := s.heldEntries (c - 1) pairWide
  let kept := t.twin.held.filter fun e => decide (c ≤ e.block)
  let t := ({ t with twin := { t.twin with held := kept } } : State).loadCheckpoint x
  let t := (List.range (n + 1 - c)).foldl (fun t i => t.replayBlock (c + i)) t
  { t with
    time := { t.time with block := some n }
    twin := { t.twin with step := 3 } }

/-- Resync starts again at its step 3 (R556). -/
def State.resyncAgain (s : State) : State :=
  let t := s.count D.twin_resync_restarts
  { t with twin := { t.twin with checkpoint := none, held_ := 0 } }

/-- A new checkpoint and new blocks are written over the old ones: the words are correct again (R565). -/
def State.twinRewrite (s : State) : State :=
  let inside (w : Nat) : Bool := decide (twinBase ≤ 8 * w) && decide (8 * w < twinBase + twinSize)
  { s with mem := { s.mem with bad := s.mem.bad.filter fun w => !inside w } }

/-- CHECKPOINT: a piece of the checkpoint of a block; `whole` is what the pieces spell once all are held
(R556). When replay would need more than 3000 blocks, or meets an uncorrectable word (R567), resync starts again at its
step 3. -/
def execCheckpoint (f : LaceIn) (block offset total : Nat) (data : List (BitVec 8)) (whole : Option Checkpoint)
    (s : State) : Outcome State Fault Refusal :=
  .next (s.laceFrame f ltCheckpoint (checkpointBody block offset total data) fun s =>
    if s.role ≠ roleResync then s
    else
      let held := if s.twin.checkpoint = some block then s.twin.held_ else 0
      let now := if offset = held then held + data.length else held
      let t : State := { s with twin := { s.twin with checkpoint := some block, held_ := now } }
      let t := t.sendLace 1 ltCheckpointAck (checkpointAckBody block now)
      match whole with
      | none => t
      | some x =>
        if now < total || !s.awaitsState then t
        else if t.badIn twinBase twinSize then (t.error 0x68 0 0x0202 .degraded).twinRewrite.resyncAgain
        else if 3000 + block < t.blockNow then t.resyncAgain
        else t.replay block x)

/-- RESYNC_COMPLETE: replay has reached the live block, and boundary C + W has passed (R529, R556). -/
def execResyncComplete (s : State) : Outcome State Fault Refusal :=
  if s.role = roleResync && s.paired && s.partnerRole = roleActive && s.twin.step = 3 then
    .next (((s.set D.twin_role roleStandby).set D.twin_eligible_block s.blockNow).setHealth hDiverged false).refreshHealth
  else .next s

end Sys2Proof.Machine
end

