-- ==== Sys2Proof/Machine/Dispatch.lean ====
section
/-! DEFINITION. The dispatch: each command to its meaning. -/

namespace Sys2Proof.Machine

open Sys2Proof

def exec (i : Instr) (s : State) : Host.Outcome State Fault Refusal :=
  match i with
  | .vinUndervoltage => Sys2Proof.Machine.execVinUndervoltage s
  | .uvloShutdownComplete => Sys2Proof.Machine.execUvloShutdownComplete s
  | .vinRecover => Sys2Proof.Machine.execVinRecover s
  | .vioLoss => Sys2Proof.Machine.execVioLoss s
  | .vioReturn => Sys2Proof.Machine.execVioReturn s
  | .vdacChange good => Sys2Proof.Machine.execVdacChange good s
  | .suppliesGood => Sys2Proof.Machine.execSuppliesGood s
  | .nresetRequest => Sys2Proof.Machine.execNresetRequest s
  | .resetRelease boot slot keeper roleIn => Sys2Proof.Machine.execResetRelease boot slot keeper roleIn s
  | .bootSelfCheck pass => Sys2Proof.Machine.execBootSelfCheck pass s
  | .thermalTrip => Sys2Proof.Machine.execThermalTrip s
  | .thermalRestart => Sys2Proof.Machine.execThermalRestart s
  | .read r addrs => Sys2Proof.Machine.execRead r addrs s
  | .write r items target => Sys2Proof.Machine.execWrite r items target s
  | .writeStaged r items => Sys2Proof.Machine.execWriteStaged r items s
  | .describe r addr start next => Sys2Proof.Machine.execDescribe r addr start next s
  | .subscribe r sub addr mode interval => Sys2Proof.Machine.execSubscribe r sub addr mode interval s
  | .blobWrite r addr first last other offset total data => Sys2Proof.Machine.execBlobWrite r addr first last other offset total data s
  | .blobRead r addr offset most => Sys2Proof.Machine.execBlobRead r addr offset most s
  | .blobShadowExpire addr => Sys2Proof.Machine.execBlobShadowExpire addr s
  | .unknownMessageType r type => Sys2Proof.Machine.execUnknownMessageType r type s
  | .spiPut frame => Sys2Proof.Machine.execSpiPut frame s
  | .spiGet => Sys2Proof.Machine.execSpiGet s
  | .spiStatus => Sys2Proof.Machine.execSpiStatus s
  | .sesInit m => Sys2Proof.Machine.execSesInit m s
  | .sesCertRead r id offset len => Sys2Proof.Machine.execSesCertRead r id offset len s
  | .sesCertSend r id offset total data => Sys2Proof.Machine.execSesCertSend r id offset total data s
  | .sesFinish r id sig => Sys2Proof.Machine.execSesFinish r id sig s
  | .sesPing r => Sys2Proof.Machine.execSesPing r s
  | .sesClose r reason => Sys2Proof.Machine.execSesClose r reason s
  | .handshakeTimeout id => Sys2Proof.Machine.execHandshakeTimeout id s
  | .sessionIdleTimeout id => Sys2Proof.Machine.execSessionIdleTimeout id s
  | .sessionRekey id => Sys2Proof.Machine.execSessionRekey id s
  | .roleChangeClose => Sys2Proof.Machine.execRoleChangeClose s
  | .sessionCloseWrite r id => Sys2Proof.Machine.execSessionCloseWrite r id s
  | .persistAppend ok bytes => Sys2Proof.Machine.execPersistAppend ok bytes s
  | .persistFlush r => Sys2Proof.Machine.execPersistFlush r s
  | .persistReset r => Sys2Proof.Machine.execPersistReset r s
  | .runControlWrite r a run => Sys2Proof.Machine.execRunControlWrite r a run s
  | .seal b => Sys2Proof.Machine.execSeal b s
  | .blockBoundary k => Sys2Proof.Machine.execBlockBoundary k s
  | .mediaRevert => Sys2Proof.Machine.execMediaRevert s
  | .mediaStep => Sys2Proof.Machine.execMediaStep s
  | .timebaseTick => Sys2Proof.Machine.execTimebaseTick s
  | .tbIncrementWrite r v => Sys2Proof.Machine.execTbIncrementWrite r v s
  | .domRateWrite r d v => Sys2Proof.Machine.execDomRateWrite r d v s
  | .domAdjust r d v => Sys2Proof.Machine.execDomAdjust r d v s
  | .domEnableWrite r d v => Sys2Proof.Machine.execDomEnableWrite r d v s
  | .ptpAnnounce d f m => Sys2Proof.Machine.execPtpAnnounce d f m s
  | .ptpSync d f sender seq twoStep origin atLand => Sys2Proof.Machine.execPtpSync d f sender seq twoStep origin atLand s
  | .announceTimeout d => Sys2Proof.Machine.execAnnounceTimeout d s
  | .syncTimeout d => Sys2Proof.Machine.execSyncTimeout d s
  | .holdoverLimitExpire d => Sys2Proof.Machine.execHoldoverLimitExpire d s
  | .syntSourceLoss => Sys2Proof.Machine.execSyntSourceLoss s
  | .wclkEdge => Sys2Proof.Machine.execWclkEdge s
  | .wclkLost => Sys2Proof.Machine.execWclkLost s
  | .eventPulse pin skipped => Sys2Proof.Machine.execEventPulse pin skipped s
  | .evRearm r pin field v => Sys2Proof.Machine.execEvRearm r pin field v s
  | .eventCapture pin e => Sys2Proof.Machine.execEventCapture pin e s
  | .evPop r pin => Sys2Proof.Machine.execEvPop r pin s
  | .launch r => Sys2Proof.Machine.execLaunch r s
  | .apllLock phase => Sys2Proof.Machine.execApllLock phase s
  | .apllUnlock phase => Sys2Proof.Machine.execApllUnlock phase s
  | .showRun v => Sys2Proof.Machine.execShowRun v s
  | .showJump j => Sys2Proof.Machine.execShowJump j s
  | .showSetRate r => Sys2Proof.Machine.execShowSetRate r s
  | .ltcFrame h mi sec f user start => Sys2Proof.Machine.execLtcFrame h mi sec f user start s
  | .ltcReanchor => Sys2Proof.Machine.execLtcReanchor s
  | .ltcLoss => Sys2Proof.Machine.execLtcLoss s
  | .ltcFreewheelExpire => Sys2Proof.Machine.execLtcFreewheelExpire s
  | .ltcOutFrame => Sys2Proof.Machine.execLtcOutFrame s
  | .txnOpen r scope rung => Sys2Proof.Machine.execTxnOpen r scope rung s
  | .txnAdd r id items => Sys2Proof.Machine.execTxnAdd r id items s
  | .txnPrepare r p => Sys2Proof.Machine.execTxnPrepare r p s
  | .txnCommit r id => Sys2Proof.Machine.execTxnCommit r id s
  | .txnAbort r id => Sys2Proof.Machine.execTxnAbort r id s
  | .txnStatus r id => Sys2Proof.Machine.execTxnStatus r id s
  | .fabTxnData f id index count data => Sys2Proof.Machine.execFabTxnData f id index count data s
  | .fabTxnPrepare f p => Sys2Proof.Machine.execFabTxnPrepare f p s
  | .fabTxnVote f id yes reason => Sys2Proof.Machine.execFabTxnVote f id yes reason s
  | .fabTxnNack f id first count => Sys2Proof.Machine.execFabTxnNack f id first count s
  | .fabTxnDecision f id commit block => Sys2Proof.Machine.execFabTxnDecision f id commit block s
  | .fabTxnQuery f id => Sys2Proof.Machine.execFabTxnQuery f id s
  | .fabTxnOutcome f id outcome block => Sys2Proof.Machine.execFabTxnOutcome f id outcome block s
  | .fabTxnAck f id a => Sys2Proof.Machine.execFabTxnAck f id a s
  | .voteDeadline id => Sys2Proof.Machine.execVoteDeadline id s
  | .txnCommitWaitExpire id => Sys2Proof.Machine.execTxnCommitWaitExpire id s
  | .queryTimer id => Sys2Proof.Machine.execQueryTimer id s
  | .txnIndoubtAlarm id => Sys2Proof.Machine.execTxnIndoubtAlarm id s
  | .txnOutcomeExpire id => Sys2Proof.Machine.execTxnOutcomeExpire id s
  | .txnResolveCommit r id => Sys2Proof.Machine.execTxnResolveCommit r id s
  | .txnResolveAbort r id => Sys2Proof.Machine.execTxnResolveAbort r id s
  | .triangulationDone => Sys2Proof.Machine.execTriangulationDone s
  | .triangulationSwap => Sys2Proof.Machine.execTriangulationSwap s
  | .lstClearFail j => Sys2Proof.Machine.execLstClearFail j s
  | .renderSlot missing ohm pairErr => Sys2Proof.Machine.execRenderSlot missing ohm pairErr s
  | .weltDeadline j => Sys2Proof.Machine.execWeltDeadline j s
  | .outchainDeadline j => Sys2Proof.Machine.execOutchainDeadline j s
  | .etchTransformDone j => Sys2Proof.Machine.execEtchTransformDone j s
  | .etchXfadeComplete j => Sys2Proof.Machine.execEtchXfadeComplete j s
  | .etchPersist j => Sys2Proof.Machine.execEtchPersist j s
  | .stepperTimeout j => Sys2Proof.Machine.execStepperTimeout j s
  | .nop c => Sys2Proof.Machine.execNop c s
  | .mac c => Sys2Proof.Machine.execMac c s
  | .msu c => Sys2Proof.Machine.execMsu c s
  | .fma c => Sys2Proof.Machine.execFma c s
  | .fms c => Sys2Proof.Machine.execFms c s
  | .dfmaFadd c => Sys2Proof.Machine.execDfmaFadd c s
  | .mov c => Sys2Proof.Machine.execMov c s
  | .iadd c => Sys2Proof.Machine.execIadd c s
  | .isub c => Sys2Proof.Machine.execIsub c s
  | .fadd c => Sys2Proof.Machine.execFadd c s
  | .fsub c => Sys2Proof.Machine.execFsub c s
  | .fmul c => Sys2Proof.Machine.execFmul c s
  | .fmin c => Sys2Proof.Machine.execFmin c s
  | .fmax c => Sys2Proof.Machine.execFmax c s
  | .fabs c => Sys2Proof.Machine.execFabs c s
  | .fneg c => Sys2Proof.Machine.execFneg c s
  | .fcmp c => Sys2Proof.Machine.execFcmp c s
  | .ftoi c => Sys2Proof.Machine.execFtoi c s
  | .itof c => Sys2Proof.Machine.execItof c s
  | .fdiv c => Sys2Proof.Machine.execFdiv c s
  | .fsqrt c => Sys2Proof.Machine.execFsqrt c s
  | .fsin c => Sys2Proof.Machine.execFsin c s
  | .fcos c => Sys2Proof.Machine.execFcos c s
  | .fexp10 c => Sys2Proof.Machine.execFexp10 c s
  | .flog10 c => Sys2Proof.Machine.execFlog10 c s
  | .fpow c => Sys2Proof.Machine.execFpow c s
  | .imm c => Sys2Proof.Machine.execImm c s
  | .aclr c => Sys2Proof.Machine.execAclr c s
  | .amov c => Sys2Proof.Machine.execAmov c s
  | .aadd c => Sys2Proof.Machine.execAadd c s
  | .asub c => Sys2Proof.Machine.execAsub c s
  | .aldf c => Sys2Proof.Machine.execAldf c s
  | .astf c => Sys2Proof.Machine.execAstf c s
  | .br c => Sys2Proof.Machine.execBr c s
  | .brc c => Sys2Proof.Machine.execBrc c s
  | .call c => Sys2Proof.Machine.execCall c s
  | .ret c => Sys2Proof.Machine.execRet c s
  | .loop c => Sys2Proof.Machine.execLoop c s
  | .loopr c => Sys2Proof.Machine.execLoopr c s
  | .loopCountExpire c level => Sys2Proof.Machine.execLoopCountExpire c level s
  | .exit c => Sys2Proof.Machine.execExit c s
  | .yield c => Sys2Proof.Machine.execYield c s
  | .wait c => Sys2Proof.Machine.execWait c s
  | .fence c => Sys2Proof.Machine.execFence c s
  | .trap c => Sys2Proof.Machine.execTrap c s
  | .overrun c => Sys2Proof.Machine.execOverrun c s
  | .inputsAvailable n k => Sys2Proof.Machine.execInputsAvailable n k s
  | .dispatchTick => Sys2Proof.Machine.execDispatchTick s
  | .forcedSwitch c => Sys2Proof.Machine.execForcedSwitch c s
  | .graverDeadline n k => Sys2Proof.Machine.execGraverDeadline n k s
  | .ambWindowEnd n => Sys2Proof.Machine.execAmbWindowEnd n s
  | .voiceStart v => Sys2Proof.Machine.execVoiceStart v s
  | .voiceStop v => Sys2Proof.Machine.execVoiceStop v s
  | .voiceLoopEnd v => Sys2Proof.Machine.execVoiceLoopEnd v s
  | .clipLoadDone n => Sys2Proof.Machine.execClipLoadDone n s
  | .clipPersist n => Sys2Proof.Machine.execClipPersist n s
  | .mtrReset r => Sys2Proof.Machine.execMtrReset r s
  | .silenceTimeout j => Sys2Proof.Machine.execSilenceTimeout j s
  | .integrationWindowEnd => Sys2Proof.Machine.execIntegrationWindowEnd s
  | .proofVerdict j => Sys2Proof.Machine.execProofVerdict j s
  | .pfRefCapture j => Sys2Proof.Machine.execPfRefCapture j s
  | .pfRefPersist j => Sys2Proof.Machine.execPfRefPersist j s
  | .pfWindowOpen d => Sys2Proof.Machine.execPfWindowOpen d s
  | .proofWindowClose => Sys2Proof.Machine.execProofWindowClose s
  | .lsPhase l => Sys2Proof.Machine.execLsPhase l s
  | .lsPeriodEnd l => Sys2Proof.Machine.execLsPeriodEnd l s
  | .lsLearn l => Sys2Proof.Machine.execLsLearn l s
  | .spFrameRx port t words => Sys2Proof.Machine.execSpFrameRx port t words s
  | .spFrameTx port n => Sys2Proof.Machine.execSpFrameTx port n s
  | .spClockLost side => Sys2Proof.Machine.execSpClockLost side s
  | .spClockRestore side => Sys2Proof.Machine.execSpClockRestore side s
  | .aesFrameRx r t z a b => Sys2Proof.Machine.execAesFrameRx r t z a b s
  | .aesFrameTx t n => Sys2Proof.Machine.execAesFrameTx t n s
  | .pdmChSync c => Sys2Proof.Machine.execPdmChSync c s
  | .idacValueWrite r l v => Sys2Proof.Machine.execIdacValueWrite r l v s
  | .idacQPush r l => Sys2Proof.Machine.execIdacQPush r l s
  | .idacQClear r l => Sys2Proof.Machine.execIdacQClear r l s
  | .idacQueueApply l => Sys2Proof.Machine.execIdacQueueApply l s
  | .idacPowerupWrite r l v => Sys2Proof.Machine.execIdacPowerupWrite r l v s
  | .idacComplianceLow l => Sys2Proof.Machine.execIdacComplianceLow l s
  | .idacComplianceOk l => Sys2Proof.Machine.execIdacComplianceOk l s
  | .linkUp port mismatch => Sys2Proof.Machine.execLinkUp port mismatch s
  | .linkDown port => Sys2Proof.Machine.execLinkDown port s
  | .frameReceive port fcsOk frame t => Sys2Proof.Machine.execFrameReceive port fcsOk frame t s
  | .pauseFrame port dst opcode quanta => Sys2Proof.Machine.execPauseFrame port dst opcode quanta s
  | .pauseExpire port => Sys2Proof.Machine.execPauseExpire port s
  | .ringTailWrite r ring v => Sys2Proof.Machine.execRingTailWrite r ring v s
  | .txFrameDone port t => Sys2Proof.Machine.execTxFrameDone port t s
  | .aes67PacketRx port p => Sys2Proof.Machine.execAes67PacketRx port p s
  | .aes67PacketTx c n late => Sys2Proof.Machine.execAes67PacketTx c n late s
  | .fabHello port h t => Sys2Proof.Machine.execFabHello port h t s
  | .helloTimer port => Sys2Proof.Machine.execHelloTimer port s
  | .helloLost port => Sys2Proof.Machine.execHelloLost port s
  | .admission port step => Sys2Proof.Machine.execAdmit port step s
  | .admitTimeout port => Sys2Proof.Machine.execAdmitTimeout port s
  | .refusedExpire port => Sys2Proof.Machine.execRefusedExpire port s
  | .linkRekey port => Sys2Proof.Machine.execLinkRekey port s
  | .lsa port l t => Sys2Proof.Machine.execLsa port l t s
  | .lsaAck port vertex seq t => Sys2Proof.Machine.execLsaAck port vertex seq t s
  | .lsaResend port => Sys2Proof.Machine.execLsaResend port s
  | .lsaReflood => Sys2Proof.Machine.execLsaReflood s
  | .lsaAgeOut vertex => Sys2Proof.Machine.execLsaAgeOut vertex s
  | .graphChange => Sys2Proof.Machine.execGraphChange s
  | .oldGenerationExpire => Sys2Proof.Machine.execOldGenerationExpire s
  | .treeSwitchA => Sys2Proof.Machine.execTreeSwitchA s
  | .treeSwitchB => Sys2Proof.Machine.execTreeSwitchB s
  | .leavingExpire => Sys2Proof.Machine.execLeavingExpire s
  | .streamFrameRx port f t => Sys2Proof.Machine.execStreamFrameRx port f t s
  | .streamFrameTx c => Sys2Proof.Machine.execStreamFrameTx c s
  | .sceneDigestUpdate => Sys2Proof.Machine.execSceneDigestUpdate s
  | .sceneDigestMismatch port => Sys2Proof.Machine.execSceneDigestMismatch port s
  | .election => Sys2Proof.Machine.execElection s
  | .roleLineFall => Sys2Proof.Machine.execRoleLineFall s
  | .heartbeatTimeout sideband lace => Sys2Proof.Machine.execHeartbeatTimeout sideband lace s
  | .twTakeFall => Sys2Proof.Machine.execTwTakeFall s
  | .laceHello f h => Sys2Proof.Machine.execLaceHello f h s
  | .laceHeartbeat f role boundary sent => Sys2Proof.Machine.execLaceHeartbeat f role boundary sent s
  | .laceTime f prevSent lastReceived received => Sys2Proof.Machine.execLaceTime f prevSent lastReceived received s
  | .journal f index block act => Sys2Proof.Machine.execJournal f index block act s
  | .journalAck f index => Sys2Proof.Machine.execJournalAck f index s
  | .journalRetransmit index => Sys2Proof.Machine.execJournalRetransmit index s
  | .mirror f block first rows => Sys2Proof.Machine.execMirror f block first rows s
  | .inPresence f block maps => Sys2Proof.Machine.execInPresence f block maps s
  | .repair f block ctx first words rows => Sys2Proof.Machine.execRepair f block ctx first words rows s
  | .outDigest f d => Sys2Proof.Machine.execOutDigest f d s
  | .selftest f unit pass => Sys2Proof.Machine.execSelftest f unit pass s
  | .selftestResultTimeout => Sys2Proof.Machine.execSelftestResultTimeout s
  | .selftestDone unit pass => Sys2Proof.Machine.execSelftestDone unit pass s
  | .checkpoint f block offset total length whole => Sys2Proof.Machine.execCheckpoint f block offset total length whole s
  | .checkpointAck f block held => Sys2Proof.Machine.execCheckpointAck f block held s
  | .laceBlob f addr gen offset total data => Sys2Proof.Machine.execLaceBlob f addr gen offset total data s
  | .resyncComplete => Sys2Proof.Machine.execResyncComplete s
  | .laceLaneDown lane => Sys2Proof.Machine.execLaceLaneDown lane s
  | .twinSwitch => Sys2Proof.Machine.execTwinSwitch s
  | .twinRejoin r => Sys2Proof.Machine.execTwinRejoin r s
  | .safeSceneLoaded => Sys2Proof.Machine.execSafeSceneLoaded s
  | .burnishRead m word flips newer lastOfPass => Sys2Proof.Machine.execBurnishRead m word flips newer lastOfPass s
  | .dmcRequest who addr others => Sys2Proof.Machine.execDmcRequest who addr others s
  | .dmcServe hits => Sys2Proof.Machine.execDmcServe hits s
  | .agePromotion port => Sys2Proof.Machine.execAgePromotion port s
  | .refreshDue => Sys2Proof.Machine.execRefreshDue s
  | .setpointChange sp => Sys2Proof.Machine.execSetpointChange sp s
  | .trainStepDone passed margin => Sys2Proof.Machine.execTrainStepDone passed margin s
  | .dmcRetrain r sp => Sys2Proof.Machine.execDmcRetrain r sp s
  | .masterReset m => Sys2Proof.Machine.execMasterReset m s
  | .dmaStart r c => Sys2Proof.Machine.execDmaStart r c s
  | .dmaTrigger c => Sys2Proof.Machine.execDmaTrigger c s
  | .dmaDescriptorDone c => Sys2Proof.Machine.execDmaDescriptorDone c s
  | .dmaStop r c => Sys2Proof.Machine.execDmaStop r c s
  | .dmaReset r c => Sys2Proof.Machine.execDmaReset r c s
  | .pllRampWrite r p data => Sys2Proof.Machine.execPllRampWrite r p data s
  | .pllRampStep p => Sys2Proof.Machine.execPllRampStep p s
  | .shankFault => Sys2Proof.Machine.execShankFault s
  | .sensorSample x => Sys2Proof.Machine.execSensorSample x s
  | .lifeUpdate => Sys2Proof.Machine.execLifeUpdate s
  | .logWindowStart r v => Sys2Proof.Machine.execLogWindowStart r v s
  | .logClear r => Sys2Proof.Machine.execLogClear r s
  | .ownerCertWrite r first last other offset total data => Sys2Proof.Machine.execOwnerCertWrite r first last other offset total data s
  | .ownerClear r => Sys2Proof.Machine.execOwnerClear r s
  | .fwActivate slot => Sys2Proof.Machine.execFwActivate slot s
  | .fwTrialConfirm => Sys2Proof.Machine.execFwTrialConfirm s
  | .pwRequest v => Sys2Proof.Machine.execPwRequest v s
  | .powerEntry dormant => Sys2Proof.Machine.execPowerEntry dormant s
  | .dormantReached level => Sys2Proof.Machine.execDormantReached level s
  | .aodAlarm n => Sys2Proof.Machine.execAodAlarm n s
  | .wakeEvent w => Sys2Proof.Machine.execWakeEvent w s
  | .wakeComplete k => Sys2Proof.Machine.execWakeComplete k s
  | .aodSlew trim => Sys2Proof.Machine.execAodSlew trim s
  | .histSnap u => Sys2Proof.Machine.execHistSnap u s
  | .errorHandle ok => Sys2Proof.Machine.execErrorHandle ok s
  | .rateLimitSecondEnd area index code => Sys2Proof.Machine.execRateLimitSecondEnd area index code s
  | .errAlarmAck r => Sys2Proof.Machine.execErrAlarmAck r s
  | .errFaultClear r => Sys2Proof.Machine.execErrFaultClear r s
  | .aesRxLost r => Sys2Proof.Machine.execAesRxLost r s
  | .laceLaneUp lane => Sys2Proof.Machine.execLaceLaneUp lane s
  | .twHbEdge roleIn => Sys2Proof.Machine.execTwHbEdge roleIn s
  | .twHbToggle => Sys2Proof.Machine.execTwHbToggle s
  | .laceHeartbeatTimer => Sys2Proof.Machine.execLaceHeartbeatTimer s
  | .laceTimeTimer => Sys2Proof.Machine.execLaceTimeTimer s
  | .inPresenceSend => Sys2Proof.Machine.execInPresenceSend s
  | .ptpPathDelayMessage d f msg => Sys2Proof.Machine.execPtpPathDelayMessage d f msg s
  | .ptpMasterTimer d timer => Sys2Proof.Machine.execPtpMasterTimer d timer s
  | .syntLock offset => Sys2Proof.Machine.execSyntLock offset s
  | .vaoChange on => Sys2Proof.Machine.execVaoChange on s
  | .firmwareLoaded okA okB => Sys2Proof.Machine.execFirmwareLoaded okA okB s
  | .persistReplayDone => Sys2Proof.Machine.execPersistReplayDone s

end Sys2Proof.Machine
end

