-- ==== Sys2Proof/Safety.lean ====
section
/-! DEFINITION. What counts as a safe run, which commands can reach the DRAM, and which work on one part of State. -/

namespace Sys2Proof.Machine

open Sys2Proof Host

/-- The DRAM is in canonical form: rising addresses, and no byte listed that an unlisted one reads as. -/
def State.memoryCanonical (s : State) : Bool := s.mem.cells.wf

/-- A run of `k` steps is safe: it stops at no fault and no refusal, and leaves the DRAM in canonical form. -/
def runsSafely (k : Nat) (s : State) : Prop :=
  ∃ t, Core.run Sys2Proof.core k s = .next t ∧ t.memoryCanonical = true

/-- The state in which a request is served: its frame has left the host SPI port's queue, or its session has accepted its
sequence, and its source has been heard (R88, R92, R117). -/
def State.arrived (s : State) (r : Req) : State :=
  let q := r.onPort
  let t : State := if q.src = .spi then { s with mdap := { s.mdap with spiIn := s.mdap.spiIn.drop 1 } } else s
  let t := match if q.isProtected then t.session q.session else none with
    | some x => t.putSession (x.accept q.seq t.time.local_)
    | none => t
  t.heard q

/-- Who asks: the host SPI port, a session, or a source without one (R64, R89). -/
def State.asker (s : State) (r : Req) : Who :=
  ((s.arrived r).whoOf r.onPort).getD { src := r.src, role := .none }

/-- A request is served at once, by its operands and the state alone: its transport is open and its frame no longer than
1400 bytes, it is the first of its queue, no acceptance is awaited, its version is 1, a protected frame has a session whose
tag and window it passes, it repeats no request kept or under way, and its source may ask (R80–R92, R109, R117, R124). -/
def State.admits (s : State) (r : Req) (m : Msg) : Bool :=
  let q := r.onPort
  let u := s.arrived r
  s.serving q.src && decide (q.frameLength (s.requestBody q m) ≤ 1400) &&
    (q.src != .spi || s.mdap.spiIn.head?.all fun f => s.carries q m f) && !s.accepting && q.version == 1 &&
    (!q.isProtected || (s.session q.session).any fun x => x.tagHolds q (s.requestBody q m) && x.fresh q.seq) &&
    (u.keptReply q (kindOf m)).isNone && !u.inFlight q (kindOf m) && (u.whoOf q).isSome && (s.asker r).role != .none &&
    (!isNet q.src || q.isProtected || u.openTo m)

/-- A request is served, and no partner has to acknowledge it (R543). -/
def State.serves (s : State) (r : Req) (m : Msg) : Prop := s.admits r m = true ∧ s.mirrored = false

/-- A WRITE of one value to one object is served, and the checks of R95 pass. -/
def State.takes (s : State) (r : Req) (o : Obj) (i v : Nat) : Prop :=
  s.serves r (.write [⟨o.addr i, tyCode o.ty, v, 0⟩] 0) ∧
    (s.arrived r).checkWrite (s.asker r) true ⟨o.addr i, tyCode o.ty, v, 0⟩ = scOk

/-- Core `c` can issue the next bundle of its running instance: a user's instance runs on it, the fetch gives `b`, the
declared cost is not exceeded, no load meets an uncorrectable word, and the bundle leaves the registers `r` (R340–R355). -/
def bundleIssues (s : State) (c : Fin 8) (i : Inst) (b : Bundle) (r : GravCtx) : Prop :=
  s.issuing c.val = some i ∧ vendorNode i.node = false ∧ i.fetch = .ok b ∧ i.overruns b = false ∧
    (∀ a ∈ i.loadAddrs b, s.badIn a 4 = false) ∧ i.run b (s.wordX i b) (s.wordY i b) = .ok r

/-- The instance after a bundle: the registers it leaves, and the scoreboard moved on (R353). -/
def Inst.afterBundle (i : Inst) (b : Bundle) (r : GravCtx) : Inst :=
  let n := i.regs.note b (i.regs.issueCycle b)
  { i with regs := { r with cycles := n.cycles, ready := n.ready } }

/-- Execution goes on with the next bundle: no delay slot waits and no loop level is active. -/
def GravCtx.straight (r : GravCtx) : Prop := r.delay = none ∧ r.lv0 = none ∧ r.lv1 = none

/-- Loads, store and CTL that do nothing. -/
def idleMoves : Moves := ⟨⟨0, 0, 0, 0⟩, ⟨0, 0, 0, 0⟩, ⟨0, 0, 0, 0, 0⟩, 0⟩

/-- A command neither stores to the DRAM nor resets the module: the rest store through a Graver bundle, DMA,
a descriptor ring, the Burnish, a checkpoint or a request, or enter reset, which loses the DRAM. -/
def leavesMemory : Instr → Bool
  | .vinUndervoltage => false
  | .uvloShutdownComplete => false
  | .vinRecover => true
  | .vioLoss => true
  | .vioReturn => true
  | .vdacChange _ => true
  | .suppliesGood => true
  | .nresetRequest => false
  | .resetRelease _ _ _ _ => true
  | .bootSelfCheck _ => true
  | .thermalTrip => false
  | .thermalRestart => true
  | .read _ _ => false
  | .write _ _ _ => false
  | .writeStaged _ _ => false
  | .describe _ _ _ _ => false
  | .subscribe _ _ _ _ _ => false
  | .blobWrite _ _ _ _ _ _ _ _ => false
  | .blobRead _ _ _ _ => false
  | .blobShadowExpire _ => true
  | .unknownMessageType _ _ => false
  | .spiPut _ => true
  | .spiGet => true
  | .spiStatus => true
  | .sesInit _ => true
  | .sesCertRead _ _ _ _ => true
  | .sesCertSend _ _ _ _ _ => true
  | .sesFinish _ _ _ => true
  | .sesPing _ => false
  | .sesClose _ _ => false
  | .handshakeTimeout _ => true
  | .sessionIdleTimeout _ => true
  | .sessionRekey _ => true
  | .roleChangeClose => true
  | .sessionCloseWrite _ _ => false
  | .persistAppend _ _ => true
  | .persistFlush _ => false
  | .persistReset _ => false
  | .runControlWrite _ _ _ => false
  | .seal _ => true
  | .blockBoundary _ => false
  | .mediaRevert => true
  | .mediaStep => true
  | .timebaseTick => true
  | .tbIncrementWrite _ _ => false
  | .domRateWrite _ _ _ => false
  | .domAdjust _ _ _ => false
  | .domEnableWrite _ _ _ => false
  | .ptpAnnounce _ _ _ => true
  | .ptpSync _ _ _ _ _ _ _ => true
  | .announceTimeout _ => true
  | .syncTimeout _ => true
  | .holdoverLimitExpire _ => true
  | .syntSourceLoss => true
  | .wclkEdge => true
  | .wclkLost => true
  | .eventPulse _ _ => true
  | .evRearm _ _ _ _ => false
  | .eventCapture _ _ => true
  | .evPop _ _ => false
  | .launch _ => false
  | .apllLock _ => true
  | .apllUnlock _ => true
  | .showRun _ => true
  | .showJump _ => false
  | .showSetRate _ => true
  | .ltcFrame _ _ _ _ _ _ => true
  | .ltcReanchor => false
  | .ltcLoss => true
  | .ltcFreewheelExpire => true
  | .ltcOutFrame => true
  | .txnOpen _ _ _ => false
  | .txnAdd _ _ _ => false
  | .txnPrepare _ _ => false
  | .txnCommit _ _ => false
  | .txnAbort _ _ => false
  | .txnStatus _ _ => false
  | .fabTxnData _ _ _ _ _ => true
  | .fabTxnPrepare _ _ => true
  | .fabTxnVote _ _ _ _ => true
  | .fabTxnNack _ _ _ _ => true
  | .fabTxnDecision _ _ _ _ => true
  | .fabTxnQuery _ _ => true
  | .fabTxnOutcome _ _ _ _ => true
  | .fabTxnAck _ _ _ => true
  | .voteDeadline _ => true
  | .txnCommitWaitExpire _ => true
  | .queryTimer _ => true
  | .txnIndoubtAlarm _ => true
  | .txnOutcomeExpire _ => true
  | .txnResolveCommit _ _ => false
  | .txnResolveAbort _ _ => false
  | .triangulationDone => true
  | .triangulationSwap => true
  | .lstClearFail _ => true
  | .renderSlot _ _ _ => true
  | .weltDeadline _ => true
  | .outchainDeadline _ => true
  | .etchTransformDone _ => true
  | .etchXfadeComplete _ => true
  | .etchPersist _ => true
  | .stepperTimeout _ => true
  | .nop _ => false
  | .mac _ => false
  | .msu _ => false
  | .fma _ => false
  | .fms _ => false
  | .dfmaFadd _ => false
  | .mov _ => false
  | .iadd _ => false
  | .isub _ => false
  | .fadd _ => false
  | .fsub _ => false
  | .fmul _ => false
  | .fmin _ => false
  | .fmax _ => false
  | .fabs _ => false
  | .fneg _ => false
  | .fcmp _ => false
  | .ftoi _ => false
  | .itof _ => false
  | .fdiv _ => false
  | .fsqrt _ => false
  | .fsin _ => false
  | .fcos _ => false
  | .fexp10 _ => false
  | .flog10 _ => false
  | .fpow _ => false
  | .imm _ => false
  | .aclr _ => false
  | .amov _ => false
  | .aadd _ => false
  | .asub _ => false
  | .aldf _ => false
  | .astf _ => false
  | .br _ => false
  | .brc _ => false
  | .call _ => false
  | .ret _ => false
  | .loop _ => false
  | .loopr _ => false
  | .loopCountExpire _ _ => false
  | .exit _ => false
  | .yield _ => false
  | .wait _ => false
  | .fence _ => false
  | .trap _ => false
  | .overrun _ => false
  | .inputsAvailable _ _ => true
  | .dispatchTick => false
  | .forcedSwitch _ => false
  | .graverDeadline _ _ => false
  | .ambWindowEnd _ => true
  | .voiceStart _ => true
  | .voiceStop _ => true
  | .voiceLoopEnd _ => true
  | .clipLoadDone _ => true
  | .clipPersist _ => true
  | .mtrReset _ => false
  | .silenceTimeout _ => true
  | .integrationWindowEnd => true
  | .proofVerdict _ => true
  | .pfRefCapture _ => true
  | .pfRefPersist _ => true
  | .pfWindowOpen _ => true
  | .proofWindowClose => true
  | .lsPhase _ => true
  | .lsPeriodEnd _ => true
  | .lsLearn _ => true
  | .spFrameRx _ _ _ => true
  | .spFrameTx _ _ => true
  | .spClockLost _ => true
  | .spClockRestore _ => true
  | .aesFrameRx _ _ _ _ _ => true
  | .aesFrameTx _ _ => true
  | .pdmChSync _ => true
  | .idacValueWrite _ _ _ => false
  | .idacQPush _ _ => false
  | .idacQClear _ _ => false
  | .idacQueueApply _ => true
  | .idacPowerupWrite _ _ _ => false
  | .idacComplianceLow _ => true
  | .idacComplianceOk _ => true
  | .linkUp _ _ => true
  | .linkDown _ => false
  | .frameReceive _ _ _ _ => false
  | .pauseFrame _ _ _ _ => false
  | .pauseExpire _ => false
  | .ringTailWrite _ _ _ => false
  | .txFrameDone _ _ => false
  | .aes67PacketRx _ _ => true
  | .aes67PacketTx _ _ _ => true
  | .fabHello _ _ _ => true
  | .helloTimer _ => true
  | .helloLost _ => true
  | .admission _ _ => true
  | .admitTimeout _ => true
  | .refusedExpire _ => true
  | .linkRekey _ => true
  | .lsa _ _ _ => true
  | .lsaAck _ _ _ _ => true
  | .lsaResend _ => true
  | .lsaReflood => true
  | .lsaAgeOut _ => true
  | .graphChange => true
  | .oldGenerationExpire => true
  | .treeSwitchA => true
  | .treeSwitchB => true
  | .leavingExpire => true
  | .streamFrameRx _ _ _ => true
  | .streamFrameTx _ => true
  | .sceneDigestUpdate => true
  | .sceneDigestMismatch _ => true
  | .election => true
  | .roleLineFall => true
  | .heartbeatTimeout _ _ => true
  | .twTakeFall => true
  | .laceHello _ _ => true
  | .laceHeartbeat _ _ _ _ => true
  | .laceTime _ _ _ _ => true
  | .journal _ _ _ _ => true
  | .journalAck _ _ => false
  | .journalRetransmit _ => true
  | .mirror _ _ _ _ => true
  | .inPresence _ _ _ => true
  | .repair _ _ _ _ _ _ => true
  | .outDigest _ _ => true
  | .selftest _ _ _ => true
  | .selftestResultTimeout => true
  | .selftestDone _ _ => true
  | .checkpoint _ _ _ _ _ _ => false
  | .checkpointAck _ _ _ => true
  | .laceBlob _ _ _ _ _ _ => true
  | .resyncComplete => true
  | .laceLaneDown _ => false
  | .twinSwitch => true
  | .twinRejoin _ => false
  | .safeSceneLoaded => true
  | .burnishRead _ _ _ _ _ => false
  | .dmcRequest _ _ _ => true
  | .dmcServe _ => true
  | .agePromotion _ => true
  | .refreshDue => true
  | .setpointChange _ => true
  | .trainStepDone _ _ => true
  | .dmcRetrain _ _ => false
  | .masterReset _ => true
  | .dmaStart _ _ => false
  | .dmaTrigger _ => true
  | .dmaDescriptorDone _ => false
  | .dmaStop _ _ => false
  | .dmaReset _ _ => false
  | .pllRampWrite _ _ _ => false
  | .pllRampStep _ => true
  | .shankFault => false
  | .sensorSample _ => true
  | .lifeUpdate => true
  | .logWindowStart _ _ => false
  | .logClear _ => false
  | .ownerCertWrite _ _ _ _ _ _ _ => false
  | .ownerClear _ => false
  | .fwActivate _ => true
  | .fwTrialConfirm => true
  | .pwRequest _ => true
  | .powerEntry _ => true
  | .dormantReached _ => false
  | .aodAlarm _ => true
  | .wakeEvent _ => true
  | .wakeComplete _ => true
  | .aodSlew _ => true
  | .histSnap _ => true
  | .errorHandle _ => true
  | .rateLimitSecondEnd _ _ _ => true
  | .errAlarmAck _ => false
  | .errFaultClear _ => false
  | .aesRxLost _ => true
  | .laceLaneUp _ => true
  | .twHbEdge _ => true
  | .twHbToggle => true
  | .laceHeartbeatTimer => true
  | .laceTimeTimer => true
  | .inPresenceSend => true
  | .ptpPathDelayMessage _ _ _ => true
  | .ptpMasterTimer _ _ => true
  | .syntLock _ => true
  | .vaoChange _ => true
  | .firmwareLoaded _ _ => true
  | .persistReplayDone => false

/-- The parts of State beside the dictionary values and the error records, which any command may change. -/
inductive Part
  | cu | time | timeline | render | svc | nand | power | io | mem | ports | twin | fabric | graver | mdap | wire
  deriving DecidableEq, Repr

/-- A state with one part as another state has it. -/
def Part.restore (s t : State) : Part → State
  | .cu => { t with cu := s.cu }
  | .time => { t with time := s.time }
  | .timeline => { t with timeline := s.timeline }
  | .render => { t with render := s.render }
  | .svc => { t with svc := s.svc }
  | .nand => { t with nand := s.nand }
  | .power => { t with power := s.power }
  | .io => { t with io := s.io }
  | .mem => { t with mem := s.mem }
  | .ports => { t with ports := s.ports }
  | .twin => { t with twin := s.twin }
  | .fabric => { t with fabric := s.fabric }
  | .graver => { t with graver := s.graver }
  | .mdap => { t with mdap := s.mdap }
  | .wire => { t with wire := s.wire }

/-- Two states agree on everything but dictionary values, error records and some parts. -/
def agreeBeside (l : List Part) (s t : State) : Prop :=
  l.foldl (fun u p => p.restore s u) { t with dict := s.dict, err := s.err } = s

/-- The parts a command works on, for the commands that are given few; the others reach many. -/
def homeParts : Instr → Option (List Part)
  | .syntSourceLoss | .wclkLost | .ltcLoss | .clipLoadDone _ | .silenceTimeout _ | .idacComplianceOk _
  | .refusedExpire _ | .sceneDigestUpdate | .masterReset _ | .fwTrialConfirm | .apllLock _ | .proofWindowClose
  | .syntLock _ | .resyncComplete | .pfWindowOpen _ | .txnIndoubtAlarm _ | .holdoverLimitExpire _
  | .etchTransformDone _ | .idacComplianceLow _ | .apllUnlock _ | .rateLimitSecondEnd _ _ _ => some []
  | .txnOutcomeExpire _ => some [.cu]
  | .mediaStep => some [.time, .svc]
  | .timebaseTick | .ptpAnnounce _ _ _ | .wclkEdge | .syncTimeout _ | .eventPulse _ _
  | .eventCapture _ _ => some [.time]
  | .ltcFrame _ _ _ _ _ _ | .ltcFreewheelExpire | .ltcOutFrame => some [.timeline]
  | .triangulationDone | .triangulationSwap | .etchXfadeComplete _ | .stepperTimeout _ => some [.render]
  | .voiceStart _ | .voiceStop _ | .voiceLoopEnd _ | .ambWindowEnd _ | .pfRefCapture _ | .integrationWindowEnd
  | .lsPhase _ | .lsLearn _ => some [.svc]
  | .persistAppend _ _ | .etchPersist _ | .lifeUpdate | .clipPersist _ | .pfRefPersist _ | .showRun _
  | .showSetRate _ => some [.nand]
  | .vinRecover | .vioLoss | .thermalRestart | .vaoChange _ | .fwActivate _ => some [.power]
  | .vioReturn | .suppliesGood => some [.power, .io]
  | .aesRxLost _ | .spClockLost _ | .spClockRestore _ | .pdmChSync _ | .idacQueueApply _ => some [.io]
  | .dmcRequest _ _ _ | .agePromotion _ | .pllRampStep _ | .dmaTrigger _ | .setpointChange _
  | .burnishRead _ _ _ _ _ => some [.mem]
  | .pauseFrame _ _ _ _ => some [.ports, .mem, .wire]
  | .outDigest _ _ | .checkpointAck _ _ _ | .laceHeartbeat _ _ _ _ => some [.twin]
  | .leavingExpire | .oldGenerationExpire | .treeSwitchA | .treeSwitchB | .sceneDigestMismatch _ => some [.fabric]
  | .inputsAvailable _ _ => some [.graver]
  | .blobShadowExpire _ | .handshakeTimeout _ => some [.mdap]
  | .spiPut _ | .spiGet => some [.mdap, .wire]
  | .spiStatus => some [.wire]
  | .aes67PacketTx _ _ _ => some [.ports, .wire]
  | .helloTimer _ | .linkUp _ _ => some [.ports, .fabric, .wire]
  | _ => none

end Sys2Proof.Machine
end

