-- ==== Sys2Proof/Certificates/Slice0/Obligations.lean ====
section
/-! DEFINITION. The statements about the model, for the provers. Each docstring says what the spec says; OBLIGATIONS.json
lists the rules each one rests on. -/

open Sys2Proof Sys2Proof.Machine Host

/-! ### The machine as a whole -/

/-- One step takes the command at the front of the queue and runs it with the queue's rest. -/
def Obligations.StepRunsFrontCommand : Prop :=
  ∀ (c : Instr) (rest : List Instr) (s : State),
    step { s with pending := c :: rest } = exec c { s with pending := rest }

/-- On an empty queue the block idles: the model's choice, log entry 38. -/
def Obligations.EmptyQueueIdles : Prop :=
  ∀ s : State, s.pending = [] → step s = .next s

/-- Every command completes in every state, and no command changes the queue. -/
def Obligations.EveryCommandCompletes : Prop :=
  ∀ (c : Instr) (s : State), ∃ t, exec c s = .next t ∧ t.pending = s.pending

/-- What the spec gives for the state right after reset release: the boot ROM runs, nFAULT is asserted, every supply
is good, the role is SOLO, media time runs from FALLBACK, and every current output is in POWERUP. -/
def Obligations.ResetHoldsSpecValues : Prop :=
  State.reset.power.phase = .boot ∧ State.reset.err.nfault = true ∧ State.reset.power.pgood = true ∧
    State.reset.get D.reset_cause = 0 ∧ State.reset.get D.twin_role = 0 ∧ State.reset.get D.media_source_now = 4 ∧
    (∀ l, l < 16 → State.reset.get D.idac_state l = 1) ∧ (∀ j, j < 1024 → State.reset.get D.lst_status j = 0) ∧
    State.reset.err.queue = [] ∧ State.reset.cu.slots = [] ∧ State.reset.pending = []

/-- Right after reset nothing is listed in the DRAM, every byte reads as zero (the model's choice, log entry 23), and
the form is canonical. -/
def Obligations.ResetMemoryEmpty : Prop :=
  State.reset.memoryCanonical = true ∧ ∀ a, State.reset.mem.cells.read a = 0#8

/-- Every step keeps the DRAM in canonical form, so that equal memories are equal data. -/
def Obligations.MemoryFormKept : Prop :=
  ∀ s t : State, s.memoryCanonical = true → step s = .next t → t.memoryCanonical = true

/-- From every state with a canonical DRAM and any queue of commands, every run is safe. -/
def Obligations.EveryRunIsSafe : Prop :=
  ∀ (k : Nat) (s : State), s.memoryCanonical = true → runsSafely k s

/-- A byte written is read back, the last one written winning, and every other byte is left alone; a word that a write
covers whole is correct again, and a word written in part stays as it was. -/
def Obligations.MemoryReadAfterWrite : Prop :=
  ∀ (s : State) (a : Nat) (l : List Byte) (b : Nat),
    (s.writeMem a l).mem.cells.read b =
      (if a ≤ b ∧ b < a + l.length then l.getD (b - a) 0#8 else s.mem.cells.read b) ∧
    ∀ w, w ∈ (s.writeMem a l).mem.bad ↔ w ∈ s.mem.bad ∧ ¬(a ≤ 8 * w ∧ 8 * w + 8 ≤ a + l.length)

/-- A command that stores nothing leaves every byte of the DRAM as it was. -/
def Obligations.OtherCommandsKeepMemory : Prop :=
  ∀ (c : Instr) (s t : State), leavesMemory c = true → exec c s = .next t →
    ∀ a, t.mem.cells.read a = s.mem.cells.read a

/-- Every legal bundle of a Graver program is read back from its 64-bit word with every field at its value, and a word
that is read is the encoding of what it is read as. -/
def Obligations.BundleRoundTrip : Prop :=
  (∀ b : Bundle, b.legal = true → decodeBundle b.encode = some b) ∧
    ∀ (w : Word64) (b : Bundle), decodeBundle w = some b → b.encode = w ∧ b.legal = true

/-! ### Supplies, reset and start-up (chapter 1, R600, R608–R613) -/

/-- VIN, VIO, VDAC and VAO: the shutdown sequence, its end, and the returns. -/
def Obligations.SupplyEventsComplete : Prop :=
  (∀ s : State, s.powered = true →
    let u := s.shutDown 0x0101
    let t : State := { u with power := { u.power with
      vin := false, pgood := false, aod := u.power.aod.vinLost s.aodTime } }
    exec .vinUndervoltage s = .next t ∧ t.power.phase = .shutdown ∧ t.power.pgood = false ∧ t.power.vin = false ∧
      t.err.nfault = true) ∧
  (∀ s : State, s.power.phase = .shutdown →
    ∃ t, exec .vinUndervoltage s = .next t ∧ t.power.phase = .shutdown ∧ t.power.vin = false ∧
      t.power.restart = false ∧ t.power.aod.cause = ((s.power.aod.vinLost s.aodTime).noteCause 2).cause) ∧
  (∀ s : State, s.power.phase = .shutdown →
    let d := s.drainFailed
    let n := d.noteCause (if d.power.thermal then 3 else 2)
    let u := n.aodFed.enterReset (if n.power.restart && !n.power.thermal then .reset else .off)
    exec .uvloShutdownComplete s =
      .next ({ u with power := { u.power with rails := false, pgood := false } } : State).idacsOff) ∧
  (∀ s : State, s.power.phase = .shutdown →
    exec .vinRecover s = .next { s with power := { s.power with
      vin := true, restart := true, aod := s.power.aod.vinBack s.aodTime } }) ∧
  (∀ s : State, s.power.phase = .off → s.power.thermal = false →
    exec .vinRecover s = .next { s with power := { s.power with
      vin := true, phase := .reset, aod := s.power.aod.vinBack s.aodTime } }) ∧
  (∀ s : State, s.powered = true → s.power.vin = true → s.power.phase ≠ .reset →
    exec .vioLoss s = .next (({ s with power := { s.power with vio := false, pgood := false } } : State).error
      0x7E 0 0x0104 .failed)) ∧
  (∀ s : State,
    let t : State := { s with power := { s.power with
      vio := true, vioWait := s.railsRun, pgood := s.power.vin && s.power.rails && s.powered } }
    (s.power.phase ≠ .reset → exec .vioReturn s = .next t) ∧
      (s.power.phase = .reset → exec .vioReturn s = .next t.idacsRedrive)) ∧
  (∀ s : State, exec (.vdacChange true) s = .next ({ s with power := { s.power with vdac := true } } : State).idacsRedrive ∧
    exec (.vdacChange false) s = .next ({ s with power := { s.power with vdac := false } } : State).idacsOff) ∧
  (∀ (s : State) (on : Bool), s.power.vin = true →
    exec (.vaoChange on) s = .next { s with power := { s.power with vao := on } }) ∧
  (∀ s : State, s.power.vin = false → exec (.vaoChange false) s =
    .next { s with power := { s.power with vao := false, aod := { held := false } } })

/-- Reset requests, thermal trips and the start of the boot ROM: nFAULT is asserted from the start of a reset until
the self-check passes, and of two causes of one reset the first in the order UVLO, THERMAL, POWER_ON, WATCHDOG,
NRESET, SOFTWARE is kept and reported. -/
def Obligations.ResetEventsComplete : Prop :=
  (∀ s : State, s.power.vin = true → s.power.vio = true → s.power.rails = false → s.power.thermal = false →
      s.power.phase = .off ∨ s.power.phase = .reset →
    exec .suppliesGood s = .next (({ s with power := { s.power with
      rails := true, pgood := true, phase := .reset, aod := { s.power.aod with held := true } } } : State).noteCause
        0).idacsRedrive) ∧
  (∀ s : State, s.power.vin = true → s.power.vio = true → s.power.thermal = false → s.railsRun = true →
    exec .suppliesGood s = .next { s with power := { s.power with rails := true, pgood := true } }) ∧
  (∀ s : State, s.powered = true →
    let t := (s.noteCause 1).enterReset .reset
    exec .nresetRequest s = .next { t with power := { t.power with nreset := false } }) ∧
  (∀ s : State, s.powered = true → s.power.phase ≠ .reset →
    exec .shankFault s = .next ((s.noteCause 4).enterReset .reset)) ∧
  (∀ s : State, s.powered = true →
    let t : State := { s.shutDown 0x0102 with power := { (s.shutDown 0x0102).power with thermal := true } }
    exec .thermalTrip s = .next t ∧ t.power.phase = .shutdown ∧ t.power.thermal = true ∧ t.err.nfault = true) ∧
  (∀ s : State, s.power.thermal = true → s.power.phase = .off → s.power.vin = true →
    exec .thermalRestart s = .next { s with power := { s.power with thermal := false, phase := .reset } }) ∧
  (∀ (boot : Fin 4) (slot : Fin 2) (keeper : Nat) (roleIn : Bool) (s : State), s.power.phase = .reset →
      s.power.pgood = true →
    ∃ t, exec (.resetRelease boot slot keeper roleIn) s = .next t ∧ t.power.phase = .boot ∧ t.power.nreset = true ∧
      t.power.aod.cause = none ∧ t.time.local_ = (keeper : Int) * ns32 ∧ t.twin.roleIn = roleIn ∧
      t.twin.slotZero = (slot.val == 0) ∧ t.mem = s.mem ∧ t.nand = s.nand ∧ t.graver = s.graver ∧ t.blobs = s.blobs ∧
      t.cu = s.cu ∧ t.mdap = s.mdap) ∧
  (∀ s : State, s.power.phase = .boot →
    exec (.bootSelfCheck true) s = .next { s with err := { s.err with nfault := false } } ∧
    exec (.bootSelfCheck false) s = .next { s with
      power := { s.power with phase := .halted }, err := { s.err with nfault := true }
      twin := { s.twin with sound := false } }) ∧
  (∀ (boot : Fin 4) (slot : Fin 2) (keeper c : Nat) (roleIn : Bool) (s : State), s.power.phase = .reset →
      s.power.pgood = true → s.power.aod.cause = some c →
    ∃ t, exec (.resetRelease boot slot keeper roleIn) s = .next t ∧ t.get D.reset_cause = c) ∧
  (∀ (phase : Phase) (s : State), (s.enterReset phase).err.nfault = true) ∧
  (∀ (c d : Nat) (s : State), s.power.aod.cause = none →
    (s.noteCause c).power.aod.cause = some c ∧ ((s.noteCause c).noteCause d).power.aod.cause =
      [2, 3, 0, 4, 1, 5].find? fun x => x == c || x == d)

/-- The image that boots, the replay of the persistent image, and the trial of an image. -/
def Obligations.FirmwareEventsComplete : Prop :=
  (∀ (okA okB : Bool) (s : State), s.power.phase = .boot → s.err.nfault = false → s.get D.boot_strap = 0 →
      s.trialSlot = none → s.power.trialFresh = false → s.power.bootSlot = 0 →
    (okA = true → exec (.firmwareLoaded okA okB) s = .next (s.bootSlotNow 0)) ∧
    (okA = false → okB = true →
      exec (.firmwareLoaded okA okB) s = .next ((s.error 0x7F 0 0x0C02 .warn).bootSlotNow 1)) ∧
    (okA = false → okB = false → exec (.firmwareLoaded okA okB) s = .next { s with
      power := { s.power with phase := .halted }, err := { s.err with nfault := true } })) ∧
  (∀ (okB : Bool) (s : State), s.power.phase = .boot → s.err.nfault = false → s.get D.boot_strap ≠ 0 →
    exec (.firmwareLoaded true okB) s =
      .next (({ s with power := { s.power with phase := .recovery } } : State).set D.fw_running 2)) ∧
  (∀ s : State, s.power.phase = .starting → s.power.aod.idacs ≠ [] →
    let u := ((s.bindAll (s.instancesWhere D.node_kind (· == 1))).1.placeImages 0).1.startUp
    exec .persistReplayDone s =
      .next { u with power := { u.power with phase := .running, startedUp := true } }) ∧
  (∀ (k : Fin 2) (s : State), s.get D.fw_slot_state k.val = 2 →
    exec (.fwActivate k) s = .next (s.fwActivate s.blockNow k.val) ∧
      (s.fwActivate s.blockNow k.val).power.activate = some (k.val, s.blockNow + s.presOffset + 1)) ∧
  (∀ (k : Nat) (s : State), s.trialSlot = some k → s.power.startedUp = true → s.get D.fw_running = k → s.role ≤ 2 →
    ∃ t, exec .fwTrialConfirm s = .next t ∧ t.get D.rollback_fuses =
      max (s.get D.rollback_fuses) (min 64 (frameField (s.blob D.fw_image k).data 12 1)) ∧
      t.get D.fw_slot_state k = 5 ∧ t.get D.fw_attempts = 0 ∧ { t with dict := s.dict } = s)

/-! ### Power states, sensors and the persistent image (R52–R54, R73–R79, R601, R602, R616–R625) -/

/-- A power request applies at once when nothing runs, entry to QUIET and DORMANT stops rendering at the last
presented block, and both are left alone while a transition runs. A wake event that its settings allow starts the wake
from DORMANT, or is kept during the entry; the wake ends with the first block in ON. -/
def Obligations.PowerStateEventsComplete : Prop :=
  ((∀ (v : Fin 3) (s : State), v.val ≠ 2 → s.powerBusy = false →
     exec (.pwRequest v) s = .next (({ s with power := { s.power with held := none, asked := true } } : State).transition
       s.blockNow v.val)) ∧
   (∀ (v : Fin 3) (s : State), v.val ≠ 2 → s.powerBusy = true →
     exec (.pwRequest v) s = .next { s with power := { s.power with held := some v.val, asked := true } }) ∧
   (∀ s : State, s.urgent = false → s.role ≤ 1 → s.powerBusy = false →
     exec (.pwRequest 2) s = .next (({ s with power := { s.power with held := none, asked := true } } : State).transition
       s.blockNow 2)) ∧
   (∀ s : State, s.power.entry = none → s.get D.pw_state = 0 →
     ∃ t, exec (.powerEntry false) s = .next t ∧ t.get D.pw_state = 2 ∧ t.get D.pf_window_state = 0 ∧
       t.power.stopAt = some (s.blockNow + s.presOffset - 1) ∧ t.power.entry = some (1, s.blockNow) ∧
       { t with dict := s.dict, power := s.power, svc := s.svc } = s) ∧
   (∀ s : State, s.power.entry = none → exec (.powerEntry true) s = .next (s.powerEntry s.blockNow 2)) ∧
   (∀ (b : Nat) (s : State), s.power.entry = some (2, b) → s.power.early = none →
     exec (.dormantReached none) s = .next s.dormantNow ∧ s.dormantNow.power.phase = .dormant ∧
       s.dormantNow.power.entry = none ∧ s.dormantNow.power.saved = true ∧ s.dormantNow.time.block = none ∧
       s.dormantNow.twin.hbOut = false) ∧
   (∀ (b : Nat) (w : Wake) (s : State), s.power.entry = some (2, b) → s.power.early = some w →
     exec (.dormantReached none) s = .next ((s.dormantNow.showWake w).startWake w))) ∧
  ((∀ (n : Fin 4) (s : State), s.power.phase = .dormant → s.getB D.aod_alarm_enable n.val = true →
     exec (.aodAlarm n) s = .next (s.startWake (.alarm n))) ∧
   (∀ (n : Fin 4) (b : Nat) (s : State), s.power.phase ≠ .dormant → s.getB D.aod_alarm_enable n.val = true →
       s.power.entry = some (2, b) → s.power.early = none →
     exec (.aodAlarm n) s = .next { s with power := { s.power with early := some (.alarm n) } }) ∧
   (∀ (w : Wake) (s : State), s.power.phase = .dormant → s.wakeAdmits w = true →
     exec (.wakeEvent w) s = .next ((s.showWake w).startWake w)) ∧
   (∀ (k : Nat) (s : State), s.power.phase = .waking →
     ∃ t, exec (.wakeComplete k) s = .next t ∧ t.power.phase = .running ∧ t.power.held = none ∧
       t.power.asked = false ∧ t.power.saved = false ∧ t.time.wakeJoin = false ∧ t.get D.pw_state = 0 ∧
       t.get D.pw_wake_block = k ∧ t.getB D.pw_return_pending = (t.get D.pw_wake_cause == 1) ∧ t.mem = s.mem ∧
       t.graver = s.graver ∧ t.err = s.err) ∧
   (∀ (trim : Int) (s : State), 1000000 * ns32 < ((s.media - s.time.local_ - s.power.aod.offset).natAbs : Int) →
     exec (.aodSlew trim) s = .next (({ s with power := { s.power with aod :=
       { s.power.aod with offset := s.media - s.time.local_ } } } : State).setI D.aod_trim trim)) ∧
   (∀ (trim : Int) (s : State), ((s.media - s.time.local_ - s.power.aod.offset).natAbs : Int) ≤ 1000000 * ns32 →
     ∃ (step : Int) (t : State), exec (.aodSlew trim) s = .next t ∧
       t.power = { s.power with aod := { s.power.aod with offset := s.power.aod.offset + step } } ∧
       (step.natAbs ≤ (s.media - s.time.local_ - s.power.aod.offset).natAbs) ∧
       { t with dict := s.dict, power := s.power, free := s.free } = s))

/-- Shank's periodic work and the persistent image; when a NAND write fails, persist_state shows FAULT (3), an error
is recorded, and the values keep their live effect. -/
def Obligations.ShankWorkCompletes : Prop :=
  (∀ s : State, exec .lifeUpdate s = .next (({ s with nand := { s.nand with
      life := modAt s.nand.life (lifeBand (s.getF D.sens_module_temp)) (· + 60) } } : State).showLife)) ∧
  (∀ (x : Sensors) (s : State), ∃ t, exec (.sensorSample x) s = .next t ∧ t.mem = s.mem ∧ t.graver = s.graver ∧
    t.fabric = s.fabric ∧ t.mdap = s.mdap ∧ t.cu = s.cu ∧ t.twin = s.twin ∧ t.blobs = s.blobs ∧ t.nand = s.nand ∧
    t.power.pgood = (if s.railsRun then x.out.isEmpty && s.power.vin && s.power.vio else s.power.pgood) ∧
    { t.power with rails := s.power.rails, pgood := s.power.pgood, warned := s.power.warned } = s.power) ∧
  (∀ (bytes : Nat) (s : State), exec (.persistAppend true bytes) s = .next (s.appendBytes bytes) ∧
    s.persistAll.nand.journal = [] ∧ s.persistAll.nand.fault = false ∧
    s.persistAll.nand.image = s.nand.journal.foldl (fun m e => put m e.addr e.val) s.nand.image ∧
    (s.appendBytes bytes).nand.journal = [] ∧ (s.appendBytes bytes).nand.image = s.persistAll.nand.image) ∧
  (∀ (bytes : Nat) (s : State), exec (.persistAppend false bytes) s =
    .next (({ s with nand := { s.nand with fault := true } } : State).error 0x01 0 0x0405 .degraded)) ∧
  (∀ (bytes : Nat) (s : State), ∃ t, exec (.persistAppend false bytes) s = .next t ∧
    (∀ who, t.viewCore who D.persist_state 0 = some 3) ∧ { t with dict := s.dict, err := s.err, nand := s.nand } = s ∧
    ∀ a, a / 2 ^ 24 ≠ 0x7C → look t.dict a = look s.dict a)

/-! ### Error records and histograms (R637–R654) -/

/-- Handling a record, the end of a rate-limited second, and a snapshot of a histogram unit. -/
def Obligations.MonitorEventsComplete : Prop :=
  (∀ (ok : Bool) (r : ErrRec) (s : State), nextRec s.err.queue = some r →
    exec (.errorHandle ok) s = .next (s.handleRec r ok)) ∧
  (∀ (area index code : Nat) (h : HeldKey) (s : State), code ≠ 0x0C05 →
      (s.err.held.find? fun x => x.area == area && x.index == index && x.code == code) = some h →
    let rest := s.err.held.filter fun x => !(x.area == area && x.index == index && x.code == code)
    (h.held = 0 → exec (.rateLimitSecondEnd area index code) s = .next { s with err := { s.err with held := rest } }) ∧
    (0 < h.held → exec (.rateLimitSecondEnd area index code) s =
      .next (({ s with err := { s.err with held := rest ++ [{ h with held := 0 }] } } : State).raiseRec area index code
        h.sev (min 255 (h.held - 1))))) ∧
  (∀ (u : Fin 32) (s : State), exec (.histSnap u) s = .next (s.histSnap u.val s.blockNow) ∧
    (s.histSnap u.val s.blockNow).hist =
      modAt s.hist u.val fun h => { start := s.blockNow, clear := h.clear })

/-- An occurrence whose key is queued is folded into its record and raises no other; one that is not queued takes the
next sequence, and a FAILED record asserts nFAULT. -/
def Obligations.ErrorFoldsIntoQueuedRecord : Prop :=
  ∀ (s : State) (area index code : Nat) (sev : Severity),
    ((∃ r ∈ s.err.queue, sameKey r area index code = true) →
      s.error area index code sev = { s with err := { s.err with queue := foldRec s.err.queue area index code } } ∧
      (foldRec s.err.queue area index code).length = s.err.queue.length) ∧
    ((∀ r ∈ s.err.queue, sameKey r area index code = false) → rateLimited code = false → s.err.held = [] →
      (s.error area index code sev).get D.err_sequence = (s.err.seq + 1) % 256 ∧
      (s.error area index code sev).err.nfault = (s.err.nfault || sev == .failed) ∧
      (s.error area index code sev).err.queue =
        (if s.err.queue.length < (if sev = .failed then 64 else 60) then
          s.err.queue ++ [⟨s.errTime, area, index, code, sev, 0, (s.err.seq + 1) % 256⟩] else s.err.queue) ∧
      { s.error area index code sev with dict := s.dict, err := s.err } = s)

/-- Of the queued records the one handled next has the highest severity, and it is the first of those. -/
def Obligations.HighestSeverityHandledFirst : Prop :=
  ∀ (q : List ErrRec) (r : ErrRec), nextRec q = some r →
    ∃ before after, q = before ++ r :: after ∧ (∀ x ∈ before, x.sev.rank < r.sev.rank) ∧
      ∀ x ∈ after, x.sev.rank ≤ r.sev.rank

/-! ### Time (chapter 3) -/

/-- The local counter, the bridge, the step of media time, and the return to the configured source. -/
def Obligations.MediaTimeEventsComplete : Prop :=
  (∀ s : State, s.followsTime = false →
    ∃ t, exec .timebaseTick s = .next t ∧
      t.time.local_ = (s.time.local_ + (s.get D.tb_increment : Int)) % 2 ^ 96 ∧
      t.time.bridge = slewBridge s.time.bridge (t.sourceNow - s.sourceNow) (s.get D.media_slew)
        ((s.get D.media_step_threshold : Int) * ns32) ∧
      { t with time := s.time } = s ∧
      { t.time with local_ := s.time.local_, bridge := s.time.bridge } = s.time) ∧
  (∀ (k : Nat) (s : State), s.time.stepAt = some k →
    ∃ t, exec .mediaStep s = .next t ∧ t.time.bridge = 0 ∧ t.time.stepAt = none ∧ t.time.rampUp = some k ∧
      t.get D.media_steps = (s.get D.media_steps + 1) % 2 ^ 32 ∧
      t.svc = { s.svc with stipple := s.svc.stipple.map fun x => { x with spoiled := true } } ∧
      { t with dict := s.dict, err := s.err, time := s.time, svc := s.svc } = s) ∧
  (∀ s : State, s.getB D.media_revert = true → s.get D.media_source < 2 →
      s.get D.media_source_now ≠ s.get D.media_source → s.get D.dom_state (s.get D.media_source) = domLocked →
    exec .mediaRevert s = .next (s.failoverTo (s.get D.media_source)))

/-- What the slew of the bridge is: it never passes zero, moves by at most the advance of the source times media_slew,
and a bridge beyond the step threshold is left for a step. -/
def Obligations.SlewNeverCrossesZero : Prop :=
  ∀ (b adv : Int) (slew : Nat) (thr : Int), 0 ≤ adv →
    let c := slewBridge b adv slew thr
    (0 ≤ b → 0 ≤ c ∧ c ≤ b) ∧ (b ≤ 0 → b ≤ c ∧ c ≤ 0) ∧
      (c - b).natAbs ≤ (adv * slew / 1000000000).natAbs ∧ (thr < (b.natAbs : Int) → c = b)

/-- A PTP domain hears an Announce and a Sync, loses them, and holds over. The path delay exchanges and what a domain
sends as master. -/
def Obligations.PtpDomainsComplete : Prop :=
  ((∀ (d : Fin 2) (f : PtpIn) (m : Master) (s : State), s.ptpHears d f = true →
       s.ptpChooses d { m with port := f.port.val } = true → s.get D.dom_state d ≠ domGrandmaster →
       (s.domain d).master = none →
     exec (.ptpAnnounce d f m) s = .next (s.modDomain d fun y => { y with master := some { m with port := f.port.val } })) ∧
   (∀ (d : Fin 2) (f : PtpIn) (m : Master) (s : State), s.ptpHears d f = false ∨
       s.ptpChooses d { m with port := f.port.val } = false → exec (.ptpAnnounce d f m) s = .next s) ∧
   (∀ (d : Fin 2) (f : PtpIn) (m : Master) (seq : Nat) (origin atLand : Int) (s : State),
       (s.domain d).master = some m → s.ptpHears d f = true → m.port = f.port.val →
     (s.get D.dom_state d = domLocked →
       exec (.ptpSync d f m.sender seq false origin atLand) s =
         .next (s.processSync d f.port (origin * 2 ^ 16) (s.rxStamp d f.port atLand))) ∧
     (s.get D.dom_state d = domListening →
       exec (.ptpSync d f m.sender seq false origin atLand) s =
         (let t := (s.acquire d).showMaster d m
          .next (t.processSync d f.port (origin * 2 ^ 16) (t.rxStamp d f.port atLand))))) ∧
   (∀ (d : Fin 2) (s : State), s.power.phase ≠ .dormant → s.get D.dom_state d = domListening →
       s.getB D.dom_slave_only d = false →
     ∃ t, exec (.announceTimeout d) s = .next t ∧ t.get D.dom_state d = domGrandmaster ∧
       t.get D.dom_gm_identity d = s.ownClock ∧ { t with dict := s.dict, time := s.time } = s) ∧
   (∀ (d : Fin 2) (s : State), s.power.phase ≠ .dormant → s.get D.dom_state d = domLocked →
     ∃ u : State, exec (.syncTimeout d) s = .next u.syntUpdate ∧ u.get D.dom_state d = domHoldover ∧
       u.get D.dom_parent_port d = 7 ∧ { u with dict := s.dict, time := s.time } = s) ∧
   (∀ (d : Fin 2) (s : State), s.power.phase ≠ .dormant → s.get D.dom_state d = domHoldover →
     exec (.holdoverLimitExpire d) s = .next ((s.set D.dom_state domLost d).error 0x10 0 0x0302 .degraded))) ∧
  ((∀ (d : Fin 2) (f : PtpIn) (seq : Nat) (origin receipt : Int) (s : State), s.ptpHears d f = true →
       (s.domain d).syncWait = some (seq, receipt) →
     exec (.ptpPathDelayMessage d f (.followUp seq origin)) s =
       .next ((s.modDomain d fun y => { y with syncWait := none }).processSync d f.port (origin * 2 ^ 16) receipt)) ∧
   (∀ (d : Fin 2) (f : PtpIn) (seq who : Nat) (atLand : Int) (s : State), s.ptpHears d f = true →
       s.get D.dom_profile d = 0 → (s.masterPorts d).contains f.port.val = true →
     exec (.ptpPathDelayMessage d f (.delayReq seq who atLand)) s =
       .next (s.ptpSend d f.port "PTP_DELAY_RESP" false [d, seq, who, toT80 (s.rxStamp d f.port atLand)])) ∧
   (∀ (d : Fin 2) (f : PtpIn) (seq : Nat) (t1 t2 t3 received : Int) (s : State), s.ptpHears d f = true →
       s.get D.dom_profile d = 0 → (s.domain d).delayReq = some (seq, t3) → (s.domain d).lastSync = some (t1, t2) →
     exec (.ptpPathDelayMessage d f (.delayResp seq received)) s =
       .next ((s.modDomain d fun y => { y with delayReq := none }).setPath d f.port
         (((t2 - t1) + (received * 2 ^ 16 - t3)) / 2))) ∧
   (∀ (d : Fin 2) (f : PtpIn) (seq who : Nat) (atLand : Int) (s : State), s.ptpHears d f = true →
       s.get D.dom_profile d ≠ 0 →
     exec (.ptpPathDelayMessage d f (.pdelayReq seq who atLand)) s =
       .next ((s.ptpSend d f.port "PTP_PDELAY_RESP" true
           [d, seq, who, toT80 (atLand * 2 ^ 16 - ofPs (s.getI D.ts_rx_adjust f.port))]).ptpSend d f.port
         "PTP_PDELAY_RESP_FOLLOW_UP" false
           [d, seq, who, toT80 (s.time.local_ + ofPs (s.getI D.ts_tx_adjust f.port))])) ∧
   (∀ (d : Fin 2) (f : PtpIn) (seq p : Nat) (t1 t2 t4 sent : Int) (s : State), s.ptpHears d f = true →
       ((s.domain d).pdelays.find? fun e => e.port == f.port.val && e.seq == seq) = some ⟨p, seq, t1, some (t2, t4)⟩ →
     exec (.ptpPathDelayMessage d f (.pdelayRespFollowUp seq sent)) s =
       .next ((s.modDomain d fun y => { y with
           pdelays := y.pdelays.filter fun e => !(e.port == f.port.val && e.seq == seq) }).setPath d f.port
         (((t4 - t1) - (sent * 2 ^ 16 - t2)) / 2))) ∧
   (∀ (d port : Nat) (delay : Int) (x : Domain) (s : State), s.time.domains[d]? = some x →
     (s.setPath d port delay).pathDelay d port = delay ∧
       (s.setPath d port delay).getF D.ts_link_delay port = nsF32 delay) ∧
   (∀ (d : Fin 2) (s : State), s.power.phase ≠ .dormant → s.get D.dom_state d = domGrandmaster → s.get D.runDom d = 1 →
     exec (.ptpMasterTimer d .sync) s =
       .next ((s.sendSync d (s.domain d).seq (s.masterPorts d)).modDomain d fun y => { y with seq := (y.seq + 1) % 65536 })))

/-- Syntonisation, the word clock, the audio PLL, and the pulses of an event pin. -/
def Obligations.ClockEventsComplete : Prop :=
  (∀ s : State, (s.set D.synt_state 4).syntSelect = none →
    exec .syntSourceLoss s = .next ((s.set D.synt_state 4).set D.synt_port 1)) ∧
  (∀ (p : Nat) (s : State), (s.set D.synt_state 4).syntSelect = some p → p + 2 ≠ s.get D.synt_port →
    exec .syntSourceLoss s = .next (((s.set D.synt_state 4).set D.synt_state 2).set D.synt_port (p + 2))) ∧
  (∀ (f : Word32) (s : State), s.get D.synt_state = 2 →
    exec (.syntLock f) s = .next ((s.set D.synt_state 3).setF D.synt_freq_offset f)) ∧
  (∀ (n : Nat) (e : Int) (s : State), s.time.wclk.index = some n → s.time.wclk.lastEdge = some e →
      s.get D.wclk_state ≠ 2 → s.power.vio = true →
    ∃ t, exec .wclkEdge s = .next t ∧ t.time.wclk.index = some (n + 1) ∧ t.time.wclk.lastEdge = some s.time.local_ ∧
      t.get D.wclk_state = (if wclkValid s.fs (s.time.local_ - e) then 1 else 0) ∧
      (wclkValid s.fs (s.time.local_ - e) = true → t.time.bridge = s.time.bridge) ∧
      { t with dict := s.dict, time := s.time } = s) ∧
  (∀ s : State, s.get D.wclk_state = 1 → exec .wclkLost s = .next (s.set D.wclk_state 2)) ∧
  (∀ (x : Word32) (s : State), s.get D.apll_state = 1 →
    exec (.apllLock x) s = .next ((s.setF D.apll_phase_error x).set D.apll_state 2)) ∧
  (∀ (x : Word32) (s : State), s.get D.apll_state = 2 →
    exec (.apllUnlock x) s =
      .next ((((s.setF D.apll_phase_error x).set D.apll_state 1).count D.apll_unlocks).error 0x12 0 0x0305 .warn)) ∧
  (∀ (pin : Fin 6) (s : State), 1 ≤ s.get D.ev_mode pin → s.get D.ev_mode pin ≤ 3 → (s.pin pin).done = false →
    let t := s.modPin pin fun y => { y with next := y.next + 1, done := s.get D.ev_mode pin == 1 }
    exec (.eventPulse pin true) s = .next (t.count D.ev_skipped pin) ∧
    exec (.eventPulse pin false) s = .next ((t.modPin pin fun y => { y with
      produced := some (s.pulseLeaves pin (s.pin pin).next)
      ends := s.pulseLeaves pin (s.pin pin).next + s.get D.ev_width pin * 2 ^ 16
      high := s.get D.ev_polarity pin == 0 }).pinFlag pin 1))

/-- The capture queue of a pin: of two edges less than 20 ns apart the first alone is captured, an edge that finds 16
entries is lost, and a write to ev_pop removes the oldest entry. -/
def Obligations.CaptureQueueKeepsSixteen : Prop :=
  (∀ (pin : Fin 6) (e : Edge) (q : Fin 26) (s : State), captures (s.get D.ev_mode pin) e = true → s.power.vio = true →
    let at_ : State := { s with time := { s.time with local_ := s.landTime q } }
    ((∃ t, (s.pin pin).lastEdge = some t ∧ s.landTime q - t < 20 * ns32) →
      exec (.eventCapture pin ⟨e, q⟩) s = .next (s.count D.ev_merged pin)) ∧
    ((∀ t, (s.pin pin).lastEdge = some t → 20 * ns32 ≤ s.landTime q - t) → 16 ≤ (s.pin pin).queue.length →
      exec (.eventCapture pin ⟨e, q⟩) s =
        .next ((s.modPin pin fun y => { y with lastEdge := some (s.landTime q) }).count D.ev_lost pin)) ∧
    ((∀ t, (s.pin pin).lastEdge = some t → 20 * ns32 ≤ s.landTime q - t) → (s.pin pin).queue.length < 16 →
      exec (.eventCapture pin ⟨e, q⟩) s = .next (((s.modPin pin fun y => { y with
        lastEdge := some (s.landTime q)
        queue := y.queue ++ [(toT80 (at_.pinTime pin - ofPs (s.getI D.ev_adjust pin)), e)] }).pinFlag pin 3).showCaptures
          pin))) ∧
  (∀ (r : Req) (p : Fin 6) (y : EventPin) (s : State), s.takes r D.ev_pop p.val 1 → s.time.pins[p.val]? = some y →
    ∃ t, exec (.evPop r p) s = .next t ∧ t.time.pins[p.val]? = some { y with queue := y.queue.tail })

/-! ### Show time (chapter 4) -/

/-- The transport commands at their boundary, with show_source INTERNAL. The timecode tracker: frames, their loss, and
the frame that LTC_OUT starts. -/
def Obligations.ShowAndTimecodeComplete : Prop :=
  ((∀ s : State, s.showInternal = true → s.showRuns = true →
     exec (.showRun false) s = .next ((s.keepValue D.show_resume_rate (s.get D.show_map_rate)).setMap
       (s.showTime s.blockNow) (s.get D.show_map_nt) 0)) ∧
   (∀ s : State, s.showInternal = true → s.showRuns = false →
     exec (.showRun true) s = .next (s.setMap (s.getI D.show_map_st) (s.tBoundary s.blockNow)
       (s.get D.show_resume_rate))) ∧
   (∀ (j : Int) (s : State), s.showInternal = true →
     let t := s.setMap j (s.tBoundary s.blockNow) (s.get D.show_map_rate)
     let far := (t.showTime t.blockNow - s.showTime s.blockNow).natAbs
     ((far : Int) ≤ t.get D.show_jump_threshold → exec (.showJump j) s = .next t) ∧
     ((t.get D.show_jump_threshold : Int) < far →
       ∃ u, exec (.showJump j) s = .next u ∧ u.timeline.last = t.showTime t.blockNow ∧
         u = { ((t.count D.show_jumps).showEntries t.blockNow (s.showTime s.blockNow) (t.showTime t.blockNow)
             true).settleChanges t.blockNow with timeline := u.timeline })) ∧
   (∀ (r : Nat) (s : State), s.showInternal = true → s.showRuns = false →
     exec (.showSetRate r) s = .next (s.keepValue D.show_resume_rate r)) ∧
   (∀ (r : Nat) (s : State), s.showInternal = true → s.showRuns = true → s.get D.show_map_rate ≠ r →
     exec (.showSetRate r) s = .next ((s.setMap (s.showTime s.blockNow) (s.tBoundary s.blockNow) r).keepValue
       D.show_resume_rate r))) ∧
  ((∀ (h mi sec f user : Nat) (start : Int) (s : State), s.power.vio = true → s.get D.ltc_state = 0 →
     ∃ t, exec (.ltcFrame h mi sec f user start) s = .next t ∧ t.get D.ltc_state = 1 ∧ t.timeline.ltc.run = 1 ∧
       t.get D.ltc_user_bits = user ∧
       t.get D.ltc_last = bcd h * 2 ^ 24 + bcd mi * 2 ^ 16 + bcd sec * 2 ^ 8 + bcd f ∧
       { t with dict := s.dict, timeline := s.timeline } = s) ∧
   (∀ s : State, s.get D.ltc_state = 2 → exec .ltcLoss s = .next (s.set D.ltc_state 3)) ∧
   (∀ s : State, s.get D.ltc_state = 3 → s.get D.show_source = 0 →
     ∃ t, exec .ltcFreewheelExpire s = .next t ∧ t.timeline.ltc.pause = true ∧ t.get D.ltc_state = 4 ∧
       t.timeline.ltc.frames = [] ∧ { t with dict := s.dict, err := s.err, timeline := s.timeline } = s) ∧
   (∀ s : State, s.getB D.ltc_out_enable = true → s.showRuns = true →
       0 ≤ s.showTime s.blockNow + s.getI D.ltc_out_offset →
     let rate := s.get D.ltc_out_rate
     let t := (s.showTime s.blockNow + s.getI D.ltc_out_offset).toNat
     let q := ltcFields rate (if rate = 2 ∨ rate = 3 then (t * 30000 + 1000999999999) / 1001000000000
       else (t * ltcBase rate + 999999999) / 1000000000)
     exec .ltcOutFrame s = .next { s with timeline := { s.timeline with
       ltcOut := some (ltcWord rate q.1 q.2.1 q.2.2.1 q.2.2.2 (s.get D.ltc_out_user_bits)) } }) ∧
   (∀ s : State, s.timeline.ltc.reanchor = true → s.timeline.ltc.pause = false → s.role ≤ 1 →
       s.get D.show_source = 0 → s.getB D.ltc_publish = false → s.mirrored = false →
     let t := s.modLtc fun x => { x with reanchor := false, pause := false, acked := false }
     let m := t.ltcMap s.blockNow
     exec .ltcReanchor s = .next ((t.setMap m.1 m.2.1 m.2.2).showMoved (s.showTime s.blockNow))) ∧
   (∀ s : State, s.timeline.ltc.reanchor = false → s.timeline.ltc.pause = true → s.role ≤ 1 →
       s.get D.show_source = 0 → s.mirrored = false →
     exec .ltcReanchor s = .next (((s.modLtc fun x => { x with
       reanchor := false, pause := false, acked := false }).showRun s.blockNow false).showMoved (s.showTime s.blockNow))))

/-- A change of the mapping leaves show time continuous at its boundary: after a jump it is the time asked for, and
after a change of rate or a pause it is what it was. -/
def Obligations.ShowTimeContinuous : Prop :=
  ∀ (s : State) (k r : Nat) (j : Int), -(2 ^ 63) ≤ j → j < 2 ^ 63 → -(2 ^ 63) ≤ s.showTime k → s.showTime k < 2 ^ 63 →
    (s.showJump k j).showTime k = j ∧ (s.showSetRate k r).showTime k = s.showTime k ∧
      (s.showRun k false).showTime k = s.showTime k ∧ (s.showRun k true).showTime k = s.showTime k

/-! ### Scene, rendering and the outputs (chapters 5–7) -/

/-- The triangulation, the return of a FAILED output, and the slot. The deadlines of the Welt and of the output
chains: the block is held, counted and reported. The Etcher sets, the gain stepper and what is kept in the clip store.
-/
def Obligations.RenderEventsComplete : Prop :=
  ((∀ (j : TriJob) (l : List TriJob) (s : State), s.render.triJobs = j :: l → j.result = none →
     exec .triangulationDone s = .next { s with render := { s.render with
       triJobs := { j with result := some (triangulate j.points j.span) } :: l } }) ∧
   (∀ (j : TriJob) (l : List TriJob) (r : Triangulation) (s : State), s.render.triJobs = j :: l → j.result = some r →
     ∃ t, exec .triangulationSwap s = .next t ∧ t.render.tri = r ∧ t.render.triJobs = l ∧
       t.get D.tri_generation = (s.get D.tri_generation + 1) % 2 ^ (8 * tyBytes D.tri_generation.ty) ∧
       { t with dict := s.dict, render := s.render } = s) ∧
   (∀ (j : Fin 1024) (s : State), (s.mark j.val).failed = true →
     exec (.lstClearFail j) s = .next (s.clearFail j.val) ∧ (s.clearFail j.val).get D.pf_runs j.val = 0 ∧
       (s.clearFail j.val).render.heal = s.render.heal.filter (· != j.val)) ∧
   (∀ (missing : List (Fin 16)) (ohm pairErr : List (Nat × Nat)) (s : State), s.awaitsState = false →
       s.render.slot = none → s.get D.runState12 ≠ 0 → s.power.stopAt = none →
     exec (.renderSlot missing ohm pairErr) s = .next (s.renderSlot (missing.map (·.val)) ohm pairErr))) ∧
  ((∀ (j : Fin 1024) (s : State), s.render.slot = none →
     ∃ t, exec (.weltDeadline j) s = .next t ∧ t.render.weltHeld = (s.blockNow + 1, j.val) :: s.render.weltHeld ∧
       t.get D.welt_misses = (s.get D.welt_misses + 1) % 2 ^ (8 * tyBytes D.welt_misses.ty) ∧ t.twin.event = true ∧
       { t with dict := s.dict, err := s.err, twin := s.twin, render := s.render } = s) ∧
   (∀ (j : Fin 1024) (s : State),
     ∃ t, exec (.outchainDeadline j) s = .next t ∧
       t.render.chainHeld = (s.blockNow + 1, j.val) :: s.render.chainHeld ∧
       t.get D.out_misses j.val = (s.get D.out_misses j.val + 1) % 2 ^ (8 * tyBytes D.out_misses.ty) ∧
       t.twin.event = true ∧ { t with dict := s.dict, err := s.err, twin := s.twin, render := s.render } = s)) ∧
  ((∀ (j : Fin 1024) (e : EtchSet) (s : State), s.get D.etch_pending_state j.val = 2 →
       etchSetOf s.render.etchSets j.val = some e →
     ((∀ x ∈ e.taps, F32.isFinite x = true) → e.taps.length ≤ s.get D.etch_max_taps j.val →
       exec (.etchTransformDone j) s = .next (s.set D.etch_pending_state 3 j.val)) ∧
     ((∃ x ∈ e.taps, F32.isFinite x = false) →
       exec (.etchTransformDone j) s =
         .next ((s.set D.etch_pending_state 4 j.val).error 0x41 j.val 0x0602 .warn))) ∧
   (∀ (j : Fin 1024) (s : State), s.get D.etch_pending_state j.val = 5 →
     ∃ t, exec (.etchXfadeComplete j) s = .next t ∧ t.get D.etch_pending_state j.val = 0 ∧
       t.get D.etch_pending_taps j.val = 0 ∧ t.get D.etch_xfade_left j.val = 0 ∧
       (∀ c ∈ t.render.chains, c.out = j.val → c.outgoing = none) ∧ { t with dict := s.dict, render := s.render } = s) ∧
   (∀ (j : Fin 1024) (s : State),
     ∃ t, exec (.etchPersist j) s = .next t ∧ blobAt t.nand.store (D.etch_taps.addr j.val) = s.blob D.etch_taps j.val ∧
       { t with dict := s.dict, nand := s.nand } = s ∧ { t.nand with store := s.nand.store } = s.nand) ∧
   (∀ (j : Fin 1024) (c : Chain) (n : Nat) (s : State), c ∈ s.render.chains → c.out = j.val → c.step = .waiting n →
     ∃ t, exec (.stepperTimeout j) s = .next t ∧ t.get D.out_step_state j.val = 2 ∧
       { c with step := .ramping c.gain 0 (s.get D.out_step_ramp j.val) } ∈ t.render.chains ∧
       { t with dict := s.dict, render := s.render } = s))

/-! ### Venue services and Proof (chapters 9 and 10) -/

/-- Clips, voices, ambient windows, silence and meters. -/
def Obligations.ServiceEventsComplete : Prop :=
  (∀ (v : Fin 64) (s : State), s.clipLen (s.get D.voice_clip v.val) ≠ 0 →
      s.get D.clip_rate (s.get D.voice_clip v.val) = s.get D.render_rate → s.get D.voice_bind v.val = 0 →
    exec (.voiceStart v) s = .next (s.putVoice ⟨v.val, s.get D.voice_clip v.val, 0, 0, .none_, false⟩ 1)) ∧
  (∀ (v : Fin 64) (s : State), s.clipLen (s.get D.voice_clip v.val) = 0 →
    exec (.voiceStart v) s = .next ((s.stopVoice v.val).error 0x52 v.val 0x0704 .warn)) ∧
  (∀ (v : Fin 64) (x : VoiceRun) (s : State), voiceOf s.svc.voices v.val = some x → s.get D.voice_state v.val = 1 →
    exec (.voiceStop v) s = .next (s.putVoice { x with fade := .stop } 1)) ∧
  (∀ (v : Fin 64) (x : VoiceRun) (s : State), voiceOf s.svc.voices v.val = some x → x.ended = true →
    ∃ t, exec (.voiceLoopEnd v) s = .next t ∧ t.get D.voice_state v.val = 0 ∧ t.get D.voice_pos v.val = 0 ∧
      voiceOf t.svc.voices v.val = none ∧ { t with dict := s.dict, svc := s.svc } = s) ∧
  (∀ (n : Fin 1024) (s : State), s.get D.clip_state n.val = 2 →
    exec (.clipLoadDone n) s = .next (s.set D.clip_state 3 n.val)) ∧
  (∀ (n : Fin 1024) (s : State),
    exec (.clipPersist n) s = .next (s.storeBlob D.clip_blob n.val) ∧
      blobAt (s.storeBlob D.clip_blob n.val).nand.store (D.clip_blob.addr n.val) = s.blob D.clip_blob n.val) ∧
  (∀ (n : Fin 256) (s : State), s.ownTrackers.contains n.val = true →
      (trackerOf s.svc.trackers n.val).spoiled = true →
    exec (.ambWindowEnd n) s = .next (s.putTracker { trackerOf s.svc.trackers n.val with
      sum := F32.zero, samples := 0, blocks := 0, spoiled := false })) ∧
  (∀ (n : Fin 256) (s : State), let x := trackerOf s.svc.trackers n.val
      s.ownTrackers.contains n.val = true → x.spoiled = false → x.samples ≠ 0 →
    ∃ t, exec (.ambWindowEnd n) s = .next t ∧
      t.getF D.amb_estimate n.val =
        percentile ((level10 (F32.div x.sum (F32.ofInt x.samples)) :: x.levels).take (s.get D.amb_windows n.val))
          (s.get D.amb_percentile n.val) ∧
      { t with dict := s.dict, svc := s.svc } = s) ∧
  (∀ (j : Fin 1024) (s : State), exec (.silenceTimeout j) s = .next (s.set D.sil_state 1 j.val))

/-- Proof windows, verdicts, references and line supervision. -/
def Obligations.ProofEventsComplete : Prop :=
  (∀ (w : DoneWindow) (s : State), s.svc.closed = some w →
    exec .integrationWindowEnd s = .next { s with svc := { s.svc with closed := none, done := some w } }) ∧
  (∀ (j : Fin 1024) (s : State), s.mirrored = false →
    exec (.proofVerdict j) s = .next (s.proofVerdict j.val)) ∧
  (∀ (j : Fin 1024) (w : DoneWindow) (s : State), s.mirrored = false → s.svc.done = some w →
      s.get D.pf_probe j.val < 32 → ((w.outs.find? (·.out = j.val)).getD ⟨j.val, 0, true⟩).spoiled = true →
    exec (.proofVerdict j) s =
      .next (((s.set D.pf_window_block w.endBlock j.val).tryCapture j.val [] F32.zero false).applyVerdict j.val 2)) ∧
  (∀ (j : Fin 1024) (s : State),
    ∃ t, exec (.pfRefCapture j) s = .next t ∧ t.get D.pf_ref_state j.val = 1 ∧
      t.svc.refs = ⟨j.val, [], 8⟩ :: s.svc.refs.filter (fun x => x.out != j.val) ∧
      { t with dict := s.dict, svc := s.svc } = s) ∧
  (∀ (j : Fin 1024) (s : State),
    exec (.pfRefPersist j) s = .next (s.storeBlob D.pf_ref j.val) ∧
      blobAt (s.storeBlob D.pf_ref j.val).nand.store (D.pf_ref.addr j.val) = s.blob D.pf_ref j.val) ∧
  (∀ s : State, exec (.pfWindowOpen 0) s = .next (s.set D.pf_window_state 0)) ∧
  (∀ (d : Nat) (s : State), d ≠ 0 → s.get D.pw_state = 0 → s.get D.pf_window_state ≠ 1 →
    exec (.pfWindowOpen d) s =
      .next ((s.set D.pf_window_state 1).set D.pf_window_end (s.blockNow + d * 3000))) ∧
  (∀ s : State, exec .proofWindowClose s = .next (s.set D.pf_window_state 0)) ∧
  (∀ (l : Fin 16) (s : State), s.supervised.contains l.val = true →
    exec (.lsPhase l) s = .next (s.putLine { lineOf s.svc.lines l.val with
      phase := ((lineOf s.svc.lines l.val).phase + 1) % 6 })) ∧
  (∀ (l : Fin 16) (s : State), let x := lineOf s.svc.lines l.val
      s.mirrored = false → s.supervised.contains l.val = true → x.spoiled = true →
    exec (.lsPeriodEnd l) s = .next ((s.putLine
      { line := l.val, learn := x.learn, run := x.run, lastShort := x.lastShort }).set D.ls_state 4 l.val)) ∧
  (∀ (l : Fin 16) (s : State), s.mirrored = false → exec (.lsPeriodEnd l) s = .next (s.linePeriod l.val)) ∧
  (∀ (l : Fin 16) (s : State),
    exec (.lsLearn l) s = .next (s.putLine { lineOf s.svc.lines l.val with learn := true }))

/-! ### Local audio I/O (chapter 11) -/

/-- The serial ports: a frame received in RUN as a master, a frame sent, and the loss and return of the clock. AES3
receivers and transmitters, and the PDM channels. The current outputs: a queued entry that applies, and the compliance
of the land. -/
def Obligations.LocalIoEventsComplete : Prop :=
  ((∀ (port : Fin 8) (at_ : Int) (words : List Nat) (s : State), let side := 2 * port.val + 1
       s.portsLive = true → s.sideState side = 2 → s.sideSlave side = false →
     exec (.spFrameRx port at_ words) s =
       .next ((s.putSide { sideOf s.io.sides side with mask := some (s.get D.sp_mask side), present := true }).placeSlots
         side (s.frameIndex 0 at_).1 (s.get D.sp_word_bits side) 0 words)) ∧
   (∀ (port : Fin 8) (n : Nat) (s : State), let side := 2 * port.val
       s.sideState side = 2 → s.get D.apll_state ≠ 0 → s.sideSlave side = false → s.outputsMuted = false →
     let bits := s.get D.sp_word_bits side
     exec (.spFrameTx port n) s = .next (s.putSide { sideOf s.io.sides side with
       last := some n, mask := some (s.get D.sp_mask side), present := true
       frame := (List.range (s.get D.sp_slots side)).map fun k =>
         if (s.get D.sp_mask side).testBit k then
           some (ofSigned bits (convertSample bits (s.destSample ⟨1, port.val * 32 + k⟩ n).1).1)
         else if s.get D.sp_tx_idle side = 1 then none else some 0 })) ∧
   (∀ (side : Fin 16) (s : State), s.sideState side.val = 2 → s.sideSlave side.val = true →
     exec (.spClockLost side) s = .next ((((s.putSide { sideOf s.io.sides side.val with
       ramp := s.sideAsrc side.val, last := none, far := 0 }).setSideState side.val 3).count D.sp_lost side.val).error
         0x48 side.val 0x0902 .warn)) ∧
   (∀ (side : Fin 16) (s : State), s.sideState side.val = 3 →
     exec (.spClockRestore side) s = .next ((s.putSide { side := side.val, start := s.blockNow, present := true }).set
       D.sp_state 1 side.val))) ∧
  ((∀ (r : Fin 4) (at_ : Int) (a b : AesSub) (s u : State), let side := 16 + r.val
       s.portsLive = true → s.sideState side = 2 → s.sideAsrc side = false →
       s.trackFrame side (s.frameIndex 0 at_).1 (s.frameIndex 0 at_).2 = (u, false) → u.sideState side = 2 →
     let u := u.count D.aes_rx_parity_errors r.val ((!a.even).toNat + (!b.even).toNat)
     let x := aesRxOf u.io.aesRx r.val
     let y : AesRx := { x with
       edge := some at_, good := if u.aesOnRate r.val x at_ then x.good + 1 else 0
       count := x.count + 1, csA := (a.c :: x.csA).take 192, csB := (b.c :: x.csB).take 192
       userA := (a.u :: x.userA).take 192, userB := (b.u :: x.userB).take 192 }
     let v : State := { u with io := { u.io with aesRx := y :: u.io.aesRx.filter fun z => z.rx != r.val } }
     exec (.aesFrameRx r at_ false a b) s =
       .next ((v.placeSub r.val 0 (s.frameIndex 0 at_).1 a).placeSub r.val 1 (s.frameIndex 0 at_).1 b)) ∧
   (∀ (r : Fin 4) (s : State), s.sideState (16 + r.val) = 2 →
     exec (.aesRxLost r) s = .next (((s.putSide { sideOf s.io.sides (16 + r.val) with
       ramp := true, last := none, far := 0 }).set D.aes_rx_state 3 r.val).error 0x49 r.val 0x0902 .warn)) ∧
   (∀ (k : Fin 4) (n : Nat) (s : State), s.getB D.aes_tx_enable k.val = true → s.get D.apll_state ≠ 0 →
     ∃ y : AesTx, exec (.aesFrameTx k n) s = .next { s with io := { s.io with
         aesTx := y :: s.io.aesTx.filter fun z => z.tx != k.val } } ∧
       y.z = (((n : Int) - s.get D.aes_tx_block_phase k.val) % 192 == 0) ∧
       (s.outputsMuted = true → y.a.audio = 0 ∧ y.b.audio = 0)) ∧
   (∀ (c : Fin 32) (s : State), exec (.pdmChSync c) s = .next (s.putPdm ⟨c.val, s.blockNow,
     if s.get D.pdm_dc c.val = 2 then (pdmOf s.io.pdm c.val).d else F32.zero⟩))) ∧
  ((∀ (l : Fin 16) (at_ v : Nat) (rest : List (Nat × Nat)) (s : State),
       (idacOf s.io.idac l.val).queue = (at_, v) :: rest →
     exec (.idacQueueApply l) s =
       .next ((s.putIdac { idacOf s.io.idac l.val with queue := rest }).idacTarget l.val v)) ∧
   (∀ (l : Fin 16) (s : State), s.get D.idac_compliance l.val ≠ 1 →
     exec (.idacComplianceLow l) s = .next ((s.set D.idac_compliance 1 l.val).error 0x4C l.val 0x0903 .warn)) ∧
   (∀ (l : Fin 16) (s : State), exec (.idacComplianceOk l) s = .next (s.set D.idac_compliance 0 l.val)))

/-! ### Network ports (chapter 12) -/

/-- Links, PAUSE and the launch of a frame. Frames received and sent. -/
def Obligations.PortsAndFramesComplete : Prop :=
  ((∀ (port : Fin 7) (s : State), s.get D.runPort port.val = 1 → s.get D.port_speed port.val = 2 →
     exec (.linkUp port true) s = .next (s.set D.port_link 2 port.val)) ∧
   (∀ s : State, s.get D.runPort 6 = 1 →
     exec (.linkUp 6 false) s = .next ((s.set D.port_link 1 6).set D.ts_resolution
       (if s.get D.port_speed 6 = 0 then 250 else 800) 6).syntUpdate) ∧
   (∀ (port : Fin 7) (s : State), exec (.linkDown port) s = .next (s.linkDown port.val)) ∧
   (∀ (port : Fin 7) (dst opcode quanta : Nat) (s : State), opcode ≠ 1 →
     exec (.pauseFrame port dst opcode quanta) s = .next (s.count D.rx_mac_control port.val)) ∧
   (∀ (port : Fin 7) (dst quanta : Nat) (s : State), s.get D.port_pause port.val = 0 →
     exec (.pauseFrame port dst 1 quanta) s = .next (s.count D.pause_rx port.val)) ∧
   (∀ (port : Fin 7) (quanta : Nat) (s : State), s.get D.port_pause port.val = 1 → s.get D.port_speed port.val = 1 →
       s.ports.pauses = [] → 0 < quanta →
     ∃ t, exec (.pauseFrame port 0x0180C2000001 1 quanta) s = .next t ∧
       t.get D.pause_rx port.val = (s.get D.pause_rx port.val + 1) % 2 ^ (8 * tyBytes D.pause_rx.ty) ∧
       t.ports.pauses = [⟨port.val, s.time.local_, s.time.local_ + quanta * (512 * ns32)⟩] ∧
       { t with dict := s.dict, ports := s.ports } = s) ∧
   (∀ (port : Fin 7) (s : State), s.ports.launches = [] → s.ports.queued = [] →
     exec (.pauseExpire port) s = .next (s.pauseStop port.val)) ∧
   (∀ (r : Fin 24) (n : Nat) (l : List (Nat × Nat)) (s : State), let ring := 40 + r.val
       s.txHead ring = .frame n l → descBit (s.ringDesc ring 0) 91 = true → s.launchOf ring = none →
     let now := s.ringTime ring s.time.local_
     let at_ := extendStamp (bits (s.ringDesc ring 0) 96 32) (now / ns32).toNat
     now + 10000 * ns32 ≤ at_ * ns32 →
     exec (.launch r) s =
       .next { s with ports := { s.ports with launches := ⟨ring, at_, false⟩ :: s.ports.launches } })) ∧
  ((∀ (port : Fin 7) (f : List Byte) (lt : Int) (s : State), s.power.phase ≠ .dormant → s.get D.port_link port.val = 1 →
     (f.length < 60 → exec (.frameReceive port true f lt) s = .next (s.count D.rx_fcs_errors port.val)) ∧
     exec (.frameReceive port false f lt) s = .next (s.count D.rx_fcs_errors port.val) ∧
     (1518 < f.length → exec (.frameReceive port true f lt) s = .next (s.count D.rx_oversize port.val)) ∧
     (60 ≤ f.length → f.length ≤ 1518 → frameField f 12 2 ≠ 0x8808 → frameField f 12 2 ≠ 0x88B6 →
       let t := s.count D.rx_frames port.val
       (∀ ring filter, t.classify port.val f = (.ring ring filter, none) →
         exec (.frameReceive port true f lt) s =
           .next (t.deliverRing ring filter f (lt - ofPs (t.getI D.ts_rx_adjust port.val)))) ∧
       (t.classify port.val f = (.unclaimed, none) →
         exec (.frameReceive port true f lt) s = .next (t.count D.rx_unclaimed port.val)))) ∧
   (∀ (port : Fin 7) (ring n : Nat) (l : List (Nat × Nat)) (lt : Int) (s : State), s.get D.port_link port.val = 1 →
       s.heldBack port.val lt = false → (∀ h ∈ s.ports.launches, s.get D.ring_port h.ring = port.val → h.late = false →
         s.ringTime h.ring lt ≤ h.at_ * ns32 + s.launchTol port.val) →
       s.txPick port.val lt = some ring → s.txHead ring = .frame n l → (∀ b ∈ l, s.badIn b.1 b.2 = false) →
       s.launchOf ring = none → descBit (s.ringDesc ring 0) 92 = false →
     let t := (List.range n).foldl (fun u k => u.txWriteBack ring k 0 none) s
     let t := (t.ringPass ring n).count D.tx_frames port.val
     exec (.txFrameDone port lt) s = .next { t with
       wire := ⟨.port port.val, "FRAME", (s.txBytes l).map fun b => b.toNat⟩ :: t.wire
       ports := { t.ports with
         launches := t.ports.launches.filter fun h => h.ring != ring
         lastRing := put t.ports.lastRing port.val ring } }) ∧
   (∀ (port : Fin 7) (p : RtpPacket) (s : State), exec (.aes67PacketRx port p) s =
     .next ((s.ctxMatching port.val p.dst p.udpPort).foldl (fun t c => t.aesPacket c p) s)) ∧
   (∀ (c : Fin 512) (n : Nat) (late : Bool) (s : State), s.get D.es_kind c.val = 1 →
       n % s.packetSamples (s.get D.es_ptime c.val) = 0 → s.get D.port_link (s.get D.es_port c.val) = 1 →
       s.get D.port_personality (s.get D.es_port c.val) ≠ 0 → s.twin.drive = true →
     (s.macOf (s.get D.es_port c.val) (s.get D.es_addr c.val) = none →
       exec (.aes67PacketTx c n late) s = .next ((s.count D.es_unresolved c.val).send
         ⟨.port (s.get D.es_port c.val), "ARP_REQUEST", [s.get D.es_addr c.val]⟩)) ∧
     (∀ mac, s.macOf (s.get D.es_port c.val) (s.get D.es_addr c.val) = some mac →
       let sz := s.packetSamples (s.get D.es_ptime c.val)
       let head : List Byte := [0x80#8] ++ beBytes 1 (s.get D.es_payload_type c.val) ++ beBytes 2 (n / sz % 2 ^ 16) ++
         beBytes 4 ((n + s.get D.es_rtp_offset c.val) % 2 ^ 32) ++ beBytes 4 (s.get D.es_ssrc c.val)
       let data := (List.range sz).flatMap fun i => (List.range (s.get D.es_channels c.val)).flatMap fun ch =>
         pcmBytes (if s.get D.es_encoding c.val = 0 then 2 else 3) (s.destSample ⟨3, s.get D.es_first_ch c.val + ch⟩ (n + i)).1
       let t := ((s.send ⟨.port (s.get D.es_port c.val), "AES67", [mac, s.get D.es_addr c.val,
           s.get D.es_udp_port c.val, s.get D.es_vid c.val, s.get D.es_pcp c.val, s.get D.es_dscp c.val,
           s.get D.es_ttl c.val] ++ (head ++ data).map fun b => b.toNat⟩).count D.es_packets c.val).count
             D.tx_frames (s.get D.es_port c.val)
       exec (.aes67PacketTx c n late) s = .next (if late || s.paused (s.get D.es_port c.val) then t.count D.es_late c.val else t))))

/-! ### Memory, DMA and clocks (chapter 15) -/

/-- What a read finds: a codeword as stored is clean, an error of one or two bits of d and c[14:0] is corrected, and a
wrong c15 is uncorrectable. -/
def Obligations.CodeCorrectsTwoBits : Prop :=
  ∀ (d : BitVec 64) (word : Nat),
    decTed (codeword d word) word = .clean d ∧
    (∀ p, p < 79 → decTed (codeword d word ^^^ BitVec.ofNat 80 (2 ^ p)) word = .corrected d) ∧
    (∀ p q, p < 79 → q < 79 → p ≠ q →
      decTed (codeword d word ^^^ BitVec.ofNat 80 (2 ^ p) ^^^ BitVec.ofNat 80 (2 ^ q)) word = .corrected d) ∧
    decTed (codeword d word ^^^ BitVec.ofNat 80 (2 ^ 79)) word = .uncorrectable

/-- Burnish writes back what it corrects, byte for byte at the word's address, and marks what it cannot. -/
def Obligations.BurnishCompletes : Prop :=
  (∀ (word : Nat) (flips : BitVec 80) (newer lastOfPass : Bool) (d : BitVec 64) (s : State),
      s.mem.bad.contains word = false → decTed (codeword (s.wordAt word) word ^^^ flips) word = .clean d →
    exec (.burnishRead .dram word flips newer lastOfPass) s = .next s.burnishPass ∧
      s.burnishPass.mem.cells = s.mem.cells) ∧
  (∀ (word : Nat) (flips : BitVec 80) (lastOfPass : Bool) (x : BitVec 64) (s : State),
      s.mem.bad.contains word = false → decTed (codeword (s.wordAt word) word ^^^ flips) word = .corrected x →
    ∃ t, exec (.burnishRead .dram word flips false lastOfPass) s = .next t ∧
      t.get D.bn_dram_corrected = (s.burnishPass.get D.bn_dram_corrected + 1) % 2 ^ (8 * tyBytes D.bn_dram_corrected.ty) ∧
      ∀ a, t.mem.cells.read a =
        if 8 * word ≤ a ∧ a < 8 * word + 8 then (leBytes 8 x.toNat).getD (a - 8 * word) 0#8 else s.mem.cells.read a) ∧
  (∀ (m : MemUnit) (word : Nat) (flips : BitVec 80) (newer : Bool) (s : State), m.mapped = false →
      s.mem.badUnit.contains (m, word) = true →
    ∃ t, exec (.burnishRead m word flips newer false) s = .next t ∧
      t.get D.bn_sram_uncorrectable = (s.get D.bn_sram_uncorrectable + 1) % 2 ^ (8 * tyBytes D.bn_sram_uncorrectable.ty) ∧
      t.mem = { s.mem with badUnit := (m, word) :: s.mem.badUnit.filter fun e => e != (m, word) })

/-- Requests reach the DRAM controller at the port of what asks, with the port's class and deadline; those of a master
pass the matrix, which turns away an address that no target decodes and otherwise grants by class first and then
round-robin; they age and are served; refreshes; training; set points. The DMA engine, the matrix and the ramps of the
PLLs. -/
def Obligations.MemoryEventsComplete : Prop :=
  ((∀ (q : MemRequest) (s : State), q.who.master? = none → exec (.dmcRequest q.who q.addr []) s =
     .next { s with mem := { s.mem with
       waiting := s.mem.waiting ++ [⟨s.mem.nextRequest, q.who.port, portClass q.who.port 0, q.addr / 64,
         s.time.local_, s.get D.dmc_port_target q.who.port⟩], nextRequest := s.mem.nextRequest + 1 } }) ∧
   (∀ (m : Fin 8) (cls : Fin 2) (addr : Nat) (s : State),
     let q : MemRequest := ⟨.master m cls, addr⟩
     (matrixDecodes m.val addr = true → matrixTarget addr = some 0 → exec (.dmcRequest q.who addr []) s =
       .next { s with mem := { s.mem with
         waiting := s.mem.waiting ++ [⟨s.mem.nextRequest, q.who.port, portClass q.who.port cls.val, addr / 64,
           s.time.local_, s.get D.dmc_port_target q.who.port⟩]
         nextRequest := s.mem.nextRequest + 1, turns := modAt s.mem.turns 0 fun _ => m.val } }) ∧
     (matrixDecodes m.val addr = false → exec (.dmcRequest q.who addr []) s =
       .next ((s.count D.mtx_decode_errors m.val).set D.mtx_last_decode_addr addr m.val))) ∧
   (∀ (m n : Fin 8) (c d : Fin 2) (a b : MemRequest) (s : State), a.who = .master m c → b.who = .master n d → m ≠ n →
       a.addr < 2 ^ 33 → b.addr < 2 ^ 33 → s.get D.mtx_park 0 ≠ m.val → s.get D.mtx_park 0 ≠ n.val →
       (b.class_ < a.class_ ∨ b.class_ = a.class_ ∧
         turnDistance (s.mem.turns.getD 0 7) m.val < turnDistance (s.mem.turns.getD 0 7) n.val) →
     ∃ t u, exec (.dmcRequest a.who a.addr [b]) s = .next t ∧ exec (.dmcRequest b.who b.addr [a]) s = .next u ∧
       t.mem.waiting = ((s.dmcArrive a).dmcArrive b).mem.waiting ∧
       u.mem.waiting = ((s.dmcArrive a).dmcArrive b).mem.waiting) ∧
   (∀ (hits : List Nat) (r : DmcRequest) (s : State), dmcPick hits s.time.local_ s.mem.waiting = some r →
     let lat := r.age s.time.local_ / ns32
     exec (.dmcServe hits) s = .next ((({ s with mem := { s.mem with
       waiting := s.mem.waiting.filter fun x => x.id != r.id
       served := ⟨s.time.local_, r.port, lat⟩ :: keepSecond s.mem.served s.time.local_ } } : State).histRecord 2 r.port
         (F32.ofInt lat)).dmcAverages)) ∧
   (∀ s : State, 0 < s.mem.ahead →
     exec .refreshDue s = .next { s with mem := { s.mem with ahead := s.mem.ahead - 1 } }) ∧
   (∀ (r : DmcRequest) (s : State), s.mem.ahead = 0 → r ∈ s.mem.waiting → r.cls = 2 →
     (s.mem.postponed < 8 →
       exec .refreshDue s = .next { s with mem := { s.mem with postponed := s.mem.postponed + 1 } }) ∧
     (8 ≤ s.mem.postponed → exec .refreshDue s = .next (s.count D.dmc_forced_refresh))) ∧
   (∀ (sp : Fin 2) (s : State), s.mem.training = none →
     exec (.setpointChange sp) s = .next (s.changeSetPoint sp.val) ∧
       (s.changeSetPoint sp.val).get D.dmc_setpoint_now = sp.val) ∧
   (∀ (t : Training) (passed : Bool) (margin : Word32) (s : State), s.mem.training = some t → s.mem.deferred = [] →
     (t.step < 6 → exec (.trainStepDone passed margin) s = .next (({ s with mem := { s.mem with
       deferred := [], training := some { t with step := t.step + 1 } } } : State).showTraining 1)) ∧
     (6 ≤ t.step → passed = true → exec (.trainStepDone passed margin) s =
       (let u := ({ s with mem := { s.mem with deferred := [] } } : State).setF (marginObj t.setPoint) margin
        .next (({ u with mem := { u.mem with training := none } } : State).showTraining 0))) ∧
     (6 ≤ t.step → passed = false → t.fails = 0 →
       exec (.trainStepDone passed margin) s = .next (({ s with mem := { s.mem with
         deferred := [], training := some { t with step := 1, fails := 1 } } } : State).showTraining 1)))) ∧
  ((∀ (m : Fin 8) (s : State), exec (.masterReset m) s = .next (s.count D.mtx_resets m.val)) ∧
   (∀ (c : Fin 8) (s : State), s.get D.dma_trigger c.val ≠ 0 → s.get D.runDma c.val = 1 → s.get D.dma_size c.val ≠ 0 →
     ((s.get D.dma_state (c.val + 8) = 1 ∨ s.get D.dma_state (c.val + 8) = 2) →
       exec (.dmaTrigger c) s = .next (s.modDma c.val fun x => { x with again := true })) ∧
     (s.get D.dma_state (c.val + 8) = 0 → s.dmaOwned c.val ≠ 0 →
       exec (.dmaTrigger c) s =
         .next ((s.set D.dma_state 1 (c.val + 8)).modDma c.val fun x => { x with recent := [] }))) ∧
   (∀ (c : Fin 8) (s : State), let d := s.dmaDesc (s.dmaAt c.val)
       s.get D.dma_state (c.val + 8) = 1 → s.dmaOwned c.val ≠ 0 → d.bad = false → s.dmaBadWord d = none →
       d.fence = true → d.event = true →
     exec (.dmaDescriptorDone c) s =
       (let moved := ((s.dmaMove [] d d.count).modDma c.val fun x => { x with recent := [(d.dst, d.count)] }).dmaTraffic
        let back := ((moved.dmaWriteBack (s.dmaAt c.val) 0 d.count).dmaAdvance c.val).count D.dma_bytes (c.val + 8) d.count
        .next ((back.count D.dma_events (c.val + 8)).dmaNext c.val d.stop))) ∧
   (∀ (c : Fin 8) (s : State), let d := s.dmaDesc (s.dmaAt c.val)
       s.get D.dma_state (c.val + 8) = 1 → s.dmaOwned c.val ≠ 0 → d.bad = true →
     exec (.dmaDescriptorDone c) s =
       .next (((s.dmaWriteBack (s.dmaAt c.val) 2 0).dmaAdvance c.val).dmaNext c.val d.stop)) ∧
   (∀ (p : Fin 2) (n dwell : Nat) (rest : List (Nat × Nat)) (s : State),
       (s.mem.ramps.find? fun r => r.1 == p.val) = some (p.val, (n, dwell) :: rest) →
     ∃ t, exec (.pllRampStep p) s = .next t ∧ t.get D.pll_n p.val = n ∧
       t.mem.ramps = (p.val, rest) :: s.mem.ramps.filter (fun r => r.1 != p.val) ∧
       { t with dict := s.dict, mem := s.mem } = s ∧ { t.mem with ramps := s.mem.ramps } = s.mem))

/-- Of the requests that wait, the one served has the greatest key: class, then urgency, then row hit, then age; of
two to one line the earlier goes first (R576). A request at its port's age limit is promoted to RT. -/
def Obligations.GreatestKeyServed : Prop :=
  (∀ (hits : List Nat) (now : Int) (l : List DmcRequest) (r : DmcRequest), dmcPick hits now l = some r →
     r ∈ l ∧ dmcFree l r = true ∧ ∀ x ∈ l, dmcFree l x = true →
       x.cls < r.cls ∨ x.cls = r.cls ∧ (x.urgency now < r.urgency now ∨ x.urgency now = r.urgency now ∧
         ((hits.contains x.id = false ∧ hits.contains r.id = true) ∨ hits.contains x.id = hits.contains r.id ∧
           x.age now ≤ r.age now))) ∧
  (∀ (hits : List Nat) (r : DmcRequest) (s : State), dmcPick hits s.time.local_ s.mem.waiting = some r →
    ∃ t, exec (.dmcServe hits) s = .next t ∧ t.mem.waiting = s.mem.waiting.filter fun x => x.id != r.id) ∧
  (∀ (r : DmcRequest) (now : Int),
    let a := r.age now
    let t := (r.target : Int) * 2 ^ 32
    (2 * a < t → r.urgency now = 0) ∧ (t ≤ 2 * a → 4 * a < 3 * t → r.urgency now = 1) ∧
      (3 * t ≤ 4 * a → a < t → r.urgency now = 2) ∧ (t ≤ a → r.urgency now = 3)) ∧
  (∀ (port : Fin 8) (r : DmcRequest) (s : State), (s.mem.waiting.find? fun r => r.port == port.val && r.cls != 2 &&
      decide (r.age s.time.local_ ≥ (s.get D.dmc_port_age_limit port.val : Int) * ns32)) = some r →
    exec (.agePromotion port) s = .next (({ s with mem := { s.mem with
      waiting := s.mem.waiting.map fun x => if x.id = r.id then { x with cls := 2 } else x } } : State).count
        D.dmc_port_promotions port.val))

/-! ### The Graver cores (chapter 8) -/

/-- The commands of NOP, DUAL, DFMA and ALU issue the bundle that holds their operation: its store is made, the
instance takes the registers the bundle leaves, and it goes on, ends, or switches as the bundle's CTL says. The
commands of IMM, ACC, FLOW and SYS issue the bundle that holds their operation. -/
def Obligations.BundlesIssue : Prop :=
  (∀ (c : Fin 8) (i : Inst) (b : Bundle) (r : GravCtx) (s : State), bundleIssues s c i b r →
     let t := (s.storeOf i b).settle (i.afterBundle b r) b;
       (b.quiet = true → exec (.nop c) s = .next t) ∧
       (b.hasMac 1#2 = true → exec (.mac c) s = .next t) ∧
       (b.hasMac 2#2 = true → exec (.msu c) s = .next t) ∧
       (b.hasFma 1#2 = true → exec (.fma c) s = .next t) ∧
       (b.hasFma 2#2 = true → exec (.fms c) s = .next t) ∧
       (b.hasFma 3#2 = true → exec (.dfmaFadd c) s = .next t) ∧
       (b.hasAlu 0x00#6 = true → exec (.mov c) s = .next t) ∧
       (b.hasAlu 0x01#6 = true → exec (.iadd c) s = .next t) ∧
       (b.hasAlu 0x02#6 = true → exec (.isub c) s = .next t) ∧
       (b.hasAlu 0x08#6 = true → exec (.fadd c) s = .next t) ∧
       (b.hasAlu 0x09#6 = true → exec (.fsub c) s = .next t) ∧
       (b.hasAlu 0x0A#6 = true → exec (.fmul c) s = .next t) ∧
       (b.hasAlu 0x0B#6 = true → exec (.fmin c) s = .next t) ∧
       (b.hasAlu 0x0C#6 = true → exec (.fmax c) s = .next t) ∧
       (b.hasAlu 0x0D#6 = true → exec (.fabs c) s = .next t) ∧
       (b.hasAlu 0x0E#6 = true → exec (.fneg c) s = .next t) ∧
       (b.hasAlu 0x0F#6 = true → exec (.fcmp c) s = .next t) ∧
       (b.hasAlu 0x10#6 = true → exec (.ftoi c) s = .next t) ∧
       (b.hasAlu 0x11#6 = true → exec (.itof c) s = .next t) ∧
       (b.hasAlu 0x18#6 = true → exec (.fdiv c) s = .next t) ∧
       (b.hasAlu 0x19#6 = true → exec (.fsqrt c) s = .next t) ∧
       (b.hasAlu 0x1A#6 = true → exec (.fsin c) s = .next t) ∧
       (b.hasAlu 0x1B#6 = true → exec (.fcos c) s = .next t) ∧
       (b.hasAlu 0x1C#6 = true → exec (.fexp10 c) s = .next t) ∧
       (b.hasAlu 0x1D#6 = true → exec (.flog10 c) s = .next t) ∧
       (b.hasAlu 0x1E#6 = true → exec (.fpow c) s = .next t)) ∧
  (∀ (c : Fin 8) (i : Inst) (b : Bundle) (r : GravCtx) (s : State), bundleIssues s c i b r →
     let t := (s.storeOf i b).settle (i.afterBundle b r) b;
       (b.isImm = true → exec (.imm c) s = .next t) ∧
       (b.hasAcc 0#4 = true → exec (.aclr c) s = .next t) ∧
       (b.hasAcc 1#4 = true → exec (.amov c) s = .next t) ∧
       (b.hasAcc 2#4 = true → exec (.aadd c) s = .next t) ∧
       (b.hasAcc 3#4 = true → exec (.asub c) s = .next t) ∧
       (b.hasAcc 4#4 = true → exec (.aldf c) s = .next t) ∧
       (b.hasAcc 5#4 = true → exec (.astf c) s = .next t) ∧
       (b.hasFlow 0#4 = true → exec (.br c) s = .next t) ∧
       (b.hasFlow 1#4 = true → exec (.brc c) s = .next t) ∧
       (b.hasFlow 2#4 = true → exec (.call c) s = .next t) ∧
       (b.hasFlow 3#4 = true → exec (.ret c) s = .next t) ∧
       (b.hasFlow 4#4 = true → exec (.loop c) s = .next t) ∧
       (b.hasFlow 5#4 = true → exec (.loopr c) s = .next t) ∧
       (b.hasSys 3#4 = true → exec (.fence c) s = .next t) ∧
       (b.exits = true → exec (.exit c) s = .next t) ∧
       (b.yields = true → exec (.yield c) s = .next t) ∧
       (b.hasSys 2#4 = true → exec (.wait c) s = .next t))

/-- What NOP and a MAC slot of DUAL do to the registers, in a bundle that does nothing else: the accumulator takes the
exact product, and only the sticky bits of R338 change beside. What every ALU operation writes to an f register, FCMP
to the flags, and IADD to a 16-bit register. IMM and the ACC operations, and that an ACC operation reads both
accumulators as they stood before the bundle. -/
def Obligations.SlotResults : Prop :=
  (∀ (i : Inst) (n : BitVec 2) (fs ft : BitVec 4) (x y : BitVec 32), i.regs.straight →
     let old := i.regs
     let p := termMul (old.f.getD fs.toNat 0#32) (old.f.getD ft.toNat 0#32)
     let sum (z : Int) : Ran := .ok { old with
       acc := old.acc.set n.toNat ((old.acc.getD n.toNat {}).addRaw z 0)
       inv := old.inv || p.nonfinite, sat := old.sat || p.clamped, pc := old.pc + 1 }
     i.run .nop x y = .ok { old with pc := old.pc + 1 } ∧
     i.run (.dual ⟨1#2, n, fs, ft⟩ ⟨0, 0, 0, 0⟩ idleMoves) x y = sum p.a ∧
     i.run (.dual ⟨2#2, n, fs, ft⟩ ⟨0, 0, 0, 0⟩ idleMoves) x y = sum (-p.a) ∧
     i.run (.dual ⟨0, 0, 0, 0⟩ ⟨1#2, n, fs, ft⟩ idleMoves) x y = sum p.a ∧
     i.run (.dual ⟨0, 0, 0, 0⟩ ⟨2#2, n, fs, ft⟩ idleMoves) x y = sum (-p.a)) ∧
  (∀ (i : Inst) (fd : BitVec 4) (src tgt : BitVec 6) (x y : BitVec 32), i.regs.straight →
     let old := i.regs
     let a := i.readReg src.toNat
     let b := i.readReg tgt.toNat
     let d : BitVec 6 := fd.setWidth 6
     let run (op : BitVec 6) : Ran := i.run (.alu op d src tgt idleMoves) x y
     let word (v : BitVec 32) : Ran := .ok { old with f := old.f.set fd.toNat v, pc := old.pc + 1 }
     let float (v : BitVec 32) : Ran := .ok { old with
       f := old.f.set fd.toNat v, nanr := old.nanr || F32.isNaN v, pc := old.pc + 1 }
     run 0x00#6 = word a ∧ run 0x01#6 = word (a + b) ∧ run 0x02#6 = word (a - b) ∧
     run 0x08#6 = float (F32.add a b) ∧ run 0x09#6 = float (F32.sub a b) ∧ run 0x0A#6 = float (F32.mul a b) ∧
     run 0x0B#6 = float (F32.min a b) ∧ run 0x0C#6 = float (F32.max a b) ∧
     run 0x0D#6 = word (a &&& 0x7FFFFFFF#32) ∧ run 0x0E#6 = word (a ^^^ 0x80000000#32) ∧
     run 0x0F#6 = .ok { old with cmp := cmpFlags a b, pc := old.pc + 1 } ∧
     run 0x10#6 = word (ftoi a) ∧ run 0x11#6 = word (F32.ofInt a.toInt) ∧
     run 0x18#6 = float (F32.div a b) ∧ run 0x19#6 = float (F32.sqrt a) ∧ run 0x1A#6 = float (F32.sin a) ∧
     run 0x1B#6 = float (F32.cos a) ∧ run 0x1C#6 = float (F32.exp10 a) ∧ run 0x1D#6 = float (F32.log10 a) ∧
     run 0x1E#6 = float (F32.pow a b) ∧
     ∀ k : BitVec 3, i.run (.alu 0x01#6 (0x10#6 + k.setWidth 6) src tgt idleMoves) x y =
       .ok { old with x := old.x.set k.toNat ((a + b).setWidth 16), pc := old.pc + 1 }) ∧
  (∀ (i : Inst) (fd : BitVec 4) (ad as_ : BitVec 2) (v x y : BitVec 32), i.regs.straight →
     let old := i.regs
     let d := old.acc.getD ad.toNat {}
     let s := old.acc.getD as_.toNat {}
     let run (op : BitVec 4) : Ran := i.run (.acc op ad as_ fd idleMoves) x y
     let put (z : Accum) : Ran := .ok { old with acc := old.acc.set ad.toNat z, pc := old.pc + 1 }
     let t := termF32 (old.f.getD fd.toNat 0#32)
     i.run (.imm (fd.setWidth 6) v) x y = .ok { old with f := old.f.set fd.toNat v, pc := old.pc + 1 } ∧
     run 0#4 = put ⟨0, 0⟩ ∧ run 1#4 = put s ∧ run 2#4 = put (d.addRaw s.a s.w) ∧ run 3#4 = put (d.addRaw (-s.a) (-s.w)) ∧
     run 4#4 = .ok { old with
       acc := old.acc.set ad.toNat ⟨t.a, 0⟩, inv := old.inv || t.nonfinite, sat := old.sat || t.clamped
       pc := old.pc + 1 } ∧
     run 5#4 = .ok { old with
       f := old.f.set fd.toNat d.store.1, sat := old.sat || d.store.2, pc := old.pc + 1 })

/-- DFMA: where its two slots lie in the word, and what each operation does in either slot of a bundle that does
nothing else; a NaN result sets NANR beside (R346). -/
def Obligations.DfmaOperations : Prop :=
  (∀ (w : Word64) (b : Bundle), w.extractLsb' 60 4 = 2#4 → decodeBundle w = some b →
    let slot (lo : Nat) : FmaSlot :=
      ⟨w.extractLsb' (lo + 12) 2, w.extractLsb' (lo + 8) 4, w.extractLsb' (lo + 4) 4, w.extractLsb' lo 4⟩
    ∃ ldx ldy ctl, b = .dfma (slot 46) (slot 32) ldx ldy ctl) ∧
  ∀ (i : Inst) (first : Bool) (fd fs ft : BitVec 4) (x y : BitVec 32), i.regs.straight →
    let old := i.regs
    let a := old.f.getD fs.toNat 0#32
    let b := old.f.getD ft.toNat 0#32
    let d := old.f.getD fd.toNat 0#32
    let idle : FmaSlot := ⟨0, 0, 0, 0⟩
    let run (op : BitVec 2) : Ran :=
      i.run (if first then .dfma ⟨op, fd, fs, ft⟩ idle ⟨0, 0, 0, 0⟩ ⟨0, 0, 0, 0⟩ 0
        else .dfma idle ⟨op, fd, fs, ft⟩ ⟨0, 0, 0, 0⟩ ⟨0, 0, 0, 0⟩ 0) x y
    let write (v : BitVec 32) : Ran := .ok { old with
      f := old.f.set fd.toNat v, nanr := old.nanr || F32.isNaN v, pc := old.pc + 1 }
    run 0#2 = .ok { old with pc := old.pc + 1 } ∧
    run 1#2 = write (F32.fma a b d) ∧
    run 2#2 = write (F32.fma (F32.neg a) b d) ∧
    run 3#2 = write (F32.add a b)

/-- The FLOW operations: one delay slot, the return stack of four, the set-up of a loop, and the two exceptions. The
SYS operations and the ways an instance is stopped: TRAP and an overrun raise their exceptions, a vendor kernel ends
at EXIT, and a loop level whose count runs out ends with its end bundle. -/
def Obligations.FlowAndStopsComplete : Prop :=
  (∀ (i : Inst) (cond : BitVec 4) (level : BitVec 1) (count : BitVec 6) (target : BitVec 13) (n : BitVec 16)
       (x y : BitVec 32), i.regs.straight →
     let old := i.regs
     let run (op : BitVec 4) : Ran := i.run (.flow op cond level count target n) x y
     let to_ (r : GravCtx) (branch : Bool) : Ran :=
       .ok { r with pc := old.pc + 1, delay := some (target.toNat, branch) }
     (i.code.length ≤ target.toNat → run 0#4 = .exception 1 ∧
       (old.cond cond.toNat = true → run 1#4 = .exception 1) ∧ (old.stack.length < 4 → run 2#4 = .exception 1)) ∧
     (target.toNat < i.code.length → run 0#4 = to_ old true ∧
       (old.cond cond.toNat = true → run 1#4 = to_ old true) ∧
       (old.stack.length < 4 → run 2#4 = to_ { old with stack := (old.pc + 2) :: old.stack } false)) ∧
     (old.cond cond.toNat = false →
       run 1#4 = .ok { old with pc := old.pc + 1, delay := some (old.pc + 2, false) }) ∧
     (4 ≤ old.stack.length → run 2#4 = .exception 0) ∧
     (old.stack = [] → run 3#4 = .exception 0) ∧
     (∀ r rest, old.stack = r :: rest →
       run 3#4 = .ok { old with pc := old.pc + 1, delay := some (r, false), stack := rest }) ∧
     (level = 0#1 → old.pc < target.toNat → target.toNat < i.code.length →
       (n = 0#16 → run 4#4 = .ok { old with pc := target.toNat + 1 }) ∧
       (n ≠ 0#16 → run 4#4 = .ok { old with
         lc := old.lc.set 0 n, lv0 := some ⟨old.pc + 1, target.toNat⟩, pc := old.pc + 1 }) ∧
       ((i.readReg count.toNat).setWidth 16 ≠ 0#16 → run 5#4 = .ok { old with
         lc := old.lc.set 0 ((i.readReg count.toNat).setWidth 16), lv0 := some ⟨old.pc + 1, target.toNat⟩
         pc := old.pc + 1 })) ∧
     (level = 1#1 → run 4#4 = .exception 0 ∧ run 5#4 = .exception 0)) ∧
  ((∀ (i : Inst) (op : BitVec 4) (arg : BitVec 16) (x y : BitVec 32), i.regs.straight →
     i.run (.sys 4#4 arg) x y = .exception 4 ∧
     (op ≠ 4#4 → i.run (.sys op arg) x y = .ok { i.regs with pc := i.regs.pc + 1 })) ∧
   (∀ (c : Fin 8) (i : Inst) (arg : BitVec 16) (s : State), s.issuing c.val = some i → vendorNode i.node = false →
       i.fetch = .ok (.sys 4#4 arg) → i.overruns (.sys 4#4 arg) = false →
     exec (.trap c) s = .next (s.exceptInst i 4)) ∧
   (∀ (c : Fin 8) (i : Inst) (b : Bundle) (s : State), s.issuing c.val = some i → vendorNode i.node = false →
       i.fetch = .ok b → i.overruns b = true →
     exec (.overrun c) s = .next (s.exceptInst i 3)) ∧
   (∀ (c : Fin 8) (i : Inst) (s : State), s.issuing c.val = some i → vendorNode i.node = true →
     exec (.exit c) s = .next (s.exitInst i)) ∧
   (∀ (c : Fin 8) (i : Inst) (b : Bundle) (r : GravCtx) (l : LoopLevel) (s : State), bundleIssues s c i b r →
       i.regs.lv0 = some l → l.last = i.regs.pc → (i.regs.lc.getD 0 0#16).toNat ≤ 1 →
     exec (.loopCountExpire c 0) s = .next ((s.storeOf i b).settle (i.afterBundle b r) b)) ∧
   (∀ (r : GravCtx) (l : LoopLevel), r.delay = none → r.lv0 = some l → r.lv1 = none → l.last = r.pc →
       (r.lc.getD 0 0#16).toNat ≤ 1 →
     r.advance = { r with lc := r.lc.set 0 0#16, lv0 := none, pc := l.last + 1 }))

/-- A bundle stores the word of its store slot at the address its address register held before the bundle, and nothing
else: a bundle that neither ends, waits nor yields leaves every other byte as it was. -/
def Obligations.BundleStoresOneWord : Prop :=
  ∀ (c : Fin 8) (i : Inst) (b : Bundle) (r : GravCtx) (s : State), bundleIssues s c i b r →
      b.exits = false → b.waitsFor = none → b.yields = false →
    let t := (s.storeOf i b).settle (i.afterBundle b r) b;
    (∀ q, b.store? = some q → ∀ a, t.mem.cells.read a =
      if i.storeAddr q ≤ a ∧ a < i.storeAddr q + 4 then
        (leBytes 4 (i.regs.storeWord q).1.toNat).getD (a - i.storeAddr q) 0#8
      else s.mem.cells.read a) ∧
    (b.store? = none → t.mem.cells = s.mem.cells)

/-- The exact sum of an accumulator: an addition keeps A in range and holds A + w · 2⁷² exactly, modulo 2⁷⁸, and
additions may be made in any order. -/
def Obligations.AccumulatorIsExact : Prop :=
  ∀ (x : Accum) (a w b v : Int), -(2 ^ 71) ≤ x.a → x.a < 2 ^ 71 → -(2 ^ 71) ≤ a → a < 2 ^ 71 → -(2 ^ 71) ≤ b → b < 2 ^ 71 →
    let y := x.addRaw a w;
    -(2 ^ 71) ≤ y.a ∧ y.a < 2 ^ 71 ∧ -32 ≤ y.w ∧ y.w < 32 ∧
    (∃ k : Int, y.a + y.w * 2 ^ 72 = x.a + a + (x.w + w) * 2 ^ 72 + k * 2 ^ 78) ∧
    (x.addRaw a w).addRaw b v = (x.addRaw b v).addRaw a w

/-- A circular post-modification keeps an address register within its buffer, and a linear one adds modulo 2¹⁶. -/
def Obligations.PostModifyStaysInBuffer : Prop :=
  ∀ (cfg : BitVec 32) (a : BitVec 16) (i : Int),
    ((cfg.extractLsb' 30 2).toNat = 0 → postModify cfg a i = BitVec.ofInt 16 (a.toNat + i)) ∧
    ((cfg.extractLsb' 30 2).toNat = 1 →
      let n := (cfg.extractLsb' 0 16).toNat + 1
      let base := a.toNat / 2 ^ ceilLog2 n * 2 ^ ceilLog2 n;
      base + n ≤ 2 ^ 16 → base ≤ (postModify cfg a i).toNat ∧ (postModify cfg a i).toNat < base + n)

/-! ### The Dispatch Unit (chapter 8) -/

/-- An instance enters the delay list when its inputs are available, the sample tick readies due instances and
schedules the cores, a forced switch takes a core, and a deadline conceals an instance. -/
def Obligations.DispatchEventsComplete : Prop :=
  (∀ (n : Fin 4096) (k : Nat) (x : NodeNow) (s : State), vendorNode n.val = false →
      (s.graver.insts.any fun y => y.node == n.val && y.block == k) = false → s.nodeNow n.val = some x →
      s.nodeReleases n.val k = true → s.inputsReady n.val k = true →
    let i : Inst := { node := n.val, block := k, core := x.core, cls := s.nodeClass n.val, stage := .waiting
                      due := s.tickNow + s.get D.node_release n.val, deadline := s.nodeDeadline n.val k
                      released := s.time.local_ }
    exec (.inputsAvailable n k) s =
      .next (({ s with graver := { s.graver with insts := s.graver.insts ++ [i] } } : State).showNode n.val)) ∧
  (∀ s : State,
    let due := s.graver.insts.filter fun x => x.stage == .waiting && decide (x.due ≤ s.sampleNow)
    exec .dispatchTick s = .next ((List.range 8).foldl State.scheduleCore
      (due.foldl (fun u x => (u.setStage x .ready).showNode x.node) s))) ∧
  (∀ (c : Fin 8) (r i : Inst) (s : State), s.issuing c.val = some r → r.regs.preq = true →
      s.challenger c.val = some (r, i) →
    let t := (s.putInst { r with stage := .preempted, regs := { r.regs with preq := false } }).showNode r.node
    exec (.forcedSwitch c) s =
      .next (((t.startInst i 1).count D.core_preempts c.val).count D.core_forced c.val)) ∧
  (∀ (n : Fin 4096) (k : Nat) (i : Inst) (s : State),
      (s.graver.insts.find? fun x => x.node == n.val && x.block == k && x.stage != .done) = some i →
    let t := (((s.count D.node_misses i.node).error 0x59 i.node 0x0505 .warn).localEvent).instEnds i
    let t := match t.nodeNow i.node with
      | some x => t.putNode { x with exceptions := 0 }
      | none => t
    exec (.graverDeadline n k) s = .next (((t.concealInst i).dropInst i).afterInst i))

/-- What a core takes next: the highest class, then the earliest deadline, then the lowest node index; one that was
pre-empted goes before the others of its class. -/
def Obligations.ReadyOrder : Prop :=
  ∀ (l : List Inst) (i : Inst), bestInst l = some i →
    i ∈ l ∧ ∀ j ∈ l, i.cls ≤ j.cls ∧ (j.cls = i.cls → (i.stage = .preempted ∨ j.stage ≠ .preempted) ∧
      ((i.stage = .preempted ↔ j.stage = .preempted) →
        i.deadline ≤ j.deadline ∧ (j.deadline = i.deadline → i.node ≤ j.node)))

/-! ### The fabric (chapter 13) -/

/-- Neighbours and their admission: HELLOs, the steps of the handshake with their keys, and its end. Frames of another
version, type or length, and frames whose trailer is not good, are dropped and counted. Link state: LSAs received,
acknowledged, sent again, renewed and forgotten; the generations of trees. STREAM frames: accepted on the parent port
alone, eliminated, delivered, and passed on. -/
def Obligations.FabricEventsComplete : Prop :=
  ((∀ (p : Fin 6) (h : Hello) (t : FabFrame) (s : State), s.fabPort p.val = true → s.get D.nbr_state p.val = 1 →
       t.formed ftHello h.bytes = true →
     let u := s.set D.nbr_vertex (h.slot * 4096 + h.node) p.val
     let u := u.putNbr { s.nbr p.val with remotePort := h.port, peerMac := t.mac }
     (s.helloDiffers h = 0 →
       exec (.fabHello p h t) s = .next (((u.set D.nbr_mismatch 0 p.val).set D.nbr_state 2 p.val).startAdmit p.val t.mac)) ∧
     (s.helloDiffers h ≠ 0 →
       exec (.fabHello p h t) s =
         .next (((u.nbrMove p.val 4).set D.nbr_mismatch (s.helloDiffers h) p.val).error 0x20 p.val 0x0A01 .warn))) ∧
   (∀ (p : Fin 6) (h : Hello) (l : Lsa) (v q : Nat) (f : StreamFrame) (a : AdmitFrame) (t : FabFrame) (s : State),
       s.fabPort p.val = true →
     (t.formed ftHello h.bytes = false → exec (.fabHello p h t) s = .next (s.count D.fab_format_drops)) ∧
     (a.frame.formed ftAdmit a.step.bytes = false → exec (.admission p a) s = .next (s.count D.fab_format_drops)) ∧
     (t.formed ftLsa l.bytes = false → exec (.lsa p l t) s = .next (s.count D.fab_format_drops)) ∧
     (t.formed ftLsaAck (lsaAckBytes v q) = false → exec (.lsaAck p v q t) s = .next (s.count D.fab_format_drops)) ∧
     (t.formed ftStream f.bytes = false → exec (.streamFrameRx p f t) s = .next (s.count D.fab_format_drops)) ∧
     (∀ k, s.get D.nbr_state p.val = 3 → (s.nbr p.val).rx = some k → (s.nbr p.val).rxOld = none →
       (t.formed ftHello h.bytes = true → k.admits t h.bytes = false →
         exec (.fabHello p h t) s = .next (s.count D.fab_auth_drops)) ∧
       (t.formed ftLsa l.bytes = true → k.admits t l.bytes = false →
         exec (.lsa p l t) s = .next (s.count D.fab_auth_drops)) ∧
       (t.formed ftLsaAck (lsaAckBytes v q) = true → k.admits t (lsaAckBytes v q) = false →
         exec (.lsaAck p v q t) s = .next (s.count D.fab_auth_drops)) ∧
       (t.formed ftStream f.bytes = true → k.admits t f.bytes = false →
         exec (.streamFrameRx p f t) s = .next (s.count D.fab_auth_drops)))) ∧
   (∀ (p : Fin 6) (s : State), s.fabPort p.val = true → s.fabric.quiet = false →
     exec (.helloTimer p) s = .next (s.sendHello p.val)) ∧
   (∀ (p : Fin 6) (s : State), s.get D.nbr_state p.val ≠ 0 →
     exec (.helloLost p) s = .next (((s.count D.nbr_hello_lost p.val).nbrMove p.val 0).putNbr { port := p.val })) ∧
   (∀ (p : Fin 6) (f : FabFrame) (s : State), s.fabPort p.val = true → s.get D.nbr_state p.val = 2 →
     let step (x : AdmitStep) : Host.Outcome State Fault Refusal := exec (.admission p ⟨f, x⟩) s
     let good (x : AdmitStep) : Prop := f.formed ftAdmit x.bytes = true
     (∀ nonce key, good (.init nonce key) → (s.nbr p.val).peerMac < s.get D.port_mac p.val → s.get D.owner_state ≠ 0 →
         nonce.length = 16 → (keyOf key).isSome = true →
       ∃ (x : LinkShake) (u : State), step (.init nonce key) = .next (u.sendAdmit p.val (.reply scOk x.id x.nonceM x.keyM s.linkChain.length)) ∧
         (u.nbr p.val).shake = some x ∧ x.initiator = false ∧ x.nonceP = nonce ∧ x.keyP = key ∧ x.nonceM = s.freeNonce ∧
         x.keyM = keyBytes (publicKey x.secret) ∧ x.chain = [] ∧ (u.nbr p.val).tx = (s.nbr p.val).tx ∧
         (u.nbr p.val).rx = (s.nbr p.val).rx) ∧
     (∀ nonce key, good (.init nonce key) → (s.nbr p.val).peerMac < s.get D.port_mac p.val → s.get D.owner_state = 0 →
       step (.init nonce key) = .next ((s.sendAdmit p.val (.reply scAuth 0 [] [] 0)).admitRefused p.val)) ∧
     (∀ id sig x, good (.finish id sig) → (s.nbr p.val).shake = some x → x.initiator = false → x.id = id →
       let t := if s.utcNow.isSome then s else s.error 0x01 0 0x0308 .info
       step (.finish id sig) = .next (if t.admitsLink x sig then
         (t.pass.sendAdmit p.val (.finishReply scOk
           (ecdsaSign Config.deviceKey (scalarOf t.freeHere) (x.transcript t.linkChain)))).admitNbr p.val x
       else (t.sendAdmit p.val (.finishReply scAuth [])).admitRefused p.val)) ∧
     (∀ status sig x, good (.finishReply status sig) → (s.nbr p.val).shake = some x → x.initiator = true →
         0 < x.total → x.total ≤ x.chain.length →
       let t := if s.utcNow.isSome then s else s.error 0x01 0 0x0308 .info
       step (.finishReply status sig) =
         .next (if status = scOk && t.admitsLink x sig then t.admitNbr p.val x else t.admitRefused p.val))) ∧
   (∀ (p : Nat) (x : LinkShake) (s : State), s.get D.nbr_state p = 3 →
     let n := (s.admitNbr p x).nbr p
     let z := sharedSecret x.secret ((keyOf (if x.initiator then x.keyM else x.keyP)).getD eccG)
     let k := keysOf "YAL v1" x.nonceP x.nonceM z (x.transcript s.linkChain)
     let pm : LinkDir := { key := k.take 16, salt := (k.drop 32).take 4 }
     let mp : LinkDir := { key := (k.drop 16).take 16, salt := k.drop 36 }
     n.tx = some (if x.initiator then pm else mp) ∧ n.rx = some (if x.initiator then mp else pm) ∧
       n.rxOld = (s.nbr p).rx ∧ n.shake = none ∧ n.rekey = false) ∧
   (∀ (p : Fin 6) (s : State), s.get D.nbr_state p.val = 2 →
     exec (.admitTimeout p) s = .next ((s.putNbr { s.nbr p.val with shake := none }).refuseNbr p.val)) ∧
   (∀ (p : Fin 6) (s : State), s.get D.nbr_state p.val = 5 →
     exec (.refusedExpire p) s = .next (s.set D.nbr_state 1 p.val)) ∧
   (∀ (p : Fin 6) (s : State), s.get D.nbr_state p.val = 3 →
     exec (.linkRekey p) s =
       .next ((s.putNbr { s.nbr p.val with rekey := true }).startAdmit p.val (s.nbr p.val).peerMac)) ∧
   (∀ (p : Fin 6) (s : State), s.get D.nbr_state p.val = 3 → (s.nbr p.val).differs = false →
     exec (.sceneDigestMismatch p) s = .next
       (((s.putNbr { s.nbr p.val with differs := true }).sceneMatch).error 0x20 p.val 0x0A04 .degraded)) ∧
   (∀ s : State, exec .sceneDigestUpdate s =
     .next (s.set D.fab_scene_digest (beNat ((sha256 s.digestBytes).take 8)))) ∧
   (∀ s : State, s.get D.fab_state = 4 →
     exec .leavingExpire s = .next { (s.set D.fab_state 0) with fabric := { s.fabric with quiet := true } })) ∧
  ((∀ (p : Fin 6) (k : LinkDir) (t : FabFrame) (s : State), s.fabPort p.val = true → s.get D.nbr_state p.val = 3 →
       (s.nbr p.val).rx = some k →
     let u := s.putNbr { s.nbr p.val with rx := some (k.accept t.linkSeq), rxOld := none }
     (∀ l : Lsa, t.formed ftLsa l.bytes = true → k.admits t l.bytes = true →
       let v := u.sendLink p.val (u.linkHead ftLsaAck) (lsaAckBytes l.vertex l.seq)
       (l.vertex ≠ s.vertex → (∀ h, s.heldLsa l.vertex = some h → h.seq < l.seq) →
         exec (.lsa p l t) s =
           .next (((v.holdLsa l).flood l (v.twoWay.filter fun q => q != p.val)).graphTouched)) ∧
       (l.vertex ≠ s.vertex → (∃ h, s.heldLsa l.vertex = some h ∧ l.seq ≤ h.seq) →
         exec (.lsa p l t) s = .next v.fabMoves) ∧
       (l.vertex = s.vertex → s.fabric.seq ≤ l.seq → l ≠ v.ownLsa →
         exec (.lsa p l t) s = .next (v.floodOwn (l.seq + 1)))) ∧
     (∀ vertex seq, t.formed ftLsaAck (lsaAckBytes vertex seq) = true → k.admits t (lsaAckBytes vertex seq) = true →
       exec (.lsaAck p vertex seq t) s =
         .next ({ u with fabric := { u.fabric with waiting := s.fabric.waiting.filter fun w =>
           !(w.1 == p.val && w.2.1 == vertex && decide (w.2.2 ≤ seq)) } } : State).fabMoves)) ∧
   (∀ (p : Fin 6) (vertex seq : Nat) (l : Lsa) (s : State),
       (s.fabric.waiting.filter fun w => w.1 == p.val) = [(p.val, vertex, seq)] → s.heldLsa vertex = some l →
     exec (.lsaResend p) s = .next (s.sendLsa p.val l)) ∧
   (∀ s : State, exec .lsaReflood s = .next (s.floodOwn 0)) ∧
   (∀ (vertex : Nat) (h : HeldLsa) (s : State), h ∈ s.fabric.lsdb → h.lsa.vertex = vertex → vertex ≠ s.vertex →
       90000000000 * ns32 ≤ s.time.local_ - h.time →
     exec (.lsaAgeOut vertex) s = .next ({ s with fabric := { s.fabric with
       lsdb := s.fabric.lsdb.filter fun g => g.lsa.vertex != vertex } } : State).graphTouched) ∧
   (∀ s : State, s.fabric.dirty = true → s.switching = false → exec .graphChange s = .next s.installTrees) ∧
   (∀ s : State, exec .oldGenerationExpire s =
     .next { s with fabric := { s.fabric with gens := s.fabric.gens.take 1 } }) ∧
   (∀ s : State, exec .treeSwitchA s =
     .next { s with fabric := { s.fabric with genA := s.get D.route_generation } }) ∧
   (∀ s : State, exec .treeSwitchB s = .next { s with fabric := { s.fabric with genB := s.fabric.genA } })) ∧
  ((∀ (p : Fin 6) (f : StreamFrame) (k : LinkDir) (t : FabFrame) (s : State), s.fabPort p.val = true →
       s.get D.nbr_state p.val = 3 → (s.nbr p.val).rx = some k → t.formed ftStream f.bytes = true →
       k.admits t f.bytes = true →
     let u := s.putNbr { s.nbr p.val with rx := some (k.accept t.linkSeq), rxOld := none }
     (s.treeOf t.vertex t.treeB t.gen = none → exec (.streamFrameRx p f t) s = .next (u.count D.fab_rpf_drops)) ∧
     (∀ tree, s.treeOf t.vertex t.treeB t.gen = some tree →
       (parentPort tree s.vertex ≠ some p.val → exec (.streamFrameRx p f t) s = .next (u.count D.fab_rpf_drops)) ∧
       (parentPort tree s.vertex = some p.val → t.vertex ≠ s.vertex → t.forEvery = true →
           s.streamContexts t.streamId = [] → s.get D.fab_state ≠ 3 →
         let v := u.noteFlow t f.status.length
         (1 < t.hop → exec (.streamFrameRx p f t) s = .next ((childPorts tree s.vertex).foldl
           (fun w q => w.sendLink q { t with hop := t.hop - 1 } f.bytes) v)) ∧
         (t.hop ≤ 1 → childPorts tree s.vertex ≠ [] →
           exec (.streamFrameRx p f t) s = .next (v.count D.fab_hop_drops)) ∧
         (t.hop ≤ 1 → childPorts tree s.vertex = [] → exec (.streamFrameRx p f t) s = .next v)))) ∧
   (∀ (c : Fin 512) (s : State), s.get D.es_kind c.val = 2 → s.originates = true → 0 < s.blockNow →
     exec (.streamFrameTx c) s = .next (s.streamTx c.val (s.blockNow - 1))))

/-- Elimination within 100 ms of the last frame accepted: which frames are taken, where the window stands after, and
which counter of the context rises for those that are not. -/
def Obligations.EliminationWindow : Prop :=
  ∀ (c seq : Nat) (b : Bool) (w : ElimWindow) (s : State), s.window c = some w → w.key = c →
      s.time.local_ - w.last ≤ 100000000 * ns32 →
    let d : Int := ((seq : Int) - w.top + 32768) % 65536 - 32768
    let seen := w.seen.any fun e => e.1 == seq
    let r := s.eliminate c seq b
    (r.2 = true ↔ 0 < d ∨ (-256 < d ∧ seen = false)) ∧
    (∃ v, r.1.window c = some v ∧ v.top = (if 0 < d then seq else w.top) ∧
      v.last = (if r.2 then s.time.local_ else w.last) ∧ (-256 < d → (v.seen.any fun e => e.1 == seq) = true)) ∧
    (256 < d → r.1.get D.elim_resets c = (s.get D.elim_resets c + 1) % 2 ^ (8 * tyBytes D.elim_resets.ty)) ∧
    (d ≤ 0 → -256 < d → seen = true → r.1.get D.elim_dup c = (s.get D.elim_dup c + 1) % 2 ^ (8 * tyBytes D.elim_dup.ty)) ∧
    (d ≤ -256 → r.1.get D.elim_rogue c = (s.get D.elim_rogue c + 1) % 2 ^ (8 * tyBytes D.elim_rogue.ty)) ∧
    { r.1 with dict := s.dict, fabric := s.fabric } = s

/-! ### Twin operation (chapter 14) -/

/-- Roles, the sideband, the lanes, and self-tests. -/
def Obligations.TwinRoleEventsComplete : Prop :=
  (∀ s : State, s.role = roleResync → s.power.phase = .running → s.twin.roleIn = false → s.twin.asleep = false →
      s.twin.slotZero = true → exec .election s = .next (s.fence.becomeActive 5)) ∧
  (∀ s : State, s.getB D.twin_enable = true → s.role = roleStandby → s.twin.asleep = false → s.twin.switchAt = none →
    let lost (b l : Bool) : State := { s with twin := { s.twin with hbLost := b, laceLost := l } }
    (s.partnerRole = roleActive → s.twin.theirResult = none →
      exec .roleLineFall s = .next (({ s with twin := { s.twin with roleIn := false } } : State).takeOver 1)) ∧
    exec (.heartbeatTimeout true true) s =
      .next (((lost true true).takeOver 2).set D.twin_partner_role 5).refreshHealth ∧
    exec (.heartbeatTimeout true false) s = .next ((lost true false).refreshHealth.error 0x68 0 0x0B08 .warn) ∧
    exec (.heartbeatTimeout false true) s = .next ((lost false true).refreshHealth.error 0x68 0 0x0B09 .warn) ∧
    exec .twinSwitch s = .next ((s.set D.twin_partner_role roleStandby).becomeActive 3).refreshHealth) ∧
  (∀ s : State, s.role = roleActive → s.partnerRole = roleStandby → exec .twinSwitch s =
    .next (((s.dropDrive).set D.twin_role roleStandby).set D.twin_partner_role roleActive).refreshHealth) ∧
  (∀ s : State, s.getB D.twin_enable = true → s.twin.drive = true → exec .twTakeFall s = .next s.enterFailed) ∧
  (∀ (level : Bool) (s : State), s.getB D.twin_enable = true → exec (.twHbEdge level) s = .next
    ((({ s with twin := { s.twin with roleIn := level, hbSeen := true, hbLost := false } } : State).wakeUp
      .partner).refreshHealth)) ∧
  (∀ s : State, s.beats = true →
    exec .twHbToggle s = .next (({ s with twin := { s.twin with hbOut := !s.twin.hbOut } } : State).send
      ⟨.sideband, "TW_HB_O", [if s.twin.hbOut then 0 else 1]⟩) ∧
    exec .laceHeartbeatTimer s = .next ((List.range 2).foldl (fun t n =>
      if t.laneUp n then t.sendLace n ltHeartbeat (beBytes 1 (Fin.ofNat 5 t.role).val ++ beBytes 1 1 ++ beBytes 8 t.blockNow ++
        beBytes 8 (t.blockNow - 1) ++ beBytes 8 t.twin.index) else t) s)) ∧
  (∀ s : State, s.twin.loading = true →
    let t := s.loadSafeScene.derived
    exec .safeSceneLoaded s = .next { t with twin := { s.twin with loaded := true } }) ∧
  (∀ (lane : Fin 2) (s : State), s.getB D.twin_enable = true →
    (s.get D.lace_state lane.val ≠ 3 → exec (.laceLaneUp lane) s =
      .next ((s.set D.lace_state 2 lane.val).sendLaceHello lane.val).refreshHealth) ∧
    (let t := s.set D.lace_state 0 lane.val;
     (t.laneUp (1 - lane.val) = true → exec (.laceLaneDown lane) s = .next t.refreshHealth) ∧
     (s.laneUp lane.val = true → t.laneUp (1 - lane.val) = false →
       exec (.laceLaneDown lane) s = .next t.laceLost.refreshHealth))) ∧
  (∀ s : State, s.role = roleStandby → s.laceLost = s.enterResync) ∧
  (∀ (unit : Nat) (s : State), s.twin.testing = false →
    exec (.selftestDone unit true) s = .next (s.setHealth hSelftest false) ∧
    (s.role = roleResync →
      ∃ t, exec (.selftestDone unit false) s = .next t ∧ t.get D.twin_selftest_unit = unit % 256 ∧
        { t with dict := s.dict, err := s.err } = s)) ∧
  (∀ (own : Bool) (s : State), s.twin.testing = true → s.twin.ownResult = some own → s.twin.theirResult = none →
      s.role = roleActive →
    exec .selftestResultTimeout s =
      .next (({ s with twin := { s.twin with testing := false } } : State).diverge.refreshHealth)) ∧
  (∀ s : State, s.role = roleResync → s.paired = true → s.partnerRole = roleActive → s.twin.step = 3 →
    exec .resyncComplete s = .next
      (((s.set D.twin_role roleStandby).set D.twin_eligible_block s.blockNow).setHealth hDiverged false).refreshHealth)

/-- The Lace messages, as their bytes (R539, R540): a frame whose CRC holds, of version 1, of its type and with the
length of its body, on a lane that is UP of a unit with twin_enable; one whose CRC fails is counted and does nothing
else. The HELLO that completes the partner's chain forms the pair, or refuses it on both lanes (R542). -/
def Obligations.LaceMessagesComplete : Prop :=
  (∀ (f : LaceIn) (h : LaceHello) (s : State), f.holds h.bytes = true → f.formed ltHello h.bytes = true →
    (s.getB D.twin_enable = false → exec (.laceHello f h) s = .next
      ((({ s with twin := { s.twin with noDrive := true, drive := false } } : State).idacsOff).wiring 3 .failed)) ∧
    (s.getB D.twin_enable = true → f.from_ = f.lane.val → h.slot ≠ s.get D.twin_slot → h.offset = 0 →
        h.total ≤ h.data.length → h.enabled = true →
      let t := s.set D.twin_partner_role h.role
      let t : State := { t with twin := { t.twin with
        partner := some h, laceSeen := true, laceLost := false
        lanes := modAt t.twin.lanes f.lane.val fun _ => { s.twin.lanes.getD f.lane.val {} with chain := h.data } } }
      exec (.laceHello f h) s = .next (if (t.peerChain h.data).isNone then
          ((((t.set D.lace_state 3 0).set D.lace_state 3 1).setHealth hPaired false).wiring 4 .degraded).refreshHealth
        else (t.formPair h).refreshHealth))) ∧
  (∀ s : State, s.getB D.twin_enable = true → s.laneUp 0 = true →
    let t := s.sendLace 0 ltTime (timeBody (s.twin.timeSent.getD 0) (s.twin.timeReceived.getD 0))
    exec .laceTimeTimer s = .next { t with twin := { t.twin with timeSent := some s.mediaT80 } }) ∧
  (∀ s : State, s.paired = true → s.role ≠ roleFailed →
    let k := s.blockNow + 2 - s.get D.pres_offset
    let m := s.presenceMap k
    let t := s.sendLace 0 ltInPresence (presenceBody k m)
    let l : List Presence := ⟨k, true, m⟩ :: t.twin.presence.take 8;
    presenceAt s.twin.presence true k = none →
    exec .inPresenceSend s = .next (({ t with twin := { t.twin with presence := l } } : State).reconcile k)) ∧
  (∀ (index : Nat) (e : JournalEntry) (lane : Nat) (s : State),
      s.twin.journal.find? (fun e => e.index == index) = some e → s.laneFor 0 = some lane →
    exec (.journalRetransmit index) s =
      .next ((s.count D.lace_retransmits lane).sendLace 0 ltJournal (journalBody e.index e.block e.act))) ∧
  (∀ (f : LaceIn) (index : Nat) (s : State), s.getB D.twin_enable = true → f.holds (beBytes 8 index) = false →
    exec (.journalAck f index) s = .next (s.count D.lace_crc_errors f.lane.val)) ∧
  (∀ (f : LaceIn) (s : State), s.getB D.twin_enable = true → s.laneUp f.lane.val = true →
    let takes (type : Nat) (body : List Byte) : Prop := f.holds body = true ∧ f.formed type body = true
    (∀ (h : LaceBeat) b n, takes ltHeartbeat (h.bytes b n) → h.role.val ≠ roleStandby →
      let t := s.set D.twin_partner_role h.role.val
      exec (.laceHeartbeat f h b n) s = .next (({ t with twin := { t.twin with
        laceSeen := true, laceLost := false, partnerBlock := b, partnerSent := n } } : State).refreshHealth)) ∧
    (∀ (t1 t4 a b received : Int), takes ltTime (timeBody a b) →
        s.twin.timeSent = some t1 → s.twin.timeReceived = some t4 →
      let t : State := { s with twin := { s.twin with timeReceived := some received } }
      let o := ((b - t1) + (a - t4)) * 2 ^ 15 + ofPs (s.getI D.lace_delay_asymmetry f.lane.val)
      (s.role = roleActive → exec (.laceTime f a b received) s = .next (t.setF D.twin_time_offset (nsF32 o))) ∧
      (s.role = roleStandby → s.partnerRole = roleActive → s.paired = true →
        let t := t.setF D.twin_time_offset (nsF32 o)
        exec (.laceTime f a b received) s = .next { t with time := { t.time with bridge := t.time.bridge + o } })) ∧
    (∀ index block act, takes ltJournal (journalBody index block act) →
      (s.twin.heard.contains index = false → s.role = roleStandby →
        exec (.journal f index block act) s = .next ((({ s with twin := { s.twin with
          heard := index :: s.twin.heard.take 1023 } } : State).hear index block act).sendLace 0 ltJournalAck
            (beBytes 8 index))) ∧
      (s.twin.heard.contains index = true →
        exec (.journal f index block act) s = .next (s.sendLace 0 ltJournalAck (beBytes 8 index)))) ∧
    (∀ index e, takes ltJournalAck (beBytes 8 index) → s.twin.journal.find? (fun e => e.index == index) = some e →
      exec (.journalAck f index) s = .next (({ s with twin := { s.twin with
        journal := s.twin.journal.filter fun x => x.index != index } } : State).releaseEntry e)) ∧
    (∀ block first rows, takes ltMirror (mirrorBody block first rows) → s.role = roleStandby →
      exec (.mirror f block first rows) s = .next (rows.zipIdx.foldl (fun t r =>
        t.putInput ⟨2, first + r.2, block, (List.range r.1.2.length).zip r.1.2, r.1.1, true⟩) s)) ∧
    (∀ block maps, takes ltInPresence (presenceBody block maps) →
      exec (.inPresence f block maps) s = .next (({ s with twin := { s.twin with
        presence := ⟨block, false, maps⟩ :: s.twin.presence.take 8 } } : State).reconcile block)) ∧
    (∀ block ctx first words rows, takes ltRepair (repairBody block ctx first words rows) →
        s.blockNow + 1 < block + s.get D.pres_offset → s.get D.is_kind ctx ≠ 0 →
      let t := rows.zipIdx.foldl (fun t r => r.1.zipIdx.foldl (fun u x =>
        u.placeSample 1 (s.get D.is_first_ch ctx + x.2) (block * u.blockLen + first + r.2) x.1 (words.getD x.2 0)) t) s
      let left := t.twin.expected.filter fun e =>
        !(e.1 == block && e.2.1 == ctx && decide (first ≤ e.2.2) && decide (e.2.2 < first + rows.length))
      exec (.repair f block ctx first words rows) s =
        .next (({ t with twin := { t.twin with expected := left } } : State).count D.repair_received 0 rows.length)) ∧
    (∀ d : Digest, takes ltOutDigest d.bytes → exec (.outDigest f d) s =
      .next { s with twin := { s.twin with theirs := d :: s.twin.theirs.take 8 } }) ∧
    (∀ unit pass, takes ltSelftest (selftestBody unit pass) → s.twin.testing = true → unit = s.twin.involved →
      exec (.selftest f unit pass) s =
        .next (({ s with twin := { s.twin with theirResult := some pass } } : State).judgeTests)) ∧
    (∀ block held, takes ltCheckpointAck (checkpointAckBody block held) → s.twin.checkpoint = some block →
      exec (.checkpointAck f block held) s = .next { s with twin := { s.twin with held_ := held } }) ∧
    (s.role = roleResync →
      (∀ block total data, takes ltCheckpoint (checkpointBody block 0 total data) → s.twin.checkpoint = none →
        exec (.checkpoint f block 0 total data none) s =
          .next (({ s with twin := { s.twin with checkpoint := some block, held_ := data.length } } : State).sendLace 1
            ltCheckpointAck (checkpointAckBody block data.length))) ∧
      (∀ addr gen total data, takes ltBlob (blobBody addr gen 0 total data) → pairWide addr = true →
          total ≤ data.length →
        ∃ t, exec (.laceBlob f addr gen 0 total data) s = .next t ∧ (blobAt t.blobs addr).data = data ∧
          (blobAt t.blobs addr).gen = gen ∧ look t.dict addr = some (handleOf data.length gen) ∧
          { t with twin := s.twin, dict := s.dict, blobs := s.blobs } = s)))

/-! ### Requests (chapters 2 and 4) -/

/-- How a request arrives: over the host SPI port, and in a session; an accepted request takes effect and is answered,
and one that leaves a pair waits for the partner. -/
def Obligations.RequestsAreServed : Prop :=
  (∀ (r : Req) (m : Msg) (s : State), r.src = .spi → r.version = 1 → s.serving .spi = true → s.accepting = false →
      r.onPort.frameLength (s.requestBody r.onPort m) ≤ 1400 → (∀ f ∈ s.mdap.spiIn.head?, s.carries r.onPort m f = true) →
      (s.arrived r).keptReply r.onPort (kindOf m) = none → (s.arrived r).inFlight r.onPort (kindOf m) = false →
      roleOfNat (s.get D.hspi_role) ≠ .none →
    s.admits r m = true ∧ s.asker r = { src := .spi, role := roleOfNat (s.get D.hspi_role) }) ∧
  (∀ (r : Req) (x : Session) (m : Msg) (s : State), isNet r.src = true → r.version = 1 → r.isProtected = true →
      s.serving r.src = true → s.accepting = false → r.frameLength (s.requestBody r m) ≤ 1400 →
      s.session r.session = some x → x.tagHolds r (s.requestBody r m) = true → x.fresh r.seq = true →
      (s.arrived r).keptReply r (kindOf m) = none → (s.arrived r).inFlight r (kindOf m) = false → x.role ≠ .none →
    s.admits r m = true ∧
      s.asker r = { src := x.src, session := x.id, role := x.role, ownerChain := x.ownerChain }) ∧
  (∀ (r : Req) (m : Msg) (s : State), s.serves r m → (∀ reason, m ≠ .close reason) →
      (∀ items target, m = .write items target → ∀ it ∈ items, it.addr ≠ D.mdap_udp_port.base) →
    let x := (s.arrived r).perform r.onPort (s.asker r) m
    s.answer r m = match x.2 with
      | some body => x.1.reply r.onPort (kindOf m) body
      | none => x.1) ∧
  (∀ (r : Req) (m : Msg) (t : State) (block : Nat) (act : JournalAct) (s : State), s.admits r m = true →
      (s.arrived r).needsPartner r.onPort (s.asker r) m = some (block, act, t) →
    s.answer r m = t.hold block act (.request r.onPort m))

/-- The messages of MDAP on objects, large values and subscriptions: the effect and the reply of one that is accepted.
-/
def Obligations.MdapRequestsComplete : Prop :=
  ∀ (r : Req) (s : State),
    let q := r.onPort
    let u := s.arrived r
    let who := s.asker r
    (∀ addrs, s.serves r (.read addrs) → addrs ≠ [] → addrs.length ≤ 64 →
      let x := u.readItems who addrs 0 (bodyLimit q - 6)
      exec (.read r addrs) s = .next (({ u with free := u.free + addrs.length } : State).reply q mtRead
        ([scOk, if x.2.2 then 0 else 1, x.1] ++ x.2.1))) ∧
    (∀ items target, s.serves r (.write items target) →
        refusal items (u.checkTarget who (items.length == 1) target) = none → stagedCommand items = false →
      let t := u.acceptItems items target
      let done := t.reply q mtWrite [flushed u t items]
      ((∀ it ∈ items, it.addr ≠ D.mdap_udp_port.base) → exec (.write r items target) s = .next done) ∧
      ((∃ it ∈ items, it.addr = D.mdap_udp_port.base) →
        (done.get D.mdap_udp_port = u.get D.mdap_udp_port → exec (.write r items target) s = .next done) ∧
        (done.get D.mdap_udp_port ≠ u.get D.mdap_udp_port → exec (.write r items target) s = .next done.closeUdp))) ∧
    (∀ items, s.serves r (.writeStaged items) → Role.opr.rank ≤ who.role.rank →
        refusal items (u.checkCommit who) = none → u.writable = true →
      let x := u.commitItems who 6 items
      exec (.writeStaged r items) s = .next (x.1.reply q mtWriteStaged [x.2.1, x.2.2.1, x.2.2.2])) ∧
    (∀ addr start next, s.serves r (.describe addr start next) →
      exec (.describe r addr start next) s = .next (u.reply q mtDescribe (u.doDescribe q addr start next))) ∧
    (∀ addr mode interval, s.serves r (.subscribe 0 addr mode interval) → u.checkRead who addr = scOk →
        1 ≤ mode → mode ≤ 2 → 1 ≤ interval → interval ≤ 65535 → u.mdap.subs = [] →
      ∃ x : Sub, x.id = 1 ∧ x.addr = addr ∧ x.mode = mode ∧ x.interval = interval ∧ x.notified = none ∧
        exec (.subscribe r 0 addr mode interval) s = .next ((u.pass.setSubs [x]).reply q mtSubscribe [scOk, 1])) ∧
    (∀ sub addr interval, s.serves r (.subscribe sub addr 0 interval) →
        (u.mdap.subs.any fun x => (x.src == who.src && x.session == who.session) && x.id == sub) = true →
      exec (.subscribe r sub addr 0 interval) s = .next ((u.setSubs (u.mdap.subs.filter fun x =>
        !((x.src == who.src && x.session == who.session) && x.id == sub))).reply q mtSubscribe [scOk, sub])) ∧
    (∀ addr first last other offset total data o i, s.serves r (.blobWrite addr first last other offset total data) →
        u.blobTarget who addr first last offset total data.length = (scOk, some (o, i)) →
      let x := u.acceptChunk who o i first last total data
      exec (.blobWrite r addr first last other offset total data) s = .next (x.1.reply q mtBlobWrite x.2)) ∧
    (∀ addr offset most o i sub, s.serves r (.blobRead addr offset most) → u.checkRead who addr = scOk →
        u.object addr = some (o, i, sub) → o.ty = .blob → offset ≤ (u.shownData o i).length → 1 ≤ most → most ≤ 1024 →
      exec (.blobRead r addr offset most) s = .next (u.reply q mtBlobRead ([scOk, u.shown who 0 o i sub] ++
        (((u.shownData o i).drop offset).take most).map fun b => b.toNat))) ∧
    (∀ type, s.serves r (.unknown type) → type ≠ mtNotify →
      exec (.unknownMessageType r type) s = .next (u.reply q type [scNoObject])) ∧
    (s.serves r .ping → exec (.sesPing r) s = .next (u.reply q mtSesPing [scOk])) ∧
    (∀ reason, s.serves r (.close reason) → q.isProtected = true →
      exec (.sesClose r reason) s = .next ((u.reply q mtSesClose [scOk]).endSession q.session who.src)) ∧
    (∀ (p : Fin 2) data i sub, s.serves r (.blobWrite (D.pll_ramp.addr p.val) true true 0 0 data.length data) →
        u.blobTarget who (D.pll_ramp.addr p.val) true true 0 data.length data.length = (scOk, some (i, sub)) →
      let x := u.acceptChunk who i sub true true data.length data
      exec (.pllRampWrite r p data) s = .next (x.1.reply q mtBlobWrite x.2)) ∧
    (∀ first last other offset total data i sub, s.serves r (.blobWrite D.owner_cert.base first last other offset total data) →
        u.blobTarget who D.owner_cert.base first last offset total data.length = (scOk, some (i, sub)) →
      let x := u.acceptChunk who i sub first last total data
      exec (.ownerCertWrite r first last other offset total data) s = .next (x.1.reply q mtBlobWrite x.2))

/-- The messages on transactions. -/
def Obligations.TxnRequestsComplete : Prop :=
  ∀ (r : Req) (s : State),
    let q := r.onPort
    let u := s.arrived r
    let who := s.asker r
    (∀ scope rung, s.serves r (.txnOpen scope rung) → Role.opr.rank ≤ who.role.rank → scope ≤ 1 →
        1 ≤ rung → rung ≤ 7 → u.writable = true →
      (u.freeSlot = none → exec (.txnOpen r scope rung) s = .next (u.reply q mtTxnOpen [scTxnFull, 0])) ∧
      (u.freeSlot ≠ none → ∃ v t, u.openTxn scope rung (some (who.src, who.session)) who.role = some (v, t) ∧
        exec (.txnOpen r scope rung) s = .next (v.reply q mtTxnOpen [scOk, t.id]))) ∧
    (∀ (t : Txn) id items, s.serves r (.txnAdd id items) → u.ownTxn who id = (scOk, some t) → items ≠ [] →
        items.length ≤ 64 → t.st = tsOpen → u.writable = true → firstFailure (u.checkAdd who t) items 0 = none →
      let all := lastNodeItems isCommand (t.items ++ items)
      let bytes := itemsSize (t.scope == 1) all
      all.length ≤ 4096 → bytes ≤ 65536 →
      exec (.txnAdd r id items) s =
        .next ((u.putTxn { t with items := all }).reply q mtTxnAdd [scOk, all.length, bytes])) ∧
    (∀ (t : Txn) (p : PrepareArgs), s.serves r (.txnPrepare p) → u.ownTxn who p.id = (scOk, some t) →
        p.kind ≤ 2 → p.late ≤ 1 → (p.kind = 2 → p.entry ≤ 1023) → t.st = tsOpen → u.writable = true →
      let t1 : Txn := { t with
        kind := p.kind, show_ := if p.kind = 2 then toSigned 64 p.time else 0, entry := p.entry
        late := p.late, autoCommit := p.autoCommit, allowShed := p.allowShed }
      let out := u.prepareLocal who t1 p.time
      let body := match out.state.txnKnown p.id with
        | some x => prepareBody (if x.st = tsAborted then { x with refusing := u.fabNode, applyBlock := 0 } else x) out.status
        | none => [scInternal, 0, 0, 0, 0]
      (t.scope = 0 → exec (.txnPrepare r p) s = .next (out.state.reply q mtTxnPrepare body)) ∧
      (t.scope = 1 →
        let t2 : Txn := { t1 with participants := p.nodes.getD u.members, waiting := some q }
        exec (.txnPrepare r p) s = .next ((u.putTxn t2).prepareFabric who t2 p.time))) ∧
    (∀ (t : Txn) id, s.serves r (.txnCommit id) → u.ownTxn who id = (scOk, some t) → u.writable = true →
        t.st = tsPrepared →
      let out := if t.scope = 0 then u.commitLocal t else u.commitFabric t
      let body := if out.status = scAborted then [scAborted, t.applyBlock] else match out.state.txnKnown id with
        | some x => [out.status, x.applyBlock]
        | none => [scInternal, 0]
      exec (.txnCommit r id) s = .next (out.state.reply q mtTxnCommit body)) ∧
    (∀ (t : Txn) id, s.serves r (.txnAbort id) → u.ownTxn who id = (scOk, some t) → u.writable = true →
        t.st = tsOpen ∨ t.st = tsPrepared →
      (t.scope = 0 → exec (.txnAbort r id) s = .next ((u.abortTxn t rsUserAbort).reply q mtTxnAbort [scOk])) ∧
      (t.scope = 1 →
        exec (.txnAbort r id) s = .next ((u.decideTxn t false rsUserAbort).reply q mtTxnAbort [scOk]))) ∧
    (∀ (t : Txn) id, s.serves r (.txnStatus id) → Role.obs.rank ≤ who.role.rank → u.txnKnown id = some t →
        u.writable = true →
      let missing := (t.participants.filter fun n => !t.yes.contains n && !t.no.contains n).length
      exec (.txnStatus r id) s = .next (u.reply q mtTxnStatus [scOk, t.st, t.scope, t.applyBlock, t.items.length,
        itemsSize (t.scope == 1) t.items, t.yes.length, t.no.length, missing, t.membersLate, t.reason, t.refusing]))

/-- The host SPI port, the handshake, and how sessions end. -/
def Obligations.SessionEventsComplete : Prop :=
  (∀ (f : List Byte) (s : State), s.hspiAnswers = true → f ≠ [] → f.length ≤ 1400 →
    let t := s.send ⟨.miso, "PUT", [s.spiStatus]⟩
    (s.spiInFull = false →
      exec (.spiPut f) s = .next { t with mdap := { t.mdap with spiIn := s.mdap.spiIn ++ [f] } }) ∧
    (s.spiInFull = true → exec (.spiPut f) s = .next (t.count D.hspi_in_full))) ∧
  (∀ s : State, s.hspiAnswers = true → s.mdap.spiOut = [] →
    exec .spiGet s = .next (s.send ⟨.miso, "GET", [s.spiStatus, 0, 0]⟩)) ∧
  (∀ (f : SpiFrame) (l : List SpiFrame) (s : State), s.hspiAnswers = true → s.mdap.spiOut = f :: l →
      s.mdap.spiLate = [] →
    exec .spiGet s = .next (let t := s.send ⟨.miso, "GET",
        s.spiStatus :: (beBytes 2 f.bytes.length ++ f.bytes).map fun b => b.toNat⟩
      { t with mdap := { s.mdap with spiOut := l } })) ∧
  (∀ s : State, s.hspiAnswers = true → exec .spiStatus s = .next (s.send ⟨.miso, "STATUS", [s.spiStatus]⟩)) ∧
  (∀ (f : List Byte) (s : State), s.hspiAnswers = false →
    exec (.spiPut f) s = .next s ∧ exec .spiGet s = .next s ∧ exec .spiStatus s = .next s) ∧
  (∀ (r : Req) (nonce key : List Byte) (s : State), s.serves r (.sesInit nonce key) → r.src ≠ .spi →
    let u := s.arrived r
    u.get D.owner_state ≠ 0 → nonce.length = 16 → (keyOf key).isSome → u.mdap.sessions.length < 16 →
      u.mdap.handshakes.length < 4 →
    ∃ h : Handshake, h.id = u.newSession ∧ h.src = r.src ∧ h.started = s.time.local_ ∧ h.nonceP = nonce ∧ h.keyP = key ∧
      h.nonceM.length = 16 ∧ h.chain = [] ∧
      exec (.sesInit ⟨r, nonce, key⟩) s = .next (({ u with mdap := { u.mdap with
          handshakes := u.mdap.handshakes ++ [h], nextSession := h.id + 1 } } : State).pass.pass.reply r.onPort mtSesInit
        ([scOk, h.id] ++ (h.nonceM ++ h.keyM ++ beBytes 2 u.ownChain.length).map fun b => b.toNat))) ∧
  (∀ (r : Req) (id : Nat) (h : Handshake) (s : State), r.src ≠ .spi →
    let u := s.arrived r
    u.handshake id = some h →
    (∀ offset len, s.serves r (.sesCertRead id offset len) → len ≤ 1024 → offset ≤ u.ownChain.length →
      exec (.sesCertRead r id offset len) s = .next (u.reply r.onPort mtSesCert
        (scOk :: ((u.ownChain.drop offset).take len).map fun b => b.toNat))) ∧
    (∀ total data, s.serves r (.sesCertSend id h.chain.length total data) → data.length ≤ 1024 → total ≤ 8192 →
        h.chain.length + data.length ≤ total → (h.chain ≠ [] → total = h.total) →
      exec (.sesCertSend r id h.chain.length total data) s = .next (({ u with mdap := { u.mdap with
        handshakes := u.mdap.handshakes.map fun x =>
          if x.id = id then { x with chain := x.chain ++ data, total := total } else x } } : State).reply r.onPort
            mtSesCert [scOk]))) ∧
  (∀ (r : Req) (id : Nat) (h : Handshake) (sig : List Byte) (s : State), s.serves r (.sesFinish id sig) → r.src ≠ .spi →
    let u := s.arrived r
    let t := u.dropHandshake id
    let x := t.sessionOf h r.src
    u.handshake id = some h → t.utcNow.isSome → h.chain.length = h.total → t.admitsPeer h sig = true →
      x.role ≠ .none → t.mdap.sessions.length < 16 →
    ∃ own : List Byte, exec (.sesFinish r id sig) s = .next (({ t.pass with mdap := { t.mdap with
      sessions := t.mdap.sessions ++ [x] } } : State).reply r.onPort mtSesFinish (scOk :: own.map fun b => b.toNat))) ∧
  (∀ (id : Nat) (s : State), exec (.handshakeTimeout id) s = .next { s with mdap := { s.mdap with
    handshakes := s.mdap.handshakes.filter fun h => h.id != id } }) ∧
  (∀ (id : Nat) (x : Session) (s : State), s.session id = some x →
    exec (.sessionIdleTimeout id) s = .next ((s.sendClose x crIdle).endSession id x.src) ∧
    exec (.sessionRekey id) s = .next ((s.sendClose x crRekey).endSession id x.src)) ∧
  (∀ (x : Session) (s : State), s.changedRoles = [x] → s.session x.id = some x →
    exec .roleChangeClose s = .next ((s.sendClose x crRoleChanged).endSession x.id x.src)) ∧
  (∀ (addr : Nat) (x : Shadow) (s : State),
      s.mdap.shadows.find? (fun x => x.addr == addr && !x.complete) = some x → D.etch_taps.locate x.addr = none →
    exec (.blobShadowExpire addr) s = .next { s with mdap := { s.mdap with
      shadows := s.mdap.shadows.filter fun y => !(y.addr == x.addr && y.complete == x.complete) } }) ∧
  (∀ (id : Nat) (src : Source) (s : State),
    let t := s.endSession id src
    (∀ x ∈ t.mdap.sessions, x.id ≠ id) ∧ (∀ x ∈ t.mdap.subs, x.session = id → x.src ≠ src) ∧
      (∀ x ∈ t.mdap.caches, x.session ≠ id))

/-- The commands that are a WRITE of one object: what each does once the checks of R95 pass. A +P value is noted for
the persistent image; a LIVE write waits for the next boundary, the others act at once. -/
def Obligations.ObjectRequestsComplete : Prop :=
  ∀ (r : Req) (s : State),
    let u := s.arrived r
    let answers (t : State) : Outcome State Fault Refusal := .next (t.reply r.onPort mtWrite [scOk])
    (∀ v, s.takes r D.tb_increment 0 v → exec (.tbIncrementWrite r v) s = answers (u.set D.tb_increment v)) ∧
    (∀ (d : Fin 2) (v : Int), s.takes r D.dom_rate d.val (ofSigned 32 v) → -(2 ^ 31) ≤ v → v < 2 ^ 31 →
      exec (.domRateWrite r d v) s = answers (u.writeRate d.val v)) ∧
    (∀ (d : Fin 2) (v : Int), s.takes r D.dom_adjust d.val (ofSigned 32 v) → -(2 ^ 31) ≤ v → v < 2 ^ 31 →
      exec (.domAdjust r d v) s = answers (u.stepDomain d.val (v * ns32))) ∧
    (∀ (d : Fin 2) (v : Bool), s.takes r D.dom_enable d.val v.toNat →
      exec (.domEnableWrite r d v) s = answers ((u.keep (D.dom_enable.addr d.val) v.toNat).domEnable d.val v.toNat)) ∧
    (∀ (p : Fin 6) (n : Fin 3) v, s.takes r (rearmField n) p.val v →
      exec (.evRearm r p n v) s =
        answers (((u.keep ((rearmField n).addr p.val) v).set (rearmField n) v p.val).rearm p.val)) ∧
    (∀ p : Fin 6, s.takes r D.ev_pop p.val 1 → exec (.evPop r p) s = answers (u.popCapture p.val)) ∧
    (∀ id, s.takes r D.txn_resolve_commit 0 id →
      exec (.txnResolveCommit r id) s = answers (u.txnResolve id true)) ∧
    (∀ id, s.takes r D.txn_resolve_abort 0 id →
      exec (.txnResolveAbort r id) s = answers (u.txnResolve id false)) ∧
    (s.takes r D.mtr_reset 0 1 → exec (.mtrReset r) s = answers (u.queueLive (D.mtr_reset.addr 0) 1)) ∧
    (∀ k t, State.applyValue t k (D.mtr_reset.addr 0) 1 false = t.clearMeters) ∧
    (∀ (l : Fin 16) v, s.takes r D.idac_value l.val v → v ≠ u.get D.idac_value l.val →
      exec (.idacValueWrite r l v) s =
        answers (((u.keep (D.idac_value.addr l.val) v).set D.idac_value v l.val).idacTarget l.val v)) ∧
    (∀ l : Fin 16, s.takes r D.idac_q_push l.val 1 → exec (.idacQPush r l) s = answers (u.idacPush l.val)) ∧
    (∀ l : Fin 16, s.takes r D.idac_q_clear l.val 1 →
      exec (.idacQClear r l) s = answers (u.putIdac { idacOf u.io.idac l.val with queue := [] })) ∧
    (∀ (l : Fin 16) v, s.takes r D.idac_powerup l.val v → v ≠ u.get D.idac_powerup l.val →
      let t := (u.keep (D.idac_powerup.addr l.val) v).set D.idac_powerup v l.val
      exec (.idacPowerupWrite r l v) s = answers { t with power := { t.power with aod := { t.power.aod with
        idacs := (List.range 16).map fun n => t.get D.idac_powerup n } } }) ∧
    (∀ (n : Fin 64) v, s.takes r D.ring_tail n.val v →
      exec (.ringTailWrite r n v) s = answers (u.ringHandOver n.val v)) ∧
    (s.takes r D.twin_rejoin 0 1 → u.role = roleFailed → exec (.twinRejoin r) s = answers u.enterResync) ∧
    (∀ sp : Fin 2, s.takes r D.dmc_retrain 0 sp.val →
      exec (.dmcRetrain r sp) s = answers (u.startTraining sp.val true)) ∧
    (∀ c : Fin 8, s.takes r D.dma_start c.val 1 → exec (.dmaStart r c) s = answers (u.dmaStart c.val)) ∧
    (∀ c : Fin 8, s.takes r D.dma_stop c.val 1 → exec (.dmaStop r c) s = answers (u.dmaStop c.val)) ∧
    (∀ c : Fin 8, s.takes r D.dma_reset c.val 1 →
      exec (.dmaReset r c) s = answers (u.pass.dmaReset c.val u.freeHere)) ∧
    (∀ v, s.takes r D.log_window_start 0 v →
      exec (.logWindowStart r v) s = answers { u.set D.log_window_start v with
        nand := { u.nand with logGen := u.nand.logGen + 1 } }) ∧
    (s.takes r D.log_clear 0 1 → exec (.logClear r) s = answers u.logClear) ∧
    (s.takes r D.owner_clear 0 1 → exec (.ownerClear r) s = answers u.ownerClear) ∧
    (s.takes r D.err_alarm_ack 0 1 → exec (.errAlarmAck r) s = answers u.alarmAck) ∧
    (s.takes r D.err_fault_clear 0 1 → exec (.errFaultClear r) s = answers u.faultClear) ∧
    (∀ id, s.takes r D.session_close 0 id →
      exec (.sessionCloseWrite r id) s = answers (u.closeSession id crAdmin)) ∧
    (s.takes r D.persist_flush 0 1 → exec (.persistFlush r) s = .next (u.persistFlush.reply r.onPort mtWrite
      [if u.persistFlush.nand.fault && u.free != u.persistFlush.free then scInternal else scOk])) ∧
    (s.takes r D.persist_reset 0 1 → exec (.persistReset r) s =
      answers { u with nand := { u.nand with toDefaults := true } }) ∧
    (∀ (o : Obj) (i : Fin 24) (run : Bool), o ∈ runControls → i.val < o.count → s.takes r o i.val run.toNat →
      exec (.runControlWrite r (o.addr i.val) run) s = answers (u.queueLive (o.addr i.val) run.toNat))

/-! ### Transactions over the fabric, the seal and the boundary (chapter 4) -/

/-- The messages and timers of the fabric commit; a frame is taken where its link admits it, it comes on the parent
port, elimination accepts it and this unit acts for its node. -/
def Obligations.FabricTxnComplete : Prop :=
  (∀ (f : TxnIn) (s a : State),
    (∀ id index count data, s.txnFrame f txData id (dataFields index count data) = (a, true) → a.txnAt id = none →
        a.txnKnown id = none → exec (.fabTxnData f id index count data) s =
      .next { a with cu := { a.cu with data := a.cu.data ++ [(id, index, count, data)] } }) ∧
    (∀ (t : Txn) id index count data, s.txnFrame f txData id (dataFields index count data) = (a, true) →
        a.txnAt id = some t → t.originator = false → t.st = tsPreparing →
      let u : Txn := { t with chunks := putChunk index data t.chunks }
      (u.missing = none → exec (.fabTxnData f id index count data) s = .next ((a.putTxn u).voteNow u)) ∧
      (u.missing.isSome = true → exec (.fabTxnData f id index count data) s = .next (a.putTxn u))) ∧
    (∀ (p : FabPrepare) (n : Nat), s.txnFrame f txPrepare p.id p.fields = (a, true) →
        p.nodes.contains a.fabNode = true → a.txnKnown p.id = none → a.freeSlot = some n →
      ∃ t : Txn, t.id = p.id ∧ t.scope = 1 ∧ t.st = tsPreparing ∧ t.originator = false ∧ t.origin = p.node ∧
        t.participants = p.nodes ∧ t.applyBlock = p.applyBlock ∧ t.rung = p.rung ∧
        t.chunkCount = p.chunks ∧ t.payloadLength = p.length ∧ t.digest = p.digest ∧
        t.orderTime = p.orderTime ∧ t.orderNode = p.node ∧
        exec (.fabTxnPrepare f p) s = .next (({ a with cu := { a.cu with
          data := a.cu.data.filter fun c => c.1 != p.id, slots := a.cu.slots ++ [{ t with slot := n }] } } :
            State).voteOrAsk t)) ∧
    (∀ (t : Txn) id reason, a.txnAt id = some t → t.originator = true → t.st = tsPreparing →
        t.yes.contains f.node = false → t.no = [] →
      let y : Txn := { t with yes := t.yes ++ [f.node] }
      let n : Txn := { t with no := [f.node], reason := reason, refusing := f.node }
      (s.txnFrame f txVote id (voteFields true reason) = (a, true) →
        exec (.fabTxnVote f id true reason) s = .next ((a.putTxn y).tally y false)) ∧
      (s.txnFrame f txVote id (voteFields false reason) = (a, true) →
        exec (.fabTxnVote f id false reason) s = .next ((a.putTxn n).tally n false))) ∧
    (∀ (t : Txn) id first count, s.txnFrame f txNack id (nackFields first count) = (a, true) → a.txnAt id = some t → t.originator = true →
      exec (.fabTxnNack f id first count) s = .next (a.sendChunks t first count)) ∧
    (∀ (t : Txn) id block, a.txnAt id = some t → t.undecided = true →
      (s.txnFrame f txDecision id (decisionFields true block) = (a, true) →
        exec (.fabTxnDecision f id true block) s = .next (a.told t true block rsNone)) ∧
      (s.txnFrame f txDecision id (decisionFields false block) = (a, true) →
        exec (.fabTxnDecision f id false block) s = .next (a.told t false block rsNone)) ∧
      (s.txnFrame f txOutcome id (outcomeFields 1 block) = (a, true) →
        exec (.fabTxnOutcome f id 1 block) s = .next (a.told t true block rsNone)) ∧
      (s.txnFrame f txOutcome id (outcomeFields 2 block) = (a, true) →
        exec (.fabTxnOutcome f id 2 block) s = .next (a.told t false block rsNone)) ∧
      (s.txnFrame f txOutcome id (outcomeFields 6 block) = (a, true) →
        exec (.fabTxnOutcome f id 6 block) s = .next (a.told t false block rsNone)) ∧
      (s.txnFrame f txOutcome id (outcomeFields 3 block) = (a, true) →
        exec (.fabTxnOutcome f id 3 block) s = .next a)) ∧
    (∀ id, s.txnFrame f txQuery id [] = (a, true) → a.mirrored = false → exec (.fabTxnQuery f id) s = .next (a.sendOutcome id f.node)) ∧
    (∀ id, s.txnFrame f txQuery id [] = (a, true) → a.mirrored = true →
      exec (.fabTxnQuery f id) s = .next (a.hold a.blockNow (.values []) (.outcome id f.node))) ∧
    (∀ (t : Txn) id applied late, s.txnFrame f txAck id (TxnAck.fields ⟨applied, late⟩) = (a, true) →
        a.cu.slots = [] → a.cu.finished = [t] → t.id = id → t.originator = true →
        t.acked.contains f.node = false →
      exec (.fabTxnAck f id ⟨applied, late⟩) s = .next { a with cu := { a.cu with finished := [{ t with
        acked := t.acked ++ [f.node], applied := t.applied ++ [(f.node, applied)], membersLate := t.membersLate + if late then 1 else 0 }] } })) ∧
  (∀ (t : Txn) id (s : State), s.txnAt id = some t → t.originator = true →
    exec (.voteDeadline id) s = .next (s.tally t true) ∧
    (t.st = tsPrepared → t.autoCommit = false →
      (t.scope = 0 → exec (.txnCommitWaitExpire id) s = .next (s.abortTxn t rsNoCommit)) ∧
      (t.scope = 1 → exec (.txnCommitWaitExpire id) s = .next (s.decideTxn t false rsNoCommit)))) ∧
  (∀ (t : Txn) id (s : State), s.txnAt id = some t → t.undecided = true →
      s.media < s.blockTime t.applyBlock - 20000 * ns32 + 10000000 * ns32 →
    exec (.queryTimer id) s = .next (s.sendTxn txQuery t t.origin [])) ∧
  (∀ (t : Txn) id (s : State), s.txnAt id = some t → t.st = tsInDoubt →
    exec (.txnIndoubtAlarm id) s = .next (s.error 0x19 0 0x0402 .degraded)) ∧
  (∀ id (s : State), exec (.txnOutcomeExpire id) s = .next { s with cu := { s.cu with
    finished := s.cu.finished.filter fun t => t.id != id } })

/-- The seal of a boundary and the boundary itself; what the seal takes is the snapshot of R204. -/
def Obligations.SealAndBoundaryComplete : Prop :=
  (∀ (b : Nat) (s : State), s.power.phase = .running →
    exec (.seal b) s = .next ((((s.healDue b).publishDue b).ltcSeal b).seal b)) ∧
  (∀ (k : Nat) (s : State), s.power.phase = .running → exec (.blockBoundary k) s = .next (s.boundary k)) ∧
  (∀ (b : Nat) (s : State),
    let t := s.seal b
    t.cu.live = [] ∧ t.cu.lastSeal = some b ∧ t.cu.slots = s.cu.slots.map (fun x => x.atSeal b) ∧
    (∃ x : Snapshot, t.cu.sealed_ = s.cu.sealed_ ++ [x] ∧ x.block = b ∧ x.live = s.cu.live ∧
      ∀ id, id ∈ x.txns ↔ ∃ y ∈ t.cu.slots, y.id = id ∧ y.st = tsCommitted ∧ y.applyBlock ≤ b) ∧
    { t with cu := s.cu } = s) ∧
  (∀ (b : Nat) (y : Txn), y.st = tsPrepared → y.applyBlock ≤ b →
    (y.originator = false → (y.atSeal b).st = tsInDoubt) ∧
    (y.originator = true → (y.atSeal b).st = tsPrepared ∧ (y.atSeal b).sealed_ = true)) ∧
  (∀ (b : Nat) (y : Txn), y.st ≠ tsPrepared ∨ b < y.applyBlock → y.atSeal b = y)

/-- The transactions that a boundary applies: in ascending order key, and none is lost. -/
def Obligations.TransactionsInOrder : Prop :=
  ∀ l : List Txn, (sortTxns l).Perm l ∧ (sortTxns l).Pairwise fun a b => b.before a = false

/-! ### Frames, and rules on single values -/

/-- The frame of the commands that work on few parts: beside dictionary values and error records they leave every
other part of State, and the queue, as it was. -/
def Obligations.CommandsStayInTheirPart : Prop :=
  ∀ (c : Instr) (l : List Part) (s t : State), homeParts c = some l → exec c s = .next t → agreeBeside l s t

/-- A write of the rate r_d re-anchors the domain, so that its time is continuous, and a write of dom_adjust adds its
value to O_d and steps the time of the domain by it. -/
def Obligations.DomainTimeSteps : Prop :=
  ∀ (r : Req) (d : Fin 2) (v : Int) (x : Domain) (s : State), -(2 ^ 31) ≤ v → v < 2 ^ 31 →
      s.time.domains[d.val]? = some x →
    (s.takes r D.dom_rate d.val (ofSigned 32 v) →
      ∃ t, exec (.domRateWrite r d v) s = .next t ∧ t.getI D.dom_rate d.val = v ∧
        t.time.domains[d.val]? = some { x with
          offset := x.offset + s.getI D.dom_rate d.val * (s.time.local_ - x.anchor) / 2 ^ 32
          anchor := s.time.local_ } ∧
        t.domainTime d.val = s.domainTime d.val) ∧
    (s.takes r D.dom_adjust d.val (ofSigned 32 v) →
      ∃ t, exec (.domAdjust r d v) s = .next t ∧
        t.time.domains[d.val]? = some { x with offset := x.offset + v * ns32 } ∧
        t.domainTime d.val = s.domainTime d.val + v * ns32)

/-- A sample begins on the grid of 2⁻¹⁶ ns where R6 first yields its index: the instant it is placed at yields it, and
every grid point between it and the sample before yields the index before. -/
def Obligations.SamplesFallOnTheGrid : Prop :=
  ∀ n fs : Nat, fs = 48000 ∨ fs = 96000 →
    sampleIndex ((sampleInstant n fs : Nat) * 2 ^ 16) fs = n ∧
    ∀ g : Nat, sampleInstant n fs ≤ g → g < sampleInstant (n + 1) fs → sampleIndex ((g : Int) * 2 ^ 16) fs = n

/-- A histogram unit that records a value: the count rises by one, the value's bin rises by one and stays at its
greatest count, and the minimum and maximum take in every value that is not NaN; a unit that does not record it stays
as it was, and a unit from which nothing is recorded shows +infinity and −infinity. -/
def Obligations.HistogramRecords : Prop :=
  (∀ (src sel : Nat) (v : F32) (u : Nat) (h : HistUnit) (s : State), u < 32 → s.hist[u]? = some h →
    let records := s.get D.hist_source u = src ∧ s.get D.hist_select u = sel ∧ s.histInvalid u = false
    (¬records → (s.histRecord src sel v).hist[u]? = some h) ∧
    (records → ∃ x, (s.histRecord src sel v).hist[u]? = some x ∧ x.count = (h.count + 1) % 2 ^ 64 ∧
      (∀ b, (look x.bins b).getD 0 =
        if b = histBin (s.get D.hist_scale u == 1) (s.getF D.hist_lo u) (s.getF D.hist_hi u) v then
          min ((look h.bins b).getD 0 + 1) 0xFFFFFFFF
        else (look h.bins b).getD 0) ∧
      (F32.isNaN v = true → x.least = h.least ∧ x.greatest = h.greatest) ∧
      (F32.isNaN v = false → x.least = F32.min h.least v ∧ x.greatest = F32.max h.greatest v) ∧
      x.start = h.start)) ∧
  (∀ (u : Fin 32) (h : HistUnit) (s : State), s.hist[u.val]? = some h →
    ∃ t x, exec (.histSnap u) s = .next t ∧ t.hist[u.val]? = some x ∧ x.count = 0 ∧ x.bins = [] ∧
      x.least = 0x7F800000#32 ∧ x.greatest = 0xFF800000#32 ∧ x.start = s.blockNow)

/-- The frames of a session: one whose tag fails is dropped without a reply and counted, and the sixteenth in a row
closes the session; one whose sequence lies below the window of 64 or was accepted within it is dropped and counted;
and an accepted one moves the window. A network request that finds the dispatcher full is turned away. -/
def Obligations.SessionWindow : Prop :=
  (∀ (r : Req) (x : Session) (m : Msg) (s : State), r.version = 1 → r.isProtected = true →
      s.session r.session = some x →
    let t := (s.count D.integrity_drops).putSession { x with bad := x.bad + 1 }
    let holds := x.tagHolds r (s.requestBody r m)
    (holds = false → x.bad < 15 → s.examine r m = .done t) ∧
    (holds = false → 15 ≤ x.bad → s.examine r m = .done (t.closeSession x.id crIntegrity)) ∧
    (holds = true → (r.seq + 64 < x.top ∨ r.seq ∈ x.seen) → s.examine r m = .done (s.count D.replay_drops))) ∧
  (∀ (r : Req) (m : Msg) (s t : State), isNet r.src = true → s.received r m = some t → t.accepting = true →
      64 ≤ t.mdap.waiting.length →
    s.answer r m = t.turnAway r m) ∧
  (∀ (x : Session) (seq : Nat) (now : Int),
    let y := x.accept seq now
    y.top = max x.top seq ∧ y.bad = 0 ∧ ∀ n, n ∈ y.seen ↔ (n = seq ∨ n ∈ x.seen) ∧ y.top ≤ n + 64)
end

