-- ==== Sys2Proof/Laws/Memory.lean ====
section
/-! SUPPORT. The laws of memory: what a read answers after each operation, and that every operation keeps the
canonical form. -/

namespace Sys2Proof.Machine

open Sys2Proof

/-! ### The canonical form -/

/-- The canonical form, entry by entry: rising addresses, and no zero byte. -/
theorem Memory.wf_iff (m : Memory) :
    m.wf = true ↔ m.Pairwise (fun c d => c.1 < d.1) ∧ ∀ c ∈ m, c.2 ≠ 0#8 := by
  induction m with
  | nil => simp [Memory.wf]
  | cons c m ih =>
    obtain ⟨a, b⟩ := c
    cases m with
    | nil => simp [Memory.wf]
    | cons d m =>
      obtain ⟨e, f⟩ := d
      rw [Memory.wf, Bool.and_eq_true, Bool.and_eq_true, ih, List.pairwise_cons]
      constructor
      · rintro ⟨⟨h1, h2⟩, h3, h4⟩
        refine ⟨List.pairwise_cons.2 ⟨?_, List.pairwise_cons.2 h3⟩, ?_⟩
        · intro x hx
          rcases List.mem_cons.1 hx with rfl | hx
          · exact of_decide_eq_true h2
          · exact Nat.lt_trans (of_decide_eq_true h2) (h3.1 x hx)
        · intro x hx
          rcases List.mem_cons.1 hx with rfl | hx
          · simpa using h1
          · exact h4 x hx
      · rintro ⟨h, h3⟩
        obtain ⟨h1, h2⟩ := List.pairwise_cons.1 h
        exact ⟨⟨by simpa using h3 _ (List.mem_cons_self ..), by simpa using h1 (e, f) (List.mem_cons_self ..)⟩,
          List.pairwise_cons.1 h2, fun x hx => h3 x (List.mem_cons_of_mem _ hx)⟩

theorem Memory.below_eq (m : Memory) (a : Nat) : m.below a = m.filter fun c => decide (c.1 < a) := by
  induction m with
  | nil => rfl
  | cons c m ih => simp only [Memory.below, List.filter_cons, ih, decide_eq_true_eq]

theorem Memory.above_eq (m : Memory) (a : Nat) : m.above a = m.filter fun c => decide (a ≤ c.1) := by
  induction m with
  | nil => rfl
  | cons c m ih => simp only [Memory.above, List.filter_cons, ih, decide_eq_true_eq]

theorem Memory.shift_eq (m : Memory) (a : Nat) : m.shift a = m.map fun c => (c.1 + a, c.2) := by
  induction m with
  | nil => rfl
  | cons c m ih => simp only [Memory.shift, List.map_cons, ih]

theorem Memory.slice_eq (m : Memory) (a n : Nat) :
    m.slice a n = (m.filter fun c => decide (a ≤ c.1 ∧ c.1 < a + n)).map fun c => (c.1 - a, c.2) := by
  induction m with
  | nil => rfl
  | cons c m ih =>
    simp only [Memory.slice, List.filter_cons, ih]
    by_cases h : a ≤ c.1 ∧ c.1 < a + n <;> simp [h]

theorem Memory.below_wf (m : Memory) (a : Nat) (h : m.wf = true) : (m.below a).wf = true := by
  rw [Memory.wf_iff] at *; rw [Memory.below_eq]
  exact ⟨h.1.filter _, fun c hc => h.2 c (List.mem_filter.1 hc).1⟩

theorem Memory.above_wf (m : Memory) (a : Nat) (h : m.wf = true) : (m.above a).wf = true := by
  rw [Memory.wf_iff] at *; rw [Memory.above_eq]
  exact ⟨h.1.filter _, fun c hc => h.2 c (List.mem_filter.1 hc).1⟩

theorem Memory.shift_wf (m : Memory) (a : Nat) (h : m.wf = true) : (m.shift a).wf = true := by
  rw [Memory.wf_iff] at *; rw [Memory.shift_eq]
  refine ⟨List.pairwise_map.2 (h.1.imp fun h => by simpa using h), ?_⟩
  intro c hc
  obtain ⟨d, hd, rfl⟩ := List.mem_map.1 hc
  exact h.2 d hd

theorem Memory.slice_wf (m : Memory) (a n : Nat) (h : m.wf = true) : (m.slice a n).wf = true := by
  rw [Memory.wf_iff] at *; rw [Memory.slice_eq]
  constructor
  · refine List.pairwise_map.2 ((List.pairwise_filter.2 ?_))
    refine h.1.imp fun h hc hd => ?_
    simp only [decide_eq_true_eq] at hc hd
    simp only []
    omega
  · intro c hc
    obtain ⟨d, hd, rfl⟩ := List.mem_map.1 hc
    exact h.2 d (List.mem_filter.1 hd).1

/-- The entries of a list of bytes lie within it. -/
theorem cellsFrom_bounds (l : List Byte) (p : Nat) : ∀ c ∈ cellsFrom l p, p ≤ c.1 ∧ c.1 < p + l.length := by
  induction l generalizing p with
  | nil => intro c hc; cases hc
  | cons b l ih =>
    intro c hc
    unfold cellsFrom at hc
    split at hc
    · have := ih _ c hc; simp only [List.length_cons]; omega
    · rcases List.mem_cons.1 hc with rfl | hc
      · simp
      · have := ih _ c hc; simp only [List.length_cons]; omega

theorem cellsFrom_wf (l : List Byte) (p : Nat) : Memory.wf (cellsFrom l p) = true := by
  rw [Memory.wf_iff]
  induction l generalizing p with
  | nil => exact ⟨List.Pairwise.nil, fun c hc => nomatch hc⟩
  | cons b l ih =>
    unfold cellsFrom; split
    · exact ih _
    · rename_i hb
      refine ⟨List.pairwise_cons.2 ⟨fun c hc => ?_, (ih _).1⟩, fun c hc => ?_⟩
      · have := cellsFrom_bounds l (p + 1) c hc; omega
      · rcases List.mem_cons.1 hc with rfl | hc
        · exact hb
        · exact (ih _).2 c hc

/-- A splice of canonical parts is canonical. -/
theorem Memory.splice_wf (m : Memory) (a n : Nat) (x : Memory) (hm : m.wf = true) (hx : x.wf = true) :
    (m.splice a n x).wf = true := by
  have hb := (Memory.wf_iff _).1 (m.below_wf a hm)
  have ha := (Memory.wf_iff _).1 (m.above_wf (a + n) hm)
  have hs := (Memory.wf_iff _).1 ((x.slice 0 n).shift_wf a (x.slice_wf 0 n hx))
  have lo : ∀ c ∈ m.below a, c.1 < a := by
    intro c hc; rw [Memory.below_eq] at hc; simpa using (List.mem_filter.1 hc).2
  have hi : ∀ c ∈ m.above (a + n), a + n ≤ c.1 := by
    intro c hc; rw [Memory.above_eq] at hc; simpa using (List.mem_filter.1 hc).2
  have mid : ∀ c ∈ (x.slice 0 n).shift a, a ≤ c.1 ∧ c.1 < a + n := by
    intro c hc
    rw [Memory.shift_eq, Memory.slice_eq] at hc
    obtain ⟨d, hd, rfl⟩ := List.mem_map.1 hc
    obtain ⟨e, he, rfl⟩ := List.mem_map.1 hd
    have := (List.mem_filter.1 he).2
    simp only [decide_eq_true_eq] at this
    simp only []
    omega
  rw [Memory.wf_iff]
  unfold Memory.splice
  refine ⟨List.pairwise_append.2 ⟨hb.1, List.pairwise_append.2 ⟨hs.1, ha.1, ?_⟩, ?_⟩, ?_⟩
  · intro c hc d hd; have := mid c hc; have := hi d hd; omega
  · intro c hc d hd
    have := lo c hc
    rcases List.mem_append.1 hd with hd | hd
    · have := mid d hd; omega
    · have := hi d hd; omega
  · intro c hc
    rcases List.mem_append.1 hc with hc | hc
    · exact hb.2 c hc
    · rcases List.mem_append.1 hc with hc | hc
      · exact hs.2 c hc
      · exact ha.2 c hc

/-- A write keeps the canonical form. -/
@[simp] theorem Memory.write_wf (m : Memory) (a : Nat) (l : List Byte) (h : m.wf = true) :
    (m.write a l).wf = true := m.splice_wf _ _ _ h (cellsFrom_wf l 0)

/-! ### Reads -/

theorem Memory.read_not_mem (m : Memory) (x : Nat) (h : ∀ c ∈ m, c.1 ≠ x) : m.read x = 0#8 := by
  induction m with
  | nil => rfl
  | cons c m ih =>
    rw [Memory.read, if_neg (h c (List.mem_cons_self ..))]
    exact ih fun d hd => h d (List.mem_cons_of_mem _ hd)

theorem Memory.read_append (m n : Memory) (x : Nat) (h : ∀ c ∈ n, c.1 ≠ x) : Memory.read (m ++ n) x = m.read x := by
  induction m with
  | nil => exact Memory.read_not_mem n x h
  | cons c m ih => simp only [List.cons_append, Memory.read, ih]

theorem Memory.read_append_right (m n : Memory) (x : Nat) (h : ∀ c ∈ m, c.1 ≠ x) :
    Memory.read (m ++ n) x = Memory.read n x := by
  induction m with
  | nil => rfl
  | cons c m ih =>
    rw [List.cons_append, Memory.read, if_neg (h c (List.mem_cons_self ..))]
    exact ih fun d hd => h d (List.mem_cons_of_mem _ hd)

theorem Memory.below_read (m : Memory) (a x : Nat) : (m.below a).read x = if x < a then m.read x else 0#8 := by
  induction m with
  | nil => simp [Memory.below, Memory.read]
  | cons c m ih =>
    by_cases hc : c.1 < a
    · rw [Memory.below, if_pos hc, Memory.read, ih, Memory.read]
      by_cases h : c.1 = x
      · subst h; simp [hc]
      · simp [h]
    · rw [Memory.below, if_neg hc, ih, Memory.read]
      by_cases h : c.1 = x
      · subst h; simp [hc]
      · simp [h]

theorem Memory.above_read (m : Memory) (a x : Nat) : (m.above a).read x = if a ≤ x then m.read x else 0#8 := by
  induction m with
  | nil => simp [Memory.above, Memory.read]
  | cons c m ih =>
    by_cases hc : a ≤ c.1
    · rw [Memory.above, if_pos hc, Memory.read, ih, Memory.read]
      by_cases h : c.1 = x
      · subst h; simp [hc]
      · simp [h]
    · rw [Memory.above, if_neg hc, ih, Memory.read]
      by_cases h : c.1 = x
      · subst h; simp [hc]
      · simp [h]

/-- A slice, counted from its start. -/
theorem Memory.slice_read (m : Memory) (a n x : Nat) :
    (m.slice a n).read x = if x < n then m.read (a + x) else 0#8 := by
  induction m with
  | nil => simp [Memory.slice, Memory.read]
  | cons c m ih =>
    obtain ⟨k, b⟩ := c
    rw [Memory.slice]
    by_cases hc : a ≤ k ∧ k < a + n
    · rw [if_pos (by simpa using hc), Memory.read, ih, Memory.read]
      by_cases h : k - a = x
      · rw [if_pos h, if_pos (by omega), if_pos (by omega)]
      · rw [if_neg h, if_neg (show ¬ k = a + x by omega)]
    · rw [if_neg (by simpa using hc), ih, Memory.read]
      by_cases h : x < n
      · rw [if_pos h, if_pos h, if_neg (by omega)]
      · rw [if_neg h, if_neg h]

theorem Memory.shift_read (m : Memory) (a x : Nat) :
    (m.shift a).read x = if a ≤ x then m.read (x - a) else 0#8 := by
  induction m with
  | nil => simp [Memory.shift, Memory.read]
  | cons c m ih =>
    obtain ⟨k, b⟩ := c
    rw [Memory.shift, Memory.read, ih, Memory.read]
    by_cases h : k + a = x
    · rw [if_pos h, if_pos (by omega), if_pos (by omega)]
    · rw [if_neg h]
      by_cases hx : a ≤ x
      · rw [if_pos hx, if_pos hx, if_neg (by omega)]
      · rw [if_neg hx, if_neg hx]

theorem cellsFrom_read (l : List Byte) (p x : Nat) :
    Memory.read (cellsFrom l p) x = if p ≤ x then l.getD (x - p) 0#8 else 0#8 := by
  induction l generalizing p with
  | nil => simp [cellsFrom, Memory.read]
  | cons b l ih =>
    have tail : (if p + 1 ≤ x then l.getD (x - (p + 1)) 0#8 else 0#8) =
        if p = x then 0#8 else if p ≤ x then (b :: l).getD (x - p) 0#8 else 0#8 := by
      by_cases h : p = x
      · subst h; simp
      · by_cases hx : p ≤ x
        · rw [if_pos (by omega), if_neg h, if_pos hx, show x - p = (x - (p + 1)) + 1 by omega]; rfl
        · rw [if_neg (by omega), if_neg h, if_neg hx]
    unfold cellsFrom
    by_cases hb : b = 0#8
    · rw [if_pos hb, ih, tail]
      by_cases h : p = x
      · subst h; simp [hb]
      · rw [if_neg h]
    · rw [if_neg hb, Memory.read, ih, tail]
      by_cases h : p = x
      · subst h; simp
      · simp only [if_neg h]

/-- What a read answers after a splice. -/
theorem Memory.splice_read (m : Memory) (a n : Nat) (x : Memory) (y : Nat) :
    (m.splice a n x).read y = if a ≤ y ∧ y < a + n then x.read (y - a) else m.read y := by
  have lo : ∀ c ∈ m.below a, c.1 < a := by
    intro c hc; rw [Memory.below_eq] at hc; simpa using (List.mem_filter.1 hc).2
  have hi : ∀ c ∈ m.above (a + n), a + n ≤ c.1 := by
    intro c hc; rw [Memory.above_eq] at hc; simpa using (List.mem_filter.1 hc).2
  have mid : ∀ c ∈ (x.slice 0 n).shift a, a ≤ c.1 ∧ c.1 < a + n := by
    intro c hc
    rw [Memory.shift_eq, Memory.slice_eq] at hc
    obtain ⟨d, hd, rfl⟩ := List.mem_map.1 hc
    obtain ⟨e, he, rfl⟩ := List.mem_map.1 hd
    have := (List.mem_filter.1 he).2
    simp only [decide_eq_true_eq] at this
    simp only []
    omega
  unfold Memory.splice
  by_cases h1 : y < a
  · rw [Memory.read_append, Memory.below_read, if_pos h1, if_neg (by omega)]
    intro c hc
    rcases List.mem_append.1 hc with hc | hc
    · have := mid c hc; omega
    · have := hi c hc; omega
  · rw [Memory.read_append_right _ _ _ (fun c hc => by have := lo c hc; omega)]
    by_cases h2 : y < a + n
    · rw [Memory.read_append _ _ _ (fun c hc => by have := hi c hc; omega), Memory.shift_read, if_pos (by omega),
        Memory.slice_read, if_pos (by omega), if_pos (by omega), Nat.zero_add]
    · rw [Memory.read_append_right _ _ _ (fun c hc => by have := mid c hc; omega), Memory.above_read,
        if_pos (by omega), if_neg (by omega)]

/-- A read after a write: the bytes written, and every other byte as before. -/
theorem Memory.write_read (m : Memory) (a : Nat) (l : List Byte) (y : Nat) :
    (m.write a l).read y = if a ≤ y ∧ y < a + l.length then l.getD (y - a) 0#8 else m.read y := by
  unfold Memory.write
  rw [Memory.splice_read, cellsFrom_read, if_pos (Nat.zero_le _), Nat.sub_zero]

/-- A read outside the bytes written answers what it answered before. -/
theorem Memory.write_read_other (m : Memory) (a : Nat) (l : List Byte) (y : Nat) (h : y < a ∨ a + l.length ≤ y) :
    (m.write a l).read y = m.read y := by
  rw [Memory.write_read, if_neg (by omega)]

/-- The byte of an entry of a canonical memory. -/
theorem Memory.read_mem {m : Memory} (hm : m.wf = true) {c : Host.Cell} (h : c ∈ m) : m.read c.1 = c.2 := by
  rw [Memory.wf_iff] at hm
  induction m with
  | nil => cases h
  | cons d m ih =>
    rcases List.mem_cons.1 h with rfl | h
    · simp [Memory.read]
    · have := (List.pairwise_cons.1 hm.1).1 c h
      rw [Memory.read, if_neg (by omega)]
      exact ih ⟨(List.pairwise_cons.1 hm.1).2, fun c hc => hm.2 c (List.mem_cons_of_mem _ hc)⟩ h

/-- Canonical memories that read alike are equal. -/
theorem Memory.ext_read {m n : Memory} (hm : m.wf = true) (hn : n.wf = true) (h : ∀ x, m.read x = n.read x) :
    m = n := by
  have key : ∀ (m n : Memory), m.wf = true → n.wf = true → (∀ x, m.read x = n.read x) → ∀ c ∈ m, c ∈ n := by
    intro m n hm hn h c hc
    have h1 := Memory.read_mem hm hc
    have h2 := ((Memory.wf_iff _).1 hm).2 c hc
    rw [h] at h1
    by_contra hcn
    refine h2 (h1.symm.trans (Memory.read_not_mem n c.1 fun d hd hdc => hcn ?_))
    have h3 := Memory.read_mem hn hd
    rw [hdc, h1] at h3
    have : c = d := Prod.ext hdc.symm h3
    rwa [this]
  have hm' := (Memory.wf_iff _).1 hm
  have hn' := (Memory.wf_iff _).1 hn
  have perm : List.Perm m n := by
    refine (List.perm_ext_iff_of_nodup ?_ ?_).2 fun c => ⟨key m n hm hn h c, key n m hn hm (fun x => (h x).symm) c⟩
    · exact hm'.1.imp fun h e => by rw [e] at h; exact Nat.lt_irrefl _ h
    · exact hn'.1.imp fun h e => by rw [e] at h; exact Nat.lt_irrefl _ h
  exact perm.eq_of_pairwise (fun a b _ _ h1 h2 => by omega) hm'.1 hn'.1

/-! ### Places of the matrix -/

/-- A place that R573 allows is one that the target of DRAM or of the Graver cores decodes. -/
theorem matrixDecodes_of_place (m a n : Nat) (h : (inUser a n || inGraver a n) = true) (hn : 0 < n) :
    matrixDecodes m a = true := by
  have ha : a < 0x200800000 := by
    rcases Bool.or_eq_true_iff.1 h with h | h
    · have : a + n ≤ 0x200000000 := of_decide_eq_true (Bool.and_eq_true_iff.1 h).2
      omega
    · simp only [inGraver, Bool.and_eq_true, decide_eq_true_eq] at h
      exact h.1.2
  by_cases h0 : a < 0x200000000 <;> simp [matrixDecodes, matrixTarget, ha, h0]

/-- A descriptor that R573 and R587 admit meets no decode error. -/
theorem DmaDesc.lost_eq_none (d : DmaDesc) (h : d.bad = false) : d.lost = none := by
  simp only [DmaDesc.bad, Bool.or_eq_false_iff, Bool.not_eq_false', beq_eq_false_iff_ne] at h
  obtain ⟨⟨⟨⟨-, h0⟩, -⟩, hd⟩, hs⟩ := h
  have h1 := matrixDecodes_of_place 2 d.dst d.count hd (by omega)
  cases hf : d.fill with
  | true => simp [DmaDesc.lost, hf, h1]
  | false =>
    have hs : (inUser d.src d.count || inGraver d.src d.count) = true := by
      rw [hf, Bool.not_false, Bool.true_and] at hs
      simpa only [Bool.not_eq_false'] using hs
    simp [DmaDesc.lost, hf, h1, matrixDecodes_of_place 1 d.src d.count hs (by omega)]

/-! ### The state's memory -/

@[simp] theorem State.writeMem_cells (s : State) (a : Nat) (l : List Byte) :
    (s.writeMem a l).mem.cells = s.mem.cells.write a l := rfl

/-- What a read answers after a write to memory. -/
theorem State.writeMem_read (s : State) (a : Nat) (l : List Byte) (y : Nat) :
    (s.writeMem a l).mem.cells.read y =
      if a ≤ y ∧ y < a + l.length then l.getD (y - a) 0#8 else s.mem.cells.read y := Memory.write_read ..

/-- Reset's memory is canonical. -/
theorem State.reset_wf : State.reset.mem.cells.wf = true := rfl

end Sys2Proof.Machine
end

