-- ==== Sys2Proof/Laws/State.lean ====
section
/-! SUPPORT. The laws of the state: one lemma per field and update, what a read of an object answers after a write,
and what the shared stores hold. -/

namespace Sys2Proof.Machine

open Sys2Proof

/-! ### Sparse stores -/

/-- A store answers what was put into it. -/
@[simp] theorem look_put_same (m : List (Nat × Nat)) (a v : Nat) : look (put m a v) a = some v := by
  induction m with
  | nil => simp [put, look]
  | cons c m ih =>
    obtain ⟨k, w⟩ := c
    unfold put
    by_cases h : k = a
    · simp [h, look]
    · by_cases h2 : a < k
      · simp [h, h2, look]
      · rw [if_neg h, if_neg h2, look, if_neg h, if_neg h2]; exact ih

/-- A store answers elsewhere what it answered before. -/
theorem look_put_other (m : List (Nat × Nat)) (a b v : Nat) (h : a ≠ b) : look (put m a v) b = look m b := by
  induction m with
  | nil => simp only [put, look, if_neg h]; split <;> rfl
  | cons c m ih =>
    obtain ⟨k, w⟩ := c
    unfold put
    by_cases h1 : k = a
    · subst h1; simp only [if_true, look, if_neg h]
    · rw [if_neg h1]
      by_cases h2 : a < k
      · rw [if_pos h2]
        simp only [look, if_neg h]
        by_cases h3 : b < a
        · rw [if_pos h3, if_neg (by omega), if_pos (by omega)]
        · rw [if_neg h3]
      · rw [if_neg h2]
        simp only [look, ih]

/-- `put` keeps the keys strictly rising. -/
theorem put_keysRise (m : List (Nat × Nat)) (a v : Nat) (h : keysRise m = true) : keysRise (put m a v) = true := by
  have key : ∀ m : List (Nat × Nat), keysRise m = true ↔ m.Pairwise (fun x y => x.1 < y.1) := by
    intro m
    induction m with
    | nil => simp [keysRise]
    | cons c m ih =>
      cases m with
      | nil => simp [keysRise]
      | cons d m =>
        rw [keysRise, Bool.and_eq_true, ih]
        constructor
        · rintro ⟨h1, h2⟩
          refine List.pairwise_cons.2 ⟨fun x hx => ?_, h2⟩
          rcases List.mem_cons.1 hx with rfl | hx
          · exact of_decide_eq_true h1
          · exact Nat.lt_trans (of_decide_eq_true h1) ((List.pairwise_cons.1 h2).1 x hx)
        · intro h
          have := List.pairwise_cons.1 h
          exact ⟨decide_eq_true (this.1 d (List.mem_cons_self ..)), this.2⟩
  have mem : ∀ (m : List (Nat × Nat)) (x : Nat × Nat), x ∈ put m a v → x = (a, v) ∨ x ∈ m := by
    intro m x hx
    induction m with
    | nil => simpa [put] using hx
    | cons c m ih =>
      obtain ⟨k, w⟩ := c
      unfold put at hx
      split at hx
      · rcases List.mem_cons.1 hx with h | h
        · exact .inl h
        · exact .inr (List.mem_cons_of_mem _ h)
      · split at hx
        · rcases List.mem_cons.1 hx with h | h
          · exact .inl h
          · exact .inr h
        · rcases List.mem_cons.1 hx with h | h
          · exact .inr (h ▸ List.mem_cons_self ..)
          · exact (ih h).imp id (List.mem_cons_of_mem _)
  rw [key] at h ⊢
  induction m with
  | nil => simp [put]
  | cons c m ih =>
    obtain ⟨k, w⟩ := c
    have hc := List.pairwise_cons.1 h
    unfold put
    split
    · rename_i e; subst e
      exact List.pairwise_cons.2 ⟨hc.1, hc.2⟩
    · split
      · rename_i h1 h2
        refine List.pairwise_cons.2 ⟨fun x hx => ?_, h⟩
        rcases List.mem_cons.1 hx with rfl | hx
        · exact h2
        · exact Nat.lt_trans h2 (hc.1 x hx)
      · rename_i h1 h2
        refine List.pairwise_cons.2 ⟨fun x hx => ?_, ih hc.2⟩
        rcases mem m x hx with rfl | hx
        · exact Nat.lt_of_le_of_ne (Nat.le_of_not_lt h2) h1
        · exact hc.1 x hx

/-! ### Reads of objects -/

/-- An object reads as what was written. -/
@[simp] theorem State.get_set_same (s : State) (o : Obj) (v i k : Nat) : (s.set o v i k).get o i k = v := by
  simp only [State.get, State.set, look_put_same]

/-- The default of an object does not depend on another object (R655). -/
def Dflt.fixed : Dflt → Bool
  | .byRate _ _ => false
  | .byKind _ => false
  | .byPort _ _ => false
  | _ => true

/-- Another object, of a default that is fixed or with a value of its own, reads as before. -/
theorem State.get_set_other (s : State) (o p : Obj) (v i k j n : Nat) (h : o.addr i k ≠ p.addr j n)
    (hp : p.dflt.fixed = true ∨ (look s.dict (p.addr j n)).isSome = true) :
    (s.set o v i k).get p j n = s.get p j n := by
  simp only [State.get, State.set, look_put_other _ _ _ _ h]
  split
  · rfl
  · rename_i e
    rcases hp with hp | hp
    · unfold dfltValue
      cases hd : p.dflt <;> rw [hd] at hp <;> first | rfl | cases hp
    · rw [e] at hp; cases hp

/-- A read after a write, for an object of a default that is fixed. -/
theorem State.get_set_if (s : State) (o p : Obj) (v i k j n : Nat) (hp : p.dflt.fixed = true) :
    (s.set o v i k).get p j n = if o.addr i k = p.addr j n then v else s.get p j n := by
  split
  · rename_i e; simp only [State.get, State.set, e, look_put_same]
  · rename_i e; exact State.get_set_other _ _ _ _ _ _ _ _ e (.inl hp)

/-- A write to one address leaves every other address as it is. -/
theorem State.look_set_other (s : State) (o : Obj) (v i k a : Nat) (h : o.addr i k ≠ a) :
    look (s.set o v i k).dict a = look s.dict a := look_put_other _ _ _ _ h

/-- A counter rises by the number counted, modulo its width. -/
@[simp] theorem State.get_count_same (s : State) (o : Obj) (i n : Nat) :
    (s.count o i n).get o i = (s.get o i + n) % 2 ^ (8 * tyBytes o.ty) := State.get_set_same ..

/-- A saturating counter. -/
@[simp] theorem State.get_countSat_same (s : State) (o : Obj) (i n : Nat) :
    (s.countSat o i n).get o i = min (s.get o i + n) (2 ^ (8 * tyBytes o.ty) - 1) := State.get_set_same ..

@[simp] theorem State.getB_setB_same (s : State) (o : Obj) (b : Bool) (i k : Nat) : (s.setB o b i k).getB o i k = b := by
  simp only [State.getB, State.setB, State.get_set_same]; cases b <;> rfl

@[simp] theorem State.getF_setF_same (s : State) (o : Obj) (x : F32) (i k : Nat) : (s.setF o x i k).getF o i k = x := by
  simp only [State.getF, State.setF, State.get_set_same, BitVec.ofNat_toNat, BitVec.setWidth_eq]

/-! ### Contents of BLOB objects -/

@[simp] theorem blobAt_blobPut_same (l : List Blob) (b : Blob) : blobAt (blobPut l b) b.addr = b := by
  induction l with
  | nil => simp [blobPut, blobAt]
  | cons c l ih =>
    unfold blobPut
    split
    · simp [blobAt]
    · split
      · simp [blobAt]
      · rename_i h _; rw [blobAt, if_neg h]; exact ih

theorem blobAt_blobPut_other (l : List Blob) (b : Blob) (a : Nat) (h : b.addr ≠ a) :
    blobAt (blobPut l b) a = blobAt l a := by
  induction l with
  | nil => simp [blobPut, blobAt, h]
  | cons c l ih =>
    unfold blobPut
    split
    · rename_i e; rw [blobAt, blobAt, if_neg h, if_neg (e ▸ h)]
    · split
      · rw [blobAt, if_neg h]
      · rw [blobAt, blobAt, ih]

/-- The record of an object carries its address. -/
@[simp] theorem blobAt_addr (l : List Blob) (a : Nat) : (blobAt l a).addr = a := by
  induction l with
  | nil => rfl
  | cons b l ih => unfold blobAt; split <;> assumption

/-- A BLOB holds what was put into it, one generation on (R657). -/
@[simp] theorem State.blob_setBlob_same (s : State) (o : Obj) (d : List Byte) (i : Nat) :
    (s.setBlob o d i).blob o i = ⟨o.addr i, (s.blob o i).counter + 1, (s.blob o i).counter + 1, d⟩ := by
  simp only [State.blob, State.setBlob]
  exact blobAt_blobPut_same _ ⟨o.addr i, _, _, d⟩

/-! ### Lists of fixed length -/

@[simp] theorem modAt_length {α : Type} (l : List α) (n : Nat) (f : α → α) : (modAt l n f).length = l.length := by
  induction l generalizing n with
  | nil => rfl
  | cons x l ih => cases n <;> simp [modAt, ih]

theorem modAt_getD_same {α : Type} (l : List α) (n : Nat) (f : α → α) (d : α) (h : n < l.length) :
    (modAt l n f).getD n d = f (l.getD n d) := by
  induction l generalizing n with
  | nil => cases h
  | cons x l ih =>
    cases n with
    | zero => rfl
    | succ n => exact ih n (by simpa using h)

theorem modAt_getD_other {α : Type} (l : List α) (n m : Nat) (f : α → α) (d : α) (h : n ≠ m) :
    (modAt l n f).getD m d = l.getD m d := by
  induction l generalizing n m with
  | nil => rfl
  | cons x l ih =>
    cases n with
    | zero => cases m with
      | zero => exact absurd rfl h
      | succ m => rfl
    | succ n => cases m with
      | zero => rfl
      | succ m => exact ih n m (fun e => h (e ▸ rfl))

/-! ### Bytes -/

@[simp] theorem beBytes_length (n v : Nat) : (beBytes n v).length = n := by
  induction n generalizing v with
  | zero => rfl
  | succ n ih => simp [beBytes, ih]

@[simp] theorem leBytes_length (n v : Nat) : (leBytes n v).length = n := by
  induction n generalizing v with
  | zero => rfl
  | succ n ih => simp [leBytes, ih]

/-- The number that the bytes of a number spell, little end first. -/
theorem leNat_leBytes (n v : Nat) : leNat (leBytes n v) = v % 256 ^ n := by
  induction n generalizing v with
  | zero => simp [leBytes, leNat, Nat.mod_one]
  | succ n ih =>
    have h1 : v % 256 ^ (n + 1) = v % 256 + 256 * (v / 256 % 256 ^ n) := by
      rw [show 256 ^ (n + 1) = 256 * 256 ^ n by ring]; exact Nat.mod_mul
    rw [leBytes, leNat, ih, BitVec.toNat_ofNat, h1]

/-- The number that the bytes of a number spell, big end first (R4). -/
theorem beNat_beBytes (n v : Nat) : beNat (beBytes n v) = v % 256 ^ n := by
  have key : ∀ (n v a : Nat), (beBytes n v).foldl (fun a b => a * 256 + b.toNat) a = a * 256 ^ n + v % 256 ^ n := by
    intro n
    induction n with
    | zero => intro v a; simp [beBytes, Nat.mod_one]
    | succ n ih =>
      intro v a
      have h1 : v % 256 ^ (n + 1) = v % 256 ^ n + 256 ^ n * (v / 256 ^ n % 256) := by
        rw [show 256 ^ (n + 1) = 256 ^ n * 256 by ring]; exact Nat.mod_mul
      rw [beBytes, List.foldl_cons, ih, BitVec.toNat_ofNat, h1, show (2 : Nat) ^ 8 = 256 by norm_num]
      ring
  have := key n v 0
  simpa [beNat] using this

/-! ### Every field after every update -/

/-! ### set -/

@[simp] theorem State.set_dict (s : State) (o : Obj) (v i k : Nat) :
    (s.set o v i k).dict = put s.dict (o.addr i k) v := by rfl
@[simp] theorem State.set_blobs (s : State) (o : Obj) (v i k : Nat) : (s.set o v i k).blobs = s.blobs := by rfl
@[simp] theorem State.set_err (s : State) (o : Obj) (v i k : Nat) : (s.set o v i k).err = s.err := by rfl
@[simp] theorem State.set_hist (s : State) (o : Obj) (v i k : Nat) : (s.set o v i k).hist = s.hist := by rfl
@[simp] theorem State.set_time (s : State) (o : Obj) (v i k : Nat) : (s.set o v i k).time = s.time := by rfl
@[simp] theorem State.set_timeline (s : State) (o : Obj) (v i k : Nat) :
    (s.set o v i k).timeline = s.timeline := by rfl
@[simp] theorem State.set_cu (s : State) (o : Obj) (v i k : Nat) : (s.set o v i k).cu = s.cu := by rfl
@[simp] theorem State.set_render (s : State) (o : Obj) (v i k : Nat) : (s.set o v i k).render = s.render := by rfl
@[simp] theorem State.set_svc (s : State) (o : Obj) (v i k : Nat) : (s.set o v i k).svc = s.svc := by rfl
@[simp] theorem State.set_nand (s : State) (o : Obj) (v i k : Nat) : (s.set o v i k).nand = s.nand := by rfl
@[simp] theorem State.set_power (s : State) (o : Obj) (v i k : Nat) : (s.set o v i k).power = s.power := by rfl
@[simp] theorem State.set_io (s : State) (o : Obj) (v i k : Nat) : (s.set o v i k).io = s.io := by rfl
@[simp] theorem State.set_mem (s : State) (o : Obj) (v i k : Nat) : (s.set o v i k).mem = s.mem := by rfl
@[simp] theorem State.set_ports (s : State) (o : Obj) (v i k : Nat) : (s.set o v i k).ports = s.ports := by rfl
@[simp] theorem State.set_twin (s : State) (o : Obj) (v i k : Nat) : (s.set o v i k).twin = s.twin := by rfl
@[simp] theorem State.set_fabric (s : State) (o : Obj) (v i k : Nat) : (s.set o v i k).fabric = s.fabric := by rfl
@[simp] theorem State.set_graver (s : State) (o : Obj) (v i k : Nat) : (s.set o v i k).graver = s.graver := by rfl
@[simp] theorem State.set_mdap (s : State) (o : Obj) (v i k : Nat) : (s.set o v i k).mdap = s.mdap := by rfl
@[simp] theorem State.set_wire (s : State) (o : Obj) (v i k : Nat) : (s.set o v i k).wire = s.wire := by rfl
@[simp] theorem State.set_free (s : State) (o : Obj) (v i k : Nat) : (s.set o v i k).free = s.free := by rfl
@[simp] theorem State.set_pending (s : State) (o : Obj) (v i k : Nat) : (s.set o v i k).pending = s.pending := by rfl

/-! ### unset -/

@[simp] theorem State.unset_dict (s : State) (o : Obj) (i k : Nat) :
    (s.unset o i k).dict = drop s.dict (o.addr i k) := by rfl
@[simp] theorem State.unset_blobs (s : State) (o : Obj) (i k : Nat) : (s.unset o i k).blobs = s.blobs := by rfl
@[simp] theorem State.unset_err (s : State) (o : Obj) (i k : Nat) : (s.unset o i k).err = s.err := by rfl
@[simp] theorem State.unset_hist (s : State) (o : Obj) (i k : Nat) : (s.unset o i k).hist = s.hist := by rfl
@[simp] theorem State.unset_time (s : State) (o : Obj) (i k : Nat) : (s.unset o i k).time = s.time := by rfl
@[simp] theorem State.unset_timeline (s : State) (o : Obj) (i k : Nat) :
    (s.unset o i k).timeline = s.timeline := by rfl
@[simp] theorem State.unset_cu (s : State) (o : Obj) (i k : Nat) : (s.unset o i k).cu = s.cu := by rfl
@[simp] theorem State.unset_render (s : State) (o : Obj) (i k : Nat) : (s.unset o i k).render = s.render := by rfl
@[simp] theorem State.unset_svc (s : State) (o : Obj) (i k : Nat) : (s.unset o i k).svc = s.svc := by rfl
@[simp] theorem State.unset_nand (s : State) (o : Obj) (i k : Nat) : (s.unset o i k).nand = s.nand := by rfl
@[simp] theorem State.unset_power (s : State) (o : Obj) (i k : Nat) : (s.unset o i k).power = s.power := by rfl
@[simp] theorem State.unset_io (s : State) (o : Obj) (i k : Nat) : (s.unset o i k).io = s.io := by rfl
@[simp] theorem State.unset_mem (s : State) (o : Obj) (i k : Nat) : (s.unset o i k).mem = s.mem := by rfl
@[simp] theorem State.unset_ports (s : State) (o : Obj) (i k : Nat) : (s.unset o i k).ports = s.ports := by rfl
@[simp] theorem State.unset_twin (s : State) (o : Obj) (i k : Nat) : (s.unset o i k).twin = s.twin := by rfl
@[simp] theorem State.unset_fabric (s : State) (o : Obj) (i k : Nat) : (s.unset o i k).fabric = s.fabric := by rfl
@[simp] theorem State.unset_graver (s : State) (o : Obj) (i k : Nat) : (s.unset o i k).graver = s.graver := by rfl
@[simp] theorem State.unset_mdap (s : State) (o : Obj) (i k : Nat) : (s.unset o i k).mdap = s.mdap := by rfl
@[simp] theorem State.unset_wire (s : State) (o : Obj) (i k : Nat) : (s.unset o i k).wire = s.wire := by rfl
@[simp] theorem State.unset_free (s : State) (o : Obj) (i k : Nat) : (s.unset o i k).free = s.free := by rfl
@[simp] theorem State.unset_pending (s : State) (o : Obj) (i k : Nat) : (s.unset o i k).pending = s.pending := by rfl

/-! ### setI -/

@[simp] theorem State.setI_dict (s : State) (o : Obj) (z : Int) (i k : Nat) :
    (s.setI o z i k).dict = put s.dict (o.addr i k) (ofSigned (8 * tyBytes o.ty) z) := by rfl
@[simp] theorem State.setI_blobs (s : State) (o : Obj) (z : Int) (i k : Nat) :
    (s.setI o z i k).blobs = s.blobs := by rfl
@[simp] theorem State.setI_err (s : State) (o : Obj) (z : Int) (i k : Nat) : (s.setI o z i k).err = s.err := by rfl
@[simp] theorem State.setI_hist (s : State) (o : Obj) (z : Int) (i k : Nat) : (s.setI o z i k).hist = s.hist := by rfl
@[simp] theorem State.setI_time (s : State) (o : Obj) (z : Int) (i k : Nat) : (s.setI o z i k).time = s.time := by rfl
@[simp] theorem State.setI_timeline (s : State) (o : Obj) (z : Int) (i k : Nat) :
    (s.setI o z i k).timeline = s.timeline := by rfl
@[simp] theorem State.setI_cu (s : State) (o : Obj) (z : Int) (i k : Nat) : (s.setI o z i k).cu = s.cu := by rfl
@[simp] theorem State.setI_render (s : State) (o : Obj) (z : Int) (i k : Nat) :
    (s.setI o z i k).render = s.render := by rfl
@[simp] theorem State.setI_svc (s : State) (o : Obj) (z : Int) (i k : Nat) : (s.setI o z i k).svc = s.svc := by rfl
@[simp] theorem State.setI_nand (s : State) (o : Obj) (z : Int) (i k : Nat) : (s.setI o z i k).nand = s.nand := by rfl
@[simp] theorem State.setI_power (s : State) (o : Obj) (z : Int) (i k : Nat) :
    (s.setI o z i k).power = s.power := by rfl
@[simp] theorem State.setI_io (s : State) (o : Obj) (z : Int) (i k : Nat) : (s.setI o z i k).io = s.io := by rfl
@[simp] theorem State.setI_mem (s : State) (o : Obj) (z : Int) (i k : Nat) : (s.setI o z i k).mem = s.mem := by rfl
@[simp] theorem State.setI_ports (s : State) (o : Obj) (z : Int) (i k : Nat) :
    (s.setI o z i k).ports = s.ports := by rfl
@[simp] theorem State.setI_twin (s : State) (o : Obj) (z : Int) (i k : Nat) : (s.setI o z i k).twin = s.twin := by rfl
@[simp] theorem State.setI_fabric (s : State) (o : Obj) (z : Int) (i k : Nat) :
    (s.setI o z i k).fabric = s.fabric := by rfl
@[simp] theorem State.setI_graver (s : State) (o : Obj) (z : Int) (i k : Nat) :
    (s.setI o z i k).graver = s.graver := by rfl
@[simp] theorem State.setI_mdap (s : State) (o : Obj) (z : Int) (i k : Nat) : (s.setI o z i k).mdap = s.mdap := by rfl
@[simp] theorem State.setI_wire (s : State) (o : Obj) (z : Int) (i k : Nat) : (s.setI o z i k).wire = s.wire := by rfl
@[simp] theorem State.setI_free (s : State) (o : Obj) (z : Int) (i k : Nat) : (s.setI o z i k).free = s.free := by rfl
@[simp] theorem State.setI_pending (s : State) (o : Obj) (z : Int) (i k : Nat) :
    (s.setI o z i k).pending = s.pending := by rfl

/-! ### setF -/

@[simp] theorem State.setF_dict (s : State) (o : Obj) (x : F32) (i k : Nat) :
    (s.setF o x i k).dict = put s.dict (o.addr i k) x.toNat := by rfl
@[simp] theorem State.setF_blobs (s : State) (o : Obj) (x : F32) (i k : Nat) :
    (s.setF o x i k).blobs = s.blobs := by rfl
@[simp] theorem State.setF_err (s : State) (o : Obj) (x : F32) (i k : Nat) : (s.setF o x i k).err = s.err := by rfl
@[simp] theorem State.setF_hist (s : State) (o : Obj) (x : F32) (i k : Nat) : (s.setF o x i k).hist = s.hist := by rfl
@[simp] theorem State.setF_time (s : State) (o : Obj) (x : F32) (i k : Nat) : (s.setF o x i k).time = s.time := by rfl
@[simp] theorem State.setF_timeline (s : State) (o : Obj) (x : F32) (i k : Nat) :
    (s.setF o x i k).timeline = s.timeline := by rfl
@[simp] theorem State.setF_cu (s : State) (o : Obj) (x : F32) (i k : Nat) : (s.setF o x i k).cu = s.cu := by rfl
@[simp] theorem State.setF_render (s : State) (o : Obj) (x : F32) (i k : Nat) :
    (s.setF o x i k).render = s.render := by rfl
@[simp] theorem State.setF_svc (s : State) (o : Obj) (x : F32) (i k : Nat) : (s.setF o x i k).svc = s.svc := by rfl
@[simp] theorem State.setF_nand (s : State) (o : Obj) (x : F32) (i k : Nat) : (s.setF o x i k).nand = s.nand := by rfl
@[simp] theorem State.setF_power (s : State) (o : Obj) (x : F32) (i k : Nat) :
    (s.setF o x i k).power = s.power := by rfl
@[simp] theorem State.setF_io (s : State) (o : Obj) (x : F32) (i k : Nat) : (s.setF o x i k).io = s.io := by rfl
@[simp] theorem State.setF_mem (s : State) (o : Obj) (x : F32) (i k : Nat) : (s.setF o x i k).mem = s.mem := by rfl
@[simp] theorem State.setF_ports (s : State) (o : Obj) (x : F32) (i k : Nat) :
    (s.setF o x i k).ports = s.ports := by rfl
@[simp] theorem State.setF_twin (s : State) (o : Obj) (x : F32) (i k : Nat) : (s.setF o x i k).twin = s.twin := by rfl
@[simp] theorem State.setF_fabric (s : State) (o : Obj) (x : F32) (i k : Nat) :
    (s.setF o x i k).fabric = s.fabric := by rfl
@[simp] theorem State.setF_graver (s : State) (o : Obj) (x : F32) (i k : Nat) :
    (s.setF o x i k).graver = s.graver := by rfl
@[simp] theorem State.setF_mdap (s : State) (o : Obj) (x : F32) (i k : Nat) : (s.setF o x i k).mdap = s.mdap := by rfl
@[simp] theorem State.setF_wire (s : State) (o : Obj) (x : F32) (i k : Nat) : (s.setF o x i k).wire = s.wire := by rfl
@[simp] theorem State.setF_free (s : State) (o : Obj) (x : F32) (i k : Nat) : (s.setF o x i k).free = s.free := by rfl
@[simp] theorem State.setF_pending (s : State) (o : Obj) (x : F32) (i k : Nat) :
    (s.setF o x i k).pending = s.pending := by rfl

/-! ### setB -/

@[simp] theorem State.setB_dict (s : State) (o : Obj) (b : Bool) (i k : Nat) :
    (s.setB o b i k).dict = put s.dict (o.addr i k) (if b then 1 else 0) := by rfl
@[simp] theorem State.setB_blobs (s : State) (o : Obj) (b : Bool) (i k : Nat) :
    (s.setB o b i k).blobs = s.blobs := by rfl
@[simp] theorem State.setB_err (s : State) (o : Obj) (b : Bool) (i k : Nat) : (s.setB o b i k).err = s.err := by rfl
@[simp] theorem State.setB_hist (s : State) (o : Obj) (b : Bool) (i k : Nat) :
    (s.setB o b i k).hist = s.hist := by rfl
@[simp] theorem State.setB_time (s : State) (o : Obj) (b : Bool) (i k : Nat) :
    (s.setB o b i k).time = s.time := by rfl
@[simp] theorem State.setB_timeline (s : State) (o : Obj) (b : Bool) (i k : Nat) :
    (s.setB o b i k).timeline = s.timeline := by rfl
@[simp] theorem State.setB_cu (s : State) (o : Obj) (b : Bool) (i k : Nat) : (s.setB o b i k).cu = s.cu := by rfl
@[simp] theorem State.setB_render (s : State) (o : Obj) (b : Bool) (i k : Nat) :
    (s.setB o b i k).render = s.render := by rfl
@[simp] theorem State.setB_svc (s : State) (o : Obj) (b : Bool) (i k : Nat) : (s.setB o b i k).svc = s.svc := by rfl
@[simp] theorem State.setB_nand (s : State) (o : Obj) (b : Bool) (i k : Nat) :
    (s.setB o b i k).nand = s.nand := by rfl
@[simp] theorem State.setB_power (s : State) (o : Obj) (b : Bool) (i k : Nat) :
    (s.setB o b i k).power = s.power := by rfl
@[simp] theorem State.setB_io (s : State) (o : Obj) (b : Bool) (i k : Nat) : (s.setB o b i k).io = s.io := by rfl
@[simp] theorem State.setB_mem (s : State) (o : Obj) (b : Bool) (i k : Nat) : (s.setB o b i k).mem = s.mem := by rfl
@[simp] theorem State.setB_ports (s : State) (o : Obj) (b : Bool) (i k : Nat) :
    (s.setB o b i k).ports = s.ports := by rfl
@[simp] theorem State.setB_twin (s : State) (o : Obj) (b : Bool) (i k : Nat) :
    (s.setB o b i k).twin = s.twin := by rfl
@[simp] theorem State.setB_fabric (s : State) (o : Obj) (b : Bool) (i k : Nat) :
    (s.setB o b i k).fabric = s.fabric := by rfl
@[simp] theorem State.setB_graver (s : State) (o : Obj) (b : Bool) (i k : Nat) :
    (s.setB o b i k).graver = s.graver := by rfl
@[simp] theorem State.setB_mdap (s : State) (o : Obj) (b : Bool) (i k : Nat) :
    (s.setB o b i k).mdap = s.mdap := by rfl
@[simp] theorem State.setB_wire (s : State) (o : Obj) (b : Bool) (i k : Nat) :
    (s.setB o b i k).wire = s.wire := by rfl
@[simp] theorem State.setB_free (s : State) (o : Obj) (b : Bool) (i k : Nat) :
    (s.setB o b i k).free = s.free := by rfl
@[simp] theorem State.setB_pending (s : State) (o : Obj) (b : Bool) (i k : Nat) :
    (s.setB o b i k).pending = s.pending := by rfl

/-! ### keep -/

@[simp] theorem State.keep_dict (s : State) (a v : Nat) (b : Option Blob) : (s.keep a v b).dict = s.dict := by rfl
@[simp] theorem State.keep_blobs (s : State) (a v : Nat) (b : Option Blob) : (s.keep a v b).blobs = s.blobs := by rfl
@[simp] theorem State.keep_err (s : State) (a v : Nat) (b : Option Blob) : (s.keep a v b).err = s.err := by rfl
@[simp] theorem State.keep_hist (s : State) (a v : Nat) (b : Option Blob) : (s.keep a v b).hist = s.hist := by rfl
@[simp] theorem State.keep_time (s : State) (a v : Nat) (b : Option Blob) : (s.keep a v b).time = s.time := by rfl
@[simp] theorem State.keep_timeline (s : State) (a v : Nat) (b : Option Blob) :
    (s.keep a v b).timeline = s.timeline := by rfl
@[simp] theorem State.keep_cu (s : State) (a v : Nat) (b : Option Blob) : (s.keep a v b).cu = s.cu := by rfl
@[simp] theorem State.keep_render (s : State) (a v : Nat) (b : Option Blob) : (s.keep a v b).render = s.render := by rfl
@[simp] theorem State.keep_svc (s : State) (a v : Nat) (b : Option Blob) : (s.keep a v b).svc = s.svc := by rfl
@[simp] theorem State.keep_nand (s : State) (a v : Nat) (b : Option Blob) :
    (s.keep a v b).nand = { s.nand with
      journal := s.nand.journal ++ [⟨s.time.local_, a, v, b⟩], imageGen := s.nand.imageGen + 1 } := by rfl
@[simp] theorem State.keep_power (s : State) (a v : Nat) (b : Option Blob) : (s.keep a v b).power = s.power := by rfl
@[simp] theorem State.keep_io (s : State) (a v : Nat) (b : Option Blob) : (s.keep a v b).io = s.io := by rfl
@[simp] theorem State.keep_mem (s : State) (a v : Nat) (b : Option Blob) : (s.keep a v b).mem = s.mem := by rfl
@[simp] theorem State.keep_ports (s : State) (a v : Nat) (b : Option Blob) : (s.keep a v b).ports = s.ports := by rfl
@[simp] theorem State.keep_twin (s : State) (a v : Nat) (b : Option Blob) : (s.keep a v b).twin = s.twin := by rfl
@[simp] theorem State.keep_fabric (s : State) (a v : Nat) (b : Option Blob) : (s.keep a v b).fabric = s.fabric := by rfl
@[simp] theorem State.keep_graver (s : State) (a v : Nat) (b : Option Blob) : (s.keep a v b).graver = s.graver := by rfl
@[simp] theorem State.keep_mdap (s : State) (a v : Nat) (b : Option Blob) : (s.keep a v b).mdap = s.mdap := by rfl
@[simp] theorem State.keep_wire (s : State) (a v : Nat) (b : Option Blob) : (s.keep a v b).wire = s.wire := by rfl
@[simp] theorem State.keep_free (s : State) (a v : Nat) (b : Option Blob) : (s.keep a v b).free = s.free := by rfl
@[simp] theorem State.keep_pending (s : State) (a v : Nat) (b : Option Blob) :
    (s.keep a v b).pending = s.pending := by rfl

/-! ### keepValue -/

@[simp] theorem State.keepValue_dict (s : State) (o : Obj) (v i k : Nat) :
    (s.keepValue o v i k).dict = put s.dict (o.addr i k) v := by rfl
@[simp] theorem State.keepValue_blobs (s : State) (o : Obj) (v i k : Nat) :
    (s.keepValue o v i k).blobs = s.blobs := by rfl
@[simp] theorem State.keepValue_err (s : State) (o : Obj) (v i k : Nat) : (s.keepValue o v i k).err = s.err := by rfl
@[simp] theorem State.keepValue_hist (s : State) (o : Obj) (v i k : Nat) :
    (s.keepValue o v i k).hist = s.hist := by rfl
@[simp] theorem State.keepValue_time (s : State) (o : Obj) (v i k : Nat) :
    (s.keepValue o v i k).time = s.time := by rfl
@[simp] theorem State.keepValue_timeline (s : State) (o : Obj) (v i k : Nat) :
    (s.keepValue o v i k).timeline = s.timeline := by rfl
@[simp] theorem State.keepValue_cu (s : State) (o : Obj) (v i k : Nat) : (s.keepValue o v i k).cu = s.cu := by rfl
@[simp] theorem State.keepValue_render (s : State) (o : Obj) (v i k : Nat) :
    (s.keepValue o v i k).render = s.render := by rfl
@[simp] theorem State.keepValue_svc (s : State) (o : Obj) (v i k : Nat) : (s.keepValue o v i k).svc = s.svc := by rfl
@[simp] theorem State.keepValue_nand (s : State) (o : Obj) (v i k : Nat) :
    (s.keepValue o v i k).nand = { s.nand with
      journal := s.nand.journal ++ [⟨s.time.local_, o.addr i k, v, none⟩], imageGen := s.nand.imageGen + 1 } := by rfl
@[simp] theorem State.keepValue_power (s : State) (o : Obj) (v i k : Nat) :
    (s.keepValue o v i k).power = s.power := by rfl
@[simp] theorem State.keepValue_io (s : State) (o : Obj) (v i k : Nat) : (s.keepValue o v i k).io = s.io := by rfl
@[simp] theorem State.keepValue_mem (s : State) (o : Obj) (v i k : Nat) : (s.keepValue o v i k).mem = s.mem := by rfl
@[simp] theorem State.keepValue_ports (s : State) (o : Obj) (v i k : Nat) :
    (s.keepValue o v i k).ports = s.ports := by rfl
@[simp] theorem State.keepValue_twin (s : State) (o : Obj) (v i k : Nat) :
    (s.keepValue o v i k).twin = s.twin := by rfl
@[simp] theorem State.keepValue_fabric (s : State) (o : Obj) (v i k : Nat) :
    (s.keepValue o v i k).fabric = s.fabric := by rfl
@[simp] theorem State.keepValue_graver (s : State) (o : Obj) (v i k : Nat) :
    (s.keepValue o v i k).graver = s.graver := by rfl
@[simp] theorem State.keepValue_mdap (s : State) (o : Obj) (v i k : Nat) :
    (s.keepValue o v i k).mdap = s.mdap := by rfl
@[simp] theorem State.keepValue_wire (s : State) (o : Obj) (v i k : Nat) :
    (s.keepValue o v i k).wire = s.wire := by rfl
@[simp] theorem State.keepValue_free (s : State) (o : Obj) (v i k : Nat) :
    (s.keepValue o v i k).free = s.free := by rfl
@[simp] theorem State.keepValue_pending (s : State) (o : Obj) (v i k : Nat) :
    (s.keepValue o v i k).pending = s.pending := by rfl

/-! ### count -/

@[simp] theorem State.count_dict (s : State) (o : Obj) (i n : Nat) :
    (s.count o i n).dict = put s.dict (o.addr i 0) ((s.get o i + n) % 2 ^ (8 * tyBytes o.ty)) := by rfl
@[simp] theorem State.count_blobs (s : State) (o : Obj) (i n : Nat) : (s.count o i n).blobs = s.blobs := by rfl
@[simp] theorem State.count_err (s : State) (o : Obj) (i n : Nat) : (s.count o i n).err = s.err := by rfl
@[simp] theorem State.count_hist (s : State) (o : Obj) (i n : Nat) : (s.count o i n).hist = s.hist := by rfl
@[simp] theorem State.count_time (s : State) (o : Obj) (i n : Nat) : (s.count o i n).time = s.time := by rfl
@[simp] theorem State.count_timeline (s : State) (o : Obj) (i n : Nat) :
    (s.count o i n).timeline = s.timeline := by rfl
@[simp] theorem State.count_cu (s : State) (o : Obj) (i n : Nat) : (s.count o i n).cu = s.cu := by rfl
@[simp] theorem State.count_render (s : State) (o : Obj) (i n : Nat) : (s.count o i n).render = s.render := by rfl
@[simp] theorem State.count_svc (s : State) (o : Obj) (i n : Nat) : (s.count o i n).svc = s.svc := by rfl
@[simp] theorem State.count_nand (s : State) (o : Obj) (i n : Nat) : (s.count o i n).nand = s.nand := by rfl
@[simp] theorem State.count_power (s : State) (o : Obj) (i n : Nat) : (s.count o i n).power = s.power := by rfl
@[simp] theorem State.count_io (s : State) (o : Obj) (i n : Nat) : (s.count o i n).io = s.io := by rfl
@[simp] theorem State.count_mem (s : State) (o : Obj) (i n : Nat) : (s.count o i n).mem = s.mem := by rfl
@[simp] theorem State.count_ports (s : State) (o : Obj) (i n : Nat) : (s.count o i n).ports = s.ports := by rfl
@[simp] theorem State.count_twin (s : State) (o : Obj) (i n : Nat) : (s.count o i n).twin = s.twin := by rfl
@[simp] theorem State.count_fabric (s : State) (o : Obj) (i n : Nat) : (s.count o i n).fabric = s.fabric := by rfl
@[simp] theorem State.count_graver (s : State) (o : Obj) (i n : Nat) : (s.count o i n).graver = s.graver := by rfl
@[simp] theorem State.count_mdap (s : State) (o : Obj) (i n : Nat) : (s.count o i n).mdap = s.mdap := by rfl
@[simp] theorem State.count_wire (s : State) (o : Obj) (i n : Nat) : (s.count o i n).wire = s.wire := by rfl
@[simp] theorem State.count_free (s : State) (o : Obj) (i n : Nat) : (s.count o i n).free = s.free := by rfl
@[simp] theorem State.count_pending (s : State) (o : Obj) (i n : Nat) : (s.count o i n).pending = s.pending := by rfl

/-! ### countSat -/

@[simp] theorem State.countSat_dict (s : State) (o : Obj) (i n : Nat) :
    (s.countSat o i n).dict = put s.dict (o.addr i 0) (min (s.get o i + n) (2 ^ (8 * tyBytes o.ty) - 1)) := by rfl
@[simp] theorem State.countSat_blobs (s : State) (o : Obj) (i n : Nat) : (s.countSat o i n).blobs = s.blobs := by rfl
@[simp] theorem State.countSat_err (s : State) (o : Obj) (i n : Nat) : (s.countSat o i n).err = s.err := by rfl
@[simp] theorem State.countSat_hist (s : State) (o : Obj) (i n : Nat) : (s.countSat o i n).hist = s.hist := by rfl
@[simp] theorem State.countSat_time (s : State) (o : Obj) (i n : Nat) : (s.countSat o i n).time = s.time := by rfl
@[simp] theorem State.countSat_timeline (s : State) (o : Obj) (i n : Nat) :
    (s.countSat o i n).timeline = s.timeline := by rfl
@[simp] theorem State.countSat_cu (s : State) (o : Obj) (i n : Nat) : (s.countSat o i n).cu = s.cu := by rfl
@[simp] theorem State.countSat_render (s : State) (o : Obj) (i n : Nat) :
    (s.countSat o i n).render = s.render := by rfl
@[simp] theorem State.countSat_svc (s : State) (o : Obj) (i n : Nat) : (s.countSat o i n).svc = s.svc := by rfl
@[simp] theorem State.countSat_nand (s : State) (o : Obj) (i n : Nat) : (s.countSat o i n).nand = s.nand := by rfl
@[simp] theorem State.countSat_power (s : State) (o : Obj) (i n : Nat) : (s.countSat o i n).power = s.power := by rfl
@[simp] theorem State.countSat_io (s : State) (o : Obj) (i n : Nat) : (s.countSat o i n).io = s.io := by rfl
@[simp] theorem State.countSat_mem (s : State) (o : Obj) (i n : Nat) : (s.countSat o i n).mem = s.mem := by rfl
@[simp] theorem State.countSat_ports (s : State) (o : Obj) (i n : Nat) : (s.countSat o i n).ports = s.ports := by rfl
@[simp] theorem State.countSat_twin (s : State) (o : Obj) (i n : Nat) : (s.countSat o i n).twin = s.twin := by rfl
@[simp] theorem State.countSat_fabric (s : State) (o : Obj) (i n : Nat) :
    (s.countSat o i n).fabric = s.fabric := by rfl
@[simp] theorem State.countSat_graver (s : State) (o : Obj) (i n : Nat) :
    (s.countSat o i n).graver = s.graver := by rfl
@[simp] theorem State.countSat_mdap (s : State) (o : Obj) (i n : Nat) : (s.countSat o i n).mdap = s.mdap := by rfl
@[simp] theorem State.countSat_wire (s : State) (o : Obj) (i n : Nat) : (s.countSat o i n).wire = s.wire := by rfl
@[simp] theorem State.countSat_free (s : State) (o : Obj) (i n : Nat) : (s.countSat o i n).free = s.free := by rfl
@[simp] theorem State.countSat_pending (s : State) (o : Obj) (i n : Nat) :
    (s.countSat o i n).pending = s.pending := by rfl

/-! ### setBlob -/

@[simp] theorem State.setBlob_dict (s : State) (o : Obj) (d : List Byte) (i : Nat) :
    (s.setBlob o d i).dict = put s.dict (o.addr i) (handleOf d.length ((s.blob o i).counter + 1)) := by rfl
@[simp] theorem State.setBlob_blobs (s : State) (o : Obj) (d : List Byte) (i : Nat) :
    (s.setBlob o d i).blobs = blobPut s.blobs ⟨o.addr i, (s.blob o i).counter + 1, (s.blob o i).counter + 1, d⟩ := by rfl
@[simp] theorem State.setBlob_err (s : State) (o : Obj) (d : List Byte) (i : Nat) :
    (s.setBlob o d i).err = s.err := by rfl
@[simp] theorem State.setBlob_hist (s : State) (o : Obj) (d : List Byte) (i : Nat) :
    (s.setBlob o d i).hist = s.hist := by rfl
@[simp] theorem State.setBlob_time (s : State) (o : Obj) (d : List Byte) (i : Nat) :
    (s.setBlob o d i).time = s.time := by rfl
@[simp] theorem State.setBlob_timeline (s : State) (o : Obj) (d : List Byte) (i : Nat) :
    (s.setBlob o d i).timeline = s.timeline := by rfl
@[simp] theorem State.setBlob_cu (s : State) (o : Obj) (d : List Byte) (i : Nat) :
    (s.setBlob o d i).cu = s.cu := by rfl
@[simp] theorem State.setBlob_render (s : State) (o : Obj) (d : List Byte) (i : Nat) :
    (s.setBlob o d i).render = s.render := by rfl
@[simp] theorem State.setBlob_svc (s : State) (o : Obj) (d : List Byte) (i : Nat) :
    (s.setBlob o d i).svc = s.svc := by rfl
@[simp] theorem State.setBlob_nand (s : State) (o : Obj) (d : List Byte) (i : Nat) :
    (s.setBlob o d i).nand = s.nand := by rfl
@[simp] theorem State.setBlob_power (s : State) (o : Obj) (d : List Byte) (i : Nat) :
    (s.setBlob o d i).power = s.power := by rfl
@[simp] theorem State.setBlob_io (s : State) (o : Obj) (d : List Byte) (i : Nat) :
    (s.setBlob o d i).io = s.io := by rfl
@[simp] theorem State.setBlob_mem (s : State) (o : Obj) (d : List Byte) (i : Nat) :
    (s.setBlob o d i).mem = s.mem := by rfl
@[simp] theorem State.setBlob_ports (s : State) (o : Obj) (d : List Byte) (i : Nat) :
    (s.setBlob o d i).ports = s.ports := by rfl
@[simp] theorem State.setBlob_twin (s : State) (o : Obj) (d : List Byte) (i : Nat) :
    (s.setBlob o d i).twin = s.twin := by rfl
@[simp] theorem State.setBlob_fabric (s : State) (o : Obj) (d : List Byte) (i : Nat) :
    (s.setBlob o d i).fabric = s.fabric := by rfl
@[simp] theorem State.setBlob_graver (s : State) (o : Obj) (d : List Byte) (i : Nat) :
    (s.setBlob o d i).graver = s.graver := by rfl
@[simp] theorem State.setBlob_mdap (s : State) (o : Obj) (d : List Byte) (i : Nat) :
    (s.setBlob o d i).mdap = s.mdap := by rfl
@[simp] theorem State.setBlob_wire (s : State) (o : Obj) (d : List Byte) (i : Nat) :
    (s.setBlob o d i).wire = s.wire := by rfl
@[simp] theorem State.setBlob_free (s : State) (o : Obj) (d : List Byte) (i : Nat) :
    (s.setBlob o d i).free = s.free := by rfl
@[simp] theorem State.setBlob_pending (s : State) (o : Obj) (d : List Byte) (i : Nat) :
    (s.setBlob o d i).pending = s.pending := by rfl

/-! ### pass -/

@[simp] theorem State.pass_dict (s : State) : (s.pass).dict = s.dict := by rfl
@[simp] theorem State.pass_blobs (s : State) : (s.pass).blobs = s.blobs := by rfl
@[simp] theorem State.pass_err (s : State) : (s.pass).err = s.err := by rfl
@[simp] theorem State.pass_hist (s : State) : (s.pass).hist = s.hist := by rfl
@[simp] theorem State.pass_time (s : State) : (s.pass).time = s.time := by rfl
@[simp] theorem State.pass_timeline (s : State) : (s.pass).timeline = s.timeline := by rfl
@[simp] theorem State.pass_cu (s : State) : (s.pass).cu = s.cu := by rfl
@[simp] theorem State.pass_render (s : State) : (s.pass).render = s.render := by rfl
@[simp] theorem State.pass_svc (s : State) : (s.pass).svc = s.svc := by rfl
@[simp] theorem State.pass_nand (s : State) : (s.pass).nand = s.nand := by rfl
@[simp] theorem State.pass_power (s : State) : (s.pass).power = s.power := by rfl
@[simp] theorem State.pass_io (s : State) : (s.pass).io = s.io := by rfl
@[simp] theorem State.pass_mem (s : State) : (s.pass).mem = s.mem := by rfl
@[simp] theorem State.pass_ports (s : State) : (s.pass).ports = s.ports := by rfl
@[simp] theorem State.pass_twin (s : State) : (s.pass).twin = s.twin := by rfl
@[simp] theorem State.pass_fabric (s : State) : (s.pass).fabric = s.fabric := by rfl
@[simp] theorem State.pass_graver (s : State) : (s.pass).graver = s.graver := by rfl
@[simp] theorem State.pass_mdap (s : State) : (s.pass).mdap = s.mdap := by rfl
@[simp] theorem State.pass_wire (s : State) : (s.pass).wire = s.wire := by rfl
@[simp] theorem State.pass_free (s : State) : (s.pass).free = s.free + 1 := by rfl
@[simp] theorem State.pass_pending (s : State) : (s.pass).pending = s.pending := by rfl

/-! ### send -/

@[simp] theorem State.send_dict (s : State) (m : Sent) : (s.send m).dict = s.dict := by
  unfold State.send; split <;> rfl
@[simp] theorem State.send_blobs (s : State) (m : Sent) : (s.send m).blobs = s.blobs := by
  unfold State.send; split <;> rfl
@[simp] theorem State.send_err (s : State) (m : Sent) : (s.send m).err = s.err := by
  unfold State.send; split <;> rfl
@[simp] theorem State.send_hist (s : State) (m : Sent) : (s.send m).hist = s.hist := by
  unfold State.send; split <;> rfl
@[simp] theorem State.send_time (s : State) (m : Sent) : (s.send m).time = s.time := by
  unfold State.send; split <;> rfl
@[simp] theorem State.send_timeline (s : State) (m : Sent) : (s.send m).timeline = s.timeline := by
  unfold State.send; split <;> rfl
@[simp] theorem State.send_cu (s : State) (m : Sent) : (s.send m).cu = s.cu := by
  unfold State.send; split <;> rfl
@[simp] theorem State.send_render (s : State) (m : Sent) : (s.send m).render = s.render := by
  unfold State.send; split <;> rfl
@[simp] theorem State.send_svc (s : State) (m : Sent) : (s.send m).svc = s.svc := by
  unfold State.send; split <;> rfl
@[simp] theorem State.send_nand (s : State) (m : Sent) : (s.send m).nand = s.nand := by
  unfold State.send; split <;> rfl
@[simp] theorem State.send_power (s : State) (m : Sent) : (s.send m).power = s.power := by
  unfold State.send; split <;> rfl
@[simp] theorem State.send_io (s : State) (m : Sent) : (s.send m).io = s.io := by
  unfold State.send; split <;> rfl
@[simp] theorem State.send_mem (s : State) (m : Sent) : (s.send m).mem = s.mem := by
  unfold State.send; split <;> rfl
@[simp] theorem State.send_ports (s : State) (m : Sent) : (s.send m).ports =
    if s.waits m then { s.ports with queued := m.into s.ports.queued } else s.ports := by
  unfold State.send; split <;> rfl
@[simp] theorem State.send_twin (s : State) (m : Sent) : (s.send m).twin = s.twin := by
  unfold State.send; split <;> rfl
@[simp] theorem State.send_fabric (s : State) (m : Sent) : (s.send m).fabric = s.fabric := by
  unfold State.send; split <;> rfl
@[simp] theorem State.send_graver (s : State) (m : Sent) : (s.send m).graver = s.graver := by
  unfold State.send; split <;> rfl
@[simp] theorem State.send_mdap (s : State) (m : Sent) : (s.send m).mdap = s.mdap := by
  unfold State.send; split <;> rfl
@[simp] theorem State.send_wire (s : State) (m : Sent) :
    (s.send m).wire = if s.waits m then s.wire else m :: s.wire := by
  unfold State.send; split <;> rfl
@[simp] theorem State.send_free (s : State) (m : Sent) : (s.send m).free = s.free := by
  unfold State.send; split <;> rfl
@[simp] theorem State.send_pending (s : State) (m : Sent) : (s.send m).pending = s.pending := by
  unfold State.send; split <;> rfl

/-! ### localEvent -/

@[simp] theorem State.localEvent_dict (s : State) : (s.localEvent).dict = s.dict := by rfl
@[simp] theorem State.localEvent_blobs (s : State) : (s.localEvent).blobs = s.blobs := by rfl
@[simp] theorem State.localEvent_err (s : State) : (s.localEvent).err = s.err := by rfl
@[simp] theorem State.localEvent_hist (s : State) : (s.localEvent).hist = s.hist := by rfl
@[simp] theorem State.localEvent_time (s : State) : (s.localEvent).time = s.time := by rfl
@[simp] theorem State.localEvent_timeline (s : State) : (s.localEvent).timeline = s.timeline := by rfl
@[simp] theorem State.localEvent_cu (s : State) : (s.localEvent).cu = s.cu := by rfl
@[simp] theorem State.localEvent_render (s : State) : (s.localEvent).render = s.render := by rfl
@[simp] theorem State.localEvent_svc (s : State) : (s.localEvent).svc = s.svc := by rfl
@[simp] theorem State.localEvent_nand (s : State) : (s.localEvent).nand = s.nand := by rfl
@[simp] theorem State.localEvent_power (s : State) : (s.localEvent).power = s.power := by rfl
@[simp] theorem State.localEvent_io (s : State) : (s.localEvent).io = s.io := by rfl
@[simp] theorem State.localEvent_mem (s : State) : (s.localEvent).mem = s.mem := by rfl
@[simp] theorem State.localEvent_ports (s : State) : (s.localEvent).ports = s.ports := by rfl
@[simp] theorem State.localEvent_twin (s : State) : (s.localEvent).twin = { s.twin with event := true } := by rfl
@[simp] theorem State.localEvent_fabric (s : State) : (s.localEvent).fabric = s.fabric := by rfl
@[simp] theorem State.localEvent_graver (s : State) : (s.localEvent).graver = s.graver := by rfl
@[simp] theorem State.localEvent_mdap (s : State) : (s.localEvent).mdap = s.mdap := by rfl
@[simp] theorem State.localEvent_wire (s : State) : (s.localEvent).wire = s.wire := by rfl
@[simp] theorem State.localEvent_free (s : State) : (s.localEvent).free = s.free := by rfl
@[simp] theorem State.localEvent_pending (s : State) : (s.localEvent).pending = s.pending := by rfl

/-! ### modDomain -/

@[simp] theorem State.modDomain_dict (s : State) (d : Nat) (f : Domain → Domain) :
    (s.modDomain d f).dict = s.dict := by rfl
@[simp] theorem State.modDomain_blobs (s : State) (d : Nat) (f : Domain → Domain) :
    (s.modDomain d f).blobs = s.blobs := by rfl
@[simp] theorem State.modDomain_err (s : State) (d : Nat) (f : Domain → Domain) :
    (s.modDomain d f).err = s.err := by rfl
@[simp] theorem State.modDomain_hist (s : State) (d : Nat) (f : Domain → Domain) :
    (s.modDomain d f).hist = s.hist := by rfl
@[simp] theorem State.modDomain_time (s : State) (d : Nat) (f : Domain → Domain) :
    (s.modDomain d f).time = { s.time with domains := modAt s.time.domains d f } := by rfl
@[simp] theorem State.modDomain_timeline (s : State) (d : Nat) (f : Domain → Domain) :
    (s.modDomain d f).timeline = s.timeline := by rfl
@[simp] theorem State.modDomain_cu (s : State) (d : Nat) (f : Domain → Domain) : (s.modDomain d f).cu = s.cu := by rfl
@[simp] theorem State.modDomain_render (s : State) (d : Nat) (f : Domain → Domain) :
    (s.modDomain d f).render = s.render := by rfl
@[simp] theorem State.modDomain_svc (s : State) (d : Nat) (f : Domain → Domain) :
    (s.modDomain d f).svc = s.svc := by rfl
@[simp] theorem State.modDomain_nand (s : State) (d : Nat) (f : Domain → Domain) :
    (s.modDomain d f).nand = s.nand := by rfl
@[simp] theorem State.modDomain_power (s : State) (d : Nat) (f : Domain → Domain) :
    (s.modDomain d f).power = s.power := by rfl
@[simp] theorem State.modDomain_io (s : State) (d : Nat) (f : Domain → Domain) : (s.modDomain d f).io = s.io := by rfl
@[simp] theorem State.modDomain_mem (s : State) (d : Nat) (f : Domain → Domain) :
    (s.modDomain d f).mem = s.mem := by rfl
@[simp] theorem State.modDomain_ports (s : State) (d : Nat) (f : Domain → Domain) :
    (s.modDomain d f).ports = s.ports := by rfl
@[simp] theorem State.modDomain_twin (s : State) (d : Nat) (f : Domain → Domain) :
    (s.modDomain d f).twin = s.twin := by rfl
@[simp] theorem State.modDomain_fabric (s : State) (d : Nat) (f : Domain → Domain) :
    (s.modDomain d f).fabric = s.fabric := by rfl
@[simp] theorem State.modDomain_graver (s : State) (d : Nat) (f : Domain → Domain) :
    (s.modDomain d f).graver = s.graver := by rfl
@[simp] theorem State.modDomain_mdap (s : State) (d : Nat) (f : Domain → Domain) :
    (s.modDomain d f).mdap = s.mdap := by rfl
@[simp] theorem State.modDomain_wire (s : State) (d : Nat) (f : Domain → Domain) :
    (s.modDomain d f).wire = s.wire := by rfl
@[simp] theorem State.modDomain_free (s : State) (d : Nat) (f : Domain → Domain) :
    (s.modDomain d f).free = s.free := by rfl
@[simp] theorem State.modDomain_pending (s : State) (d : Nat) (f : Domain → Domain) :
    (s.modDomain d f).pending = s.pending := by rfl

end Sys2Proof.Machine
end

