-- ==== Sys2Proof/Laws/Queue.lean ====
section
/-! SUPPORT. The queue of waiting commands, operation by operation: no operation of the machine changes it. -/

namespace Sys2Proof.Machine

set_option Elab.async false

open Sys2Proof

def outPending : Host.Outcome State Fault Refusal → Option (List Instr)
  | .next t => some t.pending
  | _ => none

@[simp] theorem outPending_next (t : State) : outPending (.next t) = some t.pending := rfl

@[simp] theorem foldl_pending {α : Type} (f : State → α → State) (h : ∀ t a, (f t a).pending = t.pending)
    (l : List α) (s : State) : (l.foldl f s).pending = s.pending := by
  induction l generalizing s with
  | nil => rfl
  | cons a l ih => simp [ih, h]
@[simp] theorem foldl_fst_pending {α β : Type} (f : State × β → α → State × β) (h : ∀ t a, (f t a).1.pending = t.1.pending)
    (l : List α) (s : State × β) : (l.foldl f s).1.pending = s.1.pending := by
  induction l generalizing s with
  | nil => rfl
  | cons a l ih => simp [ih, h]
@[simp] theorem ite_pending (c : Prop) [Decidable c] (a b : State) :
    (if c then a else b).pending = if c then a.pending else b.pending := by split <;> rfl
@[simp] theorem ite_outPending (c : Prop) [Decidable c] (a b : Host.Outcome State Fault Refusal) :
    outPending (if c then a else b) = if c then outPending a else outPending b := by split <;> rfl

@[simp] theorem ite_fst_pending {α : Type} (c : Prop) [Decidable c] (a b : State × α) :
    (if c then a else b).1.pending = if c then a.1.pending else b.1.pending := by split <;> rfl

@[simp] theorem State.keepMedia_pending (s : State) (f : State →
    State) (h : (f s).pending = s.pending) : (s.keepMedia f).pending = s.pending := h

@[simp] theorem State.drainPort_pending : ∀ (s : State) (p : Nat),
    (State.drainPort s p).pending = s.pending := by
  intros; unfold State.drainPort; (repeat' (first | split | (apply foldl_pending; intros))) <;> simp

@[simp] theorem State.raiseRec_pending : ∀ (s : State) (area index code : Nat) (sev : Severity) (repeats : Nat),
    (State.raiseRec s area index code sev repeats).pending = s.pending := by
  intros; simp [State.raiseRec]

@[simp] theorem State.error_pending : ∀ (s : State) (area index code : Nat) (sev : Severity),
    (State.error s area index code sev).pending = s.pending := by
  intros; simp [State.error]

@[simp] theorem State.histFrom_pending (s : State) (src sel : Nat) (v : F32) (n u : Nat)
    : (s.histFrom src sel v n u).pending = s.pending := by
  induction n generalizing s u with
  | zero => rfl
  | succ n ih => rw [State.histFrom]; simp only [ih]; split <;> rfl

@[simp] theorem State.histRecord_pending : ∀ (s : State) (src sel : Nat) (v : F32),
    (State.histRecord s src sel v).pending = s.pending := by
  intros; simp [State.histRecord]

@[simp] theorem State.histSnap_pending : ∀ (s : State) (u block : Nat),
    (State.histSnap s u block).pending = s.pending := by
  intros; simp [State.histSnap]

@[simp] theorem State.syntUpdate_pending : ∀ (s : State), (State.syntUpdate s).pending = s.pending := by
  intros; unfold State.syntUpdate; (repeat' (first | split | (apply foldl_pending; intros))); all_goals simp

@[simp] theorem execSyntSourceLoss_pending : ∀ (s : State), outPending (execSyntSourceLoss s) = some (s.pending) := by
  intros; simp [execSyntSourceLoss]; (repeat' split); all_goals simp

@[simp] theorem execSyntLock_pending : ∀ (offset : F32) (s : State),
    outPending (execSyntLock offset s) = some (s.pending) := by
  intros; simp [execSyntLock]

@[simp] theorem State.writeRate_pending : ∀ (s : State) (d : Nat) (r : Int),
    (State.writeRate s d r).pending = s.pending := by
  intros; simp [State.writeRate]

@[simp] theorem State.stepDomain_pending : ∀ (s : State) (d : Nat) (delta : Int),
    (State.stepDomain s d delta).pending = s.pending := by
  intros; rfl

@[simp] theorem State.moveShare_pending : ∀ (s : State) (from_ to_ : Nat),
    (State.moveShare s from_ to_).pending = s.pending := by
  intros; simp [State.moveShare]

@[simp] theorem State.switchSource_pending : ∀ (s : State) (src : Nat),
    (State.switchSource s src).pending = s.pending := by
  intros; simp [State.switchSource]

@[simp] theorem State.failoverTo_pending : ∀ (s : State) (src : Nat),
    (State.failoverTo s src).pending = s.pending := by
  intros; simp [State.failoverTo]

@[simp] theorem State.noteUsable_pending : ∀ (s : State), (State.noteUsable s).pending = s.pending := by
  intros; simp [State.noteUsable]

@[simp] theorem State.evalSource_pending : ∀ (s : State), (State.evalSource s).pending = s.pending := by
  intros; simp [State.evalSource]

@[simp] theorem State.bridgeTest_pending : ∀ (s : State) (k : Nat), (State.bridgeTest s k).pending = s.pending := by
  intros; simp [State.bridgeTest]

@[simp] theorem State.spoilOutputs_pending : ∀ (s : State) (p : Nat → Bool),
    (State.spoilOutputs s p).pending = s.pending := by
  intros; simp [State.spoilOutputs]

@[simp] theorem State.mediaStep_pending : ∀ (s : State) (k : Nat), (State.mediaStep s k).pending = s.pending := by
  intros; simp [State.mediaStep]

@[simp] theorem execMediaStep_pending : ∀ (s : State), outPending (execMediaStep s) = some (s.pending) := by
  intros; unfold execMediaStep; split <;> simp

@[simp] theorem execMediaRevert_pending : ∀ (s : State), outPending (execMediaRevert s) = some (s.pending) := by
  intros; simp [execMediaRevert]

@[simp] theorem execTimebaseTick_pending : ∀ (s : State), outPending (execTimebaseTick s) = some (s.pending) := by
  intros; simp [execTimebaseTick]

@[simp] theorem State.ptpSend_pending : ∀ (s : State) (d port : Nat) (kind : String) (event : Bool) (fields : List Nat),
    (State.ptpSend s d port kind event fields).pending = s.pending := by
  intros; unfold State.ptpSend; (repeat' (first | split | (apply foldl_pending; intros))) <;> simp

@[simp] theorem State.acquire_pending : ∀ (s : State) (d : Nat), (State.acquire s d).pending = s.pending := by
  intros; simp [State.acquire]

@[simp] theorem State.showMaster_pending : ∀ (s : State) (d : Nat) (m : Master),
    (State.showMaster s d m).pending = s.pending := by
  intros; simp [State.showMaster]

@[simp] theorem execPtpAnnounce_pending : ∀ (d : Fin 2) (f : PtpIn) (m0 : Master) (s : State),
    outPending (execPtpAnnounce d f m0 s) = some (s.pending) := by
  intros; simp [execPtpAnnounce]; (repeat' split); all_goals simp

@[simp] theorem State.servo_pending : ∀ (s : State) (d : Nat) (offset : Int),
    (State.servo s d offset).pending = s.pending := by
  intros; simp [State.servo]

@[simp] theorem State.offsetMoves_pending : ∀ (s : State) (d : Nat) (offset : Int),
    (State.offsetMoves s d offset).pending = s.pending := by
  intros; simp [State.offsetMoves]

@[simp] theorem State.setPath_pending : ∀ (s : State) (d port : Nat) (delay : Int),
    (State.setPath s d port delay).pending = s.pending := by
  intros; unfold State.setPath; (repeat' (first | split | (apply foldl_pending; intros))) <;> simp

@[simp] theorem State.processSync_pending : ∀ (s : State) (d port : Nat) (origin receipt : Int),
    (State.processSync s d port origin receipt).pending = s.pending := by
  intros; simp [State.processSync]

@[simp] theorem execPtpSync_pending : ∀ (d : Fin 2) (f : PtpIn) (sender seq : Nat) (twoStep : Bool) (origin atLand : Int) (s : State),
    outPending (execPtpSync d f sender seq twoStep origin atLand s) = some (s.pending) := by
  intros; simp [execPtpSync]; (repeat' split); all_goals simp

@[simp] theorem State.domainTimeout_pending : ∀ (s : State) (d : Nat),
    (State.domainTimeout s d).pending = s.pending := by
  intros; simp [State.domainTimeout]

@[simp] theorem execAnnounceTimeout_pending : ∀ (d : Fin 2) (s : State),
    outPending (execAnnounceTimeout d s) = some (s.pending) := by
  intros; simp [execAnnounceTimeout]

@[simp] theorem execSyncTimeout_pending : ∀ (d : Fin 2) (s : State),
    outPending (execSyncTimeout d s) = some (s.pending) := by
  intros; simp [execSyncTimeout]

@[simp] theorem execHoldoverLimitExpire_pending : ∀ (d : Fin 2) (s : State),
    outPending (execHoldoverLimitExpire d s) = some (s.pending) := by
  intros; simp [execHoldoverLimitExpire]

@[simp] theorem State.ptpSendAll_pending : ∀ (s : State) (d : Nat) (ports : List Nat) (kind : String) (fields : List Nat),
    (State.ptpSendAll s d ports kind fields).pending = s.pending := by
  intros; unfold State.ptpSendAll; (repeat' (first | split | (apply foldl_pending; intros))) <;> simp

@[simp] theorem State.sendPdelay_pending : ∀ (s : State) (d seq : Nat) (ports : List Nat),
    (State.sendPdelay s d seq ports).pending = s.pending := by
  intros; unfold State.sendPdelay; (repeat' (first | split | (apply foldl_pending; intros))) <;> simp

@[simp] theorem State.sendSync_pending : ∀ (s : State) (d seq : Nat) (ports : List Nat),
    (State.sendSync s d seq ports).pending = s.pending := by
  intros; simp [State.sendSync]

@[simp] theorem execPtpMasterTimer_pending : ∀ (d : Fin 2) (timer : PtpTimer) (s : State),
    outPending (execPtpMasterTimer d timer s) = some (s.pending) := by
  intros; unfold execPtpMasterTimer; (repeat' (first | split | (apply foldl_pending; intros))); all_goals simp

@[simp] theorem execPtpPathDelayMessage_pending : ∀ (d : Fin 2) (f : PtpIn) (msg : PtpMessage) (s : State),
    outPending (execPtpPathDelayMessage d f msg s) = some (s.pending) := by
  intros; simp [execPtpPathDelayMessage]; (repeat' split); all_goals simp

@[simp] theorem State.domStop_pending : ∀ (s : State) (d : Nat),
    (State.domStop s d).pending = s.pending := by
  intros; unfold State.domStop; (repeat' (first | split | (apply foldl_pending; intros))) <;> simp

@[simp] theorem State.domEnable_pending : ∀ (s : State) (d v : Nat), (State.domEnable s d v).pending = s.pending := by
  intros; simp [State.domEnable]

@[simp] theorem State.wclkDivide_pending : ∀ (s : State),
    (State.wclkDivide s).pending = s.pending := by
  intros; unfold State.wclkDivide; (repeat' (first | split | (apply foldl_pending; intros))) <;> simp

@[simp] theorem execWclkEdge_pending : ∀ (s : State), outPending (execWclkEdge s) = some (s.pending) := by
  intros; simp [execWclkEdge]

@[simp] theorem execWclkLost_pending : ∀ (s : State), outPending (execWclkLost s) = some (s.pending) := by
  intros; simp [execWclkLost]

@[simp] theorem State.driveMclk_pending : ∀ (s : State),
    (State.driveMclk s).pending = s.pending := by
  intros; unfold State.driveMclk; (repeat' (first | split | (apply foldl_pending; intros))) <;> simp

@[simp] theorem State.apllStart_pending : ∀ (s : State), (State.apllStart s).pending = s.pending := by
  intros; simp [State.apllStart]

@[simp] theorem State.apllStop_pending : ∀ (s : State), (State.apllStop s).pending = s.pending := by
  intros; simp [State.apllStop]

@[simp] theorem State.clockBlock_pending : ∀ (s : State) (k : Nat),
    (State.clockBlock s k).pending = s.pending := by
  intros; unfold State.clockBlock; (repeat' (first | split | (apply foldl_pending; intros))) <;> simp

@[simp] theorem execApllLock_pending : ∀ (phase : F32) (s : State),
    outPending (execApllLock phase s) = some (s.pending) := by
  intros; simp [execApllLock]

@[simp] theorem execApllUnlock_pending : ∀ (phase : F32) (s : State),
    outPending (execApllUnlock phase s) = some (s.pending) := by
  intros; simp [execApllUnlock]

@[simp] theorem State.modPin_pending : ∀ (s : State) (p : Nat) (f : EventPin → EventPin),
    (State.modPin s p f).pending = s.pending := by
  intros; simp [State.modPin]

@[simp] theorem State.pinFlag_pending : ∀ (s : State) (p bit : Nat), (State.pinFlag s p bit).pending = s.pending := by
  intros; simp [State.pinFlag]

@[simp] theorem State.produce_pending : ∀ (s : State) (p at_ : Nat),
    (State.produce s p at_).pending = s.pending := by
  intros; unfold State.produce; (repeat' (first | split | (apply foldl_pending; intros))) <;> simp

@[simp] theorem State.rearm_pending : ∀ (s : State) (p : Nat), (State.rearm s p).pending = s.pending := by
  intros; simp [State.rearm]

@[simp] theorem execEventPulse_pending : ∀ (pin : Fin 6) (skipped : Bool) (s : State),
    outPending (execEventPulse pin skipped s) = some (s.pending) := by
  intros; simp [execEventPulse]

@[simp] theorem State.showCaptures_pending : ∀ (s : State) (p : Nat),
    (State.showCaptures s p).pending = s.pending := by
  intros; simp [State.showCaptures]; (repeat' split); all_goals simp

@[simp] theorem execEventCapture_pending : ∀ (pin : Fin 6) (e : PinEdge) (s : State),
    outPending (execEventCapture pin e s) = some (s.pending) := by
  intros; simp [execEventCapture]

@[simp] theorem State.popCapture_pending : ∀ (s : State) (p : Nat), (State.popCapture s p).pending = s.pending := by
  intros; simp [State.popCapture]

@[simp] theorem State.setMap_pending : ∀ (s : State) (st : Int) (nt rate : Nat),
    (State.setMap s st nt rate).pending = s.pending := by
  intros; simp [State.setMap]

@[simp] theorem State.showRun_pending : ∀ (s : State) (k : Nat) (v : Bool),
    (State.showRun s k v).pending = s.pending := by
  intros; simp [State.showRun]

@[simp] theorem State.showJump_pending : ∀ (s : State) (k : Nat) (j : Int),
    (State.showJump s k j).pending = s.pending := by
  intros; simp [State.showJump]

@[simp] theorem State.showSetRate_pending : ∀ (s : State) (k r : Nat),
    (State.showSetRate s k r).pending = s.pending := by
  intros; simp [State.showSetRate]

@[simp] theorem execShowRun_pending : ∀ (v : Bool) (s : State), outPending (execShowRun v s) = some (s.pending) := by
  intros; simp [execShowRun]

@[simp] theorem execShowSetRate_pending : ∀ (r : Nat) (s : State),
    outPending (execShowSetRate r s) = some (s.pending) := by
  intros; simp [execShowSetRate]

@[simp] theorem State.modLtc_pending : ∀ (s : State) (f : LtcTracker → LtcTracker),
    (State.modLtc s f).pending = s.pending := by
  intros; simp [State.modLtc]

@[simp] theorem State.askReanchor_pending : ∀ (s : State), (State.askReanchor s).pending = s.pending := by
  intros; simp [State.askReanchor]

@[simp] theorem execLtcFrame_pending : ∀ (h mi sec f user : Nat) (start : Int) (s : State),
    outPending (execLtcFrame h mi sec f user start s) = some (s.pending) := by
  intros; simp [execLtcFrame]

@[simp] theorem execLtcLoss_pending : ∀ (s : State), outPending (execLtcLoss s) = some (s.pending) := by
  intros; simp [execLtcLoss]

@[simp] theorem execLtcFreewheelExpire_pending : ∀ (s : State),
    outPending (execLtcFreewheelExpire s) = some (s.pending) := by
  intros; simp [execLtcFreewheelExpire]

@[simp] theorem execLtcOutFrame_pending : ∀ (s : State), outPending (execLtcOutFrame s) = some (s.pending) := by
  intros; simp [execLtcOutFrame]

@[simp] theorem State.modMark_pending : ∀ (s : State) (j : Nat) (f : OutMark → OutMark),
    (State.modMark s j f).pending = s.pending := by
  intros; simp [State.modMark]

@[simp] theorem State.startTri_pending : ∀ (s : State) (k : Nat), (State.startTri s k).pending = s.pending := by
  intros; simp [State.startTri]

@[simp] theorem State.loadTri_pending : ∀ (s : State), (State.loadTri s).pending = s.pending := by
  intros; simp [State.loadTri]

@[simp] theorem execTriangulationDone_pending : ∀ (s : State),
    outPending (execTriangulationDone s) = some (s.pending) := by
  intros; simp [execTriangulationDone]

@[simp] theorem State.swapTri_pending : ∀ (s : State), (State.swapTri s).pending = s.pending := by
  intros; unfold State.swapTri; split <;> simp

@[simp] theorem State.swapDue_pending : ∀ (s : State) (k x0 : Nat), (State.swapDue s k x0).pending = s.pending := by
  intro s k x0; fun_induction State.swapDue s k x0 <;> simp_all

@[simp] theorem execTriangulationSwap_pending : ∀ (s : State),
    outPending (execTriangulationSwap s) = some (s.pending) := by
  intros; simp [execTriangulationSwap]

@[simp] theorem State.clearFail_pending : ∀ (s : State) (j : Nat), (State.clearFail s j).pending = s.pending := by
  intros; simp [State.clearFail]

@[simp] theorem execLstClearFail_pending : ∀ (j : Fin 1024) (s : State),
    outPending (execLstClearFail j s) = some (s.pending) := by
  intros; simp [execLstClearFail]

@[simp] theorem State.recomputeShed_pending : ∀ (s : State), (State.recomputeShed s).pending = s.pending := by
  intros; unfold State.recomputeShed; split <;> simp

@[simp] theorem State.arbitrate_pending : ∀ (s : State) (k : Nat), (State.arbitrate s k).pending = s.pending := by
  intros; simp [State.arbitrate]

@[simp] theorem State.putInput_pending : ∀ (s : State) (b : InBlock), (State.putInput s b).pending = s.pending := by
  intros; simp [State.putInput]

@[simp] theorem State.placeSample_pending : ∀ (s : State) (kind ch n : Nat) (x : F32) (w : Nat),
    (State.placeSample s kind ch n x w).pending = s.pending := by
  intros; simp [State.placeSample]

@[simp] theorem State.putLast_pending : ∀ (s : State) (kind ch : Nat) (x : F32),
    (State.putLast s kind ch x).pending = s.pending := by
  intros; simp [State.putLast]

@[simp] theorem State.closeInput_pending : ∀ (s : State) (kind ch k : Nat) (hold : Bool) (w : Nat),
    (State.closeInput s kind ch k hold w).pending = s.pending := by
  intros; simp [State.closeInput]

@[simp] theorem State.pruneInputs_pending : ∀ (s : State) (k : Nat), (State.pruneInputs s k).pending = s.pending := by
  intros; simp [State.pruneInputs]

@[simp] theorem State.sendLace_pending : ∀ (s : State) (n type : Nat) (body : List Byte),
    (State.sendLace s n type body).pending = s.pending := by
  intros; unfold State.sendLace; split <;> simp

@[simp] theorem State.setHealth_pending : ∀ (s : State) (mask : Nat) (on : Bool),
    (State.setHealth s mask on).pending = s.pending := by
  intros; simp [State.setHealth]

@[simp] theorem State.enter_pending : ∀ (s : State) (block : Nat) (act : JournalAct) (held : Option Held),
    (State.enter s block act held).pending = s.pending := by
  intros; simp [State.enter]

@[simp] theorem State.grantAhead_pending : ∀ (s : State),
    (State.grantAhead s).pending = s.pending := by
  intros; unfold State.grantAhead; dsimp only []; split <;> simp

@[simp] theorem State.hold_pending : ∀ (s : State) (block : Nat) (act : JournalAct) (h : Held),
    (State.hold s block act h).pending = s.pending := by
  intros; simp [State.hold]

@[simp] theorem State.heldValues_pending (s : State) (h : Held) (more : State → List (Nat × Nat)) (f : State →
    State) (hf : (f s).pending = s.pending) : (s.heldValues h more f).pending = s.pending := by
  unfold State.heldValues; split
  · simp
  · exact hf

@[simp] theorem State.foldRange_pending : ∀ (s : State) (k lo hi : Nat),
    (State.foldRange s k lo hi).pending = s.pending := by
  intros; simp [State.foldRange]

@[simp] theorem State.closeWindow_pending : ∀ (s : State) (n0 e : Nat),
    (State.closeWindow s n0 e).pending = s.pending := by
  intros; simp [State.closeWindow]

@[simp] theorem State.foldBlock_pending : ∀ (s : State) (k : Nat), (State.foldBlock s k).pending = s.pending := by
  intros; unfold State.foldBlock; (repeat' (first | split | (apply foldl_pending; intros))); all_goals simp

@[simp] theorem execIntegrationWindowEnd_pending : ∀ (s : State),
    outPending (execIntegrationWindowEnd s) = some (s.pending) := by
  intros; unfold execIntegrationWindowEnd; split <;> simp

@[simp] theorem State.putRun_pending : ∀ (s : State) (r : PfRun), (State.putRun s r).pending = s.pending := by
  intros; simp [State.putRun]

@[simp] theorem State.suspect_pending : ∀ (s : State) (j : Nat), (State.suspect s j).pending = s.pending := by
  intros; simp [State.suspect]

@[simp] theorem State.declareFailed_pending : ∀ (s : State) (j : Nat),
    (State.declareFailed s j).pending = s.pending := by
  intros; simp [State.declareFailed]

@[simp] theorem State.judgeOutput_pending : ∀ (s : State) (j : Nat) (kind : VerdictKind) (lineBad lineFail : Bool),
    (State.judgeOutput s j kind lineBad lineFail).pending = s.pending := by
  intros; simp [State.judgeOutput]

@[simp] theorem State.applyVerdict_pending : ∀ (s : State) (j v : Nat),
    (State.applyVerdict s j v).pending = s.pending := by
  intros; simp [State.applyVerdict]

@[simp] theorem State.captureRef_pending : ∀ (s : State) (j : Nat) (h : List F32),
    (State.captureRef s j h).pending = s.pending := by
  intros; simp [State.captureRef]

@[simp] theorem State.tryCapture_pending : ∀ (s : State) (j : Nat) (h : List F32) (q : F32) (usable : Bool),
    (State.tryCapture s j h q usable).pending = s.pending := by
  intros; unfold State.tryCapture; split <;> simp

@[simp] theorem State.proofVerdict_pending : ∀ (s : State) (j : Nat),
    (State.proofVerdict s j).pending = s.pending := by
  intros; unfold State.proofVerdict; split <;> simp

@[simp] theorem execProofVerdict_pending : ∀ (j : Fin 1024) (s : State),
    outPending (execProofVerdict j s) = some (s.pending) := by
  intros; simp [execProofVerdict]

@[simp] theorem execPfRefCapture_pending : ∀ (j : Fin 1024) (s : State),
    outPending (execPfRefCapture j s) = some (s.pending) := by
  intros; simp [execPfRefCapture]

@[simp] theorem State.openProof_pending : ∀ (s : State) (e : Nat), (State.openProof s e).pending = s.pending := by
  intros; simp [State.openProof]

@[simp] theorem State.closeProof_pending : ∀ (s : State), (State.closeProof s).pending = s.pending := by
  intros; simp [State.closeProof]

@[simp] theorem State.pfWindowOpen_pending : ∀ (s : State) (k d : Nat),
    (State.pfWindowOpen s k d).pending = s.pending := by
  intros; simp [State.pfWindowOpen]

@[simp] theorem execPfWindowOpen_pending : ∀ (d : Nat) (s : State),
    outPending (execPfWindowOpen d s) = some (s.pending) := by
  intros; simp [execPfWindowOpen]

@[simp] theorem execProofWindowClose_pending : ∀ (s : State),
    outPending (execProofWindowClose s) = some (s.pending) := by
  intros; simp [execProofWindowClose]

@[simp] theorem State.proofDue_pending : ∀ (s : State) (k : Nat), (State.proofDue s k).pending = s.pending := by
  intros; simp [State.proofDue]

@[simp] theorem State.putLine_pending : ∀ (s : State) (x : Line), (State.putLine s x).pending = s.pending := by
  intros; simp [State.putLine]

@[simp] theorem State.senseBlock_pending : ∀ (s : State) (k l : Nat),
    (State.senseBlock s k l).pending = s.pending := by
  intros; simp [State.senseBlock]

@[simp] theorem State.senseAll_pending : ∀ (s : State) (k : Nat), (State.senseAll s k).pending = s.pending := by
  intros; simp [State.senseAll]

@[simp] theorem execLsPhase_pending : ∀ (l : Fin 16) (s : State),
    outPending (execLsPhase l s) = some (s.pending) := by
  intros; simp [execLsPhase]

@[simp] theorem State.linePeriod_pending : ∀ (s : State) (l : Nat), (State.linePeriod s l).pending = s.pending := by
  intros; simp [State.linePeriod]

@[simp] theorem execLsPeriodEnd_pending : ∀ (l : Fin 16) (s : State),
    outPending (execLsPeriodEnd l s) = some (s.pending) := by
  intros; simp [execLsPeriodEnd]

@[simp] theorem execLsLearn_pending : ∀ (l : Fin 16) (s : State),
    outPending (execLsLearn l s) = some (s.pending) := by
  intros; simp [execLsLearn]

@[simp] theorem State.proofRelease_pending : ∀ (s : State), (State.proofRelease s).pending = s.pending := by
  intros; simp [State.proofRelease]

@[simp] theorem State.storeBlob_pending : ∀ (s : State) (o : Obj) (i : Nat),
    (State.storeBlob s o i).pending = s.pending := by
  intros; simp [State.storeBlob]

@[simp] theorem execEtchPersist_pending : ∀ (j : Fin 1024) (s : State),
    outPending (execEtchPersist j s) = some (s.pending) := by
  intros; simp [execEtchPersist]

@[simp] theorem execClipPersist_pending : ∀ (n : Fin 1024) (s : State),
    outPending (execClipPersist n s) = some (s.pending) := by
  intros; simp [execClipPersist]

@[simp] theorem execPfRefPersist_pending : ∀ (j : Fin 1024) (s : State),
    outPending (execPfRefPersist j s) = some (s.pending) := by
  intros; simp [execPfRefPersist]

@[simp] theorem execClipLoadDone_pending : ∀ (n : Fin 1024) (s : State),
    outPending (execClipLoadDone n s) = some (s.pending) := by
  intros; simp [execClipLoadDone]

@[simp] theorem State.putVoice_pending : ∀ (s : State) (x : VoiceRun) (st : Nat),
    (State.putVoice s x st).pending = s.pending := by
  intros; simp [State.putVoice]

@[simp] theorem State.idleVoice_pending : ∀ (s : State) (v : Nat), (State.idleVoice s v).pending = s.pending := by
  intros; simp [State.idleVoice]

@[simp] theorem State.stopVoice_pending : ∀ (s : State) (v : Nat), (State.stopVoice s v).pending = s.pending := by
  intros; unfold State.stopVoice; split <;> simp

@[simp] theorem State.startVoice_pending : ∀ (s : State) (v : Nat), (State.startVoice s v).pending = s.pending := by
  intros; simp [State.startVoice]

@[simp] theorem execVoiceStart_pending : ∀ (v : Fin 64) (s : State),
    outPending (execVoiceStart v s) = some (s.pending) := by
  intros; simp [execVoiceStart]

@[simp] theorem execVoiceStop_pending : ∀ (v : Fin 64) (s : State),
    outPending (execVoiceStop v s) = some (s.pending) := by
  intros; simp [execVoiceStop]

@[simp] theorem execVoiceLoopEnd_pending : ∀ (v : Fin 64) (s : State),
    outPending (execVoiceLoopEnd v s) = some (s.pending) := by
  intros; unfold execVoiceLoopEnd; split <;> simp

@[simp] theorem State.bindVoice_pending : ∀ (s : State) (x : VoiceRun),
    (State.bindVoice s x).pending = s.pending := by
  intros; simp [State.bindVoice]

@[simp] theorem State.voiceBlock_pending : ∀ (s : State) (k : Nat) (x : VoiceRun),
    (State.voiceBlock s k x).pending = s.pending := by
  intros; unfold State.voiceBlock; (repeat' (first | split | (apply foldl_pending; intros))); all_goals simp

@[simp] theorem State.endVoices_pending : ∀ (s : State), (State.endVoices s).pending = s.pending := by
  intros; simp [State.endVoices]

@[simp] theorem State.bindVoices_pending : ∀ (s : State), (State.bindVoices s).pending = s.pending := by
  intros; simp [State.bindVoices]

@[simp] theorem State.voicesBoundary_pending : ∀ (s : State) (k : Nat),
    (State.voicesBoundary s k).pending = s.pending := by
  intros; simp [State.voicesBoundary]

@[simp] theorem State.putTracker_pending : ∀ (s : State) (x : Tracker),
    (State.putTracker s x).pending = s.pending := by
  intros; simp [State.putTracker]

@[simp] theorem State.trackBlock_pending : ∀ (s : State) (k n : Nat),
    (State.trackBlock s k n).pending = s.pending := by
  intros; simp [State.trackBlock]

@[simp] theorem State.trackAll_pending : ∀ (s : State) (k : Nat), (State.trackAll s k).pending = s.pending := by
  intros; simp [State.trackAll]

@[simp] theorem execAmbWindowEnd_pending : ∀ (n : Fin 256) (s : State),
    outPending (execAmbWindowEnd n s) = some (s.pending) := by
  intros; simp [execAmbWindowEnd]

@[simp] theorem State.meterBlock_pending : ∀ (s : State) (key : Nat) (x : List F32),
    (State.meterBlock s key x).pending = s.pending := by
  intros; simp [State.meterBlock]

@[simp] theorem State.clearMeters_pending : ∀ (s : State), (State.clearMeters s).pending = s.pending := by
  intros; unfold State.clearMeters; simp only []; refine (foldl_pending _ ?_ _ _).trans rfl; intros; simp

@[simp] theorem State.silenceBlock_pending : ∀ (s : State) (j : Nat) (silent loud : Bool),
    (State.silenceBlock s j silent loud).pending = s.pending := by
  intros; simp [State.silenceBlock]

@[simp] theorem execSilenceTimeout_pending : ∀ (j : Fin 1024) (s : State),
    outPending (execSilenceTimeout j s) = some (s.pending) := by
  intros; simp [execSilenceTimeout]

@[simp] theorem State.standbyBoundary_pending : ∀ (s : State), (State.standbyBoundary s).pending = s.pending := by
  intros; simp [State.standbyBoundary]

@[simp] theorem State.sceneBoundary_pending : ∀ (s : State) (k : Nat) (jumped : Bool),
    (State.sceneBoundary s k jumped).pending = s.pending := by
  intros; simp [State.sceneBoundary]

@[simp] theorem State.rewrite_pending : ∀ (s : State) (objs : List SlotObj) (k : Nat → Nat) (pairs : List (Nat × Nat)),
    (State.rewrite s objs k pairs).pending = s.pending := by
  intros; unfold State.rewrite; (repeat' (first | split | (apply foldl_pending; intros))) <;> simp

@[simp] theorem State.stageRewrite_pending : ∀ (s : State) (k : Nat),
    (State.stageRewrite s k).pending = s.pending := by
  intros; unfold State.stageRewrite; split <;> rfl

@[simp] theorem State.settleDram_pending : ∀ (s : State) (m : Nat) (outs : List OutRec) (old : List Chain),
    (State.settleDram s m outs old).pending = s.pending := by
  intros; unfold State.settleDram; split
  · rfl
  · refine (State.pass_pending _).trans ?_
    apply foldl_pending
    intros; dsimp only []; (repeat' split) <;> simp

@[simp] theorem State.runChains_pending : ∀ (s : State) (m : Nat) (outs : List OutRec) (feeds : List Feed),
    (State.runChains s m outs feeds).pending = s.pending := by
  intros; simp [State.runChains]

@[simp] theorem State.renderSlot_pending : ∀ (s : State) (missing : List Nat) (ohm pairErr : List (Nat × Nat)),
    (State.renderSlot s missing ohm pairErr).pending = s.pending := by
  intros; simp [State.renderSlot]

@[simp] theorem execRenderSlot_pending : ∀ (missing : List (Fin 16)) (ohm pairErr : List (Nat × Nat)) (s : State),
    outPending (execRenderSlot missing ohm pairErr s) = some (s.pending) := by
  intros; simp [execRenderSlot]

@[simp] theorem execWeltDeadline_pending : ∀ (j : Fin 1024) (s : State),
    outPending (execWeltDeadline j s) = some (s.pending) := by
  intros; simp [execWeltDeadline]; (repeat' split); all_goals simp

@[simp] theorem execOutchainDeadline_pending : ∀ (j : Fin 1024) (s : State),
    outPending (execOutchainDeadline j s) = some (s.pending) := by
  intros; simp [execOutchainDeadline]

@[simp] theorem State.presentOut_pending : ∀ (s : State) (k : Nat) (c : Chain),
    (Prod.fst (State.presentOut s k c)).pending = s.pending := by
  intros; simp [State.presentOut]

@[simp] theorem State.presentOuts_pending (s : State) (k : Nat) (l : List Chain) : (s.presentOuts k l).1.pending =
    s.pending := by
  induction l generalizing s with
  | nil => rfl
  | cons c l ih => simp [State.presentOuts, ih]

@[simp] theorem State.chainReport_pending : ∀ (s : State) (c : Chain),
    (State.chainReport s c).pending = s.pending := by
  intros; simp [State.chainReport]; (repeat' split); all_goals simp

@[simp] theorem State.etchReport_pending : ∀ (s : State) (j : Nat),
    (State.etchReport s j).pending = s.pending := by
  intros; unfold State.etchReport; (repeat' (first | split | (apply foldl_pending; intros))) <;> simp

@[simp] theorem State.presentReport_pending : ∀ (s : State) (c : Chain),
    (State.presentReport s c).pending = s.pending := by
  intros; simp [State.presentReport]

@[simp] theorem State.presentQuiet_pending : ∀ (s : State) (k : Nat),
    (State.presentQuiet s k).pending = s.pending := by
  intros; simp [State.presentQuiet]

@[simp] theorem State.present_pending : ∀ (s : State) (k : Nat), (State.present s k).pending = s.pending := by
  intros; unfold State.present; (repeat' (first | split | (apply foldl_pending; intros))); all_goals simp

@[simp] theorem execEtchTransformDone_pending : ∀ (j : Fin 1024) (s : State),
    outPending (execEtchTransformDone j s) = some (s.pending) := by
  intros; simp [execEtchTransformDone]; (repeat' split); all_goals simp

@[simp] theorem execEtchXfadeComplete_pending : ∀ (j : Fin 1024) (s : State),
    outPending (execEtchXfadeComplete j s) = some (s.pending) := by
  intros; simp [execEtchXfadeComplete]

@[simp] theorem execStepperTimeout_pending : ∀ (j : Fin 1024) (s : State),
    outPending (execStepperTimeout j s) = some (s.pending) := by
  intros; simp [execStepperTimeout]

@[simp] theorem State.putSide_pending : ∀ (s : State) (x : SideNow), (State.putSide s x).pending = s.pending := by
  intros; simp [State.putSide]

@[simp] theorem State.setSideState_pending : ∀ (s : State) (n v : Nat),
    (State.setSideState s n v).pending = s.pending := by
  intros; simp [State.setSideState]

@[simp] theorem State.restartSide_pending : ∀ (s : State) (k n : Nat),
    (State.restartSide s k n).pending = s.pending := by
  intros; simp [State.restartSide]

@[simp] theorem State.trackFrame_pending : ∀ (s : State) (side n : Nat) (dist : Int),
    (Prod.fst (State.trackFrame s side n dist)).pending = s.pending := by
  intros; simp [State.trackFrame]

@[simp] theorem State.placeSlots_pending (s : State) (side n bits k : Nat) (l : List Nat)
    : (s.placeSlots side n bits k l).pending = s.pending := by
  induction l generalizing s k with
  | nil => rfl
  | cons w l ih => rw [State.placeSlots]; simp only [ih]; split <;> simp

@[simp] theorem State.portsResume_pending : ∀ (s : State),
    (State.portsResume s).pending = s.pending := by
  intros; unfold State.portsResume; (repeat' (first | split | (apply foldl_pending; intros))) <;> simp

@[simp] theorem execSpFrameRx_pending : ∀ (port : Fin 8) (t : Int) (words : List Nat) (s : State),
    outPending (execSpFrameRx port t words s) = some (s.pending) := by
  intros; simp [execSpFrameRx]

@[simp] theorem execSpFrameTx_pending : ∀ (port : Fin 8) (n : Nat) (s : State),
    outPending (execSpFrameTx port n s) = some (s.pending) := by
  intros; simp [execSpFrameTx]

@[simp] theorem execSpClockLost_pending : ∀ (side : Fin 16) (s : State),
    outPending (execSpClockLost side s) = some (s.pending) := by
  intros; simp [execSpClockLost]

@[simp] theorem execSpClockRestore_pending : ∀ (side : Fin 16) (s : State),
    outPending (execSpClockRestore side s) = some (s.pending) := by
  intros; simp [execSpClockRestore]

@[simp] theorem State.asrcSlot_pending : ∀ (s : State) (k side slot w : Nat),
    (State.asrcSlot s k side slot w).pending = s.pending := by
  intros; simp [State.asrcSlot]

@[simp] theorem State.closeSide_pending : ∀ (s : State) (k side : Nat),
    (State.closeSide s k side).pending = s.pending := by
  intros; simp [State.closeSide]

@[simp] theorem State.trackRatio_pending : ∀ (s : State) (side : Nat),
    (State.trackRatio s side).pending = s.pending := by
  intros; simp [State.trackRatio]

@[simp] theorem State.sideBoundary_pending : ∀ (s : State) (k side : Nat),
    (State.sideBoundary s k side).pending = s.pending := by
  intros; simp [State.sideBoundary]

@[simp] theorem State.aesBlock_pending : ∀ (s : State) (r : Nat) (x : AesRx),
    (State.aesBlock s r x).pending = s.pending := by
  intros; simp [State.aesBlock]

@[simp] theorem State.placeSub_pending : ∀ (s : State) (r sub n : Nat) (x : AesSub),
    (State.placeSub s r sub n x).pending = s.pending := by
  intros; simp [State.placeSub]

@[simp] theorem State.aesReturn_pending : ∀ (s : State) (r good : Nat),
    (State.aesReturn s r good).pending = s.pending := by
  intros; unfold State.aesReturn; dsimp only []; split <;> simp

@[simp] theorem execAesFrameRx_pending : ∀ (r : Fin 4) (t : Int) (z : Bool) (a b : AesSub) (s : State),
    outPending (execAesFrameRx r t z a b s) = some (s.pending) := by
  intros; simp [execAesFrameRx]

@[simp] theorem execAesRxLost_pending : ∀ (r : Fin 4) (s : State),
    outPending (execAesRxLost r s) = some (s.pending) := by
  intros; simp [execAesRxLost]

@[simp] theorem State.aesTxBoundary_pending : ∀ (s : State) (k t : Nat),
    (State.aesTxBoundary s k t).pending = s.pending := by
  intros; simp [State.aesTxBoundary]

@[simp] theorem execAesFrameTx_pending : ∀ (t : Fin 4) (n : Nat) (s : State),
    outPending (execAesFrameTx t n s) = some (s.pending) := by
  intros; simp [execAesFrameTx]

@[simp] theorem State.putPdm_pending : ∀ (s : State) (x : PdmCh), (State.putPdm s x).pending = s.pending := by
  intros; simp [State.putPdm]

@[simp] theorem State.pdmSync_pending : ∀ (s : State) (k c : Nat), (State.pdmSync s k c).pending = s.pending := by
  intros; simp [State.pdmSync]

@[simp] theorem execPdmChSync_pending : ∀ (c : Fin 32) (s : State),
    outPending (execPdmChSync c s) = some (s.pending) := by
  intros; simp [execPdmChSync]

@[simp] theorem State.closePdm_pending : ∀ (s : State) (k c : Nat), (State.closePdm s k c).pending = s.pending := by
  intros; simp [State.closePdm]

@[simp] theorem State.closeLocal_pending : ∀ (s : State) (k : Nat), (State.closeLocal s k).pending = s.pending := by
  intros; simp [State.closeLocal]

@[simp] theorem State.localBoundary_pending : ∀ (s : State) (k : Nat),
    (State.localBoundary s k).pending = s.pending := by
  intros; simp [State.localBoundary]

@[simp] theorem State.putIdac_pending : ∀ (s : State) (x : IdacNow), (State.putIdac s x).pending = s.pending := by
  intros; simp [State.putIdac]

@[simp] theorem State.driveIdac_pending : ∀ (s : State) (l ua : Nat),
    (State.driveIdac s l ua).pending = s.pending := by
  intros; simp [State.driveIdac]

@[simp] theorem State.idacTarget_pending : ∀ (s : State) (l ua : Nat),
    (State.idacTarget s l ua).pending = s.pending := by
  intros; simp [State.idacTarget]

@[simp] theorem State.idacBoundary_pending : ∀ (s : State) (k l : Nat),
    (State.idacBoundary s k l).pending = s.pending := by
  intros; simp [State.idacBoundary]

@[simp] theorem State.idacApply_pending : ∀ (s : State) (l : Nat), (State.idacApply s l).pending = s.pending := by
  intros; simp [State.idacApply]; (repeat' split); all_goals simp

@[simp] theorem execIdacQueueApply_pending : ∀ (l : Fin 16) (s : State),
    outPending (execIdacQueueApply l s) = some (s.pending) := by
  intros; simp [execIdacQueueApply]

@[simp] theorem execIdacComplianceLow_pending : ∀ (l : Fin 16) (s : State),
    outPending (execIdacComplianceLow l s) = some (s.pending) := by
  intros; simp [execIdacComplianceLow]

@[simp] theorem execIdacComplianceOk_pending : ∀ (l : Fin 16) (s : State),
    outPending (execIdacComplianceOk l s) = some (s.pending) := by
  intros; simp [execIdacComplianceOk]

@[simp] theorem State.idacsBoundary_pending : ∀ (s : State) (k : Nat),
    (State.idacsBoundary s k).pending = s.pending := by
  intros; simp [State.idacsBoundary]

@[simp] theorem State.writeMem_pending : ∀ (s : State) (a : Nat) (l : List Byte),
    (State.writeMem s a l).pending = s.pending := by
  intros; simp [State.writeMem]

@[simp] theorem State.poison_pending : ∀ (s : State) (ws : List Nat), (State.poison s ws).pending = s.pending := by
  intros; simp [State.poison]

@[simp] theorem State.burnishPass_pending : ∀ (s : State), (State.burnishPass s).pending = s.pending := by
  intros; simp [State.burnishPass]

@[simp] theorem execBurnishRead_pending : ∀ (m : MemUnit) (word : Nat) (flips : BitVec 80)
    (newer lastOfPass : Bool) (s : State),
    outPending (execBurnishRead m word flips newer lastOfPass s) = some (s.pending) := by
  intros; simp [execBurnishRead]; (repeat' split); all_goals simp

@[simp] theorem State.dmcArrive_pending : ∀ (s : State) (r : MemRequest),
    (State.dmcArrive s r).pending = s.pending := by
  intros; unfold State.dmcArrive; (repeat' (first | split | (apply foldl_pending; intros))) <;> simp

@[simp] theorem State.decodeError_pending : ∀ (s : State) (master a : Nat),
    (State.decodeError s master a).pending = s.pending := by
  intros; unfold State.decodeError; (repeat' (first | split | (apply foldl_pending; intros))) <;> simp

@[simp] theorem State.matrixGrant_pending : ∀ (s : State) (target n : Nat) (park : Option Nat) (l : List MemRequest),
    (State.matrixGrant s target n park l).pending = s.pending := by
  intro s target n; induction n generalizing s with
  | zero => intros; rfl
  | succ n ih => intros; simp only [State.matrixGrant]; split <;> simp [ih]

@[simp] theorem State.presentRequests_pending : ∀ (s : State) (l : List MemRequest),
    (s.presentRequests l).pending = s.pending := by
  intros; unfold State.presentRequests
  rw [foldl_pending (h := by intros; exact State.matrixGrant_pending ..),
    foldl_pending (h := by intros; split <;> simp), foldl_pending (h := by intros; simp)]

@[simp] theorem execDmcRequest_pending (who : Requester) (addr : Nat) (others : List MemRequest) (s : State) :
    outPending (execDmcRequest who addr others s) = some s.pending := by simp [execDmcRequest]

@[simp] theorem State.dmcAverages_pending : ∀ (s : State), (State.dmcAverages s).pending = s.pending := by
  intros; simp [State.dmcAverages]

@[simp] theorem execDmcServe_pending : ∀ (hits : List Nat) (s : State),
    outPending (execDmcServe hits s) = some (s.pending) := by
  intros; simp [execDmcServe]; (repeat' split); all_goals simp

@[simp] theorem execAgePromotion_pending : ∀ (port : Fin 8) (s : State),
    outPending (execAgePromotion port s) = some (s.pending) := by
  intros; simp [execAgePromotion]; (repeat' split); all_goals simp

@[simp] theorem execRefreshDue_pending : ∀ (s : State), outPending (execRefreshDue s) = some (s.pending) := by
  intros; simp [execRefreshDue]

@[simp] theorem State.startRamp_pending : ∀ (s : State) (p : Nat) (l : List (Nat × Nat)),
    (State.startRamp s p l).pending = s.pending := by
  intros; unfold State.startRamp; split <;> simp

@[simp] theorem execPllRampStep_pending : ∀ (p : Fin 2) (s : State),
    outPending (execPllRampStep p s) = some (s.pending) := by
  intros; unfold execPllRampStep; (repeat' (first | split | (apply foldl_pending; intros))); all_goals simp

@[simp] theorem State.changeSetPoint_pending : ∀ (s : State) (sp : Nat),
    (State.changeSetPoint s sp).pending = s.pending := by
  intros; simp [State.changeSetPoint]

@[simp] theorem State.askSetPoint_pending : ∀ (s : State) (sp : Nat),
    (State.askSetPoint s sp).pending = s.pending := by
  intros; unfold State.askSetPoint; split <;> simp

@[simp] theorem execSetpointChange_pending : ∀ (sp : Fin 2) (s : State),
    outPending (execSetpointChange sp s) = some (s.pending) := by
  intros; simp [execSetpointChange]

@[simp] theorem State.showTraining_pending : ∀ (s : State) (state : Nat),
    (State.showTraining s state).pending = s.pending := by
  intros; simp [State.showTraining]

@[simp] theorem State.startTraining_pending : ∀ (s : State) (sp : Nat) (asked : Bool),
    (State.startTraining s sp asked).pending = s.pending := by
  intros; simp [State.startTraining]

@[simp] theorem execTrainStepDone_pending : ∀ (passed : Bool) (margin : Word32) (s : State),
    outPending (execTrainStepDone passed margin s) = some (s.pending) := by
  intros; unfold execTrainStepDone; split <;> simp

@[simp] theorem execMasterReset_pending : ∀ (m : Fin 8) (s : State),
    outPending (execMasterReset m s) = some (s.pending) := by
  intros; simp [execMasterReset]

@[simp] theorem State.dmaWriteBack_pending : ∀ (s : State) (a status done : Nat),
    (State.dmaWriteBack s a status done).pending = s.pending := by
  intros; simp [State.dmaWriteBack]

@[simp] theorem State.dmaMove_pending : ∀ (s : State) (recent : List (Nat × Nat)) (d : DmaDesc) (n : Nat),
    (State.dmaMove s recent d n).pending = s.pending := by
  intros; simp [State.dmaMove]

@[simp] theorem State.modDma_pending : ∀ (s : State) (c : Nat) (f : DmaChan → DmaChan),
    (State.modDma s c f).pending = s.pending := by
  intros; simp [State.modDma]

@[simp] theorem State.dmaAdvance_pending : ∀ (s : State) (c : Nat), (State.dmaAdvance s c).pending = s.pending := by
  intros; simp [State.dmaAdvance]

@[simp] theorem State.dmaTrigger_pending : ∀ (s : State) (c : Nat), (State.dmaTrigger s c).pending = s.pending := by
  intros; simp [State.dmaTrigger]

@[simp] theorem execDmaTrigger_pending : ∀ (c : Fin 8) (s : State),
    outPending (execDmaTrigger c s) = some (s.pending) := by
  intros; simp [execDmaTrigger]

@[simp] theorem State.dmaNext_pending : ∀ (s : State) (c : Nat) (stop : Bool),
    (State.dmaNext s c stop).pending = s.pending := by
  intros; simp [State.dmaNext]

@[simp] theorem State.dmaTraffic_pending : ∀ (s : State), (State.dmaTraffic s).pending = s.pending := by
  intros; simp [State.dmaTraffic]

@[simp] theorem execDmaDescriptorDone_pending : ∀ (c : Fin 8) (s : State),
    outPending (execDmaDescriptorDone c s) = some (s.pending) := by
  intros; simp [execDmaDescriptorDone]; (repeat' split); all_goals simp

@[simp] theorem State.dmaStart_pending : ∀ (s : State) (c : Nat), (State.dmaStart s c).pending = s.pending := by
  intros; simp [State.dmaStart]

@[simp] theorem State.dmaStop_pending : ∀ (s : State) (c : Nat), (State.dmaStop s c).pending = s.pending := by
  intros; simp [State.dmaStop]

@[simp] theorem State.dmaAbortAll_pending : ∀ (s : State) (c x0 : Nat),
    (State.dmaAbortAll s c x0).pending = s.pending := by
  intro s c x0; fun_induction State.dmaAbortAll s c x0 <;> simp_all

@[simp] theorem State.dmaReset_pending : ∀ (s : State) (c written : Nat),
    (State.dmaReset s c written).pending = s.pending := by
  intros; simp [State.dmaReset]

@[simp] theorem State.pauseStop_pending : ∀ (s : State) (port : Nat),
    (State.pauseStop s port).pending = s.pending := by
  intros; unfold State.pauseStop; split <;> simp

@[simp] theorem State.ringPass_pending : ∀ (s : State) (ring n : Nat),
    (State.ringPass s ring n).pending = s.pending := by
  intros; simp [State.ringPass]

@[simp] theorem State.rxStore_pending (s : State) (r n k : Nat) (l : List Byte) : (s.rxStore r n k l).1.pending =
    s.pending := by
  induction n generalizing s k l with
  | zero => rfl
  | succ n ih => rw [State.rxStore]; (repeat' split) <;> simp [ih]

@[simp] theorem State.rxWriteBack_pending : ∀ (s : State) (ring filter : Nat) (f : List Byte) (stamp : Nat)
    (first last : Bool) (p : RxPart),
    (State.rxWriteBack s ring filter f stamp first last p).pending = s.pending := by
  intros; simp [State.rxWriteBack]

@[simp] theorem State.rxWriteAll_pending : ∀ (s : State) (ring filter : Nat) (f : List Byte) (stamp lastK : Nat)
    (x0 : Bool) (x1 : List RxPart),
    (State.rxWriteAll s ring filter f stamp lastK x0 x1).pending = s.pending := by
  intro s ring filter f stamp lastK x0 x1; fun_induction State.rxWriteAll s ring filter f stamp lastK x0 x1 <;>
    simp_all

@[simp] theorem State.deliverRing_pending : ∀ (s : State) (ring filter : Nat) (f : List Byte) (lt : Int),
    (State.deliverRing s ring filter f lt).pending = s.pending := by
  intros; simp [State.deliverRing]

@[simp] theorem State.txWriteBack_pending : ∀ (s : State) (ring k status : Nat) (stamp : Option Nat),
    (State.txWriteBack s ring k status stamp).pending = s.pending := by
  intros; simp [State.txWriteBack]

@[simp] theorem State.txReturn_pending : ∀ (s : State) (ring status n : Nat),
    (State.txReturn s ring status n).pending = s.pending := by
  intros; simp [State.txReturn]

@[simp] theorem State.launchLate_pending : ∀ (s : State) (ring n : Nat),
    (State.launchLate s ring n).pending = s.pending := by
  intros; simp [State.launchLate]

@[simp] theorem State.launchesPassed_pending : ∀ (s : State) (port : Nat) (lt : Int),
    (State.launchesPassed s port lt).pending = s.pending := by
  intros; unfold State.launchesPassed; (repeat' (first | split | (apply foldl_pending; intros))) <;> simp

@[simp] theorem State.txSend_pending : ∀ (s : State) (p ring n : Nat) (l : List (Nat × Nat)) (lt : Int),
    (State.txSend s p ring n l lt).pending = s.pending := by
  intros; unfold State.txSend; (repeat' (first | split | (apply foldl_pending; intros))) <;> simp

@[simp] theorem execTxFrameDone_pending : ∀ (port : Fin 7) (lt : Int) (s : State),
    outPending (execTxFrameDone port lt s) = some (s.pending) := by
  intros; simp [execTxFrameDone]; (repeat' split); all_goals simp

@[simp] theorem execLaunch_pending : ∀ (r : Fin 24) (s : State), outPending (execLaunch r s) = some (s.pending) := by
  intros; simp [execLaunch]; (repeat' split); all_goals simp

@[simp] theorem State.txSettle_pending : ∀ (s : State) (ring x0 : Nat),
    (State.txSettle s ring x0).pending = s.pending := by
  intro s ring x0; fun_induction State.txSettle s ring x0 <;> simp_all

@[simp] theorem State.ringHandOver_pending : ∀ (s : State) (ring tail : Nat),
    (State.ringHandOver s ring tail).pending = s.pending := by
  intros; simp [State.ringHandOver]

@[simp] theorem State.ringStop_pending : ∀ (s : State) (ring : Nat), (State.ringStop s ring).pending = s.pending := by
  intros; simp [State.ringStop]

@[simp] theorem State.ringStart_pending : ∀ (s : State) (ring : Nat),
    (State.ringStart s ring).pending = s.pending := by
  intros; simp [State.ringStart]

@[simp] theorem State.pauseEnds_pending : ∀ (s : State) (port : Nat),
    (State.pauseEnds s port).pending = s.pending := by
  intros; unfold State.pauseEnds; (repeat' (first | split | (apply foldl_pending; intros))) <;> simp

@[simp] theorem execPauseExpire_pending (port : Fin 7) (s : State) : outPending (execPauseExpire port s) =
    some s.pending := by
  unfold execPauseExpire; simp

@[simp] theorem State.macControl_pending : ∀ (s : State) (port dst opcode quanta : Nat),
    (State.macControl s port dst opcode quanta).pending = s.pending := by
  intros; simp [State.macControl]

@[simp] theorem execPauseFrame_pending : ∀ (port : Fin 7) (dst opcode quanta : Nat) (s : State),
    outPending (execPauseFrame port dst opcode quanta s) = some (s.pending) := by
  intros; simp [execPauseFrame]

@[simp] theorem State.putStream_pending : ∀ (s : State) (x : StreamIn),
    (State.putStream s x).pending = s.pending := by
  intros; simp [State.putStream]

@[simp] theorem State.streamPlace_pending : ∀ (s : State) (c n : Nat) (words : List (F32 × Nat)),
    (State.streamPlace s c n words).pending = s.pending := by
  intros; simp [State.streamPlace]

@[simp] theorem State.streamPacket_pending : ∀ (s : State) (c : Nat) (n : Int) (rows : List (List (F32 × Nat))),
    (State.streamPacket s c n rows).pending = s.pending := by
  intros; simp [State.streamPacket]

@[simp] theorem State.aesPacket_pending : ∀ (s : State) (c : Nat) (p : RtpPacket),
    (State.aesPacket s c p).pending = s.pending := by
  intros; simp [State.aesPacket]

@[simp] theorem State.aesReceive_pending : ∀ (s : State) (port : Nat) (p : RtpPacket),
    (State.aesReceive s port p).pending = s.pending := by
  intros; simp [State.aesReceive]

@[simp] theorem execAes67PacketRx_pending : ∀ (port : Fin 7) (p : RtpPacket) (s : State),
    outPending (execAes67PacketRx port p s) = some (s.pending) := by
  intros; simp [execAes67PacketRx]

@[simp] theorem State.closeStreams_pending : ∀ (s : State) (k : Nat),
    (State.closeStreams s k).pending = s.pending := by
  intros; simp [State.closeStreams]

@[simp] theorem State.sendAll_pending : ∀ (s : State) (ports : List Nat) (kind : String) (fields : List Nat),
    (State.sendAll s ports kind fields).pending = s.pending := by
  intros; unfold State.sendAll; refine foldl_pending _ ?_ _ _; intros; simp

@[simp] theorem State.igmp_pending : ∀ (s : State) (kind : String) (ports addr : Nat),
    (State.igmp s kind ports addr).pending = s.pending := by
  intros; simp [State.igmp]

@[simp] theorem State.streamRestart_pending : ∀ (s : State) (c oldKind oldPorts oldAddr : Nat),
    (State.streamRestart s c oldKind oldPorts oldAddr).pending = s.pending := by
  intros; simp [State.streamRestart]

@[simp] theorem State.igmpAnswer_pending : ∀ (s : State) (port : Nat),
    (State.igmpAnswer s port).pending = s.pending := by
  intros; simp [State.igmpAnswer]

@[simp] theorem execAes67PacketTx_pending : ∀ (c : Fin 512) (n : Nat) (late : Bool) (s : State),
    outPending (execAes67PacketTx c n late s) = some (s.pending) := by
  intros; simp [execAes67PacketTx]; (repeat' split); all_goals simp

@[simp] theorem State.startWake_pending : ∀ (s : State) (w : Wake), (State.startWake s w).pending = s.pending := by
  intros; simp [State.startWake]

@[simp] theorem State.wakeUp_pending : ∀ (s : State) (w : Wake), (State.wakeUp s w).pending = s.pending := by
  intros; simp [State.wakeUp]

@[simp] theorem State.wakeFrame_pending : ∀ (s : State) (port : Nat) (f : List Byte),
    (State.wakeFrame s port f).pending = s.pending := by
  intros; simp [State.wakeFrame]; (repeat' split); all_goals simp

@[simp] theorem State.serve_pending : ∀ (s : State) (port : Nat) (f : List Byte) (x : Service),
    (State.serve s port f x).pending = s.pending := by
  intros; unfold State.serve; (repeat' (first | split | (apply foldl_pending; intros))); all_goals simp

@[simp] theorem execFrameReceive_pending : ∀ (port : Fin 7) (fcsOk : Bool) (f : List Byte) (lt : Int) (s : State),
    outPending (execFrameReceive port fcsOk f lt s) = some (s.pending) := by
  intros; simp [execFrameReceive]; (repeat' split); all_goals simp

@[simp] theorem State.putNbr_pending : ∀ (s : State) (n : Neighbour), (State.putNbr s n).pending = s.pending := by
  intros; simp [State.putNbr]

@[simp] theorem State.linkAuth_pending : ∀ (s : State) (p : Nat) (f : FabFrame) (body : List Byte),
    (Prod.fst (State.linkAuth s p f body)).pending = s.pending := by
  intros; simp [State.linkAuth]

@[simp] theorem State.linkFrame_pending : ∀ (s : State) (p type : Nat) (f : FabFrame) (body : List Byte),
    (Prod.fst (State.linkFrame s p type f body)).pending = s.pending := by
  intros; unfold State.linkFrame; (repeat' split) <;> simp

@[simp] theorem State.sendLink_pending : ∀ (s : State) (p : Nat) (f : FabFrame) (body : List Byte),
    (State.sendLink s p f body).pending = s.pending := by
  intros; unfold State.sendLink; dsimp only []; split <;> simp

@[simp] theorem State.sendLsa_pending : ∀ (s : State) (p : Nat) (l : Lsa),
    (State.sendLsa s p l).pending = s.pending := by
  intros; simp [State.sendLsa]

@[simp] theorem State.flood_pending : ∀ (s : State) (l : Lsa) (ports : List Nat),
    (State.flood s l ports).pending = s.pending := by
  intros; simp [State.flood]

@[simp] theorem State.holdLsa_pending : ∀ (s : State) (l : Lsa), (State.holdLsa s l).pending = s.pending := by
  intros; simp [State.holdLsa]

@[simp] theorem State.floodOwn_pending : ∀ (s : State) (n : Nat), (State.floodOwn s n).pending = s.pending := by
  intros; simp [State.floodOwn]

@[simp] theorem State.showLoads_pending : ∀ (s : State), (State.showLoads s).pending = s.pending := by
  intros; rfl

@[simp] theorem State.placeTrees_pending : ∀ (s : State) (trees : List Machine.Tree) (lat : List Nat),
    (State.placeTrees s trees lat).pending = s.pending := by
  intros; simp [State.placeTrees]

@[simp] theorem State.warnPaths_pending : ∀ (t : State) (budget : Nat) (lat : List Nat),
    (State.warnPaths t budget lat).pending = t.pending := by
  intros; simp [State.warnPaths]

@[simp] theorem State.installTrees_pending : ∀ (s : State), (State.installTrees s).pending = s.pending := by
  intros; simp [State.installTrees]

@[simp] theorem State.enterConflict_pending : ∀ (s : State), (State.enterConflict s).pending = s.pending := by
  intros; simp [State.enterConflict]

@[simp] theorem State.fabMoves_pending : ∀ (s : State), (State.fabMoves s).pending = s.pending := by
  intros; simp [State.fabMoves]

@[simp] theorem State.graphTouched_pending : ∀ (s : State), (State.graphTouched s).pending = s.pending := by
  intros; simp [State.graphTouched]

@[simp] theorem State.linksChanged_pending : ∀ (s : State), (State.linksChanged s).pending = s.pending := by
  intros; simp [State.linksChanged]

@[simp] theorem State.leave_pending : ∀ (s : State), (State.leave s).pending = s.pending := by
  intros; simp [State.leave]

@[simp] theorem execLeavingExpire_pending : ∀ (s : State), outPending (execLeavingExpire s) = some (s.pending) := by
  intros; simp [execLeavingExpire]

@[simp] theorem State.sendHello_pending : ∀ (s : State) (p : Nat), (State.sendHello s p).pending = s.pending := by
  intros; simp [State.sendHello]

@[simp] theorem execHelloTimer_pending : ∀ (port : Fin 6) (s : State),
    outPending (execHelloTimer port s) = some (s.pending) := by
  intros; simp [execHelloTimer]

@[simp] theorem State.nbrMove_pending : ∀ (s : State) (p st : Nat), (State.nbrMove s p st).pending = s.pending := by
  intros; simp [State.nbrMove]

@[simp] theorem State.nbrDown_pending : ∀ (s : State) (p : Nat), (State.nbrDown s p).pending = s.pending := by
  intros; simp [State.nbrDown]

@[simp] theorem execHelloLost_pending : ∀ (port : Fin 6) (s : State),
    outPending (execHelloLost port s) = some (s.pending) := by
  intros; simp [execHelloLost]

@[simp] theorem State.sendAdmit_pending : ∀ (s : State) (p : Nat) (x : AdmitStep),
    (State.sendAdmit s p x).pending = s.pending := by
  intros; simp [State.sendAdmit]

@[simp] theorem State.startAdmit_pending : ∀ (s : State) (p mac : Nat),
    (State.startAdmit s p mac).pending = s.pending := by
  intros; simp [State.startAdmit]

@[simp] theorem State.sceneMatch_pending : ∀ (s : State), (State.sceneMatch s).pending = s.pending := by
  intros; simp [State.sceneMatch]

@[simp] theorem State.refuseNbr_pending : ∀ (s : State) (p : Nat), (State.refuseNbr s p).pending = s.pending := by
  intros; simp [State.refuseNbr]

@[simp] theorem execFabHello_pending : ∀ (port : Fin 6) (h : Hello) (t : FabFrame) (s : State),
    outPending (execFabHello port h t s) = some (s.pending) := by
  intros; simp [execFabHello]

@[simp] theorem State.admitNbr_pending : ∀ (s : State) (p : Nat) (x : LinkShake),
    (State.admitNbr s p x).pending = s.pending := by
  intros; simp [State.admitNbr]

@[simp] theorem State.admitRefused_pending : ∀ (s : State) (p : Nat),
    (State.admitRefused s p).pending = s.pending := by
  intros; simp [State.admitRefused]

@[simp] theorem State.admitInit_pending : ∀ (s : State) (p : Nat) (nonce key : List Byte),
    (State.admitInit s p nonce key).pending = s.pending := by
  intros; simp [State.admitInit]

@[simp] theorem State.askChain_pending : ∀ (s : State) (p : Nat) (x : LinkShake),
    (State.askChain s p x).pending = s.pending := by
  intros; simp [State.askChain]

@[simp] theorem State.sendChain_pending : ∀ (s : State) (p : Nat) (x : LinkShake),
    (State.sendChain s p x).pending = s.pending := by
  intros; simp [State.sendChain]

@[simp] theorem State.judgeNbr_pending : ∀ (s : State) (p : Nat) (x : LinkShake) (sig : List Byte),
    (Prod.fst (State.judgeNbr s p x sig)).pending = s.pending := by
  intros; simp [State.judgeNbr]

@[simp] theorem State.admitStep_pending : ∀ (s : State) (p : Nat) (step : AdmitStep),
    (State.admitStep s p step).pending = s.pending := by
  intros; unfold State.admitStep; dsimp only []; (repeat' split) <;> simp

@[simp] theorem execAdmit_pending : ∀ (port : Fin 6) (a : AdmitFrame) (s : State),
    outPending (execAdmit port a s) = some (s.pending) := by
  intros; unfold execAdmit; (repeat' split) <;> simp

@[simp] theorem execAdmitTimeout_pending : ∀ (port : Fin 6) (s : State),
    outPending (execAdmitTimeout port s) = some (s.pending) := by
  intros; simp [execAdmitTimeout]

@[simp] theorem execRefusedExpire_pending : ∀ (port : Fin 6) (s : State),
    outPending (execRefusedExpire port s) = some (s.pending) := by
  intros; simp [execRefusedExpire]

@[simp] theorem execLinkRekey_pending : ∀ (port : Fin 6) (s : State),
    outPending (execLinkRekey port s) = some (s.pending) := by
  intros; simp [execLinkRekey]

@[simp] theorem execLinkUp_pending : ∀ (port : Fin 7) (mismatch : Bool) (s : State),
    outPending (execLinkUp port mismatch s) = some (s.pending) := by
  intros; simp [execLinkUp]

@[simp] theorem State.linkDown_pending : ∀ (s : State) (p : Nat), (State.linkDown s p).pending = s.pending := by
  intros; simp [State.linkDown]

@[simp] theorem execLinkDown_pending : ∀ (port : Fin 7) (s : State),
    outPending (execLinkDown port s) = some (s.pending) := by
  intros; simp [execLinkDown]

@[simp] theorem execLsa_pending : ∀ (port : Fin 6) (l : Lsa) (t : FabFrame) (s : State),
    outPending (execLsa port l t s) = some (s.pending) := by
  intros; simp [execLsa]; (repeat' split); all_goals simp

@[simp] theorem execLsaAck_pending : ∀ (port : Fin 6) (vertex seq : Nat) (t : FabFrame) (s : State),
    outPending (execLsaAck port vertex seq t s) = some (s.pending) := by
  intros; simp [execLsaAck]

@[simp] theorem execLsaResend_pending : ∀ (port : Fin 6) (s : State),
    outPending (execLsaResend port s) = some (s.pending) := by
  intros; simp [execLsaResend]; (repeat' (first | split | (apply foldl_pending; intros))); all_goals simp

@[simp] theorem execLsaReflood_pending : ∀ (s : State), outPending (execLsaReflood s) = some (s.pending) := by
  intros; simp [execLsaReflood]

@[simp] theorem execLsaAgeOut_pending : ∀ (vertex : Nat) (s : State),
    outPending (execLsaAgeOut vertex s) = some (s.pending) := by
  intros; simp [execLsaAgeOut]

@[simp] theorem execGraphChange_pending : ∀ (s : State), outPending (execGraphChange s) = some (s.pending) := by
  intros; simp [execGraphChange]

@[simp] theorem execOldGenerationExpire_pending : ∀ (s : State),
    outPending (execOldGenerationExpire s) = some (s.pending) := by
  intros; simp [execOldGenerationExpire]

@[simp] theorem execTreeSwitchA_pending : ∀ (s : State), outPending (execTreeSwitchA s) = some (s.pending) := by
  intros; simp [execTreeSwitchA]

@[simp] theorem execTreeSwitchB_pending : ∀ (s : State), outPending (execTreeSwitchB s) = some (s.pending) := by
  intros; simp [execTreeSwitchB]

@[simp] theorem State.putWindow_pending : ∀ (s : State) (w : ElimWindow),
    (State.putWindow s w).pending = s.pending := by
  intros; simp [State.putWindow]

@[simp] theorem State.eliminate_pending : ∀ (s : State) (c seq : Nat) (treeB : Bool),
    (Prod.fst (State.eliminate s c seq treeB)).pending = s.pending := by
  intros; unfold State.eliminate; split <;> simp

@[simp] theorem State.streamToContext_pending : ∀ (s : State) (f : StreamFrame) (c : Nat),
    (State.streamToContext s f c).pending = s.pending := by
  intros; simp [State.streamToContext]

@[simp] theorem State.noteFlow_pending : ∀ (s : State) (t : FabFrame) (n : Nat),
    (State.noteFlow s t n).pending = s.pending := by
  intros; simp [State.noteFlow]

@[simp] theorem State.passOn_pending : ∀ (s : State) (t : Machine.Tree) (f : FabFrame) (body : List Byte),
    (State.passOn s t f body).pending = s.pending := by
  intros; simp [State.passOn]

@[simp] theorem State.deliverStream_pending : ∀ (s : State) (t : FabFrame) (f : StreamFrame),
    (State.deliverStream s t f).pending = s.pending := by
  intros; unfold State.deliverStream; refine (foldl_pending _ ?_ _ _).trans (by simp); intros; dsimp only []; split <;> simp

@[simp] theorem execStreamFrameRx_pending : ∀ (port : Fin 6) (f : StreamFrame) (t : FabFrame) (s : State),
    outPending (execStreamFrameRx port f t s) = some (s.pending) := by
  intros; simp [execStreamFrameRx]; (repeat' split); all_goals simp

@[simp] theorem State.sendTrees_pending : ∀ (s : State) (type dest streamId sequence : Nat) (body : List Byte),
    (State.sendTrees s type dest streamId sequence body).pending = s.pending := by
  intros; unfold State.sendTrees; split
  · rfl
  · refine foldl_pending _ ?_ _ _; intros; dsimp only []; split <;> simp

@[simp] theorem State.streamTx_pending : ∀ (s : State) (c k : Nat),
    (State.streamTx s c k).pending = s.pending := by
  intros; simp [State.streamTx]

@[simp] theorem execStreamFrameTx_pending : ∀ (c : Fin 512) (s : State),
    outPending (execStreamFrameTx c s) = some (s.pending) := by
  intros; simp [execStreamFrameTx]

@[simp] theorem State.sendTxnFrame_pending : ∀ (s : State) (node : Nat) (body : List Byte),
    (State.sendTxnFrame s node body).pending = s.pending := by
  intros; simp [State.sendTxnFrame]

@[simp] theorem execSceneDigestUpdate_pending : ∀ (s : State),
    outPending (execSceneDigestUpdate s) = some (s.pending) := by
  intros; simp [execSceneDigestUpdate]

@[simp] theorem execSceneDigestMismatch_pending : ∀ (port : Fin 6) (s : State),
    outPending (execSceneDigestMismatch port s) = some (s.pending) := by
  intros; simp [execSceneDigestMismatch]

@[simp] theorem State.putNode_pending : ∀ (s : State) (x : NodeNow), (State.putNode s x).pending = s.pending := by
  intros; simp [State.putNode]

@[simp] theorem State.writeWords_pending : ∀ (s : State) (a : Nat) (l : List Word32),
    (State.writeWords s a l).pending = s.pending := by
  intros; simp [State.writeWords]

@[simp] theorem State.unbind_pending : ∀ (s : State) (n : Nat), (State.unbind s n).pending = s.pending := by
  intros; simp [State.unbind]

@[simp] theorem State.bind_pending : ∀ (s : State) (n : Nat), (Prod.fst (State.bind s n)).pending = s.pending := by
  intros; simp [State.bind]; (repeat' split); all_goals simp

@[simp] theorem State.keepFaults_pending : ∀ (s : State) (old : List NodeNow),
    (State.keepFaults s old).pending = s.pending := by
  intros; rfl

@[simp] theorem State.bindAll_pending (s : State) (l : List Nat) : (s.bindAll l).1.pending = s.pending := by
  unfold State.bindAll; simp only []; rw [State.keepFaults_pending, foldl_fst_pending (h := by intros; simp), foldl_pending (h :=
    by intros; simp)]

@[simp] theorem State.placeImage_pending : ∀ (s : State) (c i k : Nat),
    (Prod.fst (State.placeImage s c i k)).pending = s.pending := by
  intros; unfold State.placeImage; dsimp only []; (repeat' split) <;> simp

@[simp] theorem State.placeImages_pending (s : State) (k : Nat) : (s.placeImages k).1.pending = s.pending := by
  unfold State.placeImages; dsimp only []
  rw [foldl_fst_pending]
  intros; split <;> simp

@[simp] theorem State.putGraver_pending : ∀ (s : State) (ch k : Nat) (l : List Word32) (w : Nat),
    (State.putGraver s ch k l w).pending = s.pending := by
  intros; simp [State.putGraver]

@[simp] theorem State.setStage_pending : ∀ (s : State) (i : Inst) (st : InstStage),
    (State.setStage s i st).pending = s.pending := by
  intros; simp [State.setStage]

@[simp] theorem State.putInst_pending : ∀ (s : State) (i : Inst), (State.putInst s i).pending = s.pending := by
  intros; simp [State.putInst]

@[simp] theorem State.dropInst_pending : ∀ (s : State) (i : Inst), (State.dropInst s i).pending = s.pending := by
  intros; simp [State.dropInst]

@[simp] theorem State.notePublished_pending : ∀ (s : State) (n k : Nat),
    (State.notePublished s n k).pending = s.pending := by
  intros; simp [State.notePublished]

@[simp] theorem State.nodeTriggers_pending : ∀ (s : State) (n : Nat),
    (State.nodeTriggers s n).pending = s.pending := by
  intros; simp [State.nodeTriggers]

@[simp] theorem State.publish_pending : ∀ (s : State) (i : Inst), (State.publish s i).pending = s.pending := by
  intros; unfold State.publish; split <;> simp

@[simp] theorem State.concealInst_pending : ∀ (s : State) (i : Inst),
    (State.concealInst s i).pending = s.pending := by
  intros; unfold State.concealInst; split <;> simp

@[simp] theorem State.flowRelease_pending : ∀ (s : State) (f x0 : Nat),
    (State.flowRelease s f x0).pending = s.pending := by
  intro s f x0; fun_induction State.flowRelease s f x0 <;> simp_all

@[simp] theorem State.showNode_pending : ∀ (s : State) (n : Nat), (State.showNode s n).pending = s.pending := by
  intros; simp [State.showNode]

@[simp] theorem State.stageInst_pending : ∀ (s : State) (i : Inst),
    (Prod.fst (State.stageInst s i)).pending = s.pending := by
  intros; unfold State.stageInst; split <;> simp

@[simp] theorem State.startInst_pending : ∀ (s : State) (i : Inst) (ctx : Nat),
    (State.startInst s i ctx).pending = s.pending := by
  intros; simp [State.startInst]

@[simp] theorem State.runNext_pending : ∀ (s : State) (c : Nat), (State.runNext s c).pending = s.pending := by
  intros; simp [State.runNext]; (repeat' split); all_goals simp

@[simp] theorem State.switchCore_pending : ∀ (s : State) (c : Nat), (State.switchCore s c).pending = s.pending := by
  intros; unfold State.switchCore; split <;> simp

@[simp] theorem State.scheduleCore_pending : ∀ (s : State) (c : Nat),
    (State.scheduleCore s c).pending = s.pending := by
  intros; unfold State.scheduleCore; (repeat' (first | split | (apply foldl_pending; intros))); all_goals simp

@[simp] theorem execDispatchTick_pending : ∀ (s : State), outPending (execDispatchTick s) = some (s.pending) := by
  intros; simp [execDispatchTick]

@[simp] theorem execForcedSwitch_pending : ∀ (c : Fin 8) (s : State),
    outPending (execForcedSwitch c s) = some (s.pending) := by
  intros; unfold execForcedSwitch; split <;> simp

@[simp] theorem execInputsAvailable_pending : ∀ (n : Fin 4096) (k : Nat) (s : State),
    outPending (execInputsAvailable n k s) = some (s.pending) := by
  intros; simp [execInputsAvailable]; (repeat' split); all_goals simp

@[simp] theorem State.instEnds_pending : ∀ (s : State) (i : Inst), (State.instEnds s i).pending = s.pending := by
  intros; simp [State.instEnds]

@[simp] theorem State.afterInst_pending : ∀ (s : State) (i : Inst), (State.afterInst s i).pending = s.pending := by
  intros; simp [State.afterInst]

@[simp] theorem State.exitInst_pending : ∀ (s : State) (i : Inst), (State.exitInst s i).pending = s.pending := by
  intros; simp [State.exitInst]

@[simp] theorem State.exceptInst_pending : ∀ (s : State) (i : Inst) (kind : Nat),
    (State.exceptInst s i kind).pending = s.pending := by
  intros; simp [State.exceptInst]; (repeat' split); all_goals simp

@[simp] theorem State.neverReleased_pending : ∀ (s : State) (n k : Nat),
    (State.neverReleased s n k).pending = s.pending := by
  intros; unfold State.neverReleased; dsimp only []; (repeat' split) <;> simp

@[simp] theorem execGraverDeadline_pending : ∀ (n : Fin 4096) (k : Nat) (s : State),
    outPending (execGraverDeadline n k s) = some (s.pending) := by
  intros; simp [execGraverDeadline]; (repeat' split); all_goals simp

@[simp] theorem State.storeOf_pending : ∀ (s : State) (i : Inst) (b : Bundle),
    (State.storeOf s i b).pending = s.pending := by
  intros; unfold State.storeOf; split <;> simp

@[simp] theorem State.settle_pending : ∀ (s : State) (i : Inst) (b : Bundle),
    (State.settle s i b).pending = s.pending := by
  intros; unfold State.settle; (repeat' (first | split | (apply foldl_pending; intros))); all_goals simp

@[simp] theorem State.issueBundle_pending : ∀ (s : State) (i : Inst) (b : Bundle),
    (State.issueBundle s i b).pending = s.pending := by
  intros; simp [State.issueBundle]; (repeat' split); all_goals simp

@[simp] theorem State.issueRow_pending : ∀ (s : State) (c : Fin 8) (holds : Bundle → Bool),
    (State.issueRow s c holds).pending = s.pending := by
  intros; simp [State.issueRow]; (repeat' split); all_goals simp

@[simp] theorem execNop_pending : ∀ (c : Fin 8) (s : State), outPending (execNop c s) = some (s.pending) := by
  intros; simp [execNop]

@[simp] theorem execMac_pending : ∀ (c : Fin 8) (s : State), outPending (execMac c s) = some (s.pending) := by
  intros; simp [execMac]

@[simp] theorem execMsu_pending : ∀ (c : Fin 8) (s : State), outPending (execMsu c s) = some (s.pending) := by
  intros; simp [execMsu]

@[simp] theorem execFma_pending : ∀ (c : Fin 8) (s : State), outPending (execFma c s) = some (s.pending) := by
  intros; simp [execFma]

@[simp] theorem execFms_pending : ∀ (c : Fin 8) (s : State), outPending (execFms c s) = some (s.pending) := by
  intros; simp [execFms]

@[simp] theorem execDfmaFadd_pending : ∀ (c : Fin 8) (s : State),
    outPending (execDfmaFadd c s) = some (s.pending) := by
  intros; simp [execDfmaFadd]

@[simp] theorem execMov_pending : ∀ (c : Fin 8) (s : State), outPending (execMov c s) = some (s.pending) := by
  intros; simp [execMov]

@[simp] theorem execIadd_pending : ∀ (c : Fin 8) (s : State), outPending (execIadd c s) = some (s.pending) := by
  intros; simp [execIadd]

@[simp] theorem execIsub_pending : ∀ (c : Fin 8) (s : State), outPending (execIsub c s) = some (s.pending) := by
  intros; simp [execIsub]

@[simp] theorem execFadd_pending : ∀ (c : Fin 8) (s : State), outPending (execFadd c s) = some (s.pending) := by
  intros; simp [execFadd]

@[simp] theorem execFsub_pending : ∀ (c : Fin 8) (s : State), outPending (execFsub c s) = some (s.pending) := by
  intros; simp [execFsub]

@[simp] theorem execFmul_pending : ∀ (c : Fin 8) (s : State), outPending (execFmul c s) = some (s.pending) := by
  intros; simp [execFmul]

@[simp] theorem execFmin_pending : ∀ (c : Fin 8) (s : State), outPending (execFmin c s) = some (s.pending) := by
  intros; simp [execFmin]

@[simp] theorem execFmax_pending : ∀ (c : Fin 8) (s : State), outPending (execFmax c s) = some (s.pending) := by
  intros; simp [execFmax]

@[simp] theorem execFabs_pending : ∀ (c : Fin 8) (s : State), outPending (execFabs c s) = some (s.pending) := by
  intros; simp [execFabs]

@[simp] theorem execFneg_pending : ∀ (c : Fin 8) (s : State), outPending (execFneg c s) = some (s.pending) := by
  intros; simp [execFneg]

@[simp] theorem execFcmp_pending : ∀ (c : Fin 8) (s : State), outPending (execFcmp c s) = some (s.pending) := by
  intros; simp [execFcmp]

@[simp] theorem execFtoi_pending : ∀ (c : Fin 8) (s : State), outPending (execFtoi c s) = some (s.pending) := by
  intros; simp [execFtoi]

@[simp] theorem execItof_pending : ∀ (c : Fin 8) (s : State), outPending (execItof c s) = some (s.pending) := by
  intros; simp [execItof]

@[simp] theorem execFdiv_pending : ∀ (c : Fin 8) (s : State), outPending (execFdiv c s) = some (s.pending) := by
  intros; simp [execFdiv]

@[simp] theorem execFsqrt_pending : ∀ (c : Fin 8) (s : State), outPending (execFsqrt c s) = some (s.pending) := by
  intros; simp [execFsqrt]

@[simp] theorem execFsin_pending : ∀ (c : Fin 8) (s : State), outPending (execFsin c s) = some (s.pending) := by
  intros; simp [execFsin]

@[simp] theorem execFcos_pending : ∀ (c : Fin 8) (s : State), outPending (execFcos c s) = some (s.pending) := by
  intros; simp [execFcos]

@[simp] theorem execFexp10_pending : ∀ (c : Fin 8) (s : State), outPending (execFexp10 c s) = some (s.pending) := by
  intros; simp [execFexp10]

@[simp] theorem execFlog10_pending : ∀ (c : Fin 8) (s : State), outPending (execFlog10 c s) = some (s.pending) := by
  intros; simp [execFlog10]

@[simp] theorem execFpow_pending : ∀ (c : Fin 8) (s : State), outPending (execFpow c s) = some (s.pending) := by
  intros; simp [execFpow]

@[simp] theorem execImm_pending : ∀ (c : Fin 8) (s : State), outPending (execImm c s) = some (s.pending) := by
  intros; simp [execImm]

@[simp] theorem execAclr_pending : ∀ (c : Fin 8) (s : State), outPending (execAclr c s) = some (s.pending) := by
  intros; simp [execAclr]

@[simp] theorem execAmov_pending : ∀ (c : Fin 8) (s : State), outPending (execAmov c s) = some (s.pending) := by
  intros; simp [execAmov]

@[simp] theorem execAadd_pending : ∀ (c : Fin 8) (s : State), outPending (execAadd c s) = some (s.pending) := by
  intros; simp [execAadd]

@[simp] theorem execAsub_pending : ∀ (c : Fin 8) (s : State), outPending (execAsub c s) = some (s.pending) := by
  intros; simp [execAsub]

@[simp] theorem execAldf_pending : ∀ (c : Fin 8) (s : State), outPending (execAldf c s) = some (s.pending) := by
  intros; simp [execAldf]

@[simp] theorem execAstf_pending : ∀ (c : Fin 8) (s : State), outPending (execAstf c s) = some (s.pending) := by
  intros; simp [execAstf]

@[simp] theorem execBr_pending : ∀ (c : Fin 8) (s : State), outPending (execBr c s) = some (s.pending) := by
  intros; simp [execBr]

@[simp] theorem execBrc_pending : ∀ (c : Fin 8) (s : State), outPending (execBrc c s) = some (s.pending) := by
  intros; simp [execBrc]

@[simp] theorem execCall_pending : ∀ (c : Fin 8) (s : State), outPending (execCall c s) = some (s.pending) := by
  intros; simp [execCall]

@[simp] theorem execRet_pending : ∀ (c : Fin 8) (s : State), outPending (execRet c s) = some (s.pending) := by
  intros; simp [execRet]

@[simp] theorem execLoop_pending : ∀ (c : Fin 8) (s : State), outPending (execLoop c s) = some (s.pending) := by
  intros; simp [execLoop]

@[simp] theorem execLoopr_pending : ∀ (c : Fin 8) (s : State), outPending (execLoopr c s) = some (s.pending) := by
  intros; simp [execLoopr]

@[simp] theorem execYield_pending : ∀ (c : Fin 8) (s : State), outPending (execYield c s) = some (s.pending) := by
  intros; simp [execYield]

@[simp] theorem execWait_pending : ∀ (c : Fin 8) (s : State), outPending (execWait c s) = some (s.pending) := by
  intros; simp [execWait]

@[simp] theorem execFence_pending : ∀ (c : Fin 8) (s : State), outPending (execFence c s) = some (s.pending) := by
  intros; simp [execFence]

@[simp] theorem execTrap_pending : ∀ (c : Fin 8) (s : State), outPending (execTrap c s) = some (s.pending) := by
  intros; simp [execTrap]

@[simp] theorem execExit_pending : ∀ (c : Fin 8) (s : State), outPending (execExit c s) = some (s.pending) := by
  intros; unfold execExit; split <;> simp

@[simp] theorem execLoopCountExpire_pending : ∀ (c : Fin 8) (level : Fin 2) (s : State),
    outPending (execLoopCountExpire c level s) = some (s.pending) := by
  intros; unfold execLoopCountExpire; split <;> simp

@[simp] theorem execOverrun_pending : ∀ (c : Fin 8) (s : State), outPending (execOverrun c s) = some (s.pending) := by
  intros; unfold execOverrun; (repeat' (first | split | (apply foldl_pending; intros))); all_goals simp

@[simp] theorem State.logAppend_pending : ∀ (s : State) (r : ErrRec), (State.logAppend s r).pending = s.pending := by
  intros; simp [State.logAppend]

@[simp] theorem State.logClear_pending : ∀ (s : State), (State.logClear s).pending = s.pending := by
  intros; simp [State.logClear]

@[simp] theorem State.owed_pending : ∀ (s : State), (State.owed s).pending = s.pending := by
  intros; simp [State.owed]

@[simp] theorem State.logFail_pending : ∀ (s : State), (State.logFail s).pending = s.pending := by
  intros; simp [State.logFail]

@[simp] theorem State.logRec_pending : ∀ (s : State) (r : ErrRec) (ok : Bool),
    (State.logRec s r ok).pending = s.pending := by
  intros; simp [State.logRec]

@[simp] theorem State.handleRec_pending : ∀ (s : State) (r : ErrRec) (ok : Bool),
    (State.handleRec s r ok).pending = s.pending := by
  intros; simp [State.handleRec]

@[simp] theorem execErrorHandle_pending : ∀ (ok : Bool) (s : State),
    outPending (execErrorHandle ok s) = some (s.pending) := by
  intros; unfold execErrorHandle; split <;> simp

@[simp] theorem State.drainFailed_pending : ∀ (s : State), (State.drainFailed s).pending = s.pending := by
  intros; simp [State.drainFailed]

@[simp] theorem execRateLimitSecondEnd_pending : ∀ (area index code : Nat) (s : State),
    outPending (execRateLimitSecondEnd area index code s) = some (s.pending) := by
  intros; unfold execRateLimitSecondEnd; (repeat' (first | split | (apply foldl_pending; intros))); all_goals simp

@[simp] theorem State.alarmAck_pending : ∀ (s : State), (State.alarmAck s).pending = s.pending := by
  intros; simp [State.alarmAck]

@[simp] theorem State.faultClear_pending : ∀ (s : State), (State.faultClear s).pending = s.pending := by
  intros; simp [State.faultClear]

@[simp] theorem State.noteCause_pending : ∀ (s : State) (c : Nat), (State.noteCause s c).pending = s.pending := by
  intros; simp [State.noteCause]

@[simp] theorem State.showLife_pending : ∀ (s : State), (State.showLife s).pending = s.pending := by
  intros; simp [State.showLife]

@[simp] theorem State.live_pending : ∀ (s : State) (secs : Nat) (temp : F32),
    (State.live s secs temp).pending = s.pending := by
  intros; simp [State.live]

@[simp] theorem State.countDormant_pending : ∀ (s : State),
    (State.countDormant s).pending = s.pending := by
  intros; unfold State.countDormant; (repeat' (first | split | (apply foldl_pending; intros))) <;> simp

@[simp] theorem State.restored_pending : ∀ (s : State), (State.restored s).pending = s.pending := by
  intros; simp [State.restored]

@[simp] theorem State.derived_pending (s : State) : s.derived.pending = s.pending := by
  unfold State.derived; simp only [State.loadTri_pending]
  rw [foldl_pending, foldl_pending] <;> intros <;> simp
  (repeat' split) <;> simp

@[simp] theorem State.idacsHeld_pending : ∀ (s : State), (State.idacsHeld s).pending = s.pending := by
  intros; simp [State.idacsHeld]

@[simp] theorem State.sidebandReset_pending : ∀ (s : State),
    (State.sidebandReset s).pending = s.pending := by
  intros; unfold State.sidebandReset; (repeat' (first | split | (apply foldl_pending; intros))) <;> simp

@[simp] theorem State.enterReset_pending : ∀ (s : State) (phase : Phase),
    (State.enterReset s phase).pending = s.pending := by
  intros; simp [State.enterReset]

@[simp] theorem State.idacsFault_pending : ∀ (s : State), (State.idacsFault s).pending = s.pending := by
  intros; simp [State.idacsFault]

@[simp] theorem State.portsIdle_pending : ∀ (s : State), (State.portsIdle s).pending = s.pending := by
  intros; simp [State.portsIdle]

@[simp] theorem State.idacsOff_pending : ∀ (s : State), (State.idacsOff s).pending = s.pending := by
  intros; simp [State.idacsOff]

@[simp] theorem State.idacsRedrive_pending : ∀ (s : State), (State.idacsRedrive s).pending = s.pending := by
  intros; unfold State.idacsRedrive; (repeat' (first | split | (apply foldl_pending; intros))); all_goals simp

@[simp] theorem State.dropDrive_pending : ∀ (s : State), (State.dropDrive s).pending = s.pending := by
  intros; simp [State.dropDrive]

@[simp] theorem State.shutDown_pending : ∀ (s : State) (code : Nat), (State.shutDown s code).pending = s.pending := by
  intros; simp [State.shutDown]

@[simp] theorem State.aodFed_pending : ∀ (s : State), (State.aodFed s).pending = s.pending := by
  intros; simp [State.aodFed]

@[simp] theorem execVinUndervoltage_pending : ∀ (s : State),
    outPending (execVinUndervoltage s) = some (s.pending) := by
  intros; unfold execVinUndervoltage; split <;> simp

@[simp] theorem execUvloShutdownComplete_pending : ∀ (s : State),
    outPending (execUvloShutdownComplete s) = some (s.pending) := by
  intros; simp [execUvloShutdownComplete]

@[simp] theorem execVinRecover_pending : ∀ (s : State), outPending (execVinRecover s) = some (s.pending) := by
  intros; unfold execVinRecover; split <;> simp

@[simp] theorem execVioLoss_pending : ∀ (s : State), outPending (execVioLoss s) = some (s.pending) := by
  intros; simp [execVioLoss]

@[simp] theorem execVioReturn_pending : ∀ (s : State), outPending (execVioReturn s) = some (s.pending) := by
  intros; simp [execVioReturn]

@[simp] theorem execVdacChange_pending : ∀ (good : Bool) (s : State),
    outPending (execVdacChange good s) = some (s.pending) := by
  intros; simp [execVdacChange]

@[simp] theorem execVaoChange_pending : ∀ (on : Bool) (s : State),
    outPending (execVaoChange on s) = some (s.pending) := by
  intros; simp [execVaoChange]

@[simp] theorem execSuppliesGood_pending : ∀ (s : State), outPending (execSuppliesGood s) = some (s.pending) := by
  intros; simp [execSuppliesGood]

@[simp] theorem execNresetRequest_pending : ∀ (s : State), outPending (execNresetRequest s) = some (s.pending) := by
  intros; simp [execNresetRequest]

@[simp] theorem execShankFault_pending : ∀ (s : State), outPending (execShankFault s) = some (s.pending) := by
  intros; simp [execShankFault]

@[simp] theorem execThermalTrip_pending : ∀ (s : State), outPending (execThermalTrip s) = some (s.pending) := by
  intros; simp [execThermalTrip]

@[simp] theorem execThermalRestart_pending : ∀ (s : State), outPending (execThermalRestart s) = some (s.pending) := by
  intros; simp [execThermalRestart]

@[simp] theorem State.idacsPowerUp_pending : ∀ (s : State), (State.idacsPowerUp s).pending = s.pending := by
  intros; simp [State.idacsPowerUp]

@[simp] theorem execResetRelease_pending : ∀ (boot : Fin 4) (slot : Fin 2) (keeper : Nat) (roleIn : Bool) (s : State),
    outPending (execResetRelease boot slot keeper roleIn s) = some (s.pending) := by
  intros; simp [execResetRelease]

@[simp] theorem execBootSelfCheck_pending : ∀ (pass : Bool) (s : State),
    outPending (execBootSelfCheck pass s) = some (s.pending) := by
  intros; simp [execBootSelfCheck]

@[simp] theorem State.countAttempt_pending : ∀ (s : State), (State.countAttempt s).pending = s.pending := by
  intros; simp [State.countAttempt]

@[simp] theorem State.bootSlotNow_pending : ∀ (s : State) (k : Nat), (State.bootSlotNow s k).pending = s.pending := by
  intros; simp [State.bootSlotNow]

@[simp] theorem State.rollBack_pending : ∀ (s : State), (State.rollBack s).pending = s.pending := by
  intros; unfold State.rollBack; split <;> simp

@[simp] theorem execFirmwareLoaded_pending : ∀ (okA okB : Bool) (s : State),
    outPending (execFirmwareLoaded okA okB s) = some (s.pending) := by
  intros; simp [execFirmwareLoaded]

@[simp] theorem State.startUp_pending : ∀ (s : State), (State.startUp s).pending = s.pending := by
  intros; simp [State.startUp]

@[simp] theorem execPersistReplayDone_pending : ∀ (s : State),
    outPending (execPersistReplayDone s) = some (s.pending) := by
  intros; simp [execPersistReplayDone]

@[simp] theorem State.idacsStart_pending : ∀ (s : State), (State.idacsStart s).pending = s.pending := by
  intros; simp [State.idacsStart]

@[simp] theorem State.refreshHealth_pending : ∀ (s : State), (State.refreshHealth s).pending = s.pending := by
  intros; simp [State.refreshHealth]

@[simp] theorem State.takeDrive_pending : ∀ (s : State), (State.takeDrive s).pending = s.pending := by
  intros; simp [State.takeDrive]

@[simp] theorem State.resumeStreams_pending : ∀ (s : State), (State.resumeStreams s).pending = s.pending := by
  intros; simp [State.resumeStreams]

@[simp] theorem State.becomeActive_pending : ∀ (s : State) (cause : Nat),
    (State.becomeActive s cause).pending = s.pending := by
  intros; simp [State.becomeActive]

@[simp] theorem State.fence_pending : ∀ (s : State), (State.fence s).pending = s.pending := by
  intros; simp [State.fence]

@[simp] theorem State.takeOver_pending : ∀ (s : State) (cause : Nat),
    (State.takeOver s cause).pending = s.pending := by
  intros; simp [State.takeOver]

@[simp] theorem State.takeLost_pending : ∀ (s : State) (cause : Nat),
    (State.takeLost s cause).pending = s.pending := by
  intros; simp [State.takeLost]

@[simp] theorem State.enterFailed_pending : ∀ (s : State), (State.enterFailed s).pending = s.pending := by
  intros; simp [State.enterFailed]

@[simp] theorem State.enterResync_pending : ∀ (s : State), (State.enterResync s).pending = s.pending := by
  intros; simp [State.enterResync]

@[simp] theorem State.declareLost_pending : ∀ (s : State) (cause : Nat),
    (State.declareLost s cause).pending = s.pending := by
  intros; simp [State.declareLost]

@[simp] theorem execElection_pending : ∀ (s : State), outPending (execElection s) = some (s.pending) := by
  intros; simp [execElection]

@[simp] theorem execRoleLineFall_pending : ∀ (s : State), outPending (execRoleLineFall s) = some (s.pending) := by
  intros; simp [execRoleLineFall]

@[simp] theorem execHeartbeatTimeout_pending : ∀ (sideband lace : Bool) (s : State),
    outPending (execHeartbeatTimeout sideband lace s) = some (s.pending) := by
  intros; simp [execHeartbeatTimeout]

@[simp] theorem execTwTakeFall_pending : ∀ (s : State), outPending (execTwTakeFall s) = some (s.pending) := by
  intros; simp [execTwTakeFall]

@[simp] theorem execTwHbEdge_pending : ∀ (roleIn : Bool) (s : State),
    outPending (execTwHbEdge roleIn s) = some (s.pending) := by
  intros; simp [execTwHbEdge]

@[simp] theorem execTwHbToggle_pending : ∀ (s : State), outPending (execTwHbToggle s) = some (s.pending) := by
  intros; simp [execTwHbToggle]

@[simp] theorem State.switchNow_pending : ∀ (s : State), (State.switchNow s).pending = s.pending := by
  intros; simp [State.switchNow]

@[simp] theorem execTwinSwitch_pending : ∀ (s : State), outPending (execTwinSwitch s) = some (s.pending) := by
  intros; simp [execTwinSwitch]

@[simp] theorem State.loadSafeScene_pending : ∀ (s : State), (State.loadSafeScene s).pending = s.pending := by
  intros; simp [State.loadSafeScene]

@[simp] theorem execSafeSceneLoaded_pending : ∀ (s : State),
    outPending (execSafeSceneLoaded s) = some (s.pending) := by
  intros; simp [execSafeSceneLoaded]

@[simp] theorem State.laceFrame_pending (s : State) (f : LaceIn) (type : Nat) (body : List Byte) (act : State →
    State) (h : (act s).pending = s.pending) : (s.laceFrame f type body act).pending = s.pending := by
  unfold State.laceFrame; (repeat' split) <;> simp [h]

@[simp] theorem State.sendLaceHello_pending : ∀ (s : State) (lane : Nat),
    (State.sendLaceHello s lane).pending = s.pending := by
  intros; simp [State.sendLaceHello]

@[simp] theorem execLaceLaneUp_pending : ∀ (lane : Fin 2) (s : State),
    outPending (execLaceLaneUp lane s) = some (s.pending) := by
  intros; simp [execLaceLaneUp]

@[simp] theorem State.wiring_pending : ∀ (s : State) (n : Nat) (sev : Severity),
    (State.wiring s n sev).pending = s.pending := by
  intros; simp [State.wiring]

@[simp] theorem State.formPair_pending : ∀ (s : State) (h : LaceHello), (State.formPair s h).pending = s.pending := by
  intros; simp [State.formPair]

@[simp] theorem State.helloFaults_pending : ∀ (s : State) (f : LaceIn) (h : LaceHello),
    (State.helloFaults s f h).pending = s.pending := by
  intros; unfold State.helloFaults; dsimp only []; (repeat' split) <;> simp

@[simp] theorem State.hearHello_pending : ∀ (s : State) (f : LaceIn) (h : LaceHello),
    (State.hearHello s f h).pending = s.pending := by
  intros; unfold State.hearHello; dsimp only []; (repeat' split) <;> simp

@[simp] theorem execLaceHello_pending : ∀ (f : LaceIn) (h : LaceHello) (s : State),
    outPending (execLaceHello f h s) = some (s.pending) := by
  intros; unfold execLaceHello; (repeat' split) <;> simp

@[simp] theorem execLaceHeartbeat_pending : ∀ (f : LaceIn) (h : LaceBeat) (boundary sent : Nat) (s : State),
    outPending (execLaceHeartbeat f h boundary sent s) = some (s.pending) := by
  intros; simp [execLaceHeartbeat]

@[simp] theorem execLaceHeartbeatTimer_pending : ∀ (s : State),
    outPending (execLaceHeartbeatTimer s) = some (s.pending) := by
  intros; simp [execLaceHeartbeatTimer]

@[simp] theorem execLaceTimeTimer_pending : ∀ (s : State), outPending (execLaceTimeTimer s) = some (s.pending) := by
  intros; simp [execLaceTimeTimer]

@[simp] theorem execLaceTime_pending (f : LaceIn) (a b c : Int) (s : State) : outPending (execLaceTime f a b c s)
    = some s.pending := by
  unfold execLaceTime; rw [outPending_next, State.laceFrame_pending]; simp only []; (repeat' split) <;> simp

@[simp] theorem execMirror_pending : ∀ (f : LaceIn) (block first : Nat) (rows : List (Nat × List (BitVec 32)))
    (s : State),
    outPending (execMirror f block first rows s) = some (s.pending) := by
  intros; simp [execMirror]

@[simp] theorem State.mirrorBlock_pending : ∀ (s : State) (k : Nat), (State.mirrorBlock s k).pending = s.pending := by
  intros; simp [State.mirrorBlock]

@[simp] theorem State.cutSample_pending : ∀ (s : State) (k c p : Nat),
    (State.cutSample s k c p).pending = s.pending := by
  intros; unfold State.cutSample; (repeat' (first | split | (apply foldl_pending; intros))); all_goals simp

@[simp] theorem State.sendRepair_pending : ∀ (s : State) (k : Nat) (e : Nat × Nat),
    (State.sendRepair s k e).pending = s.pending := by
  intros; simp [State.sendRepair]

@[simp] theorem State.reconcile_pending : ∀ (s : State) (k : Nat), (State.reconcile s k).pending = s.pending := by
  intros; unfold State.reconcile; split <;> simp

@[simp] theorem execInPresenceSend_pending : ∀ (s : State), outPending (execInPresenceSend s) = some (s.pending) := by
  intros; simp [execInPresenceSend]

@[simp] theorem execInPresence_pending : ∀ (f : LaceIn) (block : Nat) (maps : List (Nat × Nat)) (s : State),
    outPending (execInPresence f block maps s) = some (s.pending) := by
  intros; simp [execInPresence]

@[simp] theorem execRepair_pending : ∀ (f : LaceIn) (block ctx first : Nat) (words : List Nat)
    (rows : List (List (BitVec 32))) (s : State),
    outPending (execRepair f block ctx first words rows s) = some (s.pending) := by
  intros; simp [execRepair]

@[simp] theorem State.closeRepairs_pending : ∀ (s : State) (k : Nat),
    (State.closeRepairs s k).pending = s.pending := by
  intros; simp [State.closeRepairs]

@[simp] theorem execOutDigest_pending : ∀ (f : LaceIn) (d : Digest) (s : State),
    outPending (execOutDigest f d s) = some (s.pending) := by
  intros; simp [execOutDigest]

@[simp] theorem State.compareDigests_pending : ∀ (s : State) (m : Nat),
    (State.compareDigests s m).pending = s.pending := by
  intros; unfold State.compareDigests; split <;> simp

@[simp] theorem State.digestBoundary_pending : ∀ (s : State) (k : Nat),
    (State.digestBoundary s k).pending = s.pending := by
  intros; simp [State.digestBoundary]

@[simp] theorem State.diverge_pending : ∀ (s : State), (State.diverge s).pending = s.pending := by
  intros; simp [State.diverge]

@[simp] theorem State.judgeTests_pending : ∀ (s : State), (State.judgeTests s).pending = s.pending := by
  intros; unfold State.judgeTests; split <;> simp

@[simp] theorem execSelftestDone_pending : ∀ (unit : Nat) (pass : Bool) (s : State),
    outPending (execSelftestDone unit pass s) = some (s.pending) := by
  intros; simp [execSelftestDone]

@[simp] theorem execSelftest_pending : ∀ (f : LaceIn) (unit : Nat) (pass : Bool) (s : State),
    outPending (execSelftest f unit pass s) = some (s.pending) := by
  intros; simp [execSelftest]

@[simp] theorem execSelftestResultTimeout_pending : ∀ (s : State),
    outPending (execSelftestResultTimeout s) = some (s.pending) := by
  intros; unfold execSelftestResultTimeout; split <;> simp

@[simp] theorem State.sendBlob_pending : ∀ (s : State) (b : Blob),
    (State.sendBlob s b).pending = s.pending := by
  intros; simp [State.sendBlob]

@[simp] theorem State.sendCheckpoint_pending : ∀ (s : State) (k : Nat) (c : Checkpoint),
    (State.sendCheckpoint s k c).pending = s.pending := by
  intros; simp [State.sendCheckpoint]

@[simp] theorem execCheckpointAck_pending : ∀ (f : LaceIn) (block held : Nat) (s : State),
    outPending (execCheckpointAck f block held s) = some (s.pending) := by
  intros; simp [execCheckpointAck]

@[simp] theorem execLaceBlob_pending (f : LaceIn) (a g o t : Nat) (d : List Byte) (s : State) :
    outPending (execLaceBlob f a g o t d s) = some s.pending := by
  unfold execLaceBlob; rw [outPending_next, State.laceFrame_pending]; simp only []; split
  · rfl
  · generalize (if o = 0 then some [] else _) = x
    (repeat' split) <;> simp

@[simp] theorem State.putTxn_pending : ∀ (s : State) (t : Txn), (State.putTxn s t).pending = s.pending := by
  intros; simp [State.putTxn]

@[simp] theorem State.newTxnId_pending : ∀ (s : State), (Prod.fst (State.newTxnId s)).pending = s.pending := by
  intros; simp [State.newTxnId]

@[simp] theorem State.sendTxn_pending : ∀ (s : State) (code : Nat) (t : Txn) (node : Nat) (fields : List Byte),
    (State.sendTxn s code t node fields).pending = s.pending := by
  intros; simp [State.sendTxn]

@[simp] theorem State.sendDecision_pending : ∀ (s : State) (t : Txn) (commit : Bool),
    (State.sendDecision s t commit).pending = s.pending := by
  intros; simp [State.sendDecision]

@[simp] theorem State.finish_pending : ∀ (s : State) (t : Txn) (st reason : Nat),
    (State.finish s t st reason).pending = s.pending := by
  intros; simp [State.finish]

@[simp] theorem State.abortTxn_pending : ∀ (s : State) (t : Txn) (reason : Nat),
    (State.abortTxn s t reason).pending = s.pending := by
  intros; simp [State.abortTxn]

@[simp] theorem State.abortTold_pending : ∀ (s : State) (t : Txn) (reason : Nat),
    (State.abortTold s t reason).pending = s.pending := by
  intros; unfold State.abortTold; (repeat' (first | split | (apply foldl_pending; intros))) <;> simp

@[simp] theorem State.learn_pending : ∀ (s : State) (t : Txn) (commit : Bool) (block reason : Nat),
    (State.learn s t commit block reason).pending = s.pending := by
  intros; simp [State.learn]

@[simp] theorem State.txnResolve_pending : ∀ (s : State) (id : Nat) (commit : Bool),
    (State.txnResolve s id commit).pending = s.pending := by
  intros; unfold State.txnResolve; split <;> simp

@[simp] theorem State.putSession_pending : ∀ (s : State) (x : Session),
    (State.putSession s x).pending = s.pending := by
  intros; simp [State.putSession]

@[simp] theorem State.frameFor_pending : ∀ (s : State) (session : Nat) (body : List Byte),
    (State.frameFor s session body).1.pending = s.pending := by
  intros; unfold State.frameFor; (repeat' (first | split | (apply foldl_pending; intros))) <;> simp

@[simp] theorem State.spiEmit_pending : ∀ (s : State) (f : SpiFrame),
    (State.spiEmit s f).pending = s.pending := by
  intros; simp [State.spiEmit]

@[simp] theorem State.emit_pending : ∀ (s : State) (src : Source) (session : Nat) (body : List Byte) (notify : Bool),
    (State.emit s src session body notify).pending = s.pending := by
  intros; simp [State.emit]; (repeat' split); all_goals simp

@[simp] theorem State.dropShadow_pending : ∀ (s : State) (x : Shadow),
    (State.dropShadow s x).pending = s.pending := by
  intros; unfold State.dropShadow; split <;> simp

@[simp] theorem State.endSession_pending : ∀ (s : State) (id : Nat) (src : Source),
    (State.endSession s id src).pending = s.pending := by
  intros; simp [State.endSession]

@[simp] theorem State.sendClose_pending : ∀ (s : State) (x : Session) (reason : Nat),
    (State.sendClose s x reason).pending = s.pending := by
  intros; unfold State.sendClose; (repeat' (first | split | (apply foldl_pending; intros))) <;> simp

@[simp] theorem State.closeSession_pending : ∀ (s : State) (id reason : Nat),
    (State.closeSession s id reason).pending = s.pending := by
  intros; unfold State.closeSession; split <;> simp

@[simp] theorem State.closeSessions_pending : ∀ (s : State) (reason : Nat),
    (State.closeSessions s reason).pending = s.pending := by
  intros; simp [State.closeSessions]

@[simp] theorem State.closeUdp_pending : ∀ (s : State),
    (State.closeUdp s).pending = s.pending := by
  intros; unfold State.closeUdp; (repeat' (first | split | (apply foldl_pending; intros))) <;> simp

@[simp] theorem State.portMoved_pending : ∀ (before s : State), (State.portMoved before s).pending = s.pending := by
  intros; unfold State.portMoved; split <;> simp

@[simp] theorem execHandshakeTimeout_pending : ∀ (id : Nat) (s : State),
    outPending (execHandshakeTimeout id s) = some (s.pending) := by
  intros; simp [execHandshakeTimeout]

@[simp] theorem execSessionIdleTimeout_pending : ∀ (id : Nat) (s : State),
    outPending (execSessionIdleTimeout id s) = some (s.pending) := by
  intros; simp [execSessionIdleTimeout]

@[simp] theorem execSessionRekey_pending : ∀ (id : Nat) (s : State),
    outPending (execSessionRekey id s) = some (s.pending) := by
  intros; simp [execSessionRekey]

@[simp] theorem execRoleChangeClose_pending : ∀ (s : State),
    outPending (execRoleChangeClose s) = some (s.pending) := by
  intros; simp [execRoleChangeClose]

@[simp] theorem execBlobShadowExpire_pending : ∀ (addr : Nat) (s : State),
    outPending (execBlobShadowExpire addr s) = some (s.pending) := by
  intros; unfold execBlobShadowExpire; split <;> simp

@[simp] theorem State.persistAll_pending : ∀ (s : State), (State.persistAll s).pending = s.pending := by
  intros; simp [State.persistAll]

@[simp] theorem State.noteAppend_pending : ∀ (s : State) (bytes : Nat),
    (State.noteAppend s bytes).pending = s.pending := by
  intros; simp [State.noteAppend]

@[simp] theorem State.appendBytes_pending : ∀ (s : State) (bytes : Nat),
    (State.appendBytes s bytes).pending = s.pending := by
  intros; unfold State.appendBytes; (repeat' (first | split | (apply foldl_pending; intros))) <;> simp

@[simp] theorem State.appendAll_pending : ∀ (s : State),
    (State.appendAll s).pending = s.pending := by
  intros; unfold State.appendAll; (repeat' (first | split | (apply foldl_pending; intros))) <;> simp

@[simp] theorem State.persistFails_pending : ∀ (s : State), (State.persistFails s).pending = s.pending := by
  intros; simp [State.persistFails]

@[simp] theorem execPersistAppend_pending : ∀ (ok : Bool) (bytes : Nat) (s : State),
    outPending (execPersistAppend ok bytes s) = some (s.pending) := by
  intros; simp [execPersistAppend]

@[simp] theorem State.condition_pending : ∀ (s : State) (index code : Nat) (sev : Severity) (on : Bool),
    (State.condition s index code sev on).pending = s.pending := by
  intros; simp [State.condition]

@[simp] theorem execSensorSample_pending : ∀ (x : Sensors) (s : State),
    outPending (execSensorSample x s) = some (s.pending) := by
  intros; simp [execSensorSample]

@[simp] theorem execLifeUpdate_pending : ∀ (s : State), outPending (execLifeUpdate s) = some (s.pending) := by
  intros; simp [execLifeUpdate]

@[simp] theorem State.ownerChanged_pending : ∀ (s : State), (State.ownerChanged s).pending = s.pending := by
  intros; simp [State.ownerChanged]

@[simp] theorem State.setOwner_pending : ∀ (s : State) (cert : Option (List Byte)),
    (State.setOwner s cert).pending = s.pending := by
  intros; simp [State.setOwner]

@[simp] theorem State.ownerClear_pending : ∀ (s : State), (State.ownerClear s).pending = s.pending := by
  intros; simp [State.ownerClear]

@[simp] theorem State.imageLoaded_pending : ∀ (s : State) (k : Nat) (valid : Bool),
    (State.imageLoaded s k valid).pending = s.pending := by
  intros; simp [State.imageLoaded]

@[simp] theorem State.fwActivate_pending : ∀ (s : State) (k slot : Nat),
    (State.fwActivate s k slot).pending = s.pending := by
  intros; simp [State.fwActivate]

@[simp] theorem execFwActivate_pending : ∀ (slot : Fin 2) (s : State),
    outPending (execFwActivate slot s) = some (s.pending) := by
  intros; simp [execFwActivate]

@[simp] theorem State.activateNow_pending : ∀ (s : State) (slot : Nat),
    (State.activateNow s slot).pending = s.pending := by
  intros; simp [State.activateNow]

@[simp] theorem execFwTrialConfirm_pending : ∀ (s : State), outPending (execFwTrialConfirm s) = some (s.pending) := by
  intros; unfold execFwTrialConfirm; split <;> simp

@[simp] theorem State.armAlarm_pending : ∀ (s : State), (State.armAlarm s).pending = s.pending := by
  intros; unfold State.armAlarm; split <;> simp

@[simp] theorem execAodSlew_pending : ∀ (trim : Int) (s : State),
    outPending (execAodSlew trim s) = some (s.pending) := by
  intros; simp [execAodSlew]

@[simp] theorem execAodAlarm_pending : ∀ (n : Fin 4) (s : State),
    outPending (execAodAlarm n s) = some (s.pending) := by
  intros; simp [execAodAlarm]

@[simp] theorem State.showWake_pending : ∀ (s : State) (x0 : Wake), (State.showWake s x0).pending = s.pending := by
  intros; unfold State.showWake; (repeat' (first | split | (apply foldl_pending; intros))); all_goals simp

@[simp] theorem execWakeEvent_pending : ∀ (w : Wake) (s : State),
    outPending (execWakeEvent w s) = some (s.pending) := by
  intros; simp [execWakeEvent]

@[simp] theorem State.stopRender_pending : ∀ (s : State) (k : Nat), (State.stopRender s k).pending = s.pending := by
  intros; simp [State.stopRender]

@[simp] theorem State.startRender_pending : ∀ (s : State), (State.startRender s).pending = s.pending := by
  intros; simp [State.startRender]

@[simp] theorem State.powerEntry_pending : ∀ (s : State) (k target : Nat),
    (State.powerEntry s k target).pending = s.pending := by
  intros; simp [State.powerEntry]

@[simp] theorem execPowerEntry_pending : ∀ (dormant : Bool) (s : State),
    outPending (execPowerEntry dormant s) = some (s.pending) := by
  intros; simp [execPowerEntry]

@[simp] theorem State.transition_pending : ∀ (s : State) (k target : Nat),
    (State.transition s k target).pending = s.pending := by
  intros; simp [State.transition]

@[simp] theorem State.pwRequest_pending : ∀ (s : State) (target : Nat),
    (State.pwRequest s target).pending = s.pending := by
  intros; simp [State.pwRequest]

@[simp] theorem State.powerHeld_pending : ∀ (s : State) (k : Nat), (State.powerHeld s k).pending = s.pending := by
  intros; unfold State.powerHeld; split <;> simp

@[simp] theorem execPwRequest_pending : ∀ (v : Fin 3) (s : State),
    outPending (execPwRequest v s) = some (s.pending) := by
  intros; simp [execPwRequest]

@[simp] theorem State.quietReached_pending : ∀ (s : State) (k : Nat),
    (State.quietReached s k).pending = s.pending := by
  intros; unfold State.quietReached; split <;> simp

@[simp] theorem State.autoOn_pending : ∀ (s : State) (k : Nat), (State.autoOn s k).pending = s.pending := by
  intros; simp [State.autoOn]

@[simp] theorem State.autoReturn_pending : ∀ (s : State), (State.autoReturn s).pending = s.pending := by
  intros; simp [State.autoReturn]

@[simp] theorem State.powerBoundary_pending : ∀ (s : State) (k : Nat),
    (State.powerBoundary s k).pending = s.pending := by
  intros; simp [State.powerBoundary]

@[simp] theorem State.dormantNow_pending : ∀ (s : State), (State.dormantNow s).pending = s.pending := by
  intros; simp [State.dormantNow]

@[simp] theorem execDormantReached_pending : ∀ (level : Option Wake) (s : State),
    outPending (execDormantReached level s) = some (s.pending) := by
  intros; simp [execDormantReached]; (repeat' split); all_goals simp

@[simp] theorem State.armPassed_pending : ∀ (s : State), (State.armPassed s).pending = s.pending := by
  intros; simp [State.armPassed]

@[simp] theorem execWakeComplete_pending : ∀ (k : Nat) (s : State),
    outPending (execWakeComplete k s) = some (s.pending) := by
  intros; simp [execWakeComplete]

@[simp] theorem State.setBlobGen_pending : ∀ (s : State) (o : Obj) (i gen : Nat) (data : List Byte),
    (State.setBlobGen s o i gen data).pending = s.pending := by
  intros; simp [State.setBlobGen]

@[simp] theorem State.keepBlob_pending : ∀ (s : State) (o : Obj) (i : Nat),
    (State.keepBlob s o i).pending = s.pending := by
  intros; simp [State.keepBlob]

@[simp] theorem State.keepCounter_pending : ∀ (s : State) (o : Obj) (i : Nat),
    (State.keepCounter s o i).pending = s.pending := by
  intros; unfold State.keepCounter; (repeat' (first | split | (apply foldl_pending; intros))) <;> simp

@[simp] theorem State.spendShadow_pending : ∀ (s : State) (a : Nat), (State.spendShadow s a).pending = s.pending := by
  intros; simp [State.spendShadow]

@[simp] theorem State.takeHandle_pending : ∀ (s : State) (o : Obj) (i h : Nat),
    (State.takeHandle s o i h).pending = s.pending := by
  intros; unfold State.takeHandle; (repeat' (first | split | (apply foldl_pending; intros))); all_goals simp

@[simp] theorem State.dropEtchSet_pending : ∀ (s : State) (j : Nat), (State.dropEtchSet s j).pending = s.pending := by
  intros; simp [State.dropEtchSet]

@[simp] theorem State.swapEtch_pending : ∀ (s : State) (j h : Nat), (State.swapEtch s j h).pending = s.pending := by
  intros; simp [State.swapEtch]

@[simp] theorem State.etchShrinks_pending : ∀ (s : State) (j : Nat), (State.etchShrinks s j).pending = s.pending := by
  intros; simp [State.etchShrinks]

@[simp] theorem State.etchFits_pending : ∀ (s : State) (j : Nat), (State.etchFits s j).pending = s.pending := by
  intros; simp [State.etchFits]

@[simp] theorem State.refit_pending : ∀ (s : State) (e : Nat × Nat),
    (State.refit s e).pending = s.pending := by
  intros; unfold State.refit; (repeat' split) <;> simp

@[simp] theorem State.rateChanged_pending (old s : State) : (old.rateChanged s).pending = s.pending := by
  unfold State.rateChanged; simp only []; rw [foldl_pending (h := by intros; simp), foldl_pending (h :=
    by intros; simp)]; split
  · rw [foldl_pending]; intros; split <;> simp
  · rfl

@[simp] theorem State.pdmSyncAll_pending : ∀ (s : State) (k : Nat) (p : Nat → Bool),
    (State.pdmSyncAll s k p).pending = s.pending := by
  intros; simp [State.pdmSyncAll]

@[simp] theorem State.renderStop_pending : ∀ (s : State), (State.renderStop s).pending = s.pending := by
  intros; simp [State.renderStop]

@[simp] theorem State.runArea_pending : ∀ (s : State) (k : Nat) (st : Obj) (i v : Nat),
    (State.runArea s k st i v).pending = s.pending := by
  intros; simp [State.runArea]

@[simp] theorem State.runChanged_pending : ∀ (s : State) (k : Nat) (o : Obj) (i v : Nat),
    (State.runChanged s k o i v).pending = s.pending := by
  intros; unfold State.runChanged; split <;> simp

@[simp] theorem State.idacsResume_pending : ∀ (s : State), (State.idacsResume s).pending = s.pending := by
  intros; simp [State.idacsResume]

@[simp] theorem State.startsDone_pending : ∀ (s : State), (State.startsDone s).pending = s.pending := by
  intros; simp [State.startsDone]

@[simp] theorem State.reactTime_pending : ∀ (s : State) (o : Obj) (i : Nat) (changed : Bool),
    (State.reactTime s o i changed).pending = s.pending := by
  intros; simp [State.reactTime]

@[simp] theorem State.reactScene_pending : ∀ (s : State) (o : Obj) (i k : Nat),
    (State.reactScene s o i k).pending = s.pending := by
  intros; simp [State.reactScene]

@[simp] theorem State.restartSides_pending : ∀ (s : State) (n : Nat),
    (State.restartSides s n).pending = s.pending := by
  intros; simp [State.restartSides]

@[simp] theorem State.reactLocal_pending : ∀ (s : State) (k : Nat) (o : Obj) (i : Nat),
    (State.reactLocal s k o i).pending = s.pending := by
  intros; simp [State.reactLocal]

@[simp] theorem State.reactServices_pending : ∀ (s : State) (o : Obj) (i : Nat),
    (State.reactServices s o i).pending = s.pending := by
  intros; simp [State.reactServices]

@[simp] theorem State.reactFabric_pending : ∀ (s : State) (o : Obj) (i old : Nat),
    (State.reactFabric s o i old).pending = s.pending := by
  intros; simp [State.reactFabric]

@[simp] theorem State.reactNodes_pending : ∀ (s : State) (o : Obj) (i : Nat) (before : List Byte),
    (State.reactNodes s o i before).pending = s.pending := by
  intros; simp [State.reactNodes]

@[simp] theorem State.reactMonitor_pending : ∀ (s : State) (o : Obj) (i : Nat),
    (State.reactMonitor s o i).pending = s.pending := by
  intros; simp [State.reactMonitor]

@[simp] theorem State.react_pending : ∀ (s : State) (k : Nat) (o : Obj) (i old : Nat) (changed : Bool)
    (before : List Byte),
    (State.react s k o i old changed before).pending = s.pending := by
  intros; simp [State.react]

@[simp] theorem State.persistFlush_pending : ∀ (s : State), (State.persistFlush s).pending = s.pending := by
  intros; simp [State.persistFlush]

@[simp] theorem State.idacPush_pending : ∀ (s : State) (l : Nat), (State.idacPush s l).pending = s.pending := by
  intros; simp [State.idacPush]

@[simp] theorem State.twinRejoin_pending : ∀ (s : State), (State.twinRejoin s).pending = s.pending := by
  intros; simp [State.twinRejoin]

@[simp] theorem State.askCapture_pending : ∀ (s : State) (j : Nat), (State.askCapture s j).pending = s.pending := by
  intros; simp [State.askCapture]

@[simp] theorem State.commandShow_pending : ∀ (s : State) (k : Nat) (o : Obj) (i v : Nat),
    (State.commandShow s k o i v).pending = s.pending := by
  intros; simp [State.commandShow]

@[simp] theorem State.commandUnit_pending : ∀ (s : State) (k : Nat) (o : Obj) (i v : Nat),
    (State.commandUnit s k o i v).pending = s.pending := by
  intros; simp [State.commandUnit]

@[simp] theorem State.command_pending : ∀ (s : State) (k : Nat) (o : Obj) (i v : Nat),
    (State.command s k o i v).pending = s.pending := by
  intros; simp [State.command]

@[simp] theorem State.persistValue_pending : ∀ (s : State) (o : Obj) (i k v : Nat),
    (State.persistValue s o i k v).pending = s.pending := by
  intros; simp [State.persistValue]

@[simp] theorem State.assign_pending : ∀ (s : State) (k : Nat) (o : Obj) (i sub v : Nat),
    (State.assign s k o i sub v).pending = s.pending := by
  intros; simp [State.assign]

@[simp] theorem State.excludeFailed_pending : ∀ (s : State) (j : Nat),
    (State.excludeFailed s j).pending = s.pending := by
  intros; simp [State.excludeFailed]

@[simp] theorem State.applyValue_pending : ∀ (s : State) (k a v : Nat) (keep : Bool),
    (State.applyValue s k a v keep).pending = s.pending := by
  intros; unfold State.applyValue; split <;> simp

@[simp] theorem State.modNote_pending : ∀ (s : State) (e : Nat) (f : ActionNote → ActionNote),
    (State.modNote s e f).pending = s.pending := by
  intros; simp [State.modNote]

@[simp] theorem State.shedUnder_pending : ∀ (s : State) (rung : Nat),
    (State.shedUnder s rung).pending = s.pending := by
  intros; unfold State.shedUnder; (repeat' (first | split | (apply foldl_pending; intros))) <;> simp

@[simp] theorem State.shedFor_pending : ∀ (s : State) (rung : Nat) (addrs : List Nat),
    (State.shedFor s rung addrs).pending = s.pending := by
  intros; unfold State.shedFor; (repeat' (first | split | (apply foldl_pending; intros))) <;> simp

theorem State.takeSlot_pending {s u : State} {t : Txn} (h : s.takeSlot t = some u) :
    u.pending = s.pending := by
  unfold State.takeSlot at h; rw [Option.map_eq_some_iff] at h; obtain ⟨n, _, rfl⟩ := h; rfl

theorem State.openTxn_pending {s u : State} {a b : Nat} {c : Option (Source × Nat)} {d : Role}
    {t : Txn} (h : s.openTxn a b c d = some (u, t)) : u.pending = s.pending := by
  unfold State.openTxn at h; simp only [Option.map_eq_some_iff] at h; obtain ⟨v, hv, he⟩ := h; cases he
  exact (State.takeSlot_pending hv).trans rfl

@[simp] theorem State.toDefault_pending : ∀ (s : State) (o : Obj) (i : Nat),
    (State.toDefault s o i).pending = s.pending := by
  intros; simp [State.toDefault]

@[simp] theorem State.settleEntry_pending : ∀ (s : State) (e oldKind : Nat) (written : List Nat),
    (State.settleEntry s e oldKind written).pending = s.pending := by
  intros; simp [State.settleEntry]

@[simp] theorem State.unfault_pending : ∀ (s : State) (items : List Item),
    (State.unfault s items).pending = s.pending := by
  intros; simp [State.unfault]

@[simp] theorem State.applyItems_pending : ∀ (s : State) (k : Nat) (l : List Item),
    (State.applyItems s k l).pending = s.pending := by
  intros; simp [State.applyItems]

@[simp] theorem State.settleChanges_pending : ∀ (s : State) (k : Nat),
    (State.settleChanges s k).pending = s.pending := by
  intros; simp [State.settleChanges]

@[simp] theorem State.fireWindow_pending : ∀ (s : State) (k e due : Nat),
    (State.fireWindow s k e due).pending = s.pending := by
  intros; simp [State.fireWindow]

@[simp] theorem State.fireTxn_pending : ∀ (s : State) (k e : Nat),
    (Prod.fst (State.fireTxn s k e)).pending = s.pending := by
  intros; unfold State.fireTxn; (repeat' split) <;> simp

@[simp] theorem State.fire_pending : ∀ (s : State) (k e due : Nat) (late : Bool),
    (State.fire s k e due late).pending = s.pending := by
  intros; simp [State.fire]; (repeat' split); all_goals simp

@[simp] theorem State.blockEntry_pending : ∀ (s : State) (k e : Nat),
    (State.blockEntry s k e).pending = s.pending := by
  intros; unfold State.blockEntry; split <;> simp

@[simp] theorem State.jumpEntry_pending : ∀ (s : State) (e : Nat) (old now : Int),
    (State.jumpEntry s e old now).pending = s.pending := by
  intros; simp [State.jumpEntry]

@[simp] theorem State.lateShow_pending : ∀ (s : State) (k e : Nat), (State.lateShow s k e).pending = s.pending := by
  intros; simp [State.lateShow]

@[simp] theorem State.showEntries_pending : ∀ (s : State) (k : Nat) (old now : Int) (jumped : Bool),
    (State.showEntries s k old now jumped).pending = s.pending := by
  intros; simp [State.showEntries]

@[simp] theorem State.actions_pending : ∀ (s : State) (k : Nat) (old now : Int) (jumped : Bool),
    (State.actions s k old now jumped).pending = s.pending := by
  intros; simp [State.actions]

@[simp] theorem State.arm_pending : ∀ (s : State) (t : Txn), (State.arm s t).pending = s.pending := by
  intros; simp [State.arm]

@[simp] theorem State.viewItem_pending : ∀ (v : State) (it : Item), (State.viewItem v it).pending = v.pending := by
  intros; unfold State.viewItem; (repeat' (first | split | (apply foldl_pending; intros))); all_goals simp

@[simp] theorem State.viewItems_pending : ∀ (v : State) (l : List Item),
    (State.viewItems v l).pending = v.pending := by
  intros; simp [State.viewItems]

@[simp] theorem State.viewTxn_pending : ∀ (v : State) (t : Txn), (State.viewTxn v t).pending = v.pending := by
  intros; simp [State.viewTxn]

@[simp] theorem State.viewBind_pending : ∀ (v : State), (Prod.fst (State.viewBind v)).pending = v.pending := by
  intros; simp [State.viewBind]

@[simp] theorem State.viewBefore_pending : ∀ (s : State) (t : Txn), (State.viewBefore s t).pending = s.pending := by
  intros; simp [State.viewBefore]

@[simp] theorem State.viewScene_pending : ∀ (s : State) (t : Txn), (State.viewScene s t).pending = s.pending := by
  intros; simp [State.viewScene]

@[simp] theorem State.viewEarlier_pending : ∀ (s : State) (t : Txn),
    (State.viewEarlier s t).pending = s.pending := by
  intros; unfold State.viewEarlier; (repeat' (first | split | (apply foldl_pending; intros))) <;> simp

@[simp] theorem State.viewPayloads_pending : ∀ (v : State), (State.viewPayloads v).pending = v.pending := by
  intros; unfold State.viewPayloads; (repeat' (first | split | (apply foldl_pending; intros))); all_goals simp

@[simp] theorem State.noteBroken_pending : ∀ (s : State) (v : Verdict),
    (State.noteBroken s v).pending = s.pending := by
  intros; simp [State.noteBroken]

@[simp] theorem State.prepareLocal_pending : ∀ (s : State) (who : Who) (t : Txn) (time : Nat),
    (Settled.state (State.prepareLocal s who t time)).pending = s.pending := by
  intros; simp [State.prepareLocal]; (repeat' split); all_goals simp

@[simp] theorem State.commitLocal_pending : ∀ (s : State) (t : Txn),
    (Settled.state (State.commitLocal s t)).pending = s.pending := by
  intros; simp [State.commitLocal]; (repeat' split); all_goals simp

@[simp] theorem State.commitItems_pending (s : State) (who : Who) (rung : Nat) (l : List Item) :
    (s.commitItems who rung l).1.pending = s.pending := by
  unfold State.commitItems; split
  · rfl
  · have := State.openTxn_pending ‹_›; simp only []; split <;> simp [this]

@[simp] theorem State.heard_pending : ∀ (s : State) (r : Req),
    (State.heard s r).pending = s.pending := by
  intros; unfold State.heard; (repeat' (first | split | (apply foldl_pending; intros))) <;> simp

@[simp] theorem State.keepReply_pending : ∀ (s : State) (r : Req) (kind : Nat) (body : List Byte),
    (State.keepReply s r kind body).pending = s.pending := by
  intros; simp [State.keepReply]

@[simp] theorem State.reply_pending : ∀ (s : State) (r : Req) (kind : Nat) (fields : List Nat),
    (State.reply s r kind fields).pending = s.pending := by
  intros; simp [State.reply]

@[simp] theorem State.sendChunks_pending : ∀ (s : State) (t : Txn) (first count : Nat),
    (State.sendChunks s t first count).pending = s.pending := by
  intros; simp [State.sendChunks]

@[simp] theorem State.sendPrepare_pending : ∀ (s : State) (t : Txn), (State.sendPrepare s t).pending = s.pending := by
  intros; simp [State.sendPrepare]

@[simp] theorem State.answerPrepare_pending : ∀ (s : State) (id : Nat),
    (State.answerPrepare s id).pending = s.pending := by
  intros; unfold State.answerPrepare; (repeat' (first | split | (apply foldl_pending; intros))); all_goals simp

@[simp] theorem State.journalPayload_pending : ∀ (s : State) (t : Txn),
    (State.journalPayload s t).pending = s.pending := by
  intros; simp [State.journalPayload]

@[simp] theorem State.decideNow_pending : ∀ (s : State) (id : Nat) (commit : Bool) (reason : Nat),
    (State.decideNow s id commit reason).pending = s.pending := by
  intros; unfold State.decideNow; split <;> simp

@[simp] theorem State.decideTxn_pending : ∀ (s : State) (t : Txn) (commit : Bool) (reason : Nat),
    (State.decideTxn s t commit reason).pending = s.pending := by
  intros; simp [State.decideTxn]

@[simp] theorem State.tally_pending : ∀ (s : State) (t : Txn) (deadline : Bool),
    (State.tally s t deadline).pending = s.pending := by
  intros; unfold State.tally; (repeat' (first | split | (apply foldl_pending; intros))); all_goals simp

@[simp] theorem State.prepareFabric_pending : ∀ (s : State) (who : Who) (t : Txn) (time : Nat),
    (State.prepareFabric s who t time).pending = s.pending := by
  intros; simp [State.prepareFabric]; (repeat' split); all_goals simp

@[simp] theorem State.commitFabric_pending : ∀ (s : State) (t : Txn),
    (Settled.state (State.commitFabric s t)).pending = s.pending := by
  intros; unfold State.commitFabric; (repeat' (first | split | (apply foldl_pending; intros))); all_goals simp

@[simp] theorem State.doTxnOpen_pending (s : State) (who : Who) (scope rung : Nat)
    : (s.doTxnOpen who scope rung).1.pending = s.pending := by
  unfold State.doTxnOpen; (repeat' split) <;> first | rfl | exact State.openTxn_pending ‹_›

@[simp] theorem State.doTxnAdd_pending : ∀ (s : State) (who : Who) (id : Nat) (items : List Item),
    (Prod.fst (State.doTxnAdd s who id items)).pending = s.pending := by
  intros; unfold State.doTxnAdd; (repeat' (first | split | (apply foldl_pending; intros))); all_goals simp

@[simp] theorem State.doTxnPrepare_pending : ∀ (s : State) (r : Req) (who : Who) (p : PrepareArgs),
    (Prod.fst (State.doTxnPrepare s r who p)).pending = s.pending := by
  intros; simp [State.doTxnPrepare]; (repeat' split); all_goals simp

@[simp] theorem State.doTxnCommit_pending (s : State) (who : Who) (id : Nat) : (s.doTxnCommit who id).1.pending =
    s.pending := by
  have h (t : Txn) : (if t.scope = 0 then s.commitLocal t else s.commitFabric t).state.pending =
    s.pending := by split <;> simp
  rw [State.doTxnCommit]; split
  · rfl
  · rename_i t _
    have h := h t
    generalize (if t.scope = 0 then s.commitLocal t else s.commitFabric t) = o at h ⊢
    simp only []
    split; · rfl
    split; · rfl
    split; · rfl
    split; · rfl
    split; · exact h
    split <;> exact h

@[simp] theorem State.doTxnAbort_pending : ∀ (s : State) (who : Who) (id : Nat),
    (Prod.fst (State.doTxnAbort s who id)).pending = s.pending := by
  intros; unfold State.doTxnAbort; split <;> simp

@[simp] theorem State.doTxnStatus_pending : ∀ (s : State) (who : Who) (id : Nat),
    (Prod.fst (State.doTxnStatus s who id)).pending = s.pending := by
  intros; unfold State.doTxnStatus; (repeat' (first | split | (apply foldl_pending; intros))); all_goals simp

@[simp] theorem State.originate_pending (s : State) (rung scope : Nat) (l : List Item)
    : (s.originate rung scope l).1.pending = s.pending := by
  unfold State.originate; split
  · simp
  · have := State.openTxn_pending ‹_›; simp [this]

@[simp] theorem State.eliminateTxn_pending : ∀ (s : State) (f : FabFrame),
    (Prod.fst (State.eliminateTxn s f)).pending = s.pending := by
  intros; simp [State.eliminateTxn]

@[simp] theorem State.txnFrame_pending : ∀ (s : State) (f : TxnIn) (code id : Nat) (fields : List Byte),
    (Prod.fst (State.txnFrame s f code id fields)).pending = s.pending := by
  intros; unfold State.txnFrame; dsimp only []; (repeat' split) <;> simp

@[simp] theorem State.sendVote_pending : ∀ (s : State) (id : Nat), (State.sendVote s id).pending = s.pending := by
  intros; unfold State.sendVote; split <;> simp

@[simp] theorem State.castVote_pending : ∀ (s : State) (t : Txn), (State.castVote s t).pending = s.pending := by
  intros; simp [State.castVote]

@[simp] theorem State.voteNo_pending : ∀ (s : State) (t : Txn) (reason : Nat),
    (State.voteNo s t reason).pending = s.pending := by
  intros; simp [State.voteNo]

@[simp] theorem State.voteNow_pending : ∀ (s : State) (t : Txn), (State.voteNow s t).pending = s.pending := by
  intros; unfold State.voteNow; (repeat' (first | split | (apply foldl_pending; intros))); all_goals simp

@[simp] theorem State.voteOrAsk_pending : ∀ (s : State) (t : Txn), (State.voteOrAsk s t).pending = s.pending := by
  intros; unfold State.voteOrAsk; split <;> simp

@[simp] theorem State.votesDue_pending : ∀ (s : State) (k : Nat),
    (State.votesDue s k).pending = s.pending := by
  intros; unfold State.votesDue; (repeat' (first | split | (apply foldl_pending; intros))) <;> simp

@[simp] theorem execFabTxnData_pending : ∀ (f : TxnIn) (id index count : Nat) (data : List Byte) (s : State),
    outPending (execFabTxnData f id index count data s) = some (s.pending) := by
  intros; simp [execFabTxnData]; (repeat' split); all_goals simp

@[simp] theorem execFabTxnPrepare_pending (f : TxnIn) (p : FabPrepare) (s : State) :
    outPending (execFabTxnPrepare f p s) = some s.pending := by
  have ha : (s.txnFrame f txPrepare p.id p.fields).1.pending = s.pending := by simp
  unfold execFabTxnPrepare
  generalize s.txnFrame f txPrepare p.id p.fields = a at ha ⊢
  simp only []; split
  · simp [ha]
  · split
    · simp [ha]
    · have := State.takeSlot_pending ‹_›; simp [this, ha]

@[simp] theorem execFabTxnVote_pending : ∀ (f : TxnIn) (id : Nat) (yes : Bool) (reason : Nat) (s : State),
    outPending (execFabTxnVote f id yes reason s) = some (s.pending) := by
  intros; simp [execFabTxnVote]; (repeat' split); all_goals simp

@[simp] theorem execFabTxnNack_pending : ∀ (f : TxnIn) (id first count : Nat) (s : State),
    outPending (execFabTxnNack f id first count s) = some (s.pending) := by
  intros; simp [execFabTxnNack]; (repeat' split); all_goals simp

@[simp] theorem State.told_pending : ∀ (s : State) (t : Txn) (commit : Bool) (block reason : Nat),
    (State.told s t commit block reason).pending = s.pending := by
  intros; simp [State.told]

@[simp] theorem execFabTxnDecision_pending : ∀ (f : TxnIn) (id : Nat) (commit : Bool) (block : Nat) (s : State),
    outPending (execFabTxnDecision f id commit block s) = some (s.pending) := by
  intros; simp [execFabTxnDecision]; (repeat' split); all_goals simp

@[simp] theorem State.sendOutcome_pending : ∀ (s : State) (id node : Nat),
    (State.sendOutcome s id node).pending = s.pending := by
  intros; simp [State.sendOutcome]

@[simp] theorem execFabTxnQuery_pending : ∀ (f : TxnIn) (id : Nat) (s : State),
    outPending (execFabTxnQuery f id s) = some (s.pending) := by
  intros; simp [execFabTxnQuery]

@[simp] theorem execFabTxnOutcome_pending : ∀ (f : TxnIn) (id outcome block : Nat) (s : State),
    outPending (execFabTxnOutcome f id outcome block s) = some (s.pending) := by
  intros; simp [execFabTxnOutcome]; (repeat' split); all_goals simp

@[simp] theorem execFabTxnAck_pending : ∀ (f : TxnIn) (id : Nat) (a : TxnAck) (s : State),
    outPending (execFabTxnAck f id a s) = some (s.pending) := by
  intros; simp [execFabTxnAck]

@[simp] theorem execVoteDeadline_pending : ∀ (id : Nat) (s : State),
    outPending (execVoteDeadline id s) = some (s.pending) := by
  intros; unfold execVoteDeadline; split <;> simp

@[simp] theorem execTxnCommitWaitExpire_pending : ∀ (id : Nat) (s : State),
    outPending (execTxnCommitWaitExpire id s) = some (s.pending) := by
  intros; unfold execTxnCommitWaitExpire; split <;> simp

@[simp] theorem execQueryTimer_pending : ∀ (id : Nat) (s : State),
    outPending (execQueryTimer id s) = some (s.pending) := by
  intros; unfold execQueryTimer; split <;> simp

@[simp] theorem execTxnIndoubtAlarm_pending : ∀ (id : Nat) (s : State),
    outPending (execTxnIndoubtAlarm id s) = some (s.pending) := by
  intros; unfold execTxnIndoubtAlarm; split <;> simp

@[simp] theorem execTxnOutcomeExpire_pending : ∀ (id : Nat) (s : State),
    outPending (execTxnOutcomeExpire id s) = some (s.pending) := by
  intros; simp [execTxnOutcomeExpire]

@[simp] theorem State.sendAck_pending : ∀ (s : State) (id : Nat), (State.sendAck s id).pending = s.pending := by
  intros; unfold State.sendAck; split <;> simp

@[simp] theorem State.acknowledge_pending : ∀ (s : State) (id : Nat),
    (State.acknowledge s id).pending = s.pending := by
  intros; unfold State.acknowledge; split <;> simp

@[simp] theorem State.markLate_pending : ∀ (s : State) (addrs : List Nat),
    (State.markLate s addrs).pending = s.pending := by
  intros; simp [State.markLate]

@[simp] theorem State.applyTxn_pending : ∀ (s : State) (k : Nat) (t : Txn) (skipped : Bool),
    (State.applyTxn s k t skipped).pending = s.pending := by
  intros; simp [State.applyTxn]

@[simp] theorem State.queueLive_pending : ∀ (s : State) (a v : Nat), (State.queueLive s a v).pending = s.pending := by
  intros; simp [State.queueLive]

@[simp] theorem State.persistBlob_pending : ∀ (s : State) (o : Obj) (i gen : Nat) (data : List Byte),
    (State.persistBlob s o i gen data).pending = s.pending := by
  intros; simp [State.persistBlob]

@[simp] theorem State.acceptValue_pending : ∀ (s : State) (o : Obj) (i sub v : Nat),
    (State.acceptValue s o i sub v).pending = s.pending := by
  intros; unfold State.acceptValue; split <;> simp

@[simp] theorem State.acceptItem_pending : ∀ (s : State) (it : Item),
    (State.acceptItem s it).pending = s.pending := by
  intros; unfold State.acceptItem; split <;> simp

@[simp] theorem State.acceptItems_pending : ∀ (s : State) (l : List Item) (target : Nat),
    (State.acceptItems s l target).pending = s.pending := by
  intros; simp [State.acceptItems]

@[simp] theorem State.putShadow_pending : ∀ (s : State) (x : Shadow), (State.putShadow s x).pending = s.pending := by
  intros; simp [State.putShadow]

@[simp] theorem State.raiseGen_pending : ∀ (s : State) (o : Obj) (i gen : Nat),
    (State.raiseGen s o i gen).pending = s.pending := by
  intros; simp [State.raiseGen]

@[simp] theorem State.startShadow_pending : ∀ (s : State) (who : Who) (o : Obj) (i total : Nat),
    (State.startShadow s who o i total).pending = s.pending := by
  intros; simp [State.startShadow]

@[simp] theorem State.completeShadow_pending : ∀ (s : State) (o : Obj) (i : Nat) (data : List Byte),
    (State.completeShadow s o i data).1.pending = s.pending := by
  intros; simp [State.completeShadow]; (repeat' split); all_goals simp

@[simp] theorem State.acceptChunk_pending : ∀ (s : State) (who : Who) (o : Obj) (i : Nat) (first last : Bool) (total : Nat) (data : List Byte),
    (State.acceptChunk s who o i first last total data).1.pending = s.pending := by
  intros; simp [State.acceptChunk]; (repeat' split); all_goals simp

@[simp] theorem State.dropHandshake_pending : ∀ (s : State) (id : Nat),
    (State.dropHandshake s id).pending = s.pending := by
  intros; simp [State.dropHandshake]

@[simp] theorem State.refuseAuth_pending : ∀ (s : State),
    (State.refuseAuth s).1.pending = s.pending := by
  intros; simp [State.refuseAuth]

@[simp] theorem State.doSesInit_pending : ∀ (s : State) (r : Req) (nonce key : List Byte),
    (State.doSesInit s r nonce key).1.pending = s.pending := by
  intros; unfold State.doSesInit; (repeat' (first | split | (apply foldl_pending; intros))) <;> simp

@[simp] theorem State.doSesCertRead_pending : ∀ (s : State) (r : Req) (id offset len : Nat),
    (State.doSesCertRead s r id offset len).1.pending = s.pending := by
  intros; unfold State.doSesCertRead; (repeat' (first | split | (apply foldl_pending; intros))) <;> simp

@[simp] theorem State.doSesCertSend_pending : ∀ (s : State) (r : Req) (id offset total : Nat) (data : List Byte),
    (State.doSesCertSend s r id offset total data).1.pending = s.pending := by
  intros; unfold State.doSesCertSend; (repeat' (first | split | (apply foldl_pending; intros))) <;> simp

@[simp] theorem State.doSesFinish_pending : ∀ (s : State) (r : Req) (id : Nat) (sig : List Byte),
    (State.doSesFinish s r id sig).1.pending = s.pending := by
  intros; unfold State.doSesFinish; (repeat' (first | split | (apply foldl_pending; intros))) <;> simp

@[simp] theorem State.checkTag_pending : ∀ (s : State) (r : Req) (body : List Byte),
    (State.checkTag s r body).1.pending = s.pending := by
  intros; unfold State.checkTag; split <;> simp

@[simp] theorem State.resend_pending : ∀ (s : State) (r : Req) (k : Kept),
    (State.resend s r k).pending = s.pending := by
  intros; simp [State.resend]

@[simp] theorem State.turnAway_pending : ∀ (s : State) (r : Req) (m : Msg),
    (State.turnAway s r m).pending = s.pending := by
  intros; simp [State.turnAway]

theorem State.needsPartner_pending {s t : State} {r : Req} {who : Who} {m : Msg} {b : Nat} {a : JournalAct} (h :
    s.needsPartner r who m = some (b, a, t)) : t.pending = s.pending := by
  unfold State.needsPartner at h; simp only [] at h; (repeat' split at h)
    <;> first | contradiction | (simp only [Option.some.injEq, Prod.mk.injEq] at h; obtain ⟨_, _, rfl⟩ := h; simp)

@[simp] theorem State.doRead_pending : ∀ (s : State) (r : Req) (who : Who) (addrs : List Nat),
    (Prod.fst (State.doRead s r who addrs)).pending = s.pending := by
  intros; simp [State.doRead]

@[simp] theorem State.commitNow_pending : ∀ (s : State) (who : Who) (l : List Item),
    (Prod.fst (State.commitNow s who l)).pending = s.pending := by
  intros; simp [State.commitNow]

@[simp] theorem State.writeNow_pending : ∀ (s : State) (who : Who) (items : List Item) (target : Nat),
    (Prod.fst (State.writeNow s who items target)).pending = s.pending := by
  intros; simp [State.writeNow]

@[simp] theorem State.setSubs_pending : ∀ (s : State) (l : List Machine.Sub),
    (State.setSubs s l).pending = s.pending := by
  intros; simp [State.setSubs]

@[simp] theorem State.doSubscribe_pending : ∀ (s : State) (who : Who) (sub addr mode interval : Nat),
    (Prod.fst (State.doSubscribe s who sub addr mode interval)).pending = s.pending := by
  intros; simp [State.doSubscribe]

@[simp] theorem State.perform_pending (s : State) (r : Req) (who : Who) (m : Msg)
    : (s.perform r who m).1.pending = s.pending := by
  unfold State.perform; cases m <;> simp only [] <;> (repeat' split) <;> simp

@[simp] theorem State.finishRequest_pending (s : State) (r : Req) (who : Who) (m : Msg)
    : (s.finishRequest r who m).pending = s.pending := by
  unfold State.finishRequest; simp only []; (repeat' split) <;> simp

@[simp] theorem State.serveRequest_pending (s : State) (r : Req) (who : Who) (m : Msg)
    : (s.serveRequest r who m).pending = s.pending := by
  unfold State.serveRequest; split
  · have := State.needsPartner_pending ‹_›; simp [this]
  · simp

/-- The state when a request has been examined. -/
def Arrival.state : Arrival → State
  | .done t => t
  | .serve t _ _ => t

theorem State.examine_pending (s : State) (r : Req) (m : Msg) : (s.examine r m).state.pending = s.pending := by
  have hp : (if r.isProtected then s.checkTag r (s.requestBody r m) else (s, true)).1.pending = s.pending := by
    split <;> simp
  unfold State.examine; split
  · simp [Arrival.state]
  · dsimp only []; (repeat' split) <;> simp [Arrival.state, hp]

@[simp] theorem State.dispatch_pending : ∀ (s : State) (x : Req × Msg),
    (State.dispatch s x).pending = s.pending := by
  intro s x; unfold State.dispatch; have := s.examine_pending x.1 x.2
  split
  · rfl
  · split <;> rename_i h <;> rw [h] at this <;> simpa [Arrival.state] using this

@[simp] theorem State.drain_pending : ∀ (s : State),
    (State.drain s).pending = s.pending := by
  intros; unfold State.drain; (repeat' (first | split | (apply foldl_pending; intros))) <;> simp

@[simp] theorem State.received_pending (s t : State) (r : Req) (m : Msg) (h : s.received r m = some t) :
    t.pending = s.pending := by
  unfold State.received at h; split at h
  · cases h
  · split at h
    · cases h; rfl
    · split at h <;> cases h; rfl

@[simp] theorem State.answer_pending : ∀ (s : State) (r0 : Req) (m : Msg),
    (State.answer s r0 m).pending = s.pending := by
  intros; unfold State.answer; dsimp only []; split
  · rfl
  · rename_i h; have := State.received_pending _ _ _ _ h; (repeat' split) <;> simp [this]

@[simp] theorem State.released_pending : ∀ (s : State) (r : Req) (m : Msg),
    (State.released s r m).pending = s.pending := by
  intros; simp [State.released]

@[simp] theorem execRead_pending : ∀ (r : Req) (addrs : List Nat) (s : State),
    outPending (execRead r addrs s) = some (s.pending) := by
  intros; simp [execRead]

@[simp] theorem execWrite_pending : ∀ (r : Req) (items : List Item) (target : Nat) (s : State),
    outPending (execWrite r items target s) = some (s.pending) := by
  intros; simp [execWrite]

@[simp] theorem execWriteStaged_pending : ∀ (r : Req) (items : List Item) (s : State),
    outPending (execWriteStaged r items s) = some (s.pending) := by
  intros; simp [execWriteStaged]

@[simp] theorem execDescribe_pending : ∀ (r : Req) (addr start : Nat) (next : Bool) (s : State),
    outPending (execDescribe r addr start next s) = some (s.pending) := by
  intros; simp [execDescribe]

@[simp] theorem execSubscribe_pending : ∀ (r : Req) (sub addr mode interval : Nat) (s : State),
    outPending (execSubscribe r sub addr mode interval s) = some (s.pending) := by
  intros; simp [execSubscribe]

@[simp] theorem execBlobWrite_pending : ∀ (r : Req) (addr : Nat) (first last : Bool) (other : Fin 64) (offset total : Nat) (data : List (BitVec 8)) (s : State),
    outPending (execBlobWrite r addr first last other offset total data s) = some (s.pending) := by
  intros; simp [execBlobWrite]

@[simp] theorem execBlobRead_pending : ∀ (r : Req) (addr offset most : Nat) (s : State),
    outPending (execBlobRead r addr offset most s) = some (s.pending) := by
  intros; simp [execBlobRead]

@[simp] theorem execUnknownMessageType_pending : ∀ (r : Req) (type : Nat) (s : State),
    outPending (execUnknownMessageType r type s) = some (s.pending) := by
  intros; simp [execUnknownMessageType]

@[simp] theorem execTxnOpen_pending : ∀ (r : Req) (scope rung : Nat) (s : State),
    outPending (execTxnOpen r scope rung s) = some (s.pending) := by
  intros; simp [execTxnOpen]

@[simp] theorem execTxnAdd_pending : ∀ (r : Req) (id : Nat) (items : List Item) (s : State),
    outPending (execTxnAdd r id items s) = some (s.pending) := by
  intros; simp [execTxnAdd]

@[simp] theorem execTxnPrepare_pending : ∀ (r : Req) (p : PrepareArgs) (s : State),
    outPending (execTxnPrepare r p s) = some (s.pending) := by
  intros; simp [execTxnPrepare]

@[simp] theorem execTxnCommit_pending : ∀ (r : Req) (id : Nat) (s : State),
    outPending (execTxnCommit r id s) = some (s.pending) := by
  intros; simp [execTxnCommit]

@[simp] theorem execTxnAbort_pending : ∀ (r : Req) (id : Nat) (s : State),
    outPending (execTxnAbort r id s) = some (s.pending) := by
  intros; simp [execTxnAbort]

@[simp] theorem execTxnStatus_pending : ∀ (r : Req) (id : Nat) (s : State),
    outPending (execTxnStatus r id s) = some (s.pending) := by
  intros; simp [execTxnStatus]

@[simp] theorem execSesPing_pending : ∀ (r : Req) (s : State), outPending (execSesPing r s) = some (s.pending) := by
  intros; simp [execSesPing]

@[simp] theorem execSesClose_pending : ∀ (r : Req) (reason : Nat) (s : State),
    outPending (execSesClose r reason s) = some (s.pending) := by
  intros; simp [execSesClose]

@[simp] theorem execSesInit_pending : ∀ (m : SesInit) (s : State),
    outPending (execSesInit m s) = some (s.pending) := by
  intros; unfold execSesInit; simp

@[simp] theorem execSesCertRead_pending (r : Req) (id offset len : Nat) (s : State) :
    outPending (execSesCertRead r id offset len s) = some s.pending := by
  intros; unfold execSesCertRead; simp

@[simp] theorem execSesCertSend_pending : ∀ (r : Req) (id offset total : Nat) (data : List (BitVec 8)) (s : State),
    outPending (execSesCertSend r id offset total data s) = some (s.pending) := by
  intros; unfold execSesCertSend; simp

@[simp] theorem execSesFinish_pending : ∀ (r : Req) (id : Nat) (sig : List (BitVec 8)) (s : State),
    outPending (execSesFinish r id sig s) = some (s.pending) := by
  intros; unfold execSesFinish; simp

@[simp] theorem State.miso_pending : ∀ (s : State) (kind : String) (rest : List Byte),
    (State.miso s kind rest).pending = s.pending := by
  intros; unfold State.miso; (repeat' (first | split | (apply foldl_pending; intros))) <;> simp

@[simp] theorem State.spiPut_pending : ∀ (s : State) (frame : List Byte),
    (State.spiPut s frame).pending = s.pending := by
  intros; unfold State.spiPut; (repeat' (first | split | (apply foldl_pending; intros))) <;> simp

@[simp] theorem State.spiGet_pending : ∀ (s : State),
    (State.spiGet s).pending = s.pending := by
  intros; unfold State.spiGet; (repeat' (first | split | (apply foldl_pending; intros))) <;> simp

@[simp] theorem State.spiTransaction_pending : ∀ (s : State) (a0 : List Byte),
    (State.spiTransaction s a0).pending = s.pending := by
  intros; unfold State.spiTransaction; (repeat' (first | split | (apply foldl_pending; intros))) <;> simp

@[simp] theorem execSpiPut_pending : ∀ (frame : List Byte) (s : State),
    outPending (execSpiPut frame s) = some (s.pending) := by
  intros; simp [execSpiPut]

@[simp] theorem execSpiGet_pending : ∀ (s : State), outPending (execSpiGet s) = some (s.pending) := by
  intros; unfold execSpiGet; simp

@[simp] theorem execSpiStatus_pending : ∀ (s : State), outPending (execSpiStatus s) = some (s.pending) := by
  intros; simp [execSpiStatus]

@[simp] theorem State.writeOne_pending : ∀ (s : State) (r : Req) (o : Obj) (i v : Nat),
    (State.writeOne s r o i v).pending = s.pending := by
  intros; simp [State.writeOne]

@[simp] theorem execTbIncrementWrite_pending : ∀ (r : Req) (v : Nat) (s : State),
    outPending (execTbIncrementWrite r v s) = some (s.pending) := by
  intros; simp [execTbIncrementWrite]

@[simp] theorem execDomRateWrite_pending : ∀ (r : Req) (d : Fin 2) (v : Int) (s : State),
    outPending (execDomRateWrite r d v s) = some (s.pending) := by
  intros; simp [execDomRateWrite]

@[simp] theorem execDomAdjust_pending : ∀ (r : Req) (d : Fin 2) (v : Int) (s : State),
    outPending (execDomAdjust r d v s) = some (s.pending) := by
  intros; simp [execDomAdjust]

@[simp] theorem execDomEnableWrite_pending : ∀ (r : Req) (d : Fin 2) (v : Bool) (s : State),
    outPending (execDomEnableWrite r d v s) = some (s.pending) := by
  intros; simp [execDomEnableWrite]

@[simp] theorem execEvPop_pending : ∀ (r : Req) (pin : Fin 6) (s : State),
    outPending (execEvPop r pin s) = some (s.pending) := by
  intros; simp [execEvPop]

@[simp] theorem execTxnResolveCommit_pending : ∀ (r : Req) (id : Nat) (s : State),
    outPending (execTxnResolveCommit r id s) = some (s.pending) := by
  intros; simp [execTxnResolveCommit]

@[simp] theorem execTxnResolveAbort_pending : ∀ (r : Req) (id : Nat) (s : State),
    outPending (execTxnResolveAbort r id s) = some (s.pending) := by
  intros; simp [execTxnResolveAbort]

@[simp] theorem execMtrReset_pending : ∀ (r : Req) (s : State), outPending (execMtrReset r s) = some (s.pending) := by
  intros; simp [execMtrReset]

@[simp] theorem execIdacValueWrite_pending : ∀ (r : Req) (l : Fin 16) (v : Nat) (s : State),
    outPending (execIdacValueWrite r l v s) = some (s.pending) := by
  intros; simp [execIdacValueWrite]

@[simp] theorem execIdacQPush_pending : ∀ (r : Req) (l : Fin 16) (s : State),
    outPending (execIdacQPush r l s) = some (s.pending) := by
  intros; simp [execIdacQPush]

@[simp] theorem execIdacQClear_pending : ∀ (r : Req) (l : Fin 16) (s : State),
    outPending (execIdacQClear r l s) = some (s.pending) := by
  intros; simp [execIdacQClear]

@[simp] theorem execIdacPowerupWrite_pending : ∀ (r : Req) (l : Fin 16) (v : Nat) (s : State),
    outPending (execIdacPowerupWrite r l v s) = some (s.pending) := by
  intros; simp [execIdacPowerupWrite]

@[simp] theorem execRingTailWrite_pending : ∀ (r : Req) (ring : Fin 64) (v : Nat) (s : State),
    outPending (execRingTailWrite r ring v s) = some (s.pending) := by
  intros; simp [execRingTailWrite]

@[simp] theorem execTwinRejoin_pending : ∀ (r : Req) (s : State),
    outPending (execTwinRejoin r s) = some (s.pending) := by
  intros; simp [execTwinRejoin]

@[simp] theorem execDmcRetrain_pending : ∀ (r : Req) (sp : Fin 2) (s : State),
    outPending (execDmcRetrain r sp s) = some (s.pending) := by
  intros; simp [execDmcRetrain]

@[simp] theorem execDmaStart_pending : ∀ (r : Req) (c : Fin 8) (s : State),
    outPending (execDmaStart r c s) = some (s.pending) := by
  intros; simp [execDmaStart]

@[simp] theorem execDmaStop_pending : ∀ (r : Req) (c : Fin 8) (s : State),
    outPending (execDmaStop r c s) = some (s.pending) := by
  intros; simp [execDmaStop]

@[simp] theorem execDmaReset_pending : ∀ (r : Req) (c : Fin 8) (s : State),
    outPending (execDmaReset r c s) = some (s.pending) := by
  intros; simp [execDmaReset]

@[simp] theorem execLogWindowStart_pending : ∀ (r : Req) (v : Nat) (s : State),
    outPending (execLogWindowStart r v s) = some (s.pending) := by
  intros; simp [execLogWindowStart]

@[simp] theorem execLogClear_pending : ∀ (r : Req) (s : State), outPending (execLogClear r s) = some (s.pending) := by
  intros; simp [execLogClear]

@[simp] theorem execOwnerClear_pending : ∀ (r : Req) (s : State),
    outPending (execOwnerClear r s) = some (s.pending) := by
  intros; simp [execOwnerClear]

@[simp] theorem execErrAlarmAck_pending : ∀ (r : Req) (s : State),
    outPending (execErrAlarmAck r s) = some (s.pending) := by
  intros; simp [execErrAlarmAck]

@[simp] theorem execErrFaultClear_pending : ∀ (r : Req) (s : State),
    outPending (execErrFaultClear r s) = some (s.pending) := by
  intros; simp [execErrFaultClear]

@[simp] theorem execSessionCloseWrite_pending : ∀ (r : Req) (id : Nat) (s : State),
    outPending (execSessionCloseWrite r id s) = some (s.pending) := by
  intros; simp [execSessionCloseWrite]

@[simp] theorem execPersistFlush_pending : ∀ (r : Req) (s : State),
    outPending (execPersistFlush r s) = some (s.pending) := by
  intros; simp [execPersistFlush]

@[simp] theorem execPersistReset_pending : ∀ (r : Req) (s : State),
    outPending (execPersistReset r s) = some (s.pending) := by
  intros; simp [execPersistReset]

@[simp] theorem execEvRearm_pending : ∀ (r : Req) (pin : Fin 6) (field : Fin 3) (v : Nat) (s : State),
    outPending (execEvRearm r pin field v s) = some (s.pending) := by
  intros; simp [execEvRearm]

@[simp] theorem execRunControlWrite_pending : ∀ (r : Req) (a : Nat) (run : Bool) (s : State),
    outPending (execRunControlWrite r a run s) = some (s.pending) := by
  intros; unfold execRunControlWrite; split <;> simp

@[simp] theorem execPllRampWrite_pending : ∀ (r : Req) (p : Fin 2) (data : List Byte) (s : State),
    outPending (execPllRampWrite r p data s) = some (s.pending) := by
  intros; simp [execPllRampWrite]

@[simp] theorem execOwnerCertWrite_pending : ∀ (r : Req) (first last : Bool) (other : Fin 64) (offset total : Nat) (data : List (BitVec 8)) (s : State),
    outPending (execOwnerCertWrite r first last other offset total data s) = some (s.pending) := by
  intros; simp [execOwnerCertWrite]

@[simp] theorem execHistSnap_pending : ∀ (u : Fin 32) (s : State),
    outPending (execHistSnap u s) = some (s.pending) := by
  intros; simp [execHistSnap]

@[simp] theorem State.originateLocal_pending : ∀ (s : State) (b rung : Nat) (l : List Item),
    (Prod.fst (State.originateLocal s b rung l)).pending = s.pending := by
  intros; simp [State.originateLocal]

@[simp] theorem State.healDue_pending (s : State) (b : Nat) : (s.healDue b).pending = s.pending := by
  unfold State.healDue; simp only []; split
  · rfl
  · rw [foldl_pending]; intros; split <;> simp

@[simp] theorem State.trackersSettle_pending : ∀ (s : State), (State.trackersSettle s).pending = s.pending := by
  intros; simp [State.trackersSettle]

@[simp] theorem State.publishDue_pending : ∀ (s : State) (b : Nat), (State.publishDue s b).pending = s.pending := by
  intros; simp [State.publishDue]

@[simp] theorem State.ltcSeal_pending : ∀ (s : State) (b : Nat), (State.ltcSeal s b).pending = s.pending := by
  intros; simp [State.ltcSeal]

@[simp] theorem State.seal_pending : ∀ (s : State) (b : Nat), (State.seal s b).pending = s.pending := by
  intros; simp [State.seal]

@[simp] theorem execSeal_pending : ∀ (b : Nat) (s : State), outPending (execSeal b s) = some (s.pending) := by
  intros; simp [execSeal]

@[simp] theorem State.applyDue_pending : ∀ (s : State) (k : Nat) (t : Txn),
    (State.applyDue s k t).pending = s.pending := by
  intros; simp [State.applyDue]

@[simp] theorem State.blobEntry_pending : ∀ (s : State) (k a gen : Nat) (data : List Byte),
    (State.blobEntry s k a gen data).pending = s.pending := by
  intros; unfold State.blobEntry; split <;> simp

@[simp] theorem State.valueEntry_pending : ∀ (s : State) (e : Nat × Nat),
    (State.valueEntry s e).pending = s.pending := by
  intros; unfold State.valueEntry; split <;> simp

@[simp] theorem State.heldEntries_pending (s : State) (k : Nat) (p : Nat →
    Bool) : (s.heldEntries k p).pending = s.pending := by
  unfold State.heldEntries; simp only []
  rw [foldl_pending, foldl_pending, foldl_pending] <;> intro t e <;> (repeat' split) <;> simp

@[simp] theorem State.applyChanges_pending : ∀ (s : State) (k : Nat),
    (State.applyChanges s k).pending = s.pending := by
  intros; simp [State.applyChanges]

@[simp] theorem State.timeBoundary_pending : ∀ (s : State) (k : Nat),
    (State.timeBoundary s k).pending = s.pending := by
  intros; simp [State.timeBoundary]

@[simp] theorem State.ltcDue_pending : ∀ (s : State) (k : Nat), (State.ltcDue s k).pending = s.pending := by
  intros; simp [State.ltcDue]

@[simp] theorem State.showBoundary_pending : ∀ (s : State) (k : Nat) (under : Int) (first : Bool),
    (Prod.fst (State.showBoundary s k under first)).pending = s.pending := by
  intros; simp [State.showBoundary]

@[simp] theorem State.showMoved_pending : ∀ (s : State) (under : Int),
    (State.showMoved s under).pending = s.pending := by
  intros; unfold State.showMoved; (repeat' (first | split | (apply foldl_pending; intros))) <;> simp

@[simp] theorem execShowJump_pending : ∀ (j : Int) (s : State), outPending (execShowJump j s) = some (s.pending) := by
  intros; simp [execShowJump]

@[simp] theorem execLtcReanchor_pending : ∀ (s : State), outPending (execLtcReanchor s) = some (s.pending) := by
  intros; simp [execLtcReanchor]

@[simp] theorem State.sceneHalf_pending : ∀ (s : State) (k : Nat) (first : Bool),
    (State.sceneHalf s k first).pending = s.pending := by
  intros; simp [State.sceneHalf]

@[simp] theorem State.micLevels_pending : ∀ (s : State) (k : Nat), (State.micLevels s k).pending = s.pending := by
  intros; simp [State.micLevels]

@[simp] theorem State.inputsBoundary_pending : ∀ (s : State) (k : Nat),
    (State.inputsBoundary s k).pending = s.pending := by
  intros; simp [State.inputsBoundary]

@[simp] theorem State.subscriptions_pending : ∀ (s : State) (k : Nat),
    (State.subscriptions s k).pending = s.pending := by
  intros; unfold State.subscriptions; (repeat' (first | split | (apply foldl_pending; intros))); all_goals simp

@[simp] theorem State.histBoundary_pending : ∀ (s : State) (k : Nat),
    (State.histBoundary s k).pending = s.pending := by
  intros; simp [State.histBoundary]

@[simp] theorem State.safeEnds_pending : ∀ (s : State), (State.safeEnds s).pending = s.pending := by
  intros; simp [State.safeEnds]

@[simp] theorem State.lastSteps_pending (s : State) (k : Nat)
   : (s.lastSteps k).pending = s.pending := by
  unfold State.lastSteps; simp only []
  have h : (if s.twin.switchAt = some k then s.switchNow else s).pending = s.pending := by split <;> simp
  generalize (if s.twin.switchAt = some k then s.switchNow else s) = u at h ⊢
  have hp : (u.powerBoundary k).pending = s.pending := by simp [h]
  generalize u.powerBoundary k = v at hp ⊢
  split <;> (try split) <;> simp [hp]

@[simp] theorem State.twinBoundary_pending : ∀ (s : State) (k : Nat),
    (State.twinBoundary s k).pending = s.pending := by
  intros; simp [State.twinBoundary]

@[simp] theorem State.captureNow_pending : ∀ (s : State) (k : Nat), (State.captureNow s k).pending = s.pending := by
  intros; simp [State.captureNow]

@[simp] theorem State.resyncBoundary_pending : ∀ (s : State) (k : Nat),
    (State.resyncBoundary s k).pending = s.pending := by
  intros; simp [State.resyncBoundary]

@[simp] theorem State.resyncHalf_pending : ∀ (s : State) (k : Nat), (State.resyncHalf s k).pending = s.pending := by
  intros; simp [State.resyncHalf]

@[simp] theorem State.unitHalf_pending : ∀ (s : State) (k : Nat), (State.unitHalf s k).pending = s.pending := by
  intros; simp [State.unitHalf]

@[simp] theorem State.noteTraffic_pending : ∀ (s : State),
    (State.noteTraffic s).pending = s.pending := by
  intros; rfl

@[simp] theorem State.boundary_pending : ∀ (s : State) (k : Nat), (State.boundary s k).pending = s.pending := by
  intros; simp [State.boundary]

@[simp] theorem execBlockBoundary_pending : ∀ (k : Nat) (s : State),
    outPending (execBlockBoundary k s) = some (s.pending) := by
  intros; simp [execBlockBoundary]

@[simp] theorem State.holdEntry_pending : ∀ (s : State) (index block : Nat) (act : JournalAct),
    (State.holdEntry s index block act).pending = s.pending := by
  intros; simp [State.holdEntry]

@[simp] theorem State.takeDictionary_pending : ∀ (s : State) (l : List (Nat × Nat)),
    (State.takeDictionary s l).pending = s.pending := by
  intros; simp [State.takeDictionary]

@[simp] theorem State.takeTime_pending : ∀ (s : State) (source : Nat) (bridge : Int) (degraded : Bool),
    (State.takeTime s source bridge degraded).pending = s.pending := by
  intros; simp [State.takeTime]

@[simp] theorem State.hear_pending : ∀ (s : State) (index block : Nat) (x0 : JournalAct),
    (State.hear s index block x0).pending = s.pending := by
  intros; unfold State.hear; split <;> simp

@[simp] theorem execJournal_pending : ∀ (f : LaceIn) (index block : Nat) (act : JournalAct) (s : State),
    outPending (execJournal f index block act s) = some (s.pending) := by
  intros; simp [execJournal]

@[simp] theorem State.originateHeld_pending : ∀ (s : State) (rung scope : Nat) (l : List Item),
    (State.originateHeld s rung scope l).pending = s.pending := by
  intros; unfold State.originateHeld; split <;> simp

@[simp] theorem State.release_pending : ∀ (s : State) (x0 : Held), (State.release s x0).pending = s.pending := by
  intros; unfold State.release; split <;> simp

@[simp] theorem State.releaseEntry_pending : ∀ (s : State) (e : JournalEntry),
    (State.releaseEntry s e).pending = s.pending := by
  intros; unfold State.releaseEntry; split <;> simp

@[simp] theorem execJournalAck_pending (f : LaceIn) (index : Nat) (s : State) :
    outPending (execJournalAck f index s) = some s.pending := by
  unfold execJournalAck; rw [outPending_next, State.laceFrame_pending]; (repeat' split) <;> simp

@[simp] theorem execJournalRetransmit_pending : ∀ (index : Nat) (s : State),
    outPending (execJournalRetransmit index s) = some (s.pending) := by
  intros; unfold execJournalRetransmit; split <;> simp

@[simp] theorem State.laceLost_pending : ∀ (s : State), (State.laceLost s).pending = s.pending := by
  intros; simp [State.laceLost]

@[simp] theorem execLaceLaneDown_pending : ∀ (lane : Fin 2) (s : State),
    outPending (execLaceLaneDown lane s) = some (s.pending) := by
  intros; simp [execLaceLaneDown]

@[simp] theorem State.loadCheckpoint_pending : ∀ (s : State) (c : Checkpoint),
    (State.loadCheckpoint s c).pending = s.pending := by
  intros; simp [State.loadCheckpoint]

@[simp] theorem State.replayBlock_pending : ∀ (s : State) (m : Nat), (State.replayBlock s m).pending = s.pending := by
  intros; simp [State.replayBlock]

@[simp] theorem State.replay_pending : ∀ (s : State) (c : Nat) (x : Checkpoint),
    (State.replay s c x).pending = s.pending := by
  intros; simp [State.replay]

@[simp] theorem State.resyncAgain_pending : ∀ (s : State),
    (State.resyncAgain s).pending = s.pending := by
  intros; simp [State.resyncAgain]

@[simp] theorem State.twinRewrite_pending : ∀ (s : State),
    (State.twinRewrite s).pending = s.pending := by
  intros; rfl

@[simp] theorem execCheckpoint_pending : ∀ (f : LaceIn) (block offset total : Nat) (data : List Byte)
    (whole : Option Checkpoint) (s : State),
    outPending (execCheckpoint f block offset total data whole s) = some (s.pending) := by
  intros; unfold execCheckpoint; split <;> simp

@[simp] theorem execResyncComplete_pending : ∀ (s : State), outPending (execResyncComplete s) = some (s.pending) := by
  intros; simp [execResyncComplete]

@[simp] theorem State.withFetchWord_pending : ∀ (s : State) (nbits w : Nat),
    (State.withFetchWord s nbits w).pending = s.pending := by
  intros; rfl

end Sys2Proof.Machine
end

