-- ==== Sys2Proof/Laws/MemoryFrame.lean ====
section
/-! SUPPORT. The operations that leave every byte of memory as it is, one lemma each. -/

namespace Sys2Proof.Machine

set_option Elab.async false

open Sys2Proof

def outCells : Host.Outcome State Fault Refusal → Option (Memory)
  | .next t => some t.mem.cells
  | _ => none

@[simp] theorem outCells_next (t : State) : outCells (.next t) = some t.mem.cells := rfl

@[simp] theorem foldl_cells {α : Type} (f : State → α → State) (h : ∀ t a, (f t a).mem.cells = t.mem.cells)
    (l : List α) (s : State) : (l.foldl f s).mem.cells = s.mem.cells := by
  induction l generalizing s with
  | nil => rfl
  | cons a l ih => simp [ih, h]
@[simp] theorem foldl_fst_cells {α β : Type} (f : State × β → α → State × β) (h : ∀ t a, (f t a).1.mem.cells = t.1.mem.cells)
    (l : List α) (s : State × β) : (l.foldl f s).1.mem.cells = s.1.mem.cells := by
  induction l generalizing s with
  | nil => rfl
  | cons a l ih => simp [ih, h]
@[simp] theorem ite_cells (c : Prop) [Decidable c] (a b : State) :
    (if c then a else b).mem.cells = if c then a.mem.cells else b.mem.cells := by split <;> rfl
@[simp] theorem ite_outCells (c : Prop) [Decidable c] (a b : Host.Outcome State Fault Refusal) :
    outCells (if c then a else b) = if c then outCells a else outCells b := by split <;> rfl

@[simp] theorem ite_fst_cells {α : Type} (c : Prop) [Decidable c] (a b : State × α) :
    (if c then a else b).1.mem.cells = if c then a.1.mem.cells else b.1.mem.cells := by split <;> rfl

@[simp] theorem State.set_cells : ∀ (s : State) (o : Obj) (v : Nat) (i k : Nat),
    (State.set s o v i k).mem.cells = s.mem.cells := by
  intros; simp [State.set]

@[simp] theorem State.keep_cells : ∀ (s : State) (a v : Nat), (State.keep s a v).mem.cells = s.mem.cells := by
  intros; simp [State.keep]

@[simp] theorem State.keepValue_cells : ∀ (s : State) (o : Obj) (v : Nat) (i k : Nat),
    (State.keepValue s o v i k).mem.cells = s.mem.cells := by
  intros; simp [State.keepValue]

@[simp] theorem State.unset_cells : ∀ (s : State) (o : Obj) (i k : Nat),
    (State.unset s o i k).mem.cells = s.mem.cells := by
  intros; simp [State.unset]

@[simp] theorem State.setI_cells : ∀ (s : State) (o : Obj) (z : Int) (i k : Nat),
    (State.setI s o z i k).mem.cells = s.mem.cells := by
  intros; simp [State.setI]

@[simp] theorem State.setF_cells : ∀ (s : State) (o : Obj) (x : F32) (i k : Nat),
    (State.setF s o x i k).mem.cells = s.mem.cells := by
  intros; simp [State.setF]

@[simp] theorem State.setB_cells : ∀ (s : State) (o : Obj) (b : Bool) (i k : Nat),
    (State.setB s o b i k).mem.cells = s.mem.cells := by
  intros; simp [State.setB]

@[simp] theorem State.count_cells : ∀ (s : State) (o : Obj) (i : Nat) (n : Nat),
    (State.count s o i n).mem.cells = s.mem.cells := by
  intros; simp [State.count]

@[simp] theorem State.countSat_cells : ∀ (s : State) (o : Obj) (i : Nat) (n : Nat),
    (State.countSat s o i n).mem.cells = s.mem.cells := by
  intros; simp [State.countSat]

@[simp] theorem State.setBlob_cells : ∀ (s : State) (o : Obj) (data : List Byte) (i : Nat),
    (State.setBlob s o data i).mem.cells = s.mem.cells := by
  intros; simp [State.setBlob]

@[simp] theorem State.pass_cells : ∀ (s : State), (State.pass s).mem.cells = s.mem.cells := by
  intros; simp [State.pass]

@[simp] theorem State.modDomain_cells : ∀ (s : State) (d : Nat) (f : Domain → Domain),
    (State.modDomain s d f).mem.cells = s.mem.cells := by
  intros; simp [State.modDomain]

@[simp] theorem State.keepMedia_cells (s : State) (f : State →
    State) (h : (f s).mem.cells = s.mem.cells) : (s.keepMedia f).mem.cells = s.mem.cells := h

@[simp] theorem State.send_cells : ∀ (s : State) (m : Sent), (State.send s m).mem.cells = s.mem.cells := by
  intros; simp [State.send]

@[simp] theorem State.drainPort_cells : ∀ (s : State) (p : Nat),
    (State.drainPort s p).mem.cells = s.mem.cells := by
  intros; unfold State.drainPort; (repeat' (first | split | (apply foldl_cells; intros))) <;> simp

@[simp] theorem State.localEvent_cells : ∀ (s : State), (State.localEvent s).mem.cells = s.mem.cells := by
  intros; simp [State.localEvent]

@[simp] theorem State.raiseRec_cells : ∀ (s : State) (area index code : Nat) (sev : Severity) (repeats : Nat),
    (State.raiseRec s area index code sev repeats).mem.cells = s.mem.cells := by
  intros; simp [State.raiseRec]

@[simp] theorem State.error_cells : ∀ (s : State) (area index code : Nat) (sev : Severity),
    (State.error s area index code sev).mem.cells = s.mem.cells := by
  intros; simp [State.error]

@[simp] theorem State.histFrom_cells (s : State) (src sel : Nat) (v : F32) (n u : Nat)
    : (s.histFrom src sel v n u).mem.cells = s.mem.cells := by
  induction n generalizing s u with
  | zero => rfl
  | succ n ih => rw [State.histFrom]; simp only [ih]; split <;> rfl

@[simp] theorem State.histRecord_cells : ∀ (s : State) (src sel : Nat) (v : F32),
    (State.histRecord s src sel v).mem.cells = s.mem.cells := by
  intros; simp [State.histRecord]

@[simp] theorem State.histSnap_cells : ∀ (s : State) (u block : Nat),
    (State.histSnap s u block).mem.cells = s.mem.cells := by
  intros; rfl

@[simp] theorem State.syntUpdate_cells : ∀ (s : State), (State.syntUpdate s).mem.cells = s.mem.cells := by
  intros; unfold State.syntUpdate; (repeat' (first | split | (apply foldl_cells; intros))); all_goals simp

@[simp] theorem execSyntSourceLoss_cells : ∀ (s : State), outCells (execSyntSourceLoss s) = some (s.mem.cells) := by
  intros; simp [execSyntSourceLoss]; (repeat' split); all_goals simp

@[simp] theorem execSyntLock_cells : ∀ (offset : F32) (s : State),
    outCells (execSyntLock offset s) = some (s.mem.cells) := by
  intros; simp [execSyntLock]

@[simp] theorem State.writeRate_cells : ∀ (s : State) (d : Nat) (r : Int),
    (State.writeRate s d r).mem.cells = s.mem.cells := by
  intros; simp [State.writeRate]

@[simp] theorem State.stepDomain_cells : ∀ (s : State) (d : Nat) (delta : Int),
    (State.stepDomain s d delta).mem.cells = s.mem.cells := by
  intros; rfl

@[simp] theorem State.moveShare_cells : ∀ (s : State) (from_ to_ : Nat),
    (State.moveShare s from_ to_).mem.cells = s.mem.cells := by
  intros; simp [State.moveShare]

@[simp] theorem State.switchSource_cells : ∀ (s : State) (src : Nat),
    (State.switchSource s src).mem.cells = s.mem.cells := by
  intros; simp [State.switchSource]

@[simp] theorem State.failoverTo_cells : ∀ (s : State) (src : Nat),
    (State.failoverTo s src).mem.cells = s.mem.cells := by
  intros; simp [State.failoverTo]

@[simp] theorem State.noteUsable_cells : ∀ (s : State), (State.noteUsable s).mem.cells = s.mem.cells := by
  intros; simp [State.noteUsable]

@[simp] theorem State.evalSource_cells : ∀ (s : State), (State.evalSource s).mem.cells = s.mem.cells := by
  intros; simp [State.evalSource]

@[simp] theorem State.bridgeTest_cells : ∀ (s : State) (k : Nat), (State.bridgeTest s k).mem.cells = s.mem.cells := by
  intros; simp [State.bridgeTest]

@[simp] theorem State.spoilOutputs_cells : ∀ (s : State) (p : Nat → Bool),
    (State.spoilOutputs s p).mem.cells = s.mem.cells := by
  intros; simp [State.spoilOutputs]

@[simp] theorem State.mediaStep_cells : ∀ (s : State) (k : Nat), (State.mediaStep s k).mem.cells = s.mem.cells := by
  intros; simp [State.mediaStep]

@[simp] theorem execMediaStep_cells : ∀ (s : State), outCells (execMediaStep s) = some (s.mem.cells) := by
  intros; unfold execMediaStep; split <;> simp

@[simp] theorem execMediaRevert_cells : ∀ (s : State), outCells (execMediaRevert s) = some (s.mem.cells) := by
  intros; simp [execMediaRevert]

@[simp] theorem execTimebaseTick_cells : ∀ (s : State), outCells (execTimebaseTick s) = some (s.mem.cells) := by
  intros; simp [execTimebaseTick]

@[simp] theorem State.ptpSend_cells : ∀ (s : State) (d port : Nat) (kind : String) (event : Bool) (fields : List Nat),
    (State.ptpSend s d port kind event fields).mem.cells = s.mem.cells := by
  intros; unfold State.ptpSend; (repeat' (first | split | (apply foldl_cells; intros))) <;> simp

@[simp] theorem State.acquire_cells : ∀ (s : State) (d : Nat), (State.acquire s d).mem.cells = s.mem.cells := by
  intros; simp [State.acquire]

@[simp] theorem State.showMaster_cells : ∀ (s : State) (d : Nat) (m : Master),
    (State.showMaster s d m).mem.cells = s.mem.cells := by
  intros; simp [State.showMaster]

@[simp] theorem execPtpAnnounce_cells : ∀ (d : Fin 2) (f : PtpIn) (m0 : Master) (s : State),
    outCells (execPtpAnnounce d f m0 s) = some (s.mem.cells) := by
  intros; simp [execPtpAnnounce]; (repeat' split); all_goals simp

@[simp] theorem State.servo_cells : ∀ (s : State) (d : Nat) (offset : Int),
    (State.servo s d offset).mem.cells = s.mem.cells := by
  intros; simp [State.servo]

@[simp] theorem State.offsetMoves_cells : ∀ (s : State) (d : Nat) (offset : Int),
    (State.offsetMoves s d offset).mem.cells = s.mem.cells := by
  intros; simp [State.offsetMoves]

@[simp] theorem State.setPath_cells : ∀ (s : State) (d port : Nat) (delay : Int),
    (State.setPath s d port delay).mem.cells = s.mem.cells := by
  intros; unfold State.setPath; (repeat' (first | split | (apply foldl_cells; intros))) <;> simp

@[simp] theorem State.processSync_cells : ∀ (s : State) (d port : Nat) (origin receipt : Int),
    (State.processSync s d port origin receipt).mem.cells = s.mem.cells := by
  intros; simp [State.processSync]

@[simp] theorem execPtpSync_cells : ∀ (d : Fin 2) (f : PtpIn) (sender seq : Nat) (twoStep : Bool) (origin atLand : Int) (s : State),
    outCells (execPtpSync d f sender seq twoStep origin atLand s) = some (s.mem.cells) := by
  intros; simp [execPtpSync]; (repeat' split); all_goals simp

@[simp] theorem State.domainTimeout_cells : ∀ (s : State) (d : Nat),
    (State.domainTimeout s d).mem.cells = s.mem.cells := by
  intros; simp [State.domainTimeout]

@[simp] theorem execAnnounceTimeout_cells : ∀ (d : Fin 2) (s : State),
    outCells (execAnnounceTimeout d s) = some (s.mem.cells) := by
  intros; simp [execAnnounceTimeout]

@[simp] theorem execSyncTimeout_cells : ∀ (d : Fin 2) (s : State),
    outCells (execSyncTimeout d s) = some (s.mem.cells) := by
  intros; simp [execSyncTimeout]

@[simp] theorem execHoldoverLimitExpire_cells : ∀ (d : Fin 2) (s : State),
    outCells (execHoldoverLimitExpire d s) = some (s.mem.cells) := by
  intros; simp [execHoldoverLimitExpire]

@[simp] theorem State.ptpSendAll_cells : ∀ (s : State) (d : Nat) (ports : List Nat) (kind : String) (fields : List Nat),
    (State.ptpSendAll s d ports kind fields).mem.cells = s.mem.cells := by
  intros; unfold State.ptpSendAll; (repeat' (first | split | (apply foldl_cells; intros))) <;> simp

@[simp] theorem State.sendPdelay_cells : ∀ (s : State) (d seq : Nat) (ports : List Nat),
    (State.sendPdelay s d seq ports).mem.cells = s.mem.cells := by
  intros; unfold State.sendPdelay; (repeat' (first | split | (apply foldl_cells; intros))) <;> simp

@[simp] theorem State.sendSync_cells : ∀ (s : State) (d seq : Nat) (ports : List Nat),
    (State.sendSync s d seq ports).mem.cells = s.mem.cells := by
  intros; simp [State.sendSync]

@[simp] theorem execPtpMasterTimer_cells : ∀ (d : Fin 2) (timer : PtpTimer) (s : State),
    outCells (execPtpMasterTimer d timer s) = some (s.mem.cells) := by
  intros; unfold execPtpMasterTimer; (repeat' (first | split | (apply foldl_cells; intros))); all_goals simp

@[simp] theorem execPtpPathDelayMessage_cells : ∀ (d : Fin 2) (f : PtpIn) (msg : PtpMessage) (s : State),
    outCells (execPtpPathDelayMessage d f msg s) = some (s.mem.cells) := by
  intros; simp [execPtpPathDelayMessage]; (repeat' split); all_goals simp

@[simp] theorem State.domStop_cells : ∀ (s : State) (d : Nat),
    (State.domStop s d).mem.cells = s.mem.cells := by
  intros; unfold State.domStop; (repeat' (first | split | (apply foldl_cells; intros))) <;> simp

@[simp] theorem State.domEnable_cells : ∀ (s : State) (d v : Nat),
    (State.domEnable s d v).mem.cells = s.mem.cells := by
  intros; simp [State.domEnable]

@[simp] theorem State.wclkDivide_cells : ∀ (s : State),
    (State.wclkDivide s).mem.cells = s.mem.cells := by
  intros; unfold State.wclkDivide; (repeat' (first | split | (apply foldl_cells; intros))) <;> simp

@[simp] theorem execWclkEdge_cells : ∀ (s : State), outCells (execWclkEdge s) = some (s.mem.cells) := by
  intros; simp [execWclkEdge]

@[simp] theorem execWclkLost_cells : ∀ (s : State), outCells (execWclkLost s) = some (s.mem.cells) := by
  intros; simp [execWclkLost]

@[simp] theorem State.driveMclk_cells : ∀ (s : State),
    (State.driveMclk s).mem.cells = s.mem.cells := by
  intros; unfold State.driveMclk; (repeat' (first | split | (apply foldl_cells; intros))) <;> simp

@[simp] theorem State.apllStart_cells : ∀ (s : State), (State.apllStart s).mem.cells = s.mem.cells := by
  intros; simp [State.apllStart]

@[simp] theorem State.apllStop_cells : ∀ (s : State), (State.apllStop s).mem.cells = s.mem.cells := by
  intros; simp [State.apllStop]

@[simp] theorem State.clockBlock_cells : ∀ (s : State) (k : Nat),
    (State.clockBlock s k).mem.cells = s.mem.cells := by
  intros; unfold State.clockBlock; (repeat' (first | split | (apply foldl_cells; intros))) <;> simp

@[simp] theorem execApllLock_cells : ∀ (phase : F32) (s : State),
    outCells (execApllLock phase s) = some (s.mem.cells) := by
  intros; simp [execApllLock]

@[simp] theorem execApllUnlock_cells : ∀ (phase : F32) (s : State),
    outCells (execApllUnlock phase s) = some (s.mem.cells) := by
  intros; simp [execApllUnlock]

@[simp] theorem State.modPin_cells : ∀ (s : State) (p : Nat) (f : EventPin → EventPin),
    (State.modPin s p f).mem.cells = s.mem.cells := by
  intros; simp [State.modPin]

@[simp] theorem State.pinFlag_cells : ∀ (s : State) (p bit : Nat),
    (State.pinFlag s p bit).mem.cells = s.mem.cells := by
  intros; simp [State.pinFlag]

@[simp] theorem State.produce_cells : ∀ (s : State) (p at_ : Nat),
    (State.produce s p at_).mem.cells = s.mem.cells := by
  intros; unfold State.produce; (repeat' (first | split | (apply foldl_cells; intros))) <;> simp

@[simp] theorem State.rearm_cells : ∀ (s : State) (p : Nat), (State.rearm s p).mem.cells = s.mem.cells := by
  intros; simp [State.rearm]

@[simp] theorem execEventPulse_cells : ∀ (pin : Fin 6) (skipped : Bool) (s : State),
    outCells (execEventPulse pin skipped s) = some (s.mem.cells) := by
  intros; simp [execEventPulse]

@[simp] theorem State.showCaptures_cells : ∀ (s : State) (p : Nat),
    (State.showCaptures s p).mem.cells = s.mem.cells := by
  intros; simp [State.showCaptures]; (repeat' split); all_goals simp

@[simp] theorem execEventCapture_cells : ∀ (pin : Fin 6) (e : PinEdge) (s : State),
    outCells (execEventCapture pin e s) = some (s.mem.cells) := by
  intros; simp [execEventCapture]

@[simp] theorem State.popCapture_cells : ∀ (s : State) (p : Nat), (State.popCapture s p).mem.cells = s.mem.cells := by
  intros; simp [State.popCapture]

@[simp] theorem State.setMap_cells : ∀ (s : State) (st : Int) (nt rate : Nat),
    (State.setMap s st nt rate).mem.cells = s.mem.cells := by
  intros; simp [State.setMap]

@[simp] theorem State.showRun_cells : ∀ (s : State) (k : Nat) (v : Bool),
    (State.showRun s k v).mem.cells = s.mem.cells := by
  intros; simp [State.showRun]

@[simp] theorem State.showJump_cells : ∀ (s : State) (k : Nat) (j : Int),
    (State.showJump s k j).mem.cells = s.mem.cells := by
  intros; simp [State.showJump]

@[simp] theorem State.showSetRate_cells : ∀ (s : State) (k r : Nat),
    (State.showSetRate s k r).mem.cells = s.mem.cells := by
  intros; simp [State.showSetRate]

@[simp] theorem execShowRun_cells : ∀ (v : Bool) (s : State), outCells (execShowRun v s) = some (s.mem.cells) := by
  intros; simp [execShowRun]

@[simp] theorem execShowSetRate_cells : ∀ (r : Nat) (s : State),
    outCells (execShowSetRate r s) = some (s.mem.cells) := by
  intros; simp [execShowSetRate]

@[simp] theorem State.modLtc_cells : ∀ (s : State) (f : LtcTracker → LtcTracker),
    (State.modLtc s f).mem.cells = s.mem.cells := by
  intros; simp [State.modLtc]

@[simp] theorem State.askReanchor_cells : ∀ (s : State), (State.askReanchor s).mem.cells = s.mem.cells := by
  intros; simp [State.askReanchor]

@[simp] theorem execLtcFrame_cells : ∀ (h mi sec f user : Nat) (start : Int) (s : State),
    outCells (execLtcFrame h mi sec f user start s) = some (s.mem.cells) := by
  intros; simp [execLtcFrame]

@[simp] theorem execLtcLoss_cells : ∀ (s : State), outCells (execLtcLoss s) = some (s.mem.cells) := by
  intros; simp [execLtcLoss]

@[simp] theorem execLtcFreewheelExpire_cells : ∀ (s : State),
    outCells (execLtcFreewheelExpire s) = some (s.mem.cells) := by
  intros; simp [execLtcFreewheelExpire]

@[simp] theorem execLtcOutFrame_cells : ∀ (s : State), outCells (execLtcOutFrame s) = some (s.mem.cells) := by
  intros; simp [execLtcOutFrame]

@[simp] theorem State.modMark_cells : ∀ (s : State) (j : Nat) (f : OutMark → OutMark),
    (State.modMark s j f).mem.cells = s.mem.cells := by
  intros; simp [State.modMark]

@[simp] theorem State.startTri_cells : ∀ (s : State) (k : Nat), (State.startTri s k).mem.cells = s.mem.cells := by
  intros; simp [State.startTri]

@[simp] theorem State.loadTri_cells : ∀ (s : State), (State.loadTri s).mem.cells = s.mem.cells := by
  intros; simp [State.loadTri]

@[simp] theorem execTriangulationDone_cells : ∀ (s : State),
    outCells (execTriangulationDone s) = some (s.mem.cells) := by
  intros; simp [execTriangulationDone]

@[simp] theorem State.swapTri_cells : ∀ (s : State), (State.swapTri s).mem.cells = s.mem.cells := by
  intros; unfold State.swapTri; split <;> simp

@[simp] theorem State.swapDue_cells : ∀ (s : State) (k x0 : Nat), (State.swapDue s k x0).mem.cells = s.mem.cells := by
  intro s k x0; fun_induction State.swapDue s k x0 <;> simp_all

@[simp] theorem execTriangulationSwap_cells : ∀ (s : State),
    outCells (execTriangulationSwap s) = some (s.mem.cells) := by
  intros; simp [execTriangulationSwap]

@[simp] theorem State.clearFail_cells : ∀ (s : State) (j : Nat), (State.clearFail s j).mem.cells = s.mem.cells := by
  intros; simp [State.clearFail]

@[simp] theorem execLstClearFail_cells : ∀ (j : Fin 1024) (s : State),
    outCells (execLstClearFail j s) = some (s.mem.cells) := by
  intros; simp [execLstClearFail]

@[simp] theorem State.recomputeShed_cells : ∀ (s : State), (State.recomputeShed s).mem.cells = s.mem.cells := by
  intros; unfold State.recomputeShed; split <;> simp

@[simp] theorem State.arbitrate_cells : ∀ (s : State) (k : Nat), (State.arbitrate s k).mem.cells = s.mem.cells := by
  intros; simp [State.arbitrate]

@[simp] theorem State.putInput_cells : ∀ (s : State) (b : InBlock), (State.putInput s b).mem.cells = s.mem.cells := by
  intros; simp [State.putInput]

@[simp] theorem State.placeSample_cells : ∀ (s : State) (kind ch n : Nat) (x : F32) (w : Nat),
    (State.placeSample s kind ch n x w).mem.cells = s.mem.cells := by
  intros; simp [State.placeSample]

@[simp] theorem State.putLast_cells : ∀ (s : State) (kind ch : Nat) (x : F32),
    (State.putLast s kind ch x).mem.cells = s.mem.cells := by
  intros; simp [State.putLast]

@[simp] theorem State.closeInput_cells : ∀ (s : State) (kind ch k : Nat) (hold : Bool) (w : Nat),
    (State.closeInput s kind ch k hold w).mem.cells = s.mem.cells := by
  intros; simp [State.closeInput]

@[simp] theorem State.pruneInputs_cells : ∀ (s : State) (k : Nat),
    (State.pruneInputs s k).mem.cells = s.mem.cells := by
  intros; simp [State.pruneInputs]

@[simp] theorem State.sendLace_cells : ∀ (s : State) (n type : Nat) (body : List Byte),
    (State.sendLace s n type body).mem.cells = s.mem.cells := by
  intros; unfold State.sendLace; split <;> simp

@[simp] theorem State.setHealth_cells : ∀ (s : State) (mask : Nat) (on : Bool),
    (State.setHealth s mask on).mem.cells = s.mem.cells := by
  intros; simp [State.setHealth]

@[simp] theorem State.enter_cells : ∀ (s : State) (block : Nat) (act : JournalAct) (held : Option Held),
    (State.enter s block act held).mem.cells = s.mem.cells := by
  intros; simp [State.enter]

@[simp] theorem State.grantAhead_cells : ∀ (s : State),
    (State.grantAhead s).mem.cells = s.mem.cells := by
  intros; unfold State.grantAhead; dsimp only []; split <;> simp

@[simp] theorem State.hold_cells : ∀ (s : State) (block : Nat) (act : JournalAct) (h : Held),
    (State.hold s block act h).mem.cells = s.mem.cells := by
  intros; simp [State.hold]

@[simp] theorem State.heldValues_cells (s : State) (h : Held) (more : State → List (Nat × Nat)) (f : State →
    State) (hf : (f s).mem.cells = s.mem.cells) : (s.heldValues h more f).mem.cells = s.mem.cells := by
  unfold State.heldValues; split
  · simp
  · exact hf

@[simp] theorem State.foldRange_cells : ∀ (s : State) (k lo hi : Nat),
    (State.foldRange s k lo hi).mem.cells = s.mem.cells := by
  intros; simp [State.foldRange]

@[simp] theorem State.closeWindow_cells : ∀ (s : State) (n0 e : Nat),
    (State.closeWindow s n0 e).mem.cells = s.mem.cells := by
  intros; simp [State.closeWindow]

@[simp] theorem State.foldBlock_cells : ∀ (s : State) (k : Nat), (State.foldBlock s k).mem.cells = s.mem.cells := by
  intros; unfold State.foldBlock; (repeat' (first | split | (apply foldl_cells; intros))); all_goals simp

@[simp] theorem execIntegrationWindowEnd_cells : ∀ (s : State),
    outCells (execIntegrationWindowEnd s) = some (s.mem.cells) := by
  intros; unfold execIntegrationWindowEnd; split <;> simp

@[simp] theorem State.putRun_cells : ∀ (s : State) (r : PfRun), (State.putRun s r).mem.cells = s.mem.cells := by
  intros; simp [State.putRun]

@[simp] theorem State.suspect_cells : ∀ (s : State) (j : Nat), (State.suspect s j).mem.cells = s.mem.cells := by
  intros; simp [State.suspect]

@[simp] theorem State.declareFailed_cells : ∀ (s : State) (j : Nat),
    (State.declareFailed s j).mem.cells = s.mem.cells := by
  intros; simp [State.declareFailed]

@[simp] theorem State.judgeOutput_cells : ∀ (s : State) (j : Nat) (kind : VerdictKind) (lineBad lineFail : Bool),
    (State.judgeOutput s j kind lineBad lineFail).mem.cells = s.mem.cells := by
  intros; simp [State.judgeOutput]

@[simp] theorem State.applyVerdict_cells : ∀ (s : State) (j v : Nat),
    (State.applyVerdict s j v).mem.cells = s.mem.cells := by
  intros; simp [State.applyVerdict]

@[simp] theorem State.captureRef_cells : ∀ (s : State) (j : Nat) (h : List F32),
    (State.captureRef s j h).mem.cells = s.mem.cells := by
  intros; rfl

@[simp] theorem State.tryCapture_cells : ∀ (s : State) (j : Nat) (h : List F32) (q : F32) (usable : Bool),
    (State.tryCapture s j h q usable).mem.cells = s.mem.cells := by
  intros; unfold State.tryCapture; split <;> simp

@[simp] theorem State.proofVerdict_cells : ∀ (s : State) (j : Nat),
    (State.proofVerdict s j).mem.cells = s.mem.cells := by
  intros; unfold State.proofVerdict; split <;> simp

@[simp] theorem execProofVerdict_cells : ∀ (j : Fin 1024) (s : State),
    outCells (execProofVerdict j s) = some (s.mem.cells) := by
  intros; simp [execProofVerdict]

@[simp] theorem execPfRefCapture_cells : ∀ (j : Fin 1024) (s : State),
    outCells (execPfRefCapture j s) = some (s.mem.cells) := by
  intros; simp [execPfRefCapture]

@[simp] theorem State.openProof_cells : ∀ (s : State) (e : Nat), (State.openProof s e).mem.cells = s.mem.cells := by
  intros; simp [State.openProof]

@[simp] theorem State.closeProof_cells : ∀ (s : State), (State.closeProof s).mem.cells = s.mem.cells := by
  intros; simp [State.closeProof]

@[simp] theorem State.pfWindowOpen_cells : ∀ (s : State) (k d : Nat),
    (State.pfWindowOpen s k d).mem.cells = s.mem.cells := by
  intros; simp [State.pfWindowOpen]

@[simp] theorem execPfWindowOpen_cells : ∀ (d : Nat) (s : State),
    outCells (execPfWindowOpen d s) = some (s.mem.cells) := by
  intros; simp [execPfWindowOpen]

@[simp] theorem execProofWindowClose_cells : ∀ (s : State),
    outCells (execProofWindowClose s) = some (s.mem.cells) := by
  intros; simp [execProofWindowClose]

@[simp] theorem State.proofDue_cells : ∀ (s : State) (k : Nat), (State.proofDue s k).mem.cells = s.mem.cells := by
  intros; simp [State.proofDue]

@[simp] theorem State.putLine_cells : ∀ (s : State) (x : Line), (State.putLine s x).mem.cells = s.mem.cells := by
  intros; simp [State.putLine]

@[simp] theorem State.senseBlock_cells : ∀ (s : State) (k l : Nat),
    (State.senseBlock s k l).mem.cells = s.mem.cells := by
  intros; simp [State.senseBlock]

@[simp] theorem State.senseAll_cells : ∀ (s : State) (k : Nat), (State.senseAll s k).mem.cells = s.mem.cells := by
  intros; simp [State.senseAll]

@[simp] theorem execLsPhase_cells : ∀ (l : Fin 16) (s : State), outCells (execLsPhase l s) = some (s.mem.cells) := by
  intros; simp [execLsPhase]

@[simp] theorem State.linePeriod_cells : ∀ (s : State) (l : Nat), (State.linePeriod s l).mem.cells = s.mem.cells := by
  intros; simp [State.linePeriod]

@[simp] theorem execLsPeriodEnd_cells : ∀ (l : Fin 16) (s : State),
    outCells (execLsPeriodEnd l s) = some (s.mem.cells) := by
  intros; simp [execLsPeriodEnd]

@[simp] theorem execLsLearn_cells : ∀ (l : Fin 16) (s : State), outCells (execLsLearn l s) = some (s.mem.cells) := by
  intros; simp [execLsLearn]

@[simp] theorem State.proofRelease_cells : ∀ (s : State), (State.proofRelease s).mem.cells = s.mem.cells := by
  intros; simp [State.proofRelease]

@[simp] theorem State.storeBlob_cells : ∀ (s : State) (o : Obj) (i : Nat),
    (State.storeBlob s o i).mem.cells = s.mem.cells := by
  intros; simp [State.storeBlob]

@[simp] theorem execEtchPersist_cells : ∀ (j : Fin 1024) (s : State),
    outCells (execEtchPersist j s) = some (s.mem.cells) := by
  intros; simp [execEtchPersist]

@[simp] theorem execClipPersist_cells : ∀ (n : Fin 1024) (s : State),
    outCells (execClipPersist n s) = some (s.mem.cells) := by
  intros; simp [execClipPersist]

@[simp] theorem execPfRefPersist_cells : ∀ (j : Fin 1024) (s : State),
    outCells (execPfRefPersist j s) = some (s.mem.cells) := by
  intros; simp [execPfRefPersist]

@[simp] theorem execClipLoadDone_cells : ∀ (n : Fin 1024) (s : State),
    outCells (execClipLoadDone n s) = some (s.mem.cells) := by
  intros; simp [execClipLoadDone]

@[simp] theorem State.putVoice_cells : ∀ (s : State) (x : VoiceRun) (st : Nat),
    (State.putVoice s x st).mem.cells = s.mem.cells := by
  intros; simp [State.putVoice]

@[simp] theorem State.idleVoice_cells : ∀ (s : State) (v : Nat), (State.idleVoice s v).mem.cells = s.mem.cells := by
  intros; simp [State.idleVoice]

@[simp] theorem State.stopVoice_cells : ∀ (s : State) (v : Nat), (State.stopVoice s v).mem.cells = s.mem.cells := by
  intros; unfold State.stopVoice; split <;> simp

@[simp] theorem State.startVoice_cells : ∀ (s : State) (v : Nat), (State.startVoice s v).mem.cells = s.mem.cells := by
  intros; simp [State.startVoice]

@[simp] theorem execVoiceStart_cells : ∀ (v : Fin 64) (s : State),
    outCells (execVoiceStart v s) = some (s.mem.cells) := by
  intros; simp [execVoiceStart]

@[simp] theorem execVoiceStop_cells : ∀ (v : Fin 64) (s : State),
    outCells (execVoiceStop v s) = some (s.mem.cells) := by
  intros; simp [execVoiceStop]

@[simp] theorem execVoiceLoopEnd_cells : ∀ (v : Fin 64) (s : State),
    outCells (execVoiceLoopEnd v s) = some (s.mem.cells) := by
  intros; unfold execVoiceLoopEnd; split <;> simp

@[simp] theorem State.bindVoice_cells : ∀ (s : State) (x : VoiceRun),
    (State.bindVoice s x).mem.cells = s.mem.cells := by
  intros; simp [State.bindVoice]

@[simp] theorem State.voiceBlock_cells : ∀ (s : State) (k : Nat) (x : VoiceRun),
    (State.voiceBlock s k x).mem.cells = s.mem.cells := by
  intros; unfold State.voiceBlock; (repeat' (first | split | (apply foldl_cells; intros))); all_goals simp

@[simp] theorem State.endVoices_cells : ∀ (s : State), (State.endVoices s).mem.cells = s.mem.cells := by
  intros; simp [State.endVoices]

@[simp] theorem State.bindVoices_cells : ∀ (s : State), (State.bindVoices s).mem.cells = s.mem.cells := by
  intros; simp [State.bindVoices]

@[simp] theorem State.voicesBoundary_cells : ∀ (s : State) (k : Nat),
    (State.voicesBoundary s k).mem.cells = s.mem.cells := by
  intros; simp [State.voicesBoundary]

@[simp] theorem State.putTracker_cells : ∀ (s : State) (x : Tracker),
    (State.putTracker s x).mem.cells = s.mem.cells := by
  intros; simp [State.putTracker]

@[simp] theorem State.trackBlock_cells : ∀ (s : State) (k n : Nat),
    (State.trackBlock s k n).mem.cells = s.mem.cells := by
  intros; simp [State.trackBlock]

@[simp] theorem State.trackAll_cells : ∀ (s : State) (k : Nat), (State.trackAll s k).mem.cells = s.mem.cells := by
  intros; simp [State.trackAll]

@[simp] theorem execAmbWindowEnd_cells : ∀ (n : Fin 256) (s : State),
    outCells (execAmbWindowEnd n s) = some (s.mem.cells) := by
  intros; simp [execAmbWindowEnd]

@[simp] theorem State.meterBlock_cells : ∀ (s : State) (key : Nat) (x : List F32),
    (State.meterBlock s key x).mem.cells = s.mem.cells := by
  intros; simp [State.meterBlock]

@[simp] theorem State.clearMeters_cells : ∀ (s : State), (State.clearMeters s).mem.cells = s.mem.cells := by
  intros; unfold State.clearMeters; simp only []; refine (foldl_cells _ ?_ _ _).trans rfl; intros; simp

@[simp] theorem State.silenceBlock_cells : ∀ (s : State) (j : Nat) (silent loud : Bool),
    (State.silenceBlock s j silent loud).mem.cells = s.mem.cells := by
  intros; simp [State.silenceBlock]

@[simp] theorem execSilenceTimeout_cells : ∀ (j : Fin 1024) (s : State),
    outCells (execSilenceTimeout j s) = some (s.mem.cells) := by
  intros; simp [execSilenceTimeout]

@[simp] theorem State.standbyBoundary_cells : ∀ (s : State), (State.standbyBoundary s).mem.cells = s.mem.cells := by
  intros; simp [State.standbyBoundary]

@[simp] theorem State.sceneBoundary_cells : ∀ (s : State) (k : Nat) (jumped : Bool),
    (State.sceneBoundary s k jumped).mem.cells = s.mem.cells := by
  intros; simp [State.sceneBoundary]

@[simp] theorem State.rewrite_cells : ∀ (s : State) (objs : List SlotObj) (k : Nat → Nat) (pairs : List (Nat × Nat)),
    (State.rewrite s objs k pairs).mem.cells = s.mem.cells := by
  intros; unfold State.rewrite; (repeat' (first | split | (apply foldl_cells; intros))) <;> simp

@[simp] theorem State.stageRewrite_cells : ∀ (s : State) (k : Nat),
    (State.stageRewrite s k).mem.cells = s.mem.cells := by
  intros; unfold State.stageRewrite; split <;> rfl

@[simp] theorem State.settleDram_cells : ∀ (s : State) (m : Nat) (outs : List OutRec) (old : List Chain),
    (State.settleDram s m outs old).mem.cells = s.mem.cells := by
  intros; unfold State.settleDram; split
  · rfl
  · refine (State.pass_cells _).trans ?_
    apply foldl_cells
    intros; dsimp only []; (repeat' split) <;> simp

@[simp] theorem State.runChains_cells : ∀ (s : State) (m : Nat) (outs : List OutRec) (feeds : List Feed),
    (State.runChains s m outs feeds).mem.cells = s.mem.cells := by
  intros; simp [State.runChains]

@[simp] theorem State.renderSlot_cells : ∀ (s : State) (missing : List Nat) (ohm pairErr : List (Nat × Nat)),
    (State.renderSlot s missing ohm pairErr).mem.cells = s.mem.cells := by
  intros; simp [State.renderSlot]

@[simp] theorem execRenderSlot_cells : ∀ (missing : List (Fin 16)) (ohm pairErr : List (Nat × Nat)) (s : State),
    outCells (execRenderSlot missing ohm pairErr s) = some (s.mem.cells) := by
  intros; simp [execRenderSlot]

@[simp] theorem execWeltDeadline_cells : ∀ (j : Fin 1024) (s : State),
    outCells (execWeltDeadline j s) = some (s.mem.cells) := by
  intros; simp [execWeltDeadline]; (repeat' split); all_goals simp

@[simp] theorem execOutchainDeadline_cells : ∀ (j : Fin 1024) (s : State),
    outCells (execOutchainDeadline j s) = some (s.mem.cells) := by
  intros; simp [execOutchainDeadline]

@[simp] theorem State.presentOut_cells : ∀ (s : State) (k : Nat) (c : Chain),
    (Prod.fst (State.presentOut s k c)).mem.cells = s.mem.cells := by
  intros; simp [State.presentOut]

@[simp] theorem State.presentOuts_cells (s : State) (k : Nat) (l : List Chain) : (s.presentOuts k l).1.mem.cells =
    s.mem.cells := by
  induction l generalizing s with
  | nil => rfl
  | cons c l ih => simp [State.presentOuts, ih]

@[simp] theorem State.chainReport_cells : ∀ (s : State) (c : Chain),
    (State.chainReport s c).mem.cells = s.mem.cells := by
  intros; simp [State.chainReport]; (repeat' split); all_goals simp

@[simp] theorem State.etchReport_cells : ∀ (s : State) (j : Nat),
    (State.etchReport s j).mem.cells = s.mem.cells := by
  intros; unfold State.etchReport; (repeat' (first | split | (apply foldl_cells; intros))) <;> simp

@[simp] theorem State.presentReport_cells : ∀ (s : State) (c : Chain),
    (State.presentReport s c).mem.cells = s.mem.cells := by
  intros; simp [State.presentReport]

@[simp] theorem State.presentQuiet_cells : ∀ (s : State) (k : Nat),
    (State.presentQuiet s k).mem.cells = s.mem.cells := by
  intros; unfold State.presentQuiet; (repeat' (first | split | (apply foldl_cells; intros))); all_goals simp

@[simp] theorem State.present_cells : ∀ (s : State) (k : Nat), (State.present s k).mem.cells = s.mem.cells := by
  intros; simp [State.present]; (repeat' split); all_goals simp

@[simp] theorem execEtchTransformDone_cells : ∀ (j : Fin 1024) (s : State),
    outCells (execEtchTransformDone j s) = some (s.mem.cells) := by
  intros; simp [execEtchTransformDone]; (repeat' split); all_goals simp

@[simp] theorem execEtchXfadeComplete_cells : ∀ (j : Fin 1024) (s : State),
    outCells (execEtchXfadeComplete j s) = some (s.mem.cells) := by
  intros; simp [execEtchXfadeComplete]

@[simp] theorem execStepperTimeout_cells : ∀ (j : Fin 1024) (s : State),
    outCells (execStepperTimeout j s) = some (s.mem.cells) := by
  intros; simp [execStepperTimeout]

@[simp] theorem State.putSide_cells : ∀ (s : State) (x : SideNow), (State.putSide s x).mem.cells = s.mem.cells := by
  intros; simp [State.putSide]

@[simp] theorem State.setSideState_cells : ∀ (s : State) (n v : Nat),
    (State.setSideState s n v).mem.cells = s.mem.cells := by
  intros; simp [State.setSideState]

@[simp] theorem State.restartSide_cells : ∀ (s : State) (k n : Nat),
    (State.restartSide s k n).mem.cells = s.mem.cells := by
  intros; simp [State.restartSide]

@[simp] theorem State.trackFrame_cells : ∀ (s : State) (side n : Nat) (dist : Int),
    (Prod.fst (State.trackFrame s side n dist)).mem.cells = s.mem.cells := by
  intros; simp [State.trackFrame]

@[simp] theorem State.placeSlots_cells (s : State) (side n bits k : Nat) (l : List Nat)
    : (s.placeSlots side n bits k l).mem.cells = s.mem.cells := by
  induction l generalizing s k with
  | nil => rfl
  | cons w l ih => rw [State.placeSlots]; simp only [ih]; split <;> simp

@[simp] theorem State.portsResume_cells : ∀ (s : State),
    (State.portsResume s).mem.cells = s.mem.cells := by
  intros; unfold State.portsResume; (repeat' (first | split | (apply foldl_cells; intros))) <;> simp

@[simp] theorem execSpFrameRx_cells : ∀ (port : Fin 8) (t : Int) (words : List Nat) (s : State),
    outCells (execSpFrameRx port t words s) = some (s.mem.cells) := by
  intros; simp [execSpFrameRx]

@[simp] theorem execSpFrameTx_cells : ∀ (port : Fin 8) (n : Nat) (s : State),
    outCells (execSpFrameTx port n s) = some (s.mem.cells) := by
  intros; simp [execSpFrameTx]

@[simp] theorem execSpClockLost_cells : ∀ (side : Fin 16) (s : State),
    outCells (execSpClockLost side s) = some (s.mem.cells) := by
  intros; simp [execSpClockLost]

@[simp] theorem execSpClockRestore_cells : ∀ (side : Fin 16) (s : State),
    outCells (execSpClockRestore side s) = some (s.mem.cells) := by
  intros; simp [execSpClockRestore]

@[simp] theorem State.asrcSlot_cells : ∀ (s : State) (k side slot w : Nat),
    (State.asrcSlot s k side slot w).mem.cells = s.mem.cells := by
  intros; simp [State.asrcSlot]

@[simp] theorem State.closeSide_cells : ∀ (s : State) (k side : Nat),
    (State.closeSide s k side).mem.cells = s.mem.cells := by
  intros; simp [State.closeSide]

@[simp] theorem State.trackRatio_cells : ∀ (s : State) (side : Nat),
    (State.trackRatio s side).mem.cells = s.mem.cells := by
  intros; simp [State.trackRatio]

@[simp] theorem State.sideBoundary_cells : ∀ (s : State) (k side : Nat),
    (State.sideBoundary s k side).mem.cells = s.mem.cells := by
  intros; simp [State.sideBoundary]

@[simp] theorem State.aesBlock_cells : ∀ (s : State) (r : Nat) (x : AesRx),
    (State.aesBlock s r x).mem.cells = s.mem.cells := by
  intros; simp [State.aesBlock]

@[simp] theorem State.placeSub_cells : ∀ (s : State) (r sub n : Nat) (x : AesSub),
    (State.placeSub s r sub n x).mem.cells = s.mem.cells := by
  intros; simp [State.placeSub]

@[simp] theorem State.aesReturn_cells : ∀ (s : State) (r good : Nat),
    (State.aesReturn s r good).mem.cells = s.mem.cells := by
  intros; unfold State.aesReturn; dsimp only []; split <;> simp

@[simp] theorem execAesFrameRx_cells : ∀ (r : Fin 4) (t : Int) (z : Bool) (a b : AesSub) (s : State),
    outCells (execAesFrameRx r t z a b s) = some (s.mem.cells) := by
  intros; simp [execAesFrameRx]

@[simp] theorem State.resyncAgain_cells : ∀ (s : State),
    (State.resyncAgain s).mem.cells = s.mem.cells := by
  intros; simp [State.resyncAgain]

@[simp] theorem State.twinRewrite_cells : ∀ (s : State),
    (State.twinRewrite s).mem.cells = s.mem.cells := by
  intros; rfl

@[simp] theorem execAesRxLost_cells : ∀ (r : Fin 4) (s : State),
    outCells (execAesRxLost r s) = some (s.mem.cells) := by
  intros; simp [execAesRxLost]

@[simp] theorem State.aesTxBoundary_cells : ∀ (s : State) (k t : Nat),
    (State.aesTxBoundary s k t).mem.cells = s.mem.cells := by
  intros; simp [State.aesTxBoundary]

@[simp] theorem execAesFrameTx_cells : ∀ (t : Fin 4) (n : Nat) (s : State),
    outCells (execAesFrameTx t n s) = some (s.mem.cells) := by
  intros; simp [execAesFrameTx]

@[simp] theorem State.putPdm_cells : ∀ (s : State) (x : PdmCh), (State.putPdm s x).mem.cells = s.mem.cells := by
  intros; simp [State.putPdm]

@[simp] theorem State.pdmSync_cells : ∀ (s : State) (k c : Nat), (State.pdmSync s k c).mem.cells = s.mem.cells := by
  intros; simp [State.pdmSync]

@[simp] theorem execPdmChSync_cells : ∀ (c : Fin 32) (s : State),
    outCells (execPdmChSync c s) = some (s.mem.cells) := by
  intros; simp [execPdmChSync]

@[simp] theorem State.closePdm_cells : ∀ (s : State) (k c : Nat), (State.closePdm s k c).mem.cells = s.mem.cells := by
  intros; simp [State.closePdm]

@[simp] theorem State.closeLocal_cells : ∀ (s : State) (k : Nat), (State.closeLocal s k).mem.cells = s.mem.cells := by
  intros; simp [State.closeLocal]

@[simp] theorem State.localBoundary_cells : ∀ (s : State) (k : Nat),
    (State.localBoundary s k).mem.cells = s.mem.cells := by
  intros; simp [State.localBoundary]

@[simp] theorem State.putIdac_cells : ∀ (s : State) (x : IdacNow), (State.putIdac s x).mem.cells = s.mem.cells := by
  intros; simp [State.putIdac]

@[simp] theorem State.driveIdac_cells : ∀ (s : State) (l ua : Nat),
    (State.driveIdac s l ua).mem.cells = s.mem.cells := by
  intros; simp [State.driveIdac]

@[simp] theorem State.idacTarget_cells : ∀ (s : State) (l ua : Nat),
    (State.idacTarget s l ua).mem.cells = s.mem.cells := by
  intros; simp [State.idacTarget]

@[simp] theorem State.idacBoundary_cells : ∀ (s : State) (k l : Nat),
    (State.idacBoundary s k l).mem.cells = s.mem.cells := by
  intros; simp [State.idacBoundary]

@[simp] theorem State.idacApply_cells : ∀ (s : State) (l : Nat), (State.idacApply s l).mem.cells = s.mem.cells := by
  intros; simp [State.idacApply]; (repeat' split); all_goals simp

@[simp] theorem execIdacQueueApply_cells : ∀ (l : Fin 16) (s : State),
    outCells (execIdacQueueApply l s) = some (s.mem.cells) := by
  intros; simp [execIdacQueueApply]

@[simp] theorem execIdacComplianceLow_cells : ∀ (l : Fin 16) (s : State),
    outCells (execIdacComplianceLow l s) = some (s.mem.cells) := by
  intros; simp [execIdacComplianceLow]

@[simp] theorem execIdacComplianceOk_cells : ∀ (l : Fin 16) (s : State),
    outCells (execIdacComplianceOk l s) = some (s.mem.cells) := by
  intros; simp [execIdacComplianceOk]

@[simp] theorem State.idacsBoundary_cells : ∀ (s : State) (k : Nat),
    (State.idacsBoundary s k).mem.cells = s.mem.cells := by
  intros; simp [State.idacsBoundary]

@[simp] theorem State.poison_cells : ∀ (s : State) (ws : List Nat), (State.poison s ws).mem.cells = s.mem.cells := by
  intros; simp [State.poison]

@[simp] theorem State.burnishPass_cells : ∀ (s : State), (State.burnishPass s).mem.cells = s.mem.cells := by
  intros; simp [State.burnishPass]

@[simp] theorem State.dmcArrive_cells : ∀ (s : State) (r : MemRequest),
    (State.dmcArrive s r).mem.cells = s.mem.cells := by
  intros; unfold State.dmcArrive; (repeat' (first | split | (apply foldl_cells; intros))) <;> simp

@[simp] theorem State.decodeError_cells : ∀ (s : State) (master a : Nat),
    (State.decodeError s master a).mem.cells = s.mem.cells := by
  intros; unfold State.decodeError; (repeat' (first | split | (apply foldl_cells; intros))) <;> simp

@[simp] theorem State.matrixGrant_cells : ∀ (s : State) (target : Nat) (a0 : Nat) (a1 : Option Nat) (a2 : List MemRequest),
    (State.matrixGrant s target a0 a1 a2).mem.cells = s.mem.cells := by
  intro s target n; induction n generalizing s with
  | zero => intros; rfl
  | succ n ih => intros; simp only [State.matrixGrant]; split <;> simp [ih]

@[simp] theorem State.presentRequests_cells : ∀ (s : State) (l : List MemRequest),
    (s.presentRequests l).mem.cells = s.mem.cells := by
  intros; unfold State.presentRequests
  rw [foldl_cells (h := by intros; exact State.matrixGrant_cells ..),
    foldl_cells (h := by intros; split <;> simp), foldl_cells (h := by intros; simp)]

@[simp] theorem execDmcRequest_cells (who : Requester) (addr : Nat) (others : List MemRequest) (s : State) :
    outCells (execDmcRequest who addr others s) = some s.mem.cells := by simp [execDmcRequest]

@[simp] theorem State.dmcAverages_cells : ∀ (s : State), (State.dmcAverages s).mem.cells = s.mem.cells := by
  intros; simp [State.dmcAverages]

@[simp] theorem execDmcServe_cells : ∀ (hits : List Nat) (s : State),
    outCells (execDmcServe hits s) = some (s.mem.cells) := by
  intros; simp [execDmcServe]; (repeat' split); all_goals simp

@[simp] theorem execAgePromotion_cells : ∀ (port : Fin 8) (s : State),
    outCells (execAgePromotion port s) = some (s.mem.cells) := by
  intros; simp [execAgePromotion]; (repeat' split); all_goals simp

@[simp] theorem execRefreshDue_cells : ∀ (s : State), outCells (execRefreshDue s) = some (s.mem.cells) := by
  intros; simp [execRefreshDue]

@[simp] theorem State.startRamp_cells : ∀ (s : State) (p : Nat) (l : List (Nat × Nat)),
    (State.startRamp s p l).mem.cells = s.mem.cells := by
  intros; unfold State.startRamp; split <;> simp

@[simp] theorem execPllRampStep_cells : ∀ (p : Fin 2) (s : State),
    outCells (execPllRampStep p s) = some (s.mem.cells) := by
  intros; unfold execPllRampStep; (repeat' (first | split | (apply foldl_cells; intros))); all_goals simp

@[simp] theorem State.changeSetPoint_cells : ∀ (s : State) (sp : Nat),
    (State.changeSetPoint s sp).mem.cells = s.mem.cells := by
  intros; simp [State.changeSetPoint]

@[simp] theorem State.askSetPoint_cells : ∀ (s : State) (sp : Nat),
    (State.askSetPoint s sp).mem.cells = s.mem.cells := by
  intros; unfold State.askSetPoint; split <;> simp

@[simp] theorem execSetpointChange_cells : ∀ (sp : Fin 2) (s : State),
    outCells (execSetpointChange sp s) = some (s.mem.cells) := by
  intros; simp [execSetpointChange]

@[simp] theorem State.showTraining_cells : ∀ (s : State) (state : Nat),
    (State.showTraining s state).mem.cells = s.mem.cells := by
  intros; simp [State.showTraining]

@[simp] theorem State.startTraining_cells : ∀ (s : State) (sp : Nat) (asked : Bool),
    (State.startTraining s sp asked).mem.cells = s.mem.cells := by
  intros; simp [State.startTraining]

@[simp] theorem execTrainStepDone_cells : ∀ (passed : Bool) (margin : Word32) (s : State),
    outCells (execTrainStepDone passed margin s) = some (s.mem.cells) := by
  intros; unfold execTrainStepDone; split <;> simp

@[simp] theorem execMasterReset_cells : ∀ (m : Fin 8) (s : State),
    outCells (execMasterReset m s) = some (s.mem.cells) := by
  intros; simp [execMasterReset]

@[simp] theorem State.modDma_cells : ∀ (s : State) (c : Nat) (f : DmaChan → DmaChan),
    (State.modDma s c f).mem.cells = s.mem.cells := by
  intros; simp [State.modDma]

@[simp] theorem State.dmaAdvance_cells : ∀ (s : State) (c : Nat), (State.dmaAdvance s c).mem.cells = s.mem.cells := by
  intros; simp [State.dmaAdvance]

@[simp] theorem State.dmaTrigger_cells : ∀ (s : State) (c : Nat), (State.dmaTrigger s c).mem.cells = s.mem.cells := by
  intros; simp [State.dmaTrigger]

@[simp] theorem execDmaTrigger_cells : ∀ (c : Fin 8) (s : State),
    outCells (execDmaTrigger c s) = some (s.mem.cells) := by
  intros; simp [execDmaTrigger]

@[simp] theorem State.dmaNext_cells : ∀ (s : State) (c : Nat) (stop : Bool),
    (State.dmaNext s c stop).mem.cells = s.mem.cells := by
  intros; simp [State.dmaNext]

@[simp] theorem State.dmaTraffic_cells : ∀ (s : State), (State.dmaTraffic s).mem.cells = s.mem.cells := by
  intros; simp [State.dmaTraffic]

@[simp] theorem State.dmaStart_cells : ∀ (s : State) (c : Nat), (State.dmaStart s c).mem.cells = s.mem.cells := by
  intros; simp [State.dmaStart]

@[simp] theorem State.dmaStop_cells : ∀ (s : State) (c : Nat), (State.dmaStop s c).mem.cells = s.mem.cells := by
  intros; simp [State.dmaStop]

@[simp] theorem State.pauseStop_cells : ∀ (s : State) (port : Nat),
    (State.pauseStop s port).mem.cells = s.mem.cells := by
  intros; unfold State.pauseStop; split <;> simp

@[simp] theorem State.ringPass_cells : ∀ (s : State) (ring n : Nat),
    (State.ringPass s ring n).mem.cells = s.mem.cells := by
  intros; simp [State.ringPass]

@[simp] theorem State.ringStart_cells : ∀ (s : State) (ring : Nat),
    (State.ringStart s ring).mem.cells = s.mem.cells := by
  intros; rfl

@[simp] theorem State.putStream_cells : ∀ (s : State) (x : StreamIn),
    (State.putStream s x).mem.cells = s.mem.cells := by
  intros; simp [State.putStream]

@[simp] theorem State.streamPlace_cells : ∀ (s : State) (c n : Nat) (words : List (F32 × Nat)),
    (State.streamPlace s c n words).mem.cells = s.mem.cells := by
  intros; simp [State.streamPlace]

@[simp] theorem State.streamPacket_cells : ∀ (s : State) (c : Nat) (n : Int) (rows : List (List (F32 × Nat))),
    (State.streamPacket s c n rows).mem.cells = s.mem.cells := by
  intros; simp [State.streamPacket]

@[simp] theorem State.aesPacket_cells : ∀ (s : State) (c : Nat) (p : RtpPacket),
    (State.aesPacket s c p).mem.cells = s.mem.cells := by
  intros; simp [State.aesPacket]

@[simp] theorem State.aesReceive_cells : ∀ (s : State) (port : Nat) (p : RtpPacket),
    (State.aesReceive s port p).mem.cells = s.mem.cells := by
  intros; simp [State.aesReceive]

@[simp] theorem execAes67PacketRx_cells : ∀ (port : Fin 7) (p : RtpPacket) (s : State),
    outCells (execAes67PacketRx port p s) = some (s.mem.cells) := by
  intros; simp [execAes67PacketRx]

@[simp] theorem State.closeStreams_cells : ∀ (s : State) (k : Nat),
    (State.closeStreams s k).mem.cells = s.mem.cells := by
  intros; simp [State.closeStreams]

@[simp] theorem State.sendAll_cells : ∀ (s : State) (ports : List Nat) (kind : String) (fields : List Nat),
    (State.sendAll s ports kind fields).mem.cells = s.mem.cells := by
  intros; unfold State.sendAll; refine foldl_cells _ ?_ _ _; intros; simp

@[simp] theorem State.igmp_cells : ∀ (s : State) (kind : String) (ports addr : Nat),
    (State.igmp s kind ports addr).mem.cells = s.mem.cells := by
  intros; simp [State.igmp]

@[simp] theorem State.streamRestart_cells : ∀ (s : State) (c oldKind oldPorts oldAddr : Nat),
    (State.streamRestart s c oldKind oldPorts oldAddr).mem.cells = s.mem.cells := by
  intros; simp [State.streamRestart]

@[simp] theorem State.igmpAnswer_cells : ∀ (s : State) (port : Nat),
    (State.igmpAnswer s port).mem.cells = s.mem.cells := by
  intros; simp [State.igmpAnswer]

@[simp] theorem execAes67PacketTx_cells : ∀ (c : Fin 512) (n : Nat) (late : Bool) (s : State),
    outCells (execAes67PacketTx c n late s) = some (s.mem.cells) := by
  intros; simp [execAes67PacketTx]; (repeat' split); all_goals simp

@[simp] theorem State.startWake_cells : ∀ (s : State) (w : Wake), (State.startWake s w).mem.cells = s.mem.cells := by
  intros; simp [State.startWake]

@[simp] theorem State.wakeUp_cells : ∀ (s : State) (w : Wake), (State.wakeUp s w).mem.cells = s.mem.cells := by
  intros; simp [State.wakeUp]

@[simp] theorem State.wakeFrame_cells : ∀ (s : State) (port : Nat) (f : List Byte),
    (State.wakeFrame s port f).mem.cells = s.mem.cells := by
  intros; simp [State.wakeFrame]; (repeat' split); all_goals simp

@[simp] theorem State.serve_cells : ∀ (s : State) (port : Nat) (f : List Byte) (x : Service),
    (State.serve s port f x).mem.cells = s.mem.cells := by
  intros; unfold State.serve; (repeat' (first | split | (apply foldl_cells; intros))); all_goals simp

@[simp] theorem State.putNbr_cells : ∀ (s : State) (n : Neighbour), (State.putNbr s n).mem.cells = s.mem.cells := by
  intros; simp [State.putNbr]

@[simp] theorem State.linkAuth_cells : ∀ (s : State) (p : Nat) (f : FabFrame) (body : List Byte),
    (Prod.fst (State.linkAuth s p f body)).mem.cells = s.mem.cells := by
  intros; simp [State.linkAuth]

@[simp] theorem State.linkFrame_cells : ∀ (s : State) (p type : Nat) (f : FabFrame) (body : List Byte),
    (Prod.fst (State.linkFrame s p type f body)).mem.cells = s.mem.cells := by
  intros; unfold State.linkFrame; (repeat' split) <;> simp

@[simp] theorem State.sendLink_cells : ∀ (s : State) (p : Nat) (f : FabFrame) (body : List Byte),
    (State.sendLink s p f body).mem.cells = s.mem.cells := by
  intros; unfold State.sendLink; dsimp only []; split <;> simp

@[simp] theorem State.sendLsa_cells : ∀ (s : State) (p : Nat) (l : Lsa),
    (State.sendLsa s p l).mem.cells = s.mem.cells := by
  intros; simp [State.sendLsa]

@[simp] theorem State.flood_cells : ∀ (s : State) (l : Lsa) (ports : List Nat),
    (State.flood s l ports).mem.cells = s.mem.cells := by
  intros; unfold State.flood; (repeat' (first | split | (apply foldl_cells; intros))); all_goals simp

@[simp] theorem State.holdLsa_cells : ∀ (s : State) (l : Lsa), (State.holdLsa s l).mem.cells = s.mem.cells := by
  intros; simp [State.holdLsa]

@[simp] theorem State.floodOwn_cells : ∀ (s : State) (n : Nat), (State.floodOwn s n).mem.cells = s.mem.cells := by
  intros; simp [State.floodOwn]

@[simp] theorem State.showLoads_cells : ∀ (s : State), (State.showLoads s).mem.cells = s.mem.cells := by
  intros; rfl

@[simp] theorem State.placeTrees_cells : ∀ (s : State) (trees : List Machine.Tree) (lat : List Nat),
    (State.placeTrees s trees lat).mem.cells = s.mem.cells := by
  intros; simp [State.placeTrees]

@[simp] theorem State.warnPaths_cells : ∀ (t : State) (budget : Nat) (lat : List Nat),
    (State.warnPaths t budget lat).mem.cells = t.mem.cells := by
  intros; simp [State.warnPaths]

@[simp] theorem State.installTrees_cells : ∀ (s : State), (State.installTrees s).mem.cells = s.mem.cells := by
  intros; simp [State.installTrees]

@[simp] theorem State.enterConflict_cells : ∀ (s : State), (State.enterConflict s).mem.cells = s.mem.cells := by
  intros; simp [State.enterConflict]

@[simp] theorem State.fabMoves_cells : ∀ (s : State), (State.fabMoves s).mem.cells = s.mem.cells := by
  intros; simp [State.fabMoves]

@[simp] theorem State.graphTouched_cells : ∀ (s : State), (State.graphTouched s).mem.cells = s.mem.cells := by
  intros; simp [State.graphTouched]

@[simp] theorem State.linksChanged_cells : ∀ (s : State), (State.linksChanged s).mem.cells = s.mem.cells := by
  intros; simp [State.linksChanged]

@[simp] theorem State.leave_cells : ∀ (s : State), (State.leave s).mem.cells = s.mem.cells := by
  intros; simp [State.leave]

@[simp] theorem execLeavingExpire_cells : ∀ (s : State), outCells (execLeavingExpire s) = some (s.mem.cells) := by
  intros; simp [execLeavingExpire]

@[simp] theorem State.sendHello_cells : ∀ (s : State) (p : Nat), (State.sendHello s p).mem.cells = s.mem.cells := by
  intros; simp [State.sendHello]

@[simp] theorem execHelloTimer_cells : ∀ (port : Fin 6) (s : State),
    outCells (execHelloTimer port s) = some (s.mem.cells) := by
  intros; simp [execHelloTimer]

@[simp] theorem State.nbrMove_cells : ∀ (s : State) (p st : Nat), (State.nbrMove s p st).mem.cells = s.mem.cells := by
  intros; simp [State.nbrMove]

@[simp] theorem State.nbrDown_cells : ∀ (s : State) (p : Nat), (State.nbrDown s p).mem.cells = s.mem.cells := by
  intros; simp [State.nbrDown]

@[simp] theorem execHelloLost_cells : ∀ (port : Fin 6) (s : State),
    outCells (execHelloLost port s) = some (s.mem.cells) := by
  intros; simp [execHelloLost]

@[simp] theorem State.sendAdmit_cells : ∀ (s : State) (p : Nat) (x : AdmitStep),
    (State.sendAdmit s p x).mem.cells = s.mem.cells := by
  intros; simp [State.sendAdmit]

@[simp] theorem State.startAdmit_cells : ∀ (s : State) (p mac : Nat),
    (State.startAdmit s p mac).mem.cells = s.mem.cells := by
  intros; simp [State.startAdmit]

@[simp] theorem State.sceneMatch_cells : ∀ (s : State), (State.sceneMatch s).mem.cells = s.mem.cells := by
  intros; simp [State.sceneMatch]

@[simp] theorem State.refuseNbr_cells : ∀ (s : State) (p : Nat), (State.refuseNbr s p).mem.cells = s.mem.cells := by
  intros; simp [State.refuseNbr]

@[simp] theorem execFabHello_cells : ∀ (port : Fin 6) (h : Hello) (t : FabFrame) (s : State),
    outCells (execFabHello port h t s) = some (s.mem.cells) := by
  intros; simp [execFabHello]

@[simp] theorem State.admitNbr_cells : ∀ (s : State) (p : Nat) (x : LinkShake),
    (State.admitNbr s p x).mem.cells = s.mem.cells := by
  intros; simp [State.admitNbr]

@[simp] theorem State.admitRefused_cells : ∀ (s : State) (p : Nat),
    (State.admitRefused s p).mem.cells = s.mem.cells := by
  intros; simp [State.admitRefused]

@[simp] theorem State.admitInit_cells : ∀ (s : State) (p : Nat) (nonce key : List Byte),
    (State.admitInit s p nonce key).mem.cells = s.mem.cells := by
  intros; simp [State.admitInit]

@[simp] theorem State.askChain_cells : ∀ (s : State) (p : Nat) (x : LinkShake),
    (State.askChain s p x).mem.cells = s.mem.cells := by
  intros; simp [State.askChain]

@[simp] theorem State.sendChain_cells : ∀ (s : State) (p : Nat) (x : LinkShake),
    (State.sendChain s p x).mem.cells = s.mem.cells := by
  intros; simp [State.sendChain]

@[simp] theorem State.judgeNbr_cells : ∀ (s : State) (p : Nat) (x : LinkShake) (sig : List Byte),
    (Prod.fst (State.judgeNbr s p x sig)).mem.cells = s.mem.cells := by
  intros; simp [State.judgeNbr]

@[simp] theorem State.admitStep_cells : ∀ (s : State) (p : Nat) (step : AdmitStep),
    (State.admitStep s p step).mem.cells = s.mem.cells := by
  intros; unfold State.admitStep; dsimp only []; (repeat' split) <;> simp

@[simp] theorem execAdmit_cells : ∀ (port : Fin 6) (a : AdmitFrame) (s : State),
    outCells (execAdmit port a s) = some (s.mem.cells) := by
  intros; unfold execAdmit; (repeat' split) <;> simp

@[simp] theorem execAdmitTimeout_cells : ∀ (port : Fin 6) (s : State),
    outCells (execAdmitTimeout port s) = some (s.mem.cells) := by
  intros; simp [execAdmitTimeout]

@[simp] theorem execRefusedExpire_cells : ∀ (port : Fin 6) (s : State),
    outCells (execRefusedExpire port s) = some (s.mem.cells) := by
  intros; simp [execRefusedExpire]

@[simp] theorem execLinkRekey_cells : ∀ (port : Fin 6) (s : State),
    outCells (execLinkRekey port s) = some (s.mem.cells) := by
  intros; simp [execLinkRekey]

@[simp] theorem execLinkUp_cells : ∀ (port : Fin 7) (mismatch : Bool) (s : State),
    outCells (execLinkUp port mismatch s) = some (s.mem.cells) := by
  intros; simp [execLinkUp]

@[simp] theorem execLsa_cells : ∀ (port : Fin 6) (l : Lsa) (t : FabFrame) (s : State),
    outCells (execLsa port l t s) = some (s.mem.cells) := by
  intros; simp [execLsa]; (repeat' split); all_goals simp

@[simp] theorem execLsaAck_cells : ∀ (port : Fin 6) (vertex seq : Nat) (t : FabFrame) (s : State),
    outCells (execLsaAck port vertex seq t s) = some (s.mem.cells) := by
  intros; simp [execLsaAck]

@[simp] theorem execLsaResend_cells : ∀ (port : Fin 6) (s : State),
    outCells (execLsaResend port s) = some (s.mem.cells) := by
  intros; simp [execLsaResend]; (repeat' (first | split | (apply foldl_cells; intros))); all_goals simp

@[simp] theorem execLsaReflood_cells : ∀ (s : State), outCells (execLsaReflood s) = some (s.mem.cells) := by
  intros; simp [execLsaReflood]

@[simp] theorem execLsaAgeOut_cells : ∀ (vertex : Nat) (s : State),
    outCells (execLsaAgeOut vertex s) = some (s.mem.cells) := by
  intros; simp [execLsaAgeOut]

@[simp] theorem execGraphChange_cells : ∀ (s : State), outCells (execGraphChange s) = some (s.mem.cells) := by
  intros; simp [execGraphChange]

@[simp] theorem execOldGenerationExpire_cells : ∀ (s : State),
    outCells (execOldGenerationExpire s) = some (s.mem.cells) := by
  intros; simp [execOldGenerationExpire]

@[simp] theorem execTreeSwitchA_cells : ∀ (s : State), outCells (execTreeSwitchA s) = some (s.mem.cells) := by
  intros; simp [execTreeSwitchA]

@[simp] theorem execTreeSwitchB_cells : ∀ (s : State), outCells (execTreeSwitchB s) = some (s.mem.cells) := by
  intros; simp [execTreeSwitchB]

@[simp] theorem State.putWindow_cells : ∀ (s : State) (w : ElimWindow),
    (State.putWindow s w).mem.cells = s.mem.cells := by
  intros; simp [State.putWindow]

@[simp] theorem State.eliminate_cells : ∀ (s : State) (c seq : Nat) (treeB : Bool),
    (Prod.fst (State.eliminate s c seq treeB)).mem.cells = s.mem.cells := by
  intros; unfold State.eliminate; split <;> simp

@[simp] theorem State.streamToContext_cells : ∀ (s : State) (f : StreamFrame) (c : Nat),
    (State.streamToContext s f c).mem.cells = s.mem.cells := by
  intros; simp [State.streamToContext]

@[simp] theorem State.noteFlow_cells : ∀ (s : State) (t : FabFrame) (n : Nat),
    (State.noteFlow s t n).mem.cells = s.mem.cells := by
  intros; simp [State.noteFlow]

@[simp] theorem State.passOn_cells : ∀ (s : State) (t : Machine.Tree) (f : FabFrame) (body : List Byte),
    (State.passOn s t f body).mem.cells = s.mem.cells := by
  intros; simp [State.passOn]

@[simp] theorem State.deliverStream_cells : ∀ (s : State) (t : FabFrame) (f : StreamFrame),
    (State.deliverStream s t f).mem.cells = s.mem.cells := by
  intros; unfold State.deliverStream; refine (foldl_cells _ ?_ _ _).trans (by simp); intros; dsimp only []; split <;> simp

@[simp] theorem execStreamFrameRx_cells : ∀ (port : Fin 6) (f : StreamFrame) (t : FabFrame) (s : State),
    outCells (execStreamFrameRx port f t s) = some (s.mem.cells) := by
  intros; simp [execStreamFrameRx]; (repeat' split); all_goals simp

@[simp] theorem State.sendTrees_cells : ∀ (s : State) (type dest streamId sequence : Nat) (body : List Byte),
    (State.sendTrees s type dest streamId sequence body).mem.cells = s.mem.cells := by
  intros; unfold State.sendTrees; split
  · rfl
  · refine foldl_cells _ ?_ _ _; intros; dsimp only []; split <;> simp

@[simp] theorem State.streamTx_cells : ∀ (s : State) (c k : Nat),
    (State.streamTx s c k).mem.cells = s.mem.cells := by
  intros; simp [State.streamTx]

@[simp] theorem execStreamFrameTx_cells : ∀ (c : Fin 512) (s : State),
    outCells (execStreamFrameTx c s) = some (s.mem.cells) := by
  intros; simp [execStreamFrameTx]

@[simp] theorem State.sendTxnFrame_cells : ∀ (s : State) (node : Nat) (body : List Byte),
    (State.sendTxnFrame s node body).mem.cells = s.mem.cells := by
  intros; simp [State.sendTxnFrame]

@[simp] theorem execSceneDigestUpdate_cells : ∀ (s : State),
    outCells (execSceneDigestUpdate s) = some (s.mem.cells) := by
  intros; simp [execSceneDigestUpdate]

@[simp] theorem execSceneDigestMismatch_cells : ∀ (port : Fin 6) (s : State),
    outCells (execSceneDigestMismatch port s) = some (s.mem.cells) := by
  intros; simp [execSceneDigestMismatch]

@[simp] theorem State.putNode_cells : ∀ (s : State) (x : NodeNow), (State.putNode s x).mem.cells = s.mem.cells := by
  intros; simp [State.putNode]

@[simp] theorem State.unbind_cells : ∀ (s : State) (n : Nat), (State.unbind s n).mem.cells = s.mem.cells := by
  intros; simp [State.unbind]

@[simp] theorem State.putGraver_cells : ∀ (s : State) (ch k : Nat) (l : List Word32) (w : Nat),
    (State.putGraver s ch k l w).mem.cells = s.mem.cells := by
  intros; simp [State.putGraver]

@[simp] theorem State.setStage_cells : ∀ (s : State) (i : Inst) (st : InstStage),
    (State.setStage s i st).mem.cells = s.mem.cells := by
  intros; simp [State.setStage]

@[simp] theorem State.putInst_cells : ∀ (s : State) (i : Inst), (State.putInst s i).mem.cells = s.mem.cells := by
  intros; simp [State.putInst]

@[simp] theorem State.dropInst_cells : ∀ (s : State) (i : Inst), (State.dropInst s i).mem.cells = s.mem.cells := by
  intros; simp [State.dropInst]

@[simp] theorem State.notePublished_cells : ∀ (s : State) (n k : Nat),
    (State.notePublished s n k).mem.cells = s.mem.cells := by
  intros; simp [State.notePublished]

@[simp] theorem State.nodeTriggers_cells : ∀ (s : State) (n : Nat),
    (State.nodeTriggers s n).mem.cells = s.mem.cells := by
  intros; simp [State.nodeTriggers]

@[simp] theorem State.publish_cells : ∀ (s : State) (i : Inst), (State.publish s i).mem.cells = s.mem.cells := by
  intros; unfold State.publish; split <;> simp

@[simp] theorem State.concealInst_cells : ∀ (s : State) (i : Inst),
    (State.concealInst s i).mem.cells = s.mem.cells := by
  intros; unfold State.concealInst; split <;> simp

@[simp] theorem State.keepFaults_cells : ∀ (s : State) (old : List NodeNow),
    (State.keepFaults s old).mem.cells = s.mem.cells := by
  intros; rfl

@[simp] theorem State.noteTraffic_cells : ∀ (s : State),
    (State.noteTraffic s).mem.cells = s.mem.cells := by
  intros; rfl

@[simp] theorem State.neverReleased_cells : ∀ (s : State) (n k : Nat),
    (State.neverReleased s n k).mem.cells = s.mem.cells := by
  intros; unfold State.neverReleased; dsimp only []; (repeat' split) <;> simp

@[simp] theorem State.flowRelease_cells : ∀ (s : State) (f x0 : Nat),
    (State.flowRelease s f x0).mem.cells = s.mem.cells := by
  intro s f x0; fun_induction State.flowRelease s f x0 <;> simp_all

@[simp] theorem State.showNode_cells : ∀ (s : State) (n : Nat), (State.showNode s n).mem.cells = s.mem.cells := by
  intros; simp [State.showNode]

@[simp] theorem execInputsAvailable_cells : ∀ (n : Fin 4096) (k : Nat) (s : State),
    outCells (execInputsAvailable n k s) = some (s.mem.cells) := by
  intros; simp [execInputsAvailable]; (repeat' split); all_goals simp

@[simp] theorem State.instEnds_cells : ∀ (s : State) (i : Inst), (State.instEnds s i).mem.cells = s.mem.cells := by
  intros; simp [State.instEnds]

@[simp] theorem State.logAppend_cells : ∀ (s : State) (r : ErrRec),
    (State.logAppend s r).mem.cells = s.mem.cells := by
  intros; simp [State.logAppend]

@[simp] theorem State.logClear_cells : ∀ (s : State), (State.logClear s).mem.cells = s.mem.cells := by
  intros; simp [State.logClear]

@[simp] theorem State.owed_cells : ∀ (s : State), (State.owed s).mem.cells = s.mem.cells := by
  intros; simp [State.owed]

@[simp] theorem State.logFail_cells : ∀ (s : State), (State.logFail s).mem.cells = s.mem.cells := by
  intros; simp [State.logFail]

@[simp] theorem State.logRec_cells : ∀ (s : State) (r : ErrRec) (ok : Bool),
    (State.logRec s r ok).mem.cells = s.mem.cells := by
  intros; simp [State.logRec]

@[simp] theorem State.handleRec_cells : ∀ (s : State) (r : ErrRec) (ok : Bool),
    (State.handleRec s r ok).mem.cells = s.mem.cells := by
  intros; simp [State.handleRec]

@[simp] theorem execErrorHandle_cells : ∀ (ok : Bool) (s : State),
    outCells (execErrorHandle ok s) = some (s.mem.cells) := by
  intros; unfold execErrorHandle; split <;> simp

@[simp] theorem State.drainFailed_cells : ∀ (s : State), (State.drainFailed s).mem.cells = s.mem.cells := by
  intros; simp [State.drainFailed]

@[simp] theorem execRateLimitSecondEnd_cells : ∀ (area index code : Nat) (s : State),
    outCells (execRateLimitSecondEnd area index code s) = some (s.mem.cells) := by
  intros; unfold execRateLimitSecondEnd; (repeat' (first | split | (apply foldl_cells; intros))); all_goals simp

@[simp] theorem State.alarmAck_cells : ∀ (s : State), (State.alarmAck s).mem.cells = s.mem.cells := by
  intros; simp [State.alarmAck]

@[simp] theorem State.faultClear_cells : ∀ (s : State), (State.faultClear s).mem.cells = s.mem.cells := by
  intros; simp [State.faultClear]

@[simp] theorem State.noteCause_cells : ∀ (s : State) (c : Nat), (State.noteCause s c).mem.cells = s.mem.cells := by
  intros; simp [State.noteCause]

@[simp] theorem State.showLife_cells : ∀ (s : State), (State.showLife s).mem.cells = s.mem.cells := by
  intros; simp [State.showLife]

@[simp] theorem State.live_cells : ∀ (s : State) (secs : Nat) (temp : F32),
    (State.live s secs temp).mem.cells = s.mem.cells := by
  intros; simp [State.live]

@[simp] theorem State.countDormant_cells : ∀ (s : State),
    (State.countDormant s).mem.cells = s.mem.cells := by
  intros; unfold State.countDormant; (repeat' (first | split | (apply foldl_cells; intros))) <;> simp

@[simp] theorem State.derived_cells (s : State) : s.derived.mem.cells = s.mem.cells := by
  unfold State.derived; simp only [State.loadTri_cells]
  refine (foldl_cells _ ?_ _ _).trans ((foldl_cells _ ?_ _ _).trans ?_) <;> intros <;> simp
  (repeat' split) <;> simp

@[simp] theorem State.idacsHeld_cells : ∀ (s : State), (State.idacsHeld s).mem.cells = s.mem.cells := by
  intros; simp [State.idacsHeld]

@[simp] theorem State.sidebandReset_cells : ∀ (s : State),
    (State.sidebandReset s).mem.cells = s.mem.cells := by
  intros; unfold State.sidebandReset; (repeat' (first | split | (apply foldl_cells; intros))) <;> simp

@[simp] theorem State.idacsFault_cells : ∀ (s : State), (State.idacsFault s).mem.cells = s.mem.cells := by
  intros; simp [State.idacsFault]

@[simp] theorem State.idacsOff_cells : ∀ (s : State), (State.idacsOff s).mem.cells = s.mem.cells := by
  intros; simp [State.idacsOff]

@[simp] theorem State.idacsRedrive_cells : ∀ (s : State), (State.idacsRedrive s).mem.cells = s.mem.cells := by
  intros; unfold State.idacsRedrive; (repeat' (first | split | (apply foldl_cells; intros))); all_goals simp

@[simp] theorem State.dropDrive_cells : ∀ (s : State), (State.dropDrive s).mem.cells = s.mem.cells := by
  intros; simp [State.dropDrive]

@[simp] theorem State.aodFed_cells : ∀ (s : State), (State.aodFed s).mem.cells = s.mem.cells := by
  intros; simp [State.aodFed]

@[simp] theorem execVinRecover_cells : ∀ (s : State), outCells (execVinRecover s) = some (s.mem.cells) := by
  intros; unfold execVinRecover; split <;> simp

@[simp] theorem execVioLoss_cells : ∀ (s : State), outCells (execVioLoss s) = some (s.mem.cells) := by
  intros; simp [execVioLoss]

@[simp] theorem execVioReturn_cells : ∀ (s : State), outCells (execVioReturn s) = some (s.mem.cells) := by
  intros; simp [execVioReturn]

@[simp] theorem execVdacChange_cells : ∀ (good : Bool) (s : State),
    outCells (execVdacChange good s) = some (s.mem.cells) := by
  intros; simp [execVdacChange]

@[simp] theorem execVaoChange_cells : ∀ (on : Bool) (s : State),
    outCells (execVaoChange on s) = some (s.mem.cells) := by
  intros; simp [execVaoChange]

@[simp] theorem execSuppliesGood_cells : ∀ (s : State), outCells (execSuppliesGood s) = some (s.mem.cells) := by
  intros; simp [execSuppliesGood]

@[simp] theorem execThermalRestart_cells : ∀ (s : State), outCells (execThermalRestart s) = some (s.mem.cells) := by
  intros; simp [execThermalRestart]

@[simp] theorem State.idacsPowerUp_cells : ∀ (s : State), (State.idacsPowerUp s).mem.cells = s.mem.cells := by
  intros; simp [State.idacsPowerUp]

@[simp] theorem execResetRelease_cells : ∀ (boot : Fin 4) (slot : Fin 2) (keeper : Nat) (roleIn : Bool) (s : State),
    outCells (execResetRelease boot slot keeper roleIn s) = some (s.mem.cells) := by
  intros; simp [execResetRelease]

@[simp] theorem execBootSelfCheck_cells : ∀ (pass : Bool) (s : State),
    outCells (execBootSelfCheck pass s) = some (s.mem.cells) := by
  intros; simp [execBootSelfCheck]

@[simp] theorem State.countAttempt_cells : ∀ (s : State), (State.countAttempt s).mem.cells = s.mem.cells := by
  intros; simp [State.countAttempt]

@[simp] theorem State.bootSlotNow_cells : ∀ (s : State) (k : Nat),
    (State.bootSlotNow s k).mem.cells = s.mem.cells := by
  intros; simp [State.bootSlotNow]

@[simp] theorem State.rollBack_cells : ∀ (s : State), (State.rollBack s).mem.cells = s.mem.cells := by
  intros; unfold State.rollBack; split <;> simp

@[simp] theorem execFirmwareLoaded_cells : ∀ (okA okB : Bool) (s : State),
    outCells (execFirmwareLoaded okA okB s) = some (s.mem.cells) := by
  intros; simp [execFirmwareLoaded]

@[simp] theorem State.startUp_cells : ∀ (s : State), (State.startUp s).mem.cells = s.mem.cells := by
  intros; simp [State.startUp]

@[simp] theorem State.idacsStart_cells : ∀ (s : State), (State.idacsStart s).mem.cells = s.mem.cells := by
  intros; simp [State.idacsStart]

@[simp] theorem State.refreshHealth_cells : ∀ (s : State), (State.refreshHealth s).mem.cells = s.mem.cells := by
  intros; simp [State.refreshHealth]

@[simp] theorem State.takeDrive_cells : ∀ (s : State), (State.takeDrive s).mem.cells = s.mem.cells := by
  intros; simp [State.takeDrive]

@[simp] theorem State.resumeStreams_cells : ∀ (s : State), (State.resumeStreams s).mem.cells = s.mem.cells := by
  intros; simp [State.resumeStreams]

@[simp] theorem State.becomeActive_cells : ∀ (s : State) (cause : Nat),
    (State.becomeActive s cause).mem.cells = s.mem.cells := by
  intros; simp [State.becomeActive]

@[simp] theorem State.fence_cells : ∀ (s : State), (State.fence s).mem.cells = s.mem.cells := by
  intros; simp [State.fence]

@[simp] theorem State.takeOver_cells : ∀ (s : State) (cause : Nat),
    (State.takeOver s cause).mem.cells = s.mem.cells := by
  intros; simp [State.takeOver]

@[simp] theorem State.takeLost_cells : ∀ (s : State) (cause : Nat),
    (State.takeLost s cause).mem.cells = s.mem.cells := by
  intros; simp [State.takeLost]

@[simp] theorem State.enterFailed_cells : ∀ (s : State), (State.enterFailed s).mem.cells = s.mem.cells := by
  intros; simp [State.enterFailed]

@[simp] theorem State.enterResync_cells : ∀ (s : State), (State.enterResync s).mem.cells = s.mem.cells := by
  intros; simp [State.enterResync]

@[simp] theorem State.declareLost_cells : ∀ (s : State) (cause : Nat),
    (State.declareLost s cause).mem.cells = s.mem.cells := by
  intros; simp [State.declareLost]

@[simp] theorem execElection_cells : ∀ (s : State), outCells (execElection s) = some (s.mem.cells) := by
  intros; simp [execElection]

@[simp] theorem execRoleLineFall_cells : ∀ (s : State), outCells (execRoleLineFall s) = some (s.mem.cells) := by
  intros; simp [execRoleLineFall]

@[simp] theorem execHeartbeatTimeout_cells : ∀ (sideband lace : Bool) (s : State),
    outCells (execHeartbeatTimeout sideband lace s) = some (s.mem.cells) := by
  intros; simp [execHeartbeatTimeout]

@[simp] theorem execTwTakeFall_cells : ∀ (s : State), outCells (execTwTakeFall s) = some (s.mem.cells) := by
  intros; simp [execTwTakeFall]

@[simp] theorem execTwHbEdge_cells : ∀ (roleIn : Bool) (s : State),
    outCells (execTwHbEdge roleIn s) = some (s.mem.cells) := by
  intros; simp [execTwHbEdge]

@[simp] theorem execTwHbToggle_cells : ∀ (s : State), outCells (execTwHbToggle s) = some (s.mem.cells) := by
  intros; simp [execTwHbToggle]

@[simp] theorem State.switchNow_cells : ∀ (s : State), (State.switchNow s).mem.cells = s.mem.cells := by
  intros; simp [State.switchNow]

@[simp] theorem execTwinSwitch_cells : ∀ (s : State), outCells (execTwinSwitch s) = some (s.mem.cells) := by
  intros; simp [execTwinSwitch]

@[simp] theorem State.loadSafeScene_cells : ∀ (s : State), (State.loadSafeScene s).mem.cells = s.mem.cells := by
  intros; simp [State.loadSafeScene]

@[simp] theorem execSafeSceneLoaded_cells : ∀ (s : State), outCells (execSafeSceneLoaded s) = some (s.mem.cells) := by
  intros; simp [execSafeSceneLoaded]

@[simp] theorem State.laceFrame_cells (s : State) (f : LaceIn) (type : Nat) (body : List Byte) (act : State →
    State) (h : (act s).mem.cells = s.mem.cells) : (s.laceFrame f type body act).mem.cells = s.mem.cells := by
  unfold State.laceFrame; (repeat' split) <;> simp [h]

@[simp] theorem State.sendLaceHello_cells : ∀ (s : State) (lane : Nat),
    (State.sendLaceHello s lane).mem.cells = s.mem.cells := by
  intros; simp [State.sendLaceHello]

@[simp] theorem execLaceLaneUp_cells : ∀ (lane : Fin 2) (s : State),
    outCells (execLaceLaneUp lane s) = some (s.mem.cells) := by
  intros; simp [execLaceLaneUp]

@[simp] theorem State.wiring_cells : ∀ (s : State) (n : Nat) (sev : Severity),
    (State.wiring s n sev).mem.cells = s.mem.cells := by
  intros; simp [State.wiring]

@[simp] theorem State.formPair_cells : ∀ (s : State) (h : LaceHello),
    (State.formPair s h).mem.cells = s.mem.cells := by
  intros; simp [State.formPair]

@[simp] theorem State.helloFaults_cells : ∀ (s : State) (f : LaceIn) (h : LaceHello),
    (State.helloFaults s f h).mem.cells = s.mem.cells := by
  intros; unfold State.helloFaults; dsimp only []; (repeat' split) <;> simp

@[simp] theorem State.hearHello_cells : ∀ (s : State) (f : LaceIn) (h : LaceHello),
    (State.hearHello s f h).mem.cells = s.mem.cells := by
  intros; unfold State.hearHello; dsimp only []; (repeat' split) <;> simp

@[simp] theorem execLaceHello_cells : ∀ (f : LaceIn) (h : LaceHello) (s : State),
    outCells (execLaceHello f h s) = some (s.mem.cells) := by
  intros; unfold execLaceHello; (repeat' split) <;> simp

@[simp] theorem execLaceHeartbeat_cells : ∀ (f : LaceIn) (h : LaceBeat) (boundary sent : Nat) (s : State),
    outCells (execLaceHeartbeat f h boundary sent s) = some (s.mem.cells) := by
  intros; simp [execLaceHeartbeat]

@[simp] theorem execLaceHeartbeatTimer_cells : ∀ (s : State),
    outCells (execLaceHeartbeatTimer s) = some (s.mem.cells) := by
  intros; simp [execLaceHeartbeatTimer]

@[simp] theorem execLaceTimeTimer_cells : ∀ (s : State), outCells (execLaceTimeTimer s) = some (s.mem.cells) := by
  intros; simp [execLaceTimeTimer]

@[simp] theorem execLaceTime_cells (f : LaceIn) (a b c : Int) (s : State) : outCells (execLaceTime f a b c s) =
    some s.mem.cells := by
  unfold execLaceTime; rw [outCells_next, State.laceFrame_cells]; simp only []; (repeat' split) <;> simp

@[simp] theorem execMirror_cells : ∀ (f : LaceIn) (block first : Nat) (rows : List (Nat × List (BitVec 32)))
    (s : State),
    outCells (execMirror f block first rows s) = some (s.mem.cells) := by
  intros; simp [execMirror]

@[simp] theorem State.mirrorBlock_cells : ∀ (s : State) (k : Nat),
    (State.mirrorBlock s k).mem.cells = s.mem.cells := by
  intros; simp [State.mirrorBlock]

@[simp] theorem State.cutSample_cells : ∀ (s : State) (k c p : Nat),
    (State.cutSample s k c p).mem.cells = s.mem.cells := by
  intros; unfold State.cutSample; (repeat' (first | split | (apply foldl_cells; intros))); all_goals simp

@[simp] theorem State.sendRepair_cells : ∀ (s : State) (k : Nat) (e : Nat × Nat),
    (State.sendRepair s k e).mem.cells = s.mem.cells := by
  intros; simp [State.sendRepair]

@[simp] theorem State.reconcile_cells : ∀ (s : State) (k : Nat), (State.reconcile s k).mem.cells = s.mem.cells := by
  intros; unfold State.reconcile; split <;> simp

@[simp] theorem execInPresenceSend_cells : ∀ (s : State), outCells (execInPresenceSend s) = some (s.mem.cells) := by
  intros; simp [execInPresenceSend]

@[simp] theorem execInPresence_cells : ∀ (f : LaceIn) (block : Nat) (maps : List (Nat × Nat)) (s : State),
    outCells (execInPresence f block maps s) = some (s.mem.cells) := by
  intros; simp [execInPresence]

@[simp] theorem execRepair_cells (f : LaceIn) (b c n : Nat) (w : List Nat) (rows : List (List (BitVec 32)))
    (s : State) :
    outCells (execRepair f b c n w rows s) = some s.mem.cells := by
  unfold execRepair; rw [outCells_next, State.laceFrame_cells]; simp only []; split
  · rfl
  · simp only [State.count_cells]
    refine foldl_cells _ ?_ _ _; intro t a
    refine foldl_cells _ ?_ _ _; intro t a
    simp

@[simp] theorem State.closeRepairs_cells : ∀ (s : State) (k : Nat),
    (State.closeRepairs s k).mem.cells = s.mem.cells := by
  intros; simp [State.closeRepairs]

@[simp] theorem execOutDigest_cells : ∀ (f : LaceIn) (d : Digest) (s : State),
    outCells (execOutDigest f d s) = some (s.mem.cells) := by
  intros; simp [execOutDigest]

@[simp] theorem State.compareDigests_cells : ∀ (s : State) (m : Nat),
    (State.compareDigests s m).mem.cells = s.mem.cells := by
  intros; unfold State.compareDigests; split <;> simp

@[simp] theorem State.digestBoundary_cells : ∀ (s : State) (k : Nat),
    (State.digestBoundary s k).mem.cells = s.mem.cells := by
  intros; simp [State.digestBoundary]

@[simp] theorem State.diverge_cells : ∀ (s : State), (State.diverge s).mem.cells = s.mem.cells := by
  intros; simp [State.diverge]

@[simp] theorem State.judgeTests_cells : ∀ (s : State), (State.judgeTests s).mem.cells = s.mem.cells := by
  intros; unfold State.judgeTests; split <;> simp

@[simp] theorem execSelftestDone_cells : ∀ (unit : Nat) (pass : Bool) (s : State),
    outCells (execSelftestDone unit pass s) = some (s.mem.cells) := by
  intros; simp [execSelftestDone]

@[simp] theorem execSelftest_cells : ∀ (f : LaceIn) (unit : Nat) (pass : Bool) (s : State),
    outCells (execSelftest f unit pass s) = some (s.mem.cells) := by
  intros; simp [execSelftest]

@[simp] theorem execSelftestResultTimeout_cells : ∀ (s : State),
    outCells (execSelftestResultTimeout s) = some (s.mem.cells) := by
  intros; unfold execSelftestResultTimeout; split <;> simp

@[simp] theorem State.sendBlob_cells : ∀ (s : State) (b : Blob),
    (State.sendBlob s b).mem.cells = s.mem.cells := by
  intros; simp [State.sendBlob]

@[simp] theorem State.sendCheckpoint_cells : ∀ (s : State) (k : Nat) (c : Checkpoint),
    (State.sendCheckpoint s k c).mem.cells = s.mem.cells := by
  intros; simp [State.sendCheckpoint]

@[simp] theorem execCheckpointAck_cells : ∀ (f : LaceIn) (block held : Nat) (s : State),
    outCells (execCheckpointAck f block held s) = some (s.mem.cells) := by
  intros; simp [execCheckpointAck]

@[simp] theorem execLaceBlob_cells (f : LaceIn) (a g o t : Nat) (d : List Byte) (s : State) :
    outCells (execLaceBlob f a g o t d s) = some s.mem.cells := by
  unfold execLaceBlob; rw [outCells_next, State.laceFrame_cells]; simp only []; split
  · rfl
  · generalize (if o = 0 then some [] else _) = x
    (repeat' split) <;> simp

@[simp] theorem State.putTxn_cells : ∀ (s : State) (t : Txn), (State.putTxn s t).mem.cells = s.mem.cells := by
  intros; simp [State.putTxn]

@[simp] theorem State.newTxnId_cells : ∀ (s : State), (Prod.fst (State.newTxnId s)).mem.cells = s.mem.cells := by
  intros; simp [State.newTxnId]

@[simp] theorem State.sendTxn_cells : ∀ (s : State) (code : Nat) (t : Txn) (node : Nat) (fields : List Byte),
    (State.sendTxn s code t node fields).mem.cells = s.mem.cells := by
  intros; simp [State.sendTxn]

@[simp] theorem State.sendDecision_cells : ∀ (s : State) (t : Txn) (commit : Bool),
    (State.sendDecision s t commit).mem.cells = s.mem.cells := by
  intros; simp [State.sendDecision]

@[simp] theorem State.finish_cells : ∀ (s : State) (t : Txn) (st reason : Nat),
    (State.finish s t st reason).mem.cells = s.mem.cells := by
  intros; simp [State.finish]

@[simp] theorem State.abortTxn_cells : ∀ (s : State) (t : Txn) (reason : Nat),
    (State.abortTxn s t reason).mem.cells = s.mem.cells := by
  intros; simp [State.abortTxn]

@[simp] theorem State.abortTold_cells : ∀ (s : State) (t : Txn) (reason : Nat),
    (State.abortTold s t reason).mem.cells = s.mem.cells := by
  intros; unfold State.abortTold; (repeat' (first | split | (apply foldl_cells; intros))) <;> simp

@[simp] theorem State.learn_cells : ∀ (s : State) (t : Txn) (commit : Bool) (block reason : Nat),
    (State.learn s t commit block reason).mem.cells = s.mem.cells := by
  intros; simp [State.learn]

@[simp] theorem State.txnResolve_cells : ∀ (s : State) (id : Nat) (commit : Bool),
    (State.txnResolve s id commit).mem.cells = s.mem.cells := by
  intros; unfold State.txnResolve; split <;> simp

@[simp] theorem State.putSession_cells : ∀ (s : State) (x : Session),
    (State.putSession s x).mem.cells = s.mem.cells := by
  intros; simp [State.putSession]

@[simp] theorem State.frameFor_cells : ∀ (s : State) (session : Nat) (body : List Byte),
    (State.frameFor s session body).1.mem.cells = s.mem.cells := by
  intros; unfold State.frameFor; (repeat' (first | split | (apply foldl_cells; intros))) <;> simp

@[simp] theorem State.spiEmit_cells : ∀ (s : State) (f : SpiFrame),
    (State.spiEmit s f).mem.cells = s.mem.cells := by
  intros; simp [State.spiEmit]

@[simp] theorem State.emit_cells : ∀ (s : State) (src : Source) (session : Nat) (body : List Byte) (notify : Bool),
    (State.emit s src session body notify).mem.cells = s.mem.cells := by
  intros; simp [State.emit]; (repeat' split); all_goals simp

@[simp] theorem State.dropShadow_cells : ∀ (s : State) (x : Shadow),
    (State.dropShadow s x).mem.cells = s.mem.cells := by
  intros; unfold State.dropShadow; split <;> simp

@[simp] theorem State.endSession_cells : ∀ (s : State) (id : Nat) (src : Source),
    (State.endSession s id src).mem.cells = s.mem.cells := by
  intros; simp [State.endSession]

@[simp] theorem State.sendClose_cells : ∀ (s : State) (x : Session) (reason : Nat),
    (State.sendClose s x reason).mem.cells = s.mem.cells := by
  intros; unfold State.sendClose; (repeat' (first | split | (apply foldl_cells; intros))) <;> simp

@[simp] theorem State.closeSession_cells : ∀ (s : State) (id reason : Nat),
    (State.closeSession s id reason).mem.cells = s.mem.cells := by
  intros; unfold State.closeSession; split <;> simp

@[simp] theorem State.closeSessions_cells : ∀ (s : State) (reason : Nat),
    (State.closeSessions s reason).mem.cells = s.mem.cells := by
  intros; simp [State.closeSessions]

@[simp] theorem State.closeUdp_cells : ∀ (s : State),
    (State.closeUdp s).mem.cells = s.mem.cells := by
  intros; unfold State.closeUdp; (repeat' (first | split | (apply foldl_cells; intros))) <;> simp

@[simp] theorem State.portMoved_cells : ∀ (before s : State), (State.portMoved before s).mem.cells = s.mem.cells := by
  intros; unfold State.portMoved; split <;> simp

@[simp] theorem execHandshakeTimeout_cells : ∀ (id : Nat) (s : State),
    outCells (execHandshakeTimeout id s) = some (s.mem.cells) := by
  intros; simp [execHandshakeTimeout]

@[simp] theorem execSessionIdleTimeout_cells : ∀ (id : Nat) (s : State),
    outCells (execSessionIdleTimeout id s) = some (s.mem.cells) := by
  intros; simp [execSessionIdleTimeout]

@[simp] theorem execSessionRekey_cells : ∀ (id : Nat) (s : State),
    outCells (execSessionRekey id s) = some (s.mem.cells) := by
  intros; simp [execSessionRekey]

@[simp] theorem execRoleChangeClose_cells : ∀ (s : State), outCells (execRoleChangeClose s) = some (s.mem.cells) := by
  intros; simp [execRoleChangeClose]

@[simp] theorem execBlobShadowExpire_cells : ∀ (addr : Nat) (s : State),
    outCells (execBlobShadowExpire addr s) = some (s.mem.cells) := by
  intros; unfold execBlobShadowExpire; split <;> simp

@[simp] theorem State.persistAll_cells : ∀ (s : State), (State.persistAll s).mem.cells = s.mem.cells := by
  intros; simp [State.persistAll]

@[simp] theorem State.noteAppend_cells : ∀ (s : State) (bytes : Nat),
    (State.noteAppend s bytes).mem.cells = s.mem.cells := by
  intros; simp [State.noteAppend]

@[simp] theorem State.appendBytes_cells : ∀ (s : State) (bytes : Nat),
    (State.appendBytes s bytes).mem.cells = s.mem.cells := by
  intros; unfold State.appendBytes; (repeat' (first | split | (apply foldl_cells; intros))) <;> simp

@[simp] theorem State.appendAll_cells : ∀ (s : State),
    (State.appendAll s).mem.cells = s.mem.cells := by
  intros; unfold State.appendAll; (repeat' (first | split | (apply foldl_cells; intros))) <;> simp

@[simp] theorem State.persistFails_cells : ∀ (s : State), (State.persistFails s).mem.cells = s.mem.cells := by
  intros; simp [State.persistFails]

@[simp] theorem execPersistAppend_cells : ∀ (ok : Bool) (bytes : Nat) (s : State),
    outCells (execPersistAppend ok bytes s) = some (s.mem.cells) := by
  intros; simp [execPersistAppend]

@[simp] theorem State.condition_cells : ∀ (s : State) (index code : Nat) (sev : Severity) (on : Bool),
    (State.condition s index code sev on).mem.cells = s.mem.cells := by
  intros; simp [State.condition]

@[simp] theorem execSensorSample_cells : ∀ (x : Sensors) (s : State),
    outCells (execSensorSample x s) = some (s.mem.cells) := by
  intros; simp [execSensorSample]

@[simp] theorem execLifeUpdate_cells : ∀ (s : State), outCells (execLifeUpdate s) = some (s.mem.cells) := by
  intros; simp [execLifeUpdate]

@[simp] theorem State.ownerChanged_cells : ∀ (s : State), (State.ownerChanged s).mem.cells = s.mem.cells := by
  intros; simp [State.ownerChanged]

@[simp] theorem State.setOwner_cells : ∀ (s : State) (cert : Option (List Byte)),
    (State.setOwner s cert).mem.cells = s.mem.cells := by
  intros; simp [State.setOwner]

@[simp] theorem State.ownerClear_cells : ∀ (s : State), (State.ownerClear s).mem.cells = s.mem.cells := by
  intros; simp [State.ownerClear]

@[simp] theorem State.imageLoaded_cells : ∀ (s : State) (k : Nat) (valid : Bool),
    (State.imageLoaded s k valid).mem.cells = s.mem.cells := by
  intros; simp [State.imageLoaded]

@[simp] theorem State.fwActivate_cells : ∀ (s : State) (k slot : Nat),
    (State.fwActivate s k slot).mem.cells = s.mem.cells := by
  intros; simp [State.fwActivate]

@[simp] theorem execFwActivate_cells : ∀ (slot : Fin 2) (s : State),
    outCells (execFwActivate slot s) = some (s.mem.cells) := by
  intros; simp [execFwActivate]

@[simp] theorem execFwTrialConfirm_cells : ∀ (s : State), outCells (execFwTrialConfirm s) = some (s.mem.cells) := by
  intros; unfold execFwTrialConfirm; split <;> simp

@[simp] theorem State.armAlarm_cells : ∀ (s : State), (State.armAlarm s).mem.cells = s.mem.cells := by
  intros; unfold State.armAlarm; split <;> simp

@[simp] theorem execAodSlew_cells : ∀ (trim : Int) (s : State),
    outCells (execAodSlew trim s) = some (s.mem.cells) := by
  intros; simp [execAodSlew]

@[simp] theorem execAodAlarm_cells : ∀ (n : Fin 4) (s : State), outCells (execAodAlarm n s) = some (s.mem.cells) := by
  intros; simp [execAodAlarm]

@[simp] theorem State.showWake_cells : ∀ (s : State) (x0 : Wake), (State.showWake s x0).mem.cells = s.mem.cells := by
  intros; unfold State.showWake; (repeat' (first | split | (apply foldl_cells; intros))); all_goals simp

@[simp] theorem execWakeEvent_cells : ∀ (w : Wake) (s : State),
    outCells (execWakeEvent w s) = some (s.mem.cells) := by
  intros; simp [execWakeEvent]

@[simp] theorem State.stopRender_cells : ∀ (s : State) (k : Nat), (State.stopRender s k).mem.cells = s.mem.cells := by
  intros; simp [State.stopRender]

@[simp] theorem State.startRender_cells : ∀ (s : State), (State.startRender s).mem.cells = s.mem.cells := by
  intros; simp [State.startRender]

@[simp] theorem State.powerEntry_cells : ∀ (s : State) (k target : Nat),
    (State.powerEntry s k target).mem.cells = s.mem.cells := by
  intros; simp [State.powerEntry]

@[simp] theorem execPowerEntry_cells : ∀ (dormant : Bool) (s : State),
    outCells (execPowerEntry dormant s) = some (s.mem.cells) := by
  intros; simp [execPowerEntry]

@[simp] theorem State.transition_cells : ∀ (s : State) (k target : Nat),
    (State.transition s k target).mem.cells = s.mem.cells := by
  intros; simp [State.transition]

@[simp] theorem State.pwRequest_cells : ∀ (s : State) (target : Nat),
    (State.pwRequest s target).mem.cells = s.mem.cells := by
  intros; simp [State.pwRequest]

@[simp] theorem State.powerHeld_cells : ∀ (s : State) (k : Nat), (State.powerHeld s k).mem.cells = s.mem.cells := by
  intros; unfold State.powerHeld; split <;> simp

@[simp] theorem execPwRequest_cells : ∀ (v : Fin 3) (s : State),
    outCells (execPwRequest v s) = some (s.mem.cells) := by
  intros; simp [execPwRequest]

@[simp] theorem State.quietReached_cells : ∀ (s : State) (k : Nat),
    (State.quietReached s k).mem.cells = s.mem.cells := by
  intros; unfold State.quietReached; split <;> simp

@[simp] theorem State.autoOn_cells : ∀ (s : State) (k : Nat), (State.autoOn s k).mem.cells = s.mem.cells := by
  intros; simp [State.autoOn]

@[simp] theorem State.autoReturn_cells : ∀ (s : State), (State.autoReturn s).mem.cells = s.mem.cells := by
  intros; simp [State.autoReturn]

@[simp] theorem State.powerBoundary_cells : ∀ (s : State) (k : Nat),
    (State.powerBoundary s k).mem.cells = s.mem.cells := by
  intros; simp [State.powerBoundary]

@[simp] theorem State.armPassed_cells : ∀ (s : State), (State.armPassed s).mem.cells = s.mem.cells := by
  intros; simp [State.armPassed]

@[simp] theorem execWakeComplete_cells : ∀ (k : Nat) (s : State),
    outCells (execWakeComplete k s) = some (s.mem.cells) := by
  intros; simp [execWakeComplete]

@[simp] theorem State.setBlobGen_cells : ∀ (s : State) (o : Obj) (i gen : Nat) (data : List Byte),
    (State.setBlobGen s o i gen data).mem.cells = s.mem.cells := by
  intros; simp [State.setBlobGen]

@[simp] theorem State.keepBlob_cells : ∀ (s : State) (o : Obj) (i : Nat),
    (State.keepBlob s o i).mem.cells = s.mem.cells := by
  intros; simp [State.keepBlob]

@[simp] theorem State.keepCounter_cells : ∀ (s : State) (o : Obj) (i : Nat),
    (State.keepCounter s o i).mem.cells = s.mem.cells := by
  intros; unfold State.keepCounter; (repeat' (first | split | (apply foldl_cells; intros))) <;> simp

@[simp] theorem State.spendShadow_cells : ∀ (s : State) (a : Nat),
    (State.spendShadow s a).mem.cells = s.mem.cells := by
  intros; simp [State.spendShadow]

@[simp] theorem State.takeHandle_cells : ∀ (s : State) (o : Obj) (i h : Nat),
    (State.takeHandle s o i h).mem.cells = s.mem.cells := by
  intros; unfold State.takeHandle; (repeat' (first | split | (apply foldl_cells; intros))); all_goals simp

@[simp] theorem State.dropEtchSet_cells : ∀ (s : State) (j : Nat),
    (State.dropEtchSet s j).mem.cells = s.mem.cells := by
  intros; simp [State.dropEtchSet]

@[simp] theorem State.swapEtch_cells : ∀ (s : State) (j h : Nat), (State.swapEtch s j h).mem.cells = s.mem.cells := by
  intros; simp [State.swapEtch]

@[simp] theorem State.etchShrinks_cells : ∀ (s : State) (j : Nat),
    (State.etchShrinks s j).mem.cells = s.mem.cells := by
  intros; simp [State.etchShrinks]

@[simp] theorem State.etchFits_cells : ∀ (s : State) (j : Nat), (State.etchFits s j).mem.cells = s.mem.cells := by
  intros; simp [State.etchFits]

@[simp] theorem State.refit_cells : ∀ (s : State) (e : Nat × Nat),
    (State.refit s e).mem.cells = s.mem.cells := by
  intros; unfold State.refit; (repeat' split) <;> simp

@[simp] theorem State.rateChanged_cells (old s : State) : (old.rateChanged s).mem.cells = s.mem.cells := by
  unfold State.rateChanged; simp only []; rw [foldl_cells (h := by intros; simp), foldl_cells (h :=
    by intros; simp)]; split
  · rw [foldl_cells]; intros; split <;> simp
  · rfl

@[simp] theorem State.pdmSyncAll_cells : ∀ (s : State) (k : Nat) (p : Nat → Bool),
    (State.pdmSyncAll s k p).mem.cells = s.mem.cells := by
  intros; simp [State.pdmSyncAll]

@[simp] theorem State.renderStop_cells : ∀ (s : State), (State.renderStop s).mem.cells = s.mem.cells := by
  intros; simp [State.renderStop]

@[simp] theorem State.idacsResume_cells : ∀ (s : State), (State.idacsResume s).mem.cells = s.mem.cells := by
  intros; simp [State.idacsResume]

@[simp] theorem State.startsDone_cells : ∀ (s : State), (State.startsDone s).mem.cells = s.mem.cells := by
  intros; simp [State.startsDone]

@[simp] theorem State.reactTime_cells : ∀ (s : State) (o : Obj) (i : Nat) (changed : Bool),
    (State.reactTime s o i changed).mem.cells = s.mem.cells := by
  intros; simp [State.reactTime]

@[simp] theorem State.reactScene_cells : ∀ (s : State) (o : Obj) (i k : Nat),
    (State.reactScene s o i k).mem.cells = s.mem.cells := by
  intros; simp [State.reactScene]

@[simp] theorem State.restartSides_cells : ∀ (s : State) (n : Nat),
    (State.restartSides s n).mem.cells = s.mem.cells := by
  intros; simp [State.restartSides]

@[simp] theorem State.reactLocal_cells : ∀ (s : State) (k : Nat) (o : Obj) (i : Nat),
    (State.reactLocal s k o i).mem.cells = s.mem.cells := by
  intros; simp [State.reactLocal]

@[simp] theorem State.reactServices_cells : ∀ (s : State) (o : Obj) (i : Nat),
    (State.reactServices s o i).mem.cells = s.mem.cells := by
  intros; simp [State.reactServices]

@[simp] theorem State.reactFabric_cells : ∀ (s : State) (o : Obj) (i old : Nat),
    (State.reactFabric s o i old).mem.cells = s.mem.cells := by
  intros; simp [State.reactFabric]

@[simp] theorem State.reactNodes_cells : ∀ (s : State) (o : Obj) (i : Nat) (before : List Byte),
    (State.reactNodes s o i before).mem.cells = s.mem.cells := by
  intros; simp [State.reactNodes]

@[simp] theorem State.reactMonitor_cells : ∀ (s : State) (o : Obj) (i : Nat),
    (State.reactMonitor s o i).mem.cells = s.mem.cells := by
  intros; simp [State.reactMonitor]

@[simp] theorem State.react_cells : ∀ (s : State) (k : Nat) (o : Obj) (i old : Nat) (changed : Bool)
    (before : List Byte),
    (State.react s k o i old changed before).mem.cells = s.mem.cells := by
  intros; simp [State.react]

@[simp] theorem State.persistFlush_cells : ∀ (s : State), (State.persistFlush s).mem.cells = s.mem.cells := by
  intros; simp [State.persistFlush]

@[simp] theorem State.idacPush_cells : ∀ (s : State) (l : Nat), (State.idacPush s l).mem.cells = s.mem.cells := by
  intros; simp [State.idacPush]

@[simp] theorem State.twinRejoin_cells : ∀ (s : State), (State.twinRejoin s).mem.cells = s.mem.cells := by
  intros; simp [State.twinRejoin]

@[simp] theorem State.askCapture_cells : ∀ (s : State) (j : Nat), (State.askCapture s j).mem.cells = s.mem.cells := by
  intros; simp [State.askCapture]

@[simp] theorem State.commandShow_cells : ∀ (s : State) (k : Nat) (o : Obj) (i v : Nat),
    (State.commandShow s k o i v).mem.cells = s.mem.cells := by
  intros; simp [State.commandShow]

@[simp] theorem State.persistValue_cells : ∀ (s : State) (o : Obj) (i k v : Nat),
    (State.persistValue s o i k v).mem.cells = s.mem.cells := by
  intros; simp [State.persistValue]

@[simp] theorem State.excludeFailed_cells : ∀ (s : State) (j : Nat),
    (State.excludeFailed s j).mem.cells = s.mem.cells := by
  intros; unfold State.excludeFailed; (repeat' split) <;> simp

@[simp] theorem State.modNote_cells : ∀ (s : State) (e : Nat) (f : ActionNote → ActionNote),
    (State.modNote s e f).mem.cells = s.mem.cells := by
  intros; simp [State.modNote]

@[simp] theorem State.shedUnder_cells : ∀ (s : State) (rung : Nat),
    (State.shedUnder s rung).mem.cells = s.mem.cells := by
  intros; unfold State.shedUnder; (repeat' (first | split | (apply foldl_cells; intros))) <;> simp

@[simp] theorem State.shedFor_cells : ∀ (s : State) (rung : Nat) (addrs : List Nat),
    (State.shedFor s rung addrs).mem.cells = s.mem.cells := by
  intros; unfold State.shedFor; (repeat' (first | split | (apply foldl_cells; intros))) <;> simp

theorem State.takeSlot_cells {s u : State} {t : Txn} (h : s.takeSlot t = some u) :
    u.mem.cells = s.mem.cells := by
  unfold State.takeSlot at h; rw [Option.map_eq_some_iff] at h; obtain ⟨n, _, rfl⟩ := h; rfl

theorem State.openTxn_cells {s u : State} {a b : Nat} {c : Option (Source × Nat)} {d : Role}
    {t : Txn} (h : s.openTxn a b c d = some (u, t)) : u.mem.cells = s.mem.cells := by
  unfold State.openTxn at h; simp only [Option.map_eq_some_iff] at h; obtain ⟨v, hv, he⟩ := h; cases he
  exact (State.takeSlot_cells hv).trans rfl

@[simp] theorem State.toDefault_cells : ∀ (s : State) (o : Obj) (i : Nat),
    (State.toDefault s o i).mem.cells = s.mem.cells := by
  intros; simp [State.toDefault]

@[simp] theorem State.settleEntry_cells : ∀ (s : State) (e oldKind : Nat) (written : List Nat),
    (State.settleEntry s e oldKind written).mem.cells = s.mem.cells := by
  intros; simp [State.settleEntry]

@[simp] theorem State.unfault_cells : ∀ (s : State) (items : List Item),
    (State.unfault s items).mem.cells = s.mem.cells := by
  intros; simp [State.unfault]

@[simp] theorem State.fireWindow_cells : ∀ (s : State) (k e due : Nat),
    (State.fireWindow s k e due).mem.cells = s.mem.cells := by
  intros; simp [State.fireWindow]

@[simp] theorem State.jumpEntry_cells : ∀ (s : State) (e : Nat) (old now : Int),
    (State.jumpEntry s e old now).mem.cells = s.mem.cells := by
  intros; simp [State.jumpEntry]

@[simp] theorem State.arm_cells : ∀ (s : State) (t : Txn), (State.arm s t).mem.cells = s.mem.cells := by
  intros; simp [State.arm]

@[simp] theorem State.viewItem_cells : ∀ (v : State) (it : Item), (State.viewItem v it).mem.cells = v.mem.cells := by
  intros; unfold State.viewItem; (repeat' (first | split | (apply foldl_cells; intros))); all_goals simp

@[simp] theorem State.viewItems_cells : ∀ (v : State) (l : List Item),
    (State.viewItems v l).mem.cells = v.mem.cells := by
  intros; simp [State.viewItems]

@[simp] theorem State.viewTxn_cells : ∀ (v : State) (t : Txn), (State.viewTxn v t).mem.cells = v.mem.cells := by
  intros; simp [State.viewTxn]

@[simp] theorem State.viewBefore_cells : ∀ (s : State) (t : Txn), (State.viewBefore s t).mem.cells = s.mem.cells := by
  intros; simp [State.viewBefore]

@[simp] theorem State.viewScene_cells : ∀ (s : State) (t : Txn), (State.viewScene s t).mem.cells = s.mem.cells := by
  intros; simp [State.viewScene]

@[simp] theorem State.viewEarlier_cells : ∀ (s : State) (t : Txn),
    (State.viewEarlier s t).mem.cells = s.mem.cells := by
  intros; unfold State.viewEarlier; (repeat' (first | split | (apply foldl_cells; intros))) <;> simp

@[simp] theorem State.viewPayloads_cells : ∀ (v : State), (State.viewPayloads v).mem.cells = v.mem.cells := by
  intros; unfold State.viewPayloads; (repeat' (first | split | (apply foldl_cells; intros))); all_goals simp

@[simp] theorem State.noteBroken_cells : ∀ (s : State) (v : Verdict),
    (State.noteBroken s v).mem.cells = s.mem.cells := by
  intros; simp [State.noteBroken]

@[simp] theorem State.prepareLocal_cells : ∀ (s : State) (who : Who) (t : Txn) (time : Nat),
    (Settled.state (State.prepareLocal s who t time)).mem.cells = s.mem.cells := by
  intros; simp [State.prepareLocal]; (repeat' split); all_goals simp

@[simp] theorem State.commitLocal_cells : ∀ (s : State) (t : Txn),
    (Settled.state (State.commitLocal s t)).mem.cells = s.mem.cells := by
  intros; simp [State.commitLocal]; (repeat' split); all_goals simp

@[simp] theorem State.commitItems_cells (s : State) (who : Who) (rung : Nat) (l : List Item) :
    (s.commitItems who rung l).1.mem.cells = s.mem.cells := by
  unfold State.commitItems; split
  · rfl
  · have := State.openTxn_cells ‹_›; simp only []; split <;> simp [this]

@[simp] theorem State.heard_cells : ∀ (s : State) (r : Req),
    (State.heard s r).mem.cells = s.mem.cells := by
  intros; unfold State.heard; (repeat' (first | split | (apply foldl_cells; intros))) <;> simp

@[simp] theorem State.keepReply_cells : ∀ (s : State) (r : Req) (kind : Nat) (body : List Byte),
    (State.keepReply s r kind body).mem.cells = s.mem.cells := by
  intros; simp [State.keepReply]

@[simp] theorem State.reply_cells : ∀ (s : State) (r : Req) (kind : Nat) (fields : List Nat),
    (State.reply s r kind fields).mem.cells = s.mem.cells := by
  intros; simp [State.reply]

@[simp] theorem State.sendChunks_cells : ∀ (s : State) (t : Txn) (first count : Nat),
    (State.sendChunks s t first count).mem.cells = s.mem.cells := by
  intros; simp [State.sendChunks]

@[simp] theorem State.sendPrepare_cells : ∀ (s : State) (t : Txn),
    (State.sendPrepare s t).mem.cells = s.mem.cells := by
  intros; simp [State.sendPrepare]

@[simp] theorem State.answerPrepare_cells : ∀ (s : State) (id : Nat),
    (State.answerPrepare s id).mem.cells = s.mem.cells := by
  intros; unfold State.answerPrepare; (repeat' (first | split | (apply foldl_cells; intros))); all_goals simp

@[simp] theorem State.journalPayload_cells : ∀ (s : State) (t : Txn),
    (State.journalPayload s t).mem.cells = s.mem.cells := by
  intros; simp [State.journalPayload]

@[simp] theorem State.decideNow_cells : ∀ (s : State) (id : Nat) (commit : Bool) (reason : Nat),
    (State.decideNow s id commit reason).mem.cells = s.mem.cells := by
  intros; unfold State.decideNow; split <;> simp

@[simp] theorem State.decideTxn_cells : ∀ (s : State) (t : Txn) (commit : Bool) (reason : Nat),
    (State.decideTxn s t commit reason).mem.cells = s.mem.cells := by
  intros; simp [State.decideTxn]

@[simp] theorem State.tally_cells : ∀ (s : State) (t : Txn) (deadline : Bool),
    (State.tally s t deadline).mem.cells = s.mem.cells := by
  intros; unfold State.tally; (repeat' (first | split | (apply foldl_cells; intros))); all_goals simp

@[simp] theorem State.prepareFabric_cells : ∀ (s : State) (who : Who) (t : Txn) (time : Nat),
    (State.prepareFabric s who t time).mem.cells = s.mem.cells := by
  intros; simp [State.prepareFabric]; (repeat' split); all_goals simp

@[simp] theorem State.commitFabric_cells : ∀ (s : State) (t : Txn),
    (Settled.state (State.commitFabric s t)).mem.cells = s.mem.cells := by
  intros; unfold State.commitFabric; (repeat' (first | split | (apply foldl_cells; intros))); all_goals simp

@[simp] theorem State.doTxnOpen_cells (s : State) (who : Who) (scope rung : Nat)
    : (s.doTxnOpen who scope rung).1.mem.cells = s.mem.cells := by
  unfold State.doTxnOpen; (repeat' split) <;> first | rfl | exact State.openTxn_cells ‹_›

@[simp] theorem State.doTxnAdd_cells : ∀ (s : State) (who : Who) (id : Nat) (items : List Item),
    (Prod.fst (State.doTxnAdd s who id items)).mem.cells = s.mem.cells := by
  intros; unfold State.doTxnAdd; (repeat' (first | split | (apply foldl_cells; intros))); all_goals simp

@[simp] theorem State.doTxnPrepare_cells : ∀ (s : State) (r : Req) (who : Who) (p : PrepareArgs),
    (Prod.fst (State.doTxnPrepare s r who p)).mem.cells = s.mem.cells := by
  intros; simp [State.doTxnPrepare]; (repeat' split); all_goals simp

@[simp] theorem State.doTxnCommit_cells (s : State) (who : Who) (id : Nat) : (s.doTxnCommit who id).1.mem.cells =
    s.mem.cells := by
  have h (t : Txn) : (if t.scope = 0 then s.commitLocal t else s.commitFabric t).state.mem.cells =
    s.mem.cells := by split <;> simp
  rw [State.doTxnCommit]; split
  · rfl
  · rename_i t _
    have h := h t
    generalize (if t.scope = 0 then s.commitLocal t else s.commitFabric t) = o at h ⊢
    simp only []
    split; · rfl
    split; · rfl
    split; · rfl
    split; · rfl
    split; · exact h
    split <;> exact h

@[simp] theorem State.doTxnAbort_cells : ∀ (s : State) (who : Who) (id : Nat),
    (Prod.fst (State.doTxnAbort s who id)).mem.cells = s.mem.cells := by
  intros; unfold State.doTxnAbort; split <;> simp

@[simp] theorem State.doTxnStatus_cells : ∀ (s : State) (who : Who) (id : Nat),
    (Prod.fst (State.doTxnStatus s who id)).mem.cells = s.mem.cells := by
  intros; unfold State.doTxnStatus; (repeat' (first | split | (apply foldl_cells; intros))); all_goals simp

@[simp] theorem State.originate_cells (s : State) (rung scope : Nat) (l : List Item)
    : (s.originate rung scope l).1.mem.cells = s.mem.cells := by
  unfold State.originate; split
  · simp
  · have := State.openTxn_cells ‹_›; simp [this]

@[simp] theorem State.eliminateTxn_cells : ∀ (s : State) (f : FabFrame),
    (Prod.fst (State.eliminateTxn s f)).mem.cells = s.mem.cells := by
  intros; simp [State.eliminateTxn]

@[simp] theorem State.txnFrame_cells : ∀ (s : State) (f : TxnIn) (code id : Nat) (fields : List Byte),
    (Prod.fst (State.txnFrame s f code id fields)).mem.cells = s.mem.cells := by
  intros; unfold State.txnFrame; dsimp only []; (repeat' split) <;> simp

@[simp] theorem State.sendVote_cells : ∀ (s : State) (id : Nat), (State.sendVote s id).mem.cells = s.mem.cells := by
  intros; unfold State.sendVote; split <;> simp

@[simp] theorem State.castVote_cells : ∀ (s : State) (t : Txn), (State.castVote s t).mem.cells = s.mem.cells := by
  intros; simp [State.castVote]

@[simp] theorem State.voteNo_cells : ∀ (s : State) (t : Txn) (reason : Nat),
    (State.voteNo s t reason).mem.cells = s.mem.cells := by
  intros; simp [State.voteNo]

@[simp] theorem State.voteNow_cells : ∀ (s : State) (t : Txn), (State.voteNow s t).mem.cells = s.mem.cells := by
  intros; unfold State.voteNow; (repeat' (first | split | (apply foldl_cells; intros))); all_goals simp

@[simp] theorem State.voteOrAsk_cells : ∀ (s : State) (t : Txn), (State.voteOrAsk s t).mem.cells = s.mem.cells := by
  intros; unfold State.voteOrAsk; split <;> simp

@[simp] theorem State.votesDue_cells : ∀ (s : State) (k : Nat),
    (State.votesDue s k).mem.cells = s.mem.cells := by
  intros; unfold State.votesDue; (repeat' (first | split | (apply foldl_cells; intros))) <;> simp

@[simp] theorem execFabTxnData_cells (f : TxnIn) (id index count : Nat) (data : List Byte) (s : State) :
    outCells (execFabTxnData f id index count data s) = some s.mem.cells := by
  have ha : (s.txnFrame f txData id (dataFields index count data)).1.mem.cells = s.mem.cells := by simp
  unfold execFabTxnData
  generalize s.txnFrame f txData id (dataFields index count data) = a at ha ⊢
  simp only []; split
  · simp [ha]
  · split
    · split
      · simp [ha]
      · simp only [outCells_next]; split <;> simp [ha]
    · split <;> simp [ha]

@[simp] theorem execFabTxnPrepare_cells (f : TxnIn) (p : FabPrepare) (s : State) :
    outCells (execFabTxnPrepare f p s) = some s.mem.cells := by
  have ha : (s.txnFrame f txPrepare p.id p.fields).1.mem.cells = s.mem.cells := by simp
  unfold execFabTxnPrepare
  generalize s.txnFrame f txPrepare p.id p.fields = a at ha ⊢
  simp only []; split
  · simp [ha]
  · split
    · simp [ha]
    · have := State.takeSlot_cells ‹_›; simp [this, ha]

@[simp] theorem execFabTxnVote_cells : ∀ (f : TxnIn) (id : Nat) (yes : Bool) (reason : Nat) (s : State),
    outCells (execFabTxnVote f id yes reason s) = some (s.mem.cells) := by
  intros; simp [execFabTxnVote]; (repeat' split); all_goals simp

@[simp] theorem execFabTxnNack_cells : ∀ (f : TxnIn) (id first count : Nat) (s : State),
    outCells (execFabTxnNack f id first count s) = some (s.mem.cells) := by
  intros; simp [execFabTxnNack]; (repeat' split); all_goals simp

@[simp] theorem State.told_cells : ∀ (s : State) (t : Txn) (commit : Bool) (block reason : Nat),
    (State.told s t commit block reason).mem.cells = s.mem.cells := by
  intros; simp [State.told]

@[simp] theorem execFabTxnDecision_cells : ∀ (f : TxnIn) (id : Nat) (commit : Bool) (block : Nat) (s : State),
    outCells (execFabTxnDecision f id commit block s) = some (s.mem.cells) := by
  intros; simp [execFabTxnDecision]; (repeat' split); all_goals simp

@[simp] theorem State.sendOutcome_cells : ∀ (s : State) (id node : Nat),
    (State.sendOutcome s id node).mem.cells = s.mem.cells := by
  intros; simp [State.sendOutcome]

@[simp] theorem execFabTxnQuery_cells : ∀ (f : TxnIn) (id : Nat) (s : State),
    outCells (execFabTxnQuery f id s) = some (s.mem.cells) := by
  intros; simp [execFabTxnQuery]

@[simp] theorem execFabTxnOutcome_cells : ∀ (f : TxnIn) (id outcome block : Nat) (s : State),
    outCells (execFabTxnOutcome f id outcome block s) = some (s.mem.cells) := by
  intros; simp [execFabTxnOutcome]; (repeat' split); all_goals simp

@[simp] theorem execFabTxnAck_cells : ∀ (f : TxnIn) (id : Nat) (a : TxnAck) (s : State),
    outCells (execFabTxnAck f id a s) = some (s.mem.cells) := by
  intros; simp [execFabTxnAck]

@[simp] theorem execVoteDeadline_cells : ∀ (id : Nat) (s : State),
    outCells (execVoteDeadline id s) = some (s.mem.cells) := by
  intros; unfold execVoteDeadline; split <;> simp

@[simp] theorem execTxnCommitWaitExpire_cells : ∀ (id : Nat) (s : State),
    outCells (execTxnCommitWaitExpire id s) = some (s.mem.cells) := by
  intros; unfold execTxnCommitWaitExpire; split <;> simp

@[simp] theorem execQueryTimer_cells : ∀ (id : Nat) (s : State),
    outCells (execQueryTimer id s) = some (s.mem.cells) := by
  intros; unfold execQueryTimer; split <;> simp

@[simp] theorem execTxnIndoubtAlarm_cells : ∀ (id : Nat) (s : State),
    outCells (execTxnIndoubtAlarm id s) = some (s.mem.cells) := by
  intros; unfold execTxnIndoubtAlarm; split <;> simp

@[simp] theorem execTxnOutcomeExpire_cells : ∀ (id : Nat) (s : State),
    outCells (execTxnOutcomeExpire id s) = some (s.mem.cells) := by
  intros; simp [execTxnOutcomeExpire]

@[simp] theorem State.sendAck_cells : ∀ (s : State) (id : Nat), (State.sendAck s id).mem.cells = s.mem.cells := by
  intros; unfold State.sendAck; split <;> simp

@[simp] theorem State.acknowledge_cells : ∀ (s : State) (id : Nat),
    (State.acknowledge s id).mem.cells = s.mem.cells := by
  intros; unfold State.acknowledge; split <;> simp

@[simp] theorem State.markLate_cells : ∀ (s : State) (addrs : List Nat),
    (State.markLate s addrs).mem.cells = s.mem.cells := by
  intros; simp [State.markLate]

@[simp] theorem State.queueLive_cells : ∀ (s : State) (a v : Nat),
    (State.queueLive s a v).mem.cells = s.mem.cells := by
  intros; simp [State.queueLive]

@[simp] theorem State.persistBlob_cells : ∀ (s : State) (o : Obj) (i gen : Nat) (data : List Byte),
    (State.persistBlob s o i gen data).mem.cells = s.mem.cells := by
  intros; simp [State.persistBlob]

@[simp] theorem State.putShadow_cells : ∀ (s : State) (x : Shadow),
    (State.putShadow s x).mem.cells = s.mem.cells := by
  intros; simp [State.putShadow]

@[simp] theorem State.raiseGen_cells : ∀ (s : State) (o : Obj) (i gen : Nat),
    (State.raiseGen s o i gen).mem.cells = s.mem.cells := by
  intros; simp [State.raiseGen]

@[simp] theorem State.startShadow_cells : ∀ (s : State) (who : Who) (o : Obj) (i total : Nat),
    (State.startShadow s who o i total).mem.cells = s.mem.cells := by
  intros; simp [State.startShadow]

@[simp] theorem State.dropHandshake_cells : ∀ (s : State) (id : Nat),
    (State.dropHandshake s id).mem.cells = s.mem.cells := by
  intros; simp [State.dropHandshake]

@[simp] theorem State.refuseAuth_cells : ∀ (s : State),
    (State.refuseAuth s).1.mem.cells = s.mem.cells := by
  intros; simp [State.refuseAuth]

@[simp] theorem State.doSesInit_cells : ∀ (s : State) (r : Req) (nonce key : List Byte),
    (State.doSesInit s r nonce key).1.mem.cells = s.mem.cells := by
  intros; unfold State.doSesInit; (repeat' (first | split | (apply foldl_cells; intros))) <;> simp

@[simp] theorem State.doSesCertRead_cells : ∀ (s : State) (r : Req) (id offset len : Nat),
    (State.doSesCertRead s r id offset len).1.mem.cells = s.mem.cells := by
  intros; unfold State.doSesCertRead; (repeat' (first | split | (apply foldl_cells; intros))) <;> simp

@[simp] theorem State.doSesCertSend_cells : ∀ (s : State) (r : Req) (id offset total : Nat) (data : List Byte),
    (State.doSesCertSend s r id offset total data).1.mem.cells = s.mem.cells := by
  intros; unfold State.doSesCertSend; (repeat' (first | split | (apply foldl_cells; intros))) <;> simp

@[simp] theorem State.doSesFinish_cells : ∀ (s : State) (r : Req) (id : Nat) (sig : List Byte),
    (State.doSesFinish s r id sig).1.mem.cells = s.mem.cells := by
  intros; unfold State.doSesFinish; (repeat' (first | split | (apply foldl_cells; intros))) <;> simp

@[simp] theorem State.checkTag_cells : ∀ (s : State) (r : Req) (body : List Byte),
    (State.checkTag s r body).1.mem.cells = s.mem.cells := by
  intros; unfold State.checkTag; split <;> simp

@[simp] theorem State.resend_cells : ∀ (s : State) (r : Req) (k : Kept),
    (State.resend s r k).mem.cells = s.mem.cells := by
  intros; simp [State.resend]

@[simp] theorem State.turnAway_cells : ∀ (s : State) (r : Req) (m : Msg),
    (State.turnAway s r m).mem.cells = s.mem.cells := by
  intros; simp [State.turnAway]

@[simp] theorem State.doRead_cells : ∀ (s : State) (r : Req) (who : Who) (addrs : List Nat),
    (Prod.fst (State.doRead s r who addrs)).mem.cells = s.mem.cells := by
  intros; simp [State.doRead]

@[simp] theorem State.commitNow_cells : ∀ (s : State) (who : Who) (l : List Item),
    (Prod.fst (State.commitNow s who l)).mem.cells = s.mem.cells := by
  intros; simp [State.commitNow]

@[simp] theorem State.setSubs_cells : ∀ (s : State) (l : List Machine.Sub),
    (State.setSubs s l).mem.cells = s.mem.cells := by
  intros; simp [State.setSubs]

@[simp] theorem State.doSubscribe_cells : ∀ (s : State) (who : Who) (sub addr mode interval : Nat),
    (Prod.fst (State.doSubscribe s who sub addr mode interval)).mem.cells = s.mem.cells := by
  intros; simp [State.doSubscribe]

theorem State.received_cells (s t : State) (r : Req) (m : Msg) (h : s.received r m = some t) :
    t.mem.cells = s.mem.cells := by
  unfold State.received at h; split at h
  · cases h
  · split at h
    · cases h; rfl
    · split at h <;> cases h; rfl

theorem State.examine_cells (s : State) (r : Req) (m : Msg) :
    (s.examine r m).state.mem.cells = s.mem.cells := by
  have hp : (if r.isProtected then s.checkTag r (s.requestBody r m) else (s, true)).1.mem.cells = s.mem.cells := by
    split <;> simp
  unfold State.examine; split
  · simp [Arrival.state]
  · dsimp only []; (repeat' split) <;> simp [Arrival.state, hp]

/-- A request that stores nothing when it is served leaves the memory as it was. -/

theorem State.answer_cells (s : State) (r : Req) (m : Msg)
    (hm : ∀ t q who, (State.serveRequest t q who m).mem.cells = t.mem.cells) :
    (s.answer r m).mem.cells = s.mem.cells := by
  unfold State.answer; dsimp only []; split
  · rfl
  · rename_i u h; have := State.received_cells _ _ _ _ h; split
    · split <;> simp [this]
    · rw [← this]; unfold State.dispatch; split
      · rfl
      · have := State.examine_cells u r.onPort m; split <;> rename_i h <;> rw [h] at this <;>
          simpa [Arrival.state, hm] using this

@[simp] theorem execSesInit_cells : ∀ (m : SesInit) (s : State),
    outCells (execSesInit m s) = some (s.mem.cells) := by
  intros; unfold execSesInit; rw [outCells_next, State.answer_cells]; intro t q who
  simp [State.serveRequest, State.needsPartner, State.finishRequest, State.perform]

@[simp] theorem execSesCertRead_cells (r : Req) (id offset len : Nat) (s : State) :
    outCells (execSesCertRead r id offset len s) = some s.mem.cells := by
  intros; unfold execSesCertRead; rw [outCells_next, State.answer_cells]; intro t q who
  simp [State.serveRequest, State.needsPartner, State.finishRequest, State.perform]

@[simp] theorem execSesCertSend_cells : ∀ (r : Req) (id offset total : Nat) (data : List (BitVec 8)) (s : State),
    outCells (execSesCertSend r id offset total data s) = some (s.mem.cells) := by
  intros; unfold execSesCertSend; rw [outCells_next, State.answer_cells]; intro t q who
  simp [State.serveRequest, State.needsPartner, State.finishRequest, State.perform]

@[simp] theorem execSesFinish_cells : ∀ (r : Req) (id : Nat) (sig : List (BitVec 8)) (s : State),
    outCells (execSesFinish r id sig s) = some (s.mem.cells) := by
  intros; unfold execSesFinish; rw [outCells_next, State.answer_cells]; intro t q who
  simp [State.serveRequest, State.needsPartner, State.finishRequest, State.perform]

@[simp] theorem State.miso_cells : ∀ (s : State) (kind : String) (rest : List Byte),
    (State.miso s kind rest).mem.cells = s.mem.cells := by
  intros; unfold State.miso; (repeat' (first | split | (apply foldl_cells; intros))) <;> simp

@[simp] theorem State.spiPut_cells : ∀ (s : State) (frame : List Byte),
    (State.spiPut s frame).mem.cells = s.mem.cells := by
  intros; unfold State.spiPut; (repeat' (first | split | (apply foldl_cells; intros))) <;> simp

@[simp] theorem State.spiGet_cells : ∀ (s : State),
    (State.spiGet s).mem.cells = s.mem.cells := by
  intros; unfold State.spiGet; (repeat' (first | split | (apply foldl_cells; intros))) <;> simp

@[simp] theorem State.spiTransaction_cells : ∀ (s : State) (a0 : List Byte),
    (State.spiTransaction s a0).mem.cells = s.mem.cells := by
  intros; unfold State.spiTransaction; (repeat' (first | split | (apply foldl_cells; intros))) <;> simp

@[simp] theorem execSpiPut_cells : ∀ (frame : List Byte) (s : State),
    outCells (execSpiPut frame s) = some (s.mem.cells) := by
  intros; simp [execSpiPut]

@[simp] theorem execSpiGet_cells : ∀ (s : State), outCells (execSpiGet s) = some (s.mem.cells) := by
  intros; unfold execSpiGet; simp

@[simp] theorem execSpiStatus_cells : ∀ (s : State), outCells (execSpiStatus s) = some (s.mem.cells) := by
  intros; simp [execSpiStatus]

@[simp] theorem execHistSnap_cells : ∀ (u : Fin 32) (s : State),
    outCells (execHistSnap u s) = some (s.mem.cells) := by
  intros; simp [execHistSnap]

@[simp] theorem State.originateLocal_cells : ∀ (s : State) (b rung : Nat) (l : List Item),
    (Prod.fst (State.originateLocal s b rung l)).mem.cells = s.mem.cells := by
  intros; simp [State.originateLocal]

@[simp] theorem State.healDue_cells (s : State) (b : Nat) : (s.healDue b).mem.cells = s.mem.cells := by
  unfold State.healDue; simp only []; split
  · rfl
  · rw [foldl_cells]; intros; split <;> simp

@[simp] theorem State.trackersSettle_cells : ∀ (s : State), (State.trackersSettle s).mem.cells = s.mem.cells := by
  intros; simp [State.trackersSettle]

@[simp] theorem State.publishDue_cells : ∀ (s : State) (b : Nat), (State.publishDue s b).mem.cells = s.mem.cells := by
  intros; simp [State.publishDue]

@[simp] theorem State.ltcSeal_cells : ∀ (s : State) (b : Nat), (State.ltcSeal s b).mem.cells = s.mem.cells := by
  intros; simp [State.ltcSeal]

@[simp] theorem State.seal_cells : ∀ (s : State) (b : Nat), (State.seal s b).mem.cells = s.mem.cells := by
  intros; simp [State.seal]

@[simp] theorem execSeal_cells : ∀ (b : Nat) (s : State), outCells (execSeal b s) = some (s.mem.cells) := by
  intros; simp [execSeal]

@[simp] theorem State.valueEntry_cells : ∀ (s : State) (e : Nat × Nat),
    (State.valueEntry s e).mem.cells = s.mem.cells := by
  intros; unfold State.valueEntry; split <;> simp

@[simp] theorem State.timeBoundary_cells : ∀ (s : State) (k : Nat),
    (State.timeBoundary s k).mem.cells = s.mem.cells := by
  intros; simp [State.timeBoundary]

@[simp] theorem State.ltcDue_cells : ∀ (s : State) (k : Nat), (State.ltcDue s k).mem.cells = s.mem.cells := by
  intros; simp [State.ltcDue]

@[simp] theorem State.micLevels_cells : ∀ (s : State) (k : Nat), (State.micLevels s k).mem.cells = s.mem.cells := by
  intros; simp [State.micLevels]

@[simp] theorem State.inputsBoundary_cells : ∀ (s : State) (k : Nat),
    (State.inputsBoundary s k).mem.cells = s.mem.cells := by
  intros; simp [State.inputsBoundary]

@[simp] theorem State.subscriptions_cells : ∀ (s : State) (k : Nat),
    (State.subscriptions s k).mem.cells = s.mem.cells := by
  intros; unfold State.subscriptions; (repeat' (first | split | (apply foldl_cells; intros))); all_goals simp

@[simp] theorem State.histBoundary_cells : ∀ (s : State) (k : Nat),
    (State.histBoundary s k).mem.cells = s.mem.cells := by
  intros; simp [State.histBoundary]

@[simp] theorem State.safeEnds_cells : ∀ (s : State), (State.safeEnds s).mem.cells = s.mem.cells := by
  intros; simp [State.safeEnds]

@[simp] theorem State.twinBoundary_cells : ∀ (s : State) (k : Nat),
    (State.twinBoundary s k).mem.cells = s.mem.cells := by
  intros; simp [State.twinBoundary]

@[simp] theorem State.captureNow_cells : ∀ (s : State) (k : Nat), (State.captureNow s k).mem.cells = s.mem.cells := by
  intros; simp [State.captureNow]

@[simp] theorem State.resyncBoundary_cells : ∀ (s : State) (k : Nat),
    (State.resyncBoundary s k).mem.cells = s.mem.cells := by
  intros; simp [State.resyncBoundary]

@[simp] theorem State.holdEntry_cells : ∀ (s : State) (index block : Nat) (act : JournalAct),
    (State.holdEntry s index block act).mem.cells = s.mem.cells := by
  intros; simp [State.holdEntry]

@[simp] theorem State.takeDictionary_cells : ∀ (s : State) (l : List (Nat × Nat)),
    (State.takeDictionary s l).mem.cells = s.mem.cells := by
  intros; simp [State.takeDictionary]

@[simp] theorem State.takeTime_cells : ∀ (s : State) (source : Nat) (bridge : Int) (degraded : Bool),
    (State.takeTime s source bridge degraded).mem.cells = s.mem.cells := by
  intros; rfl

@[simp] theorem State.hear_cells : ∀ (s : State) (index block : Nat) (x0 : JournalAct),
    (State.hear s index block x0).mem.cells = s.mem.cells := by
  intros; unfold State.hear; split <;> simp

@[simp] theorem execJournal_cells : ∀ (f : LaceIn) (index block : Nat) (act : JournalAct) (s : State),
    outCells (execJournal f index block act s) = some (s.mem.cells) := by
  intros; simp [execJournal]

@[simp] theorem State.originateHeld_cells : ∀ (s : State) (rung scope : Nat) (l : List Item),
    (State.originateHeld s rung scope l).mem.cells = s.mem.cells := by
  intros; unfold State.originateHeld; split <;> simp

@[simp] theorem execJournalRetransmit_cells : ∀ (index : Nat) (s : State),
    outCells (execJournalRetransmit index s) = some (s.mem.cells) := by
  intros; unfold execJournalRetransmit; split <;> simp

@[simp] theorem execResyncComplete_cells : ∀ (s : State), outCells (execResyncComplete s) = some (s.mem.cells) := by
  intros; simp [execResyncComplete]

@[simp] theorem State.withFetchWord_cells : ∀ (s : State) (nbits w : Nat),
    (State.withFetchWord s nbits w).mem.cells = s.mem.cells := by
  intros; rfl

end Sys2Proof.Machine
end

