-- ==== Sys2Proof/Laws/MemoryForm.lean ====
section
/-! SUPPORT. The operations that may write memory keep its canonical form, one lemma each. -/

namespace Sys2Proof.Machine

set_option Elab.async false

open Sys2Proof

def outWf : Host.Outcome State Fault Refusal → Bool
  | .next t => t.mem.cells.wf
  | _ => true
@[simp] theorem outWf_next (t : State) : outWf (.next t) = t.mem.cells.wf := rfl
theorem foldl_wf {α : Type} (f : State → α → State) (l : List α) (s : State)
    (h : ∀ t a, t.mem.cells.wf = true → (f t a).mem.cells.wf = true) (hs : s.mem.cells.wf = true) :
    (l.foldl f s).mem.cells.wf = true := by
  induction l generalizing s with
  | nil => exact hs
  | cons a l ih => exact ih _ (h _ _ hs)
theorem foldl_fst_wf {α β : Type} (f : State × β → α → State × β) (l : List α) (s : State × β)
    (h : ∀ t a, t.1.mem.cells.wf = true → (f t a).1.mem.cells.wf = true) (hs : s.1.mem.cells.wf = true) :
    (l.foldl f s).1.mem.cells.wf = true := by
  induction l generalizing s with
  | nil => exact hs
  | cons a l ih => exact ih _ (h _ _ hs)
@[simp] theorem wf_nil : Memory.wf [] = true := rfl
@[simp] theorem ite_wf (c : Prop) [Decidable c] (a b : Memory) :
    Memory.wf (if c then a else b) = if c then a.wf else b.wf := by split <;> rfl
@[simp] theorem ite_outWf (c : Prop) [Decidable c] (a b : Host.Outcome State Fault Refusal) :
    outWf (if c then a else b) = if c then outWf a else outWf b := by split <;> rfl

@[simp] theorem State.writeMem_wf : ∀ (s : State) (a : Nat) (l : List Byte),
    s.mem.cells.wf = true → (State.writeMem s a l).mem.cells.wf = true := by
  intros; simp [State.writeMem, *]

@[simp] theorem State.txWriteBack_wf : ∀ (s : State) (ring k status : Nat) (stamp : Option Nat),
    s.mem.cells.wf = true → (State.txWriteBack s ring k status stamp).mem.cells.wf = true := by
  intros; simp [State.txWriteBack, *]

@[simp] theorem State.txReturn_wf : ∀ (s : State) (ring status n : Nat),
    s.mem.cells.wf = true → (State.txReturn s ring status n).mem.cells.wf = true := by
  intros; unfold State.txReturn; simp only []; (repeat' (first | split | (refine foldl_wf _ _ _ ?_ ?_ <;> intros)))
    <;> simp [*]

@[simp] theorem State.txSettle_wf : ∀ (s : State) (ring x0 : Nat),
    s.mem.cells.wf = true → (State.txSettle s ring x0).mem.cells.wf = true := by
  intro s ring x0 h0; fun_induction State.txSettle s ring x0 <;> simp_all

@[simp] theorem State.linkDown_wf : ∀ (s : State) (p : Nat),
    s.mem.cells.wf = true → (State.linkDown s p).mem.cells.wf = true := by
  intros; unfold State.linkDown; simp only []; (repeat' (first | split | (refine foldl_wf _ _ _ ?_ ?_ <;> intros)))
    <;> simp [*]

@[simp] theorem State.runArea_wf : ∀ (s : State) (k : Nat) (st : Obj) (i v : Nat),
    s.mem.cells.wf = true → (State.runArea s k st i v).mem.cells.wf = true := by
  intros; simp [State.runArea, *]

@[simp] theorem State.writeWords_wf : ∀ (s : State) (a : Nat) (l : List Word32),
    s.mem.cells.wf = true → (State.writeWords s a l).mem.cells.wf = true := by
  intros; simp [State.writeWords, *]

@[simp] theorem State.bind_wf : ∀ (s : State) (n : Nat),
    s.mem.cells.wf = true → (Prod.fst (State.bind s n)).mem.cells.wf = true := by
  intros; unfold State.bind; simp only []; (repeat' (first | split | (refine foldl_wf _ _ _ ?_ ?_ <;> intros)))
    <;> simp [*]

@[simp] theorem State.bindAll_wf (s : State) (l : List Nat) (h : s.mem.cells.wf =
    true) : (s.bindAll l).1.mem.cells.wf = true := by
  unfold State.bindAll; simp only [State.keepFaults_cells]
  refine foldl_fst_wf _ _ _ (fun t n ht => ?_) (foldl_wf _ _ _ (fun t n ht => ?_) h) <;> simp [ht]

@[simp] theorem State.placeImage_wf : ∀ (s : State) (c i k : Nat),
    s.mem.cells.wf = true → (Prod.fst (State.placeImage s c i k)).mem.cells.wf = true := by
  intros; unfold State.placeImage; dsimp only []; (repeat' split) <;> simp [*]

@[simp] theorem State.placeImages_wf (s : State) (k : Nat) (h : s.mem.cells.wf = true) :
    (s.placeImages k).1.mem.cells.wf = true := by
  unfold State.placeImages; dsimp only []
  refine foldl_fst_wf _ _ _ (fun t n ht => ?_) h
  split <;> simp [ht]

@[simp] theorem State.settleChanges_wf : ∀ (s : State) (k : Nat),
    s.mem.cells.wf = true → (State.settleChanges s k).mem.cells.wf = true := by
  intro s k h; unfold State.settleChanges; dsimp only []
  apply State.placeImages_wf
  split <;> first | apply State.bindAll_wf | skip
  all_goals simp [h]

@[simp] theorem State.keepMedia_wf (s : State) (f : State →
    State) (h : (f s).mem.cells.wf = true) : (s.keepMedia f).mem.cells.wf = true := h

@[simp] theorem State.dmaMove_wf : ∀ (s : State) (recent : List (Nat × Nat)) (d : DmaDesc) (n : Nat),
    s.mem.cells.wf = true → (State.dmaMove s recent d n).mem.cells.wf = true := by
  intros; simp [State.dmaMove, *]

@[simp] theorem State.dmaWriteBack_wf : ∀ (s : State) (a status done : Nat),
    s.mem.cells.wf = true → (State.dmaWriteBack s a status done).mem.cells.wf = true := by
  intros; simp [State.dmaWriteBack, *]

@[simp] theorem State.dmaAbortAll_wf : ∀ (s : State) (c x0 : Nat),
    s.mem.cells.wf = true → (State.dmaAbortAll s c x0).mem.cells.wf = true := by
  intro s c x0 h0; fun_induction State.dmaAbortAll s c x0 <;> simp_all

@[simp] theorem State.dmaReset_wf (s : State) (c n : Nat) (hs : s.mem.cells.wf =
    true) : (s.dmaReset c n).mem.cells.wf = true := by
  unfold State.dmaReset; simp only [State.count_cells, State.modDma_cells, State.set_cells]; split
  · refine State.dmaAbortAll_wf _ _ _ ?_
    simp only [State.count_cells, State.dmaAdvance_cells]
    refine State.dmaWriteBack_wf _ _ _ _ ?_
    split <;> simp [hs]
  · simp [hs]

@[simp] theorem State.commandUnit_wf : ∀ (s : State) (k : Nat) (o : Obj) (i v : Nat),
    s.mem.cells.wf = true → (State.commandUnit s k o i v).mem.cells.wf = true := by
  intros; simp [State.commandUnit, *]

@[simp] theorem State.command_wf : ∀ (s : State) (k : Nat) (o : Obj) (i v : Nat),
    s.mem.cells.wf = true → (State.command s k o i v).mem.cells.wf = true := by
  intros; simp [State.command, *]

@[simp] theorem State.ringHandOver_wf : ∀ (s : State) (ring tail : Nat),
    s.mem.cells.wf = true → (State.ringHandOver s ring tail).mem.cells.wf = true := by
  intros; simp [State.ringHandOver, *]

@[simp] theorem State.ringStop_wf : ∀ (s : State) (ring : Nat),
    s.mem.cells.wf = true → (State.ringStop s ring).mem.cells.wf = true := by
  intros; simp [State.ringStop, *]

@[simp] theorem State.runChanged_wf : ∀ (s : State) (k : Nat) (o : Obj) (i v : Nat),
    s.mem.cells.wf = true → (State.runChanged s k o i v).mem.cells.wf = true := by
  intros; unfold State.runChanged; (repeat' split) <;> simp [*]

@[simp] theorem State.assign_wf : ∀ (s : State) (k : Nat) (o : Obj) (i sub v : Nat),
    s.mem.cells.wf = true → (State.assign s k o i sub v).mem.cells.wf = true := by
  intros; simp [State.assign, *]

@[simp] theorem State.applyValue_wf : ∀ (s : State) (k a v : Nat) (keep : Bool),
    s.mem.cells.wf = true → (State.applyValue s k a v keep).mem.cells.wf = true := by
  intros; unfold State.applyValue; (repeat' split) <;> simp [*]

@[simp] theorem State.viewBind_wf : ∀ (v : State),
    Memory.wf (v.mem.cells) = true → (Prod.fst (State.viewBind v)).mem.cells.wf = true := by
  intros; simp [State.viewBind, *]

@[simp] theorem State.acceptValue_wf : ∀ (s : State) (o : Obj) (i sub v : Nat),
    s.mem.cells.wf = true → (State.acceptValue s o i sub v).mem.cells.wf = true := by
  intros; unfold State.acceptValue; (repeat' split) <;> simp [*]

@[simp] theorem State.acceptItem_wf : ∀ (s : State) (it : Item),
    s.mem.cells.wf = true → (State.acceptItem s it).mem.cells.wf = true := by
  intros; unfold State.acceptItem; (repeat' split) <;> simp [*]

@[simp] theorem State.acceptItems_wf : ∀ (s : State) (l : List Item) (target : Nat),
    s.mem.cells.wf = true → (State.acceptItems s l target).mem.cells.wf = true := by
  intros; unfold State.acceptItems; (repeat' (first | split | (refine foldl_wf _ _ _ ?_ ?_ <;> intros))) <;> simp [*]

@[simp] theorem State.writeNow_wf : ∀ (s : State) (who : Who) (items : List Item) (target : Nat),
    s.mem.cells.wf = true → (Prod.fst (State.writeNow s who items target)).mem.cells.wf = true := by
  intros; simp [State.writeNow, *]

@[simp] theorem State.completeShadow_wf : ∀ (s : State) (o : Obj) (i : Nat) (data : List Byte),
    s.mem.cells.wf = true → (Prod.fst (State.completeShadow s o i data)).mem.cells.wf = true := by
  intros; unfold State.completeShadow; (repeat' split) <;> simp [*]

@[simp] theorem State.acceptChunk_wf : ∀ (s : State) (who : Who) (o : Obj) (i : Nat) (first last : Bool)
    (total : Nat) (data : List Byte),
    s.mem.cells.wf = true → (Prod.fst (State.acceptChunk s who o i first last total data)).mem.cells.wf = true := by
  intros; unfold State.acceptChunk; simp only []; (repeat' (first | split | (refine foldl_wf _ _ _ ?_ ?_ <;>
    intros))) <;> simp [*]

theorem State.needsPartner_cells {s t : State} {r : Req} {who : Who} {m : Msg} {b : Nat} {a : JournalAct} (h :
    s.needsPartner r who m = some (b, a, t)) : t.mem.cells = s.mem.cells := by
  unfold State.needsPartner at h; simp only [] at h; (repeat' split at h)
    <;> first | contradiction | (simp only [Option.some.injEq, Prod.mk.injEq] at h; obtain ⟨_, _, rfl⟩ := h; simp)

@[simp] theorem State.perform_wf : ∀ (s : State) (r : Req) (who : Who) (m : Msg),
    s.mem.cells.wf = true → (Prod.fst (State.perform s r who m)).mem.cells.wf = true := by
  intros; unfold State.perform; (repeat' split) <;> simp [*]

@[simp] theorem State.finishRequest_wf : ∀ (s : State) (r : Req) (who : Who) (m : Msg),
    s.mem.cells.wf = true → (State.finishRequest s r who m).mem.cells.wf = true := by
  intro s r who m h; have := State.perform_wf s r who m h
  unfold State.finishRequest; dsimp only []
  generalize hq : s.perform r who m = x at this
  (repeat' split) <;> simp [this]

@[simp] theorem State.serveRequest_wf (s : State) (r : Req) (who : Who) (m : Msg) (h : s.mem.cells.wf =
    true) : (s.serveRequest r who m).mem.cells.wf = true := by
  unfold State.serveRequest; split
  · have := State.needsPartner_cells ‹_›; simp [this, h]
  · simp [h]

@[simp] theorem State.dispatch_wf (s : State) (x : Req × Msg) (h : s.mem.cells.wf = true) :
    (s.dispatch x).mem.cells.wf = true := by
  unfold State.dispatch; have := s.examine_cells x.1 x.2
  split
  · exact h
  · split <;> rename_i e <;> rw [e] at this <;> simp only [Arrival.state] at this
    · rw [this]; exact h
    · exact State.serveRequest_wf _ _ _ _ (by rw [this]; exact h)

@[simp] theorem State.drain_wf (s : State) (h : s.mem.cells.wf = true) : s.drain.mem.cells.wf = true :=
  foldl_wf _ _ _ (fun t x ht => State.dispatch_wf t x ht) h

@[simp] theorem State.answer_wf (s : State) (r : Req) (m : Msg) (h : s.mem.cells.wf = true) :
    (s.answer r m).mem.cells.wf = true := by
  unfold State.answer; dsimp only []; split
  · exact h
  · rename_i e; have := State.received_cells _ _ _ _ e; (repeat' split) <;> simp [this, h]

@[simp] theorem State.writeOne_wf : ∀ (s : State) (r : Req) (o : Obj) (i v : Nat),
    s.mem.cells.wf = true → (State.writeOne s r o i v).mem.cells.wf = true := by
  intros; simp [State.writeOne, *]

@[simp] theorem execDmcRetrain_wf : ∀ (r : Req) (sp : Fin 2) (s : State),
    s.mem.cells.wf = true → outWf (execDmcRetrain r sp s) = true := by
  intros; simp [execDmcRetrain, *]

@[simp] theorem State.stageInst_wf : ∀ (s : State) (i : Inst),
    s.mem.cells.wf = true → (Prod.fst (State.stageInst s i)).mem.cells.wf = true := by
  intros; unfold State.stageInst; (repeat' split) <;> simp [*]

@[simp] theorem State.startInst_wf : ∀ (s : State) (i : Inst) (ctx : Nat),
    s.mem.cells.wf = true → (State.startInst s i ctx).mem.cells.wf = true := by
  intros; simp [State.startInst, *]

@[simp] theorem State.runNext_wf : ∀ (s : State) (c : Nat),
    s.mem.cells.wf = true → (State.runNext s c).mem.cells.wf = true := by
  intros; unfold State.runNext; simp only []; (repeat' (first | split | (refine foldl_wf _ _ _ ?_ ?_ <;> intros)))
    <;> simp [*]

@[simp] theorem State.switchCore_wf : ∀ (s : State) (c : Nat),
    s.mem.cells.wf = true → (State.switchCore s c).mem.cells.wf = true := by
  intros; unfold State.switchCore; (repeat' split) <;> simp [*]

@[simp] theorem State.scheduleCore_wf : ∀ (s : State) (c : Nat),
    s.mem.cells.wf = true → (State.scheduleCore s c).mem.cells.wf = true := by
  intros; unfold State.scheduleCore; (repeat' split) <;> simp [*]

@[simp] theorem State.afterInst_wf : ∀ (s : State) (i : Inst),
    s.mem.cells.wf = true → (State.afterInst s i).mem.cells.wf = true := by
  intros; simp [State.afterInst, *]

@[simp] theorem State.exceptInst_wf : ∀ (s : State) (i : Inst) (kind : Nat),
    s.mem.cells.wf = true → (State.exceptInst s i kind).mem.cells.wf = true := by
  intros; simp only [State.exceptInst, *]; (repeat' split) <;> simp [*]

@[simp] theorem State.exitInst_wf : ∀ (s : State) (i : Inst),
    s.mem.cells.wf = true → (State.exitInst s i).mem.cells.wf = true := by
  intros; simp [State.exitInst, *]

@[simp] theorem State.settle_wf : ∀ (s : State) (i : Inst) (b : Bundle),
    s.mem.cells.wf = true → (State.settle s i b).mem.cells.wf = true := by
  intros; unfold State.settle; (repeat' split) <;> simp [*]

@[simp] theorem State.storeOf_wf : ∀ (s : State) (i : Inst) (b : Bundle),
    s.mem.cells.wf = true → (State.storeOf s i b).mem.cells.wf = true := by
  intros; unfold State.storeOf; (repeat' split) <;> simp [*]

@[simp] theorem State.issueBundle_wf : ∀ (s : State) (i : Inst) (b : Bundle),
    s.mem.cells.wf = true → (State.issueBundle s i b).mem.cells.wf = true := by
  intros; unfold State.issueBundle; (repeat' split) <;> simp [*]

@[simp] theorem State.issueRow_wf : ∀ (s : State) (c : Fin 8) (holds : Bundle → Bool),
    s.mem.cells.wf = true → (State.issueRow s c holds).mem.cells.wf = true := by
  intros; unfold State.issueRow; (repeat' split) <;> simp [*]

@[simp] theorem execFexp10_wf : ∀ (c : Fin 8) (s : State), s.mem.cells.wf = true → outWf (execFexp10 c s) = true := by
  intros; simp [execFexp10, *]

@[simp] theorem State.portsIdle_wf : ∀ (s : State),
    s.mem.cells.wf = true → (State.portsIdle s).mem.cells.wf = true := by
  intro s h; unfold State.portsIdle; dsimp only []
  rw [foldl_cells (h := by intros; split <;> simp)]
  exact foldl_wf _ _ _ (by intro t a ht; split <;> simp [ht]) h

@[simp] theorem State.shutDown_wf : ∀ (s : State) (code : Nat),
    s.mem.cells.wf = true → (State.shutDown s code).mem.cells.wf = true := by
  intro s code h; unfold State.shutDown; dsimp only []; rw [State.error_cells]
  exact State.portsIdle_wf _ (by rw [State.idacsFault_cells, State.dropDrive_cells]; split <;> simp [h])

@[simp] theorem State.launchLate_wf : ∀ (s : State) (ring n : Nat),
    s.mem.cells.wf = true → (State.launchLate s ring n).mem.cells.wf = true := by
  intros; simp [State.launchLate, *]

@[simp] theorem State.launchesPassed_wf (s : State) (port : Nat) (lt : Int) (h : s.mem.cells.wf = true) :
    (s.launchesPassed port lt).mem.cells.wf = true :=
  foldl_wf _ _ _ (by intro t a ht; split <;> simp [ht]) h

@[simp] theorem State.pauseEnds_wf (s : State) (port : Nat) (h : s.mem.cells.wf = true) :
    (s.pauseEnds port).mem.cells.wf = true := by
  unfold State.pauseEnds; simp [h]

@[simp] theorem State.macControl_wf (s : State) (port dst opcode quanta : Nat) (h : s.mem.cells.wf = true) :
    (s.macControl port dst opcode quanta).mem.cells.wf = true := by
  unfold State.macControl; dsimp only []; (repeat' split) <;> simp [h]

@[simp] theorem State.txSend_wf (s : State) (p ring n : Nat) (l : List (Nat × Nat)) (lt : Int)
    (h : s.mem.cells.wf = true) : (s.txSend p ring n l lt).mem.cells.wf = true := by
  unfold State.txSend; dsimp only []; split
  · simp [h]
  · simp only [State.count_cells, State.ringPass_cells]; refine foldl_wf _ _ _ ?_ h; intros; simp [*]

@[simp] theorem execBrc_wf : ∀ (c : Fin 8) (s : State), s.mem.cells.wf = true → outWf (execBrc c s) = true := by
  intros; simp [execBrc, *]

@[simp] theorem execRunControlWrite_wf : ∀ (r : Req) (a : Nat) (run : Bool) (s : State),
    s.mem.cells.wf = true → outWf (execRunControlWrite r a run s) = true := by
  intros; unfold execRunControlWrite; (repeat' split) <;> simp [*]

@[simp] theorem execLinkDown_wf : ∀ (port : Fin 7) (s : State),
    s.mem.cells.wf = true → outWf (execLinkDown port s) = true := by
  intros; simp [execLinkDown, *]

@[simp] theorem execMac_wf : ∀ (c : Fin 8) (s : State), s.mem.cells.wf = true → outWf (execMac c s) = true := by
  intros; simp [execMac, *]

@[simp] theorem State.applyItems_wf : ∀ (s : State) (k : Nat) (l : List Item),
    s.mem.cells.wf = true → (State.applyItems s k l).mem.cells.wf = true := by
  intros; unfold State.applyItems; simp only []; (repeat' (first | split | (refine foldl_wf _ _ _ ?_ ?_ <;>
    intros))) <;> simp [*]

@[simp] theorem State.fireTxn_wf : ∀ (s : State) (k e : Nat),
    s.mem.cells.wf = true → (Prod.fst (State.fireTxn s k e)).mem.cells.wf = true := by
  intros; unfold State.fireTxn; (repeat' split) <;> simp [*]

@[simp] theorem State.fire_wf : ∀ (s : State) (k e due : Nat) (late : Bool),
    s.mem.cells.wf = true → (State.fire s k e due late).mem.cells.wf = true := by
  intros; unfold State.fire; simp only []; (repeat' (first | split | (refine foldl_wf _ _ _ ?_ ?_ <;> intros)))
    <;> simp [*]

@[simp] theorem execTxFrameDone_wf : ∀ (port : Fin 7) (lt : Int) (s : State),
    s.mem.cells.wf = true → outWf (execTxFrameDone port lt s) = true := by
  intros; unfold execTxFrameDone; dsimp only []; (repeat' split) <;> simp [*]

@[simp] theorem execLoopr_wf : ∀ (c : Fin 8) (s : State), s.mem.cells.wf = true → outWf (execLoopr c s) = true := by
  intros; simp [execLoopr, *]

@[simp] theorem State.released_wf : ∀ (s : State) (r : Req) (m : Msg),
    s.mem.cells.wf = true → (State.released s r m).mem.cells.wf = true := by
  intros; simp [State.released, *]

@[simp] theorem State.release_wf : ∀ (s : State) (x0 : Held),
    s.mem.cells.wf = true → (State.release s x0).mem.cells.wf = true := by
  intros; unfold State.release; (repeat' split) <;> simp [*]

@[simp] theorem State.releaseEntry_wf : ∀ (s : State) (e : JournalEntry),
    s.mem.cells.wf = true → (State.releaseEntry s e).mem.cells.wf = true := by
  intros; unfold State.releaseEntry; (repeat' split) <;> simp [*]

@[simp] theorem State.laceLost_wf : ∀ (s : State),
    s.mem.cells.wf = true → (State.laceLost s).mem.cells.wf = true := by
  intros; unfold State.laceLost; simp only []; (repeat' (first | split | (refine foldl_wf _ _ _ ?_ ?_ <;> intros)))
    <;> simp [*]

@[simp] theorem State.dormantNow_wf (s : State) (hs : s.mem.cells.wf = true) : s.dormantNow.mem.cells.wf = true := by
  unfold State.dormantNow; dsimp only []
  rw [State.set_cells, State.set_cells, State.apllStop_cells, State.set_cells, State.set_cells,
    foldl_cells (h := by intros; simp)]
  exact foldl_wf _ _ _ (by intros; simp [*]) (by simp [hs])

@[simp] theorem execDormantReached_wf : ∀ (level : Option Wake) (s : State),
    s.mem.cells.wf = true → outWf (execDormantReached level s) = true := by
  intros; simp only [execDormantReached, *]; (repeat' split) <;> simp [*]

@[simp] theorem execFcos_wf : ∀ (c : Fin 8) (s : State), s.mem.cells.wf = true → outWf (execFcos c s) = true := by
  intros; simp [execFcos, *]

@[simp] theorem execFsub_wf : ∀ (c : Fin 8) (s : State), s.mem.cells.wf = true → outWf (execFsub c s) = true := by
  intros; simp [execFsub, *]

@[simp] theorem execLogWindowStart_wf : ∀ (r : Req) (v : Nat) (s : State),
    s.mem.cells.wf = true → outWf (execLogWindowStart r v s) = true := by
  intros; simp [execLogWindowStart, *]

@[simp] theorem State.applyTxn_wf : ∀ (s : State) (k : Nat) (t : Txn) (skipped : Bool),
    s.mem.cells.wf = true → (State.applyTxn s k t skipped).mem.cells.wf = true := by
  intros; simp [State.applyTxn, *]

@[simp] theorem State.restored_wf : ∀ (s : State),
    s.mem.cells.wf = true → (State.restored s).mem.cells.wf = true := by
  intros; simp [State.restored, *]

@[simp] theorem State.enterReset_wf : ∀ (s : State) (phase : Phase),
    s.mem.cells.wf = true → (State.enterReset s phase).mem.cells.wf = true := by
  intros; simp [State.enterReset, *]

@[simp] theorem State.activateNow_wf : ∀ (s : State) (slot : Nat),
    s.mem.cells.wf = true → (State.activateNow s slot).mem.cells.wf = true := by
  intros; simp [State.activateNow, *]

@[simp] theorem State.lastSteps_wf (s : State) (k : Nat) (hs : s.mem.cells.wf =
    true) : (s.lastSteps k).mem.cells.wf = true := by
  unfold State.lastSteps; simp only []
  have h : (if s.twin.switchAt = some k then s.switchNow else s).mem.cells.wf = true := by split <;> simp [hs]
  generalize (if s.twin.switchAt = some k then s.switchNow else s) = u at h ⊢
  have hp : (u.powerBoundary k).mem.cells.wf = true := by simp [h]
  generalize u.powerBoundary k = v at hp ⊢
  split <;> (try split) <;> simp [hp]

@[simp] theorem State.unitHalf_wf : ∀ (s : State) (k : Nat),
    s.mem.cells.wf = true → (State.unitHalf s k).mem.cells.wf = true := by
  intros; simp [State.unitHalf, *]

@[simp] theorem execIdacValueWrite_wf : ∀ (r : Req) (l : Fin 16) (v : Nat) (s : State),
    s.mem.cells.wf = true → outWf (execIdacValueWrite r l v s) = true := by
  intros; simp [execIdacValueWrite, *]

@[simp] theorem State.applyDue_wf : ∀ (s : State) (k : Nat) (t : Txn),
    s.mem.cells.wf = true → (State.applyDue s k t).mem.cells.wf = true := by
  intros; simp [State.applyDue, *]

@[simp] theorem State.blobEntry_wf : ∀ (s : State) (k a gen : Nat) (data : List Byte),
    s.mem.cells.wf = true → (State.blobEntry s k a gen data).mem.cells.wf = true := by
  intros; unfold State.blobEntry; (repeat' split) <;> simp [*]

@[simp] theorem State.heldEntries_wf : ∀ (s : State) (k : Nat) (p : Nat → Bool),
    s.mem.cells.wf = true → (State.heldEntries s k p).mem.cells.wf = true := by
  intros; unfold State.heldEntries; simp only []; (repeat' (first | split | (refine foldl_wf _ _ _ ?_ ?_ <;>
    intros))) <;> simp [*]

theorem State.liveTxns_wf (s : State) (k : Nat) (l : List (Nat × Nat)) (txns : List Txn) (h : s.mem.cells.wf = true) :
   (txns.foldl (fun t x => t.applyDue k x) (l.foldl (fun t e => t.applyValue k e.1 e.2 false) s)).mem.cells.wf =
    true :=
  foldl_wf _ _ _ (fun t x ht => by simp [ht]) (foldl_wf _ _ _ (fun t x ht => by simp [ht]) h)

@[simp] theorem State.applyChanges_wf (s : State) (k : Nat) (h : s.mem.cells.wf =
    true) : (s.applyChanges k).mem.cells.wf = true := by
  delta State.applyChanges
  extract_lets live txns written lost rest cu s0 t1 t2 t3 kept
  have h1 : t2.mem.cells.wf = true := State.liveTxns_wf _ k live txns (by simpa [s0] using h)
  clear_value t2
  have h3 : t3.mem.cells.wf = true := State.heldEntries_wf _ _ _ h1
  clear_value t3
  rw [State.portMoved_cells]; exact State.settleChanges_wf _ _ h3

@[simp] theorem State.blockEntry_wf : ∀ (s : State) (k e : Nat),
    s.mem.cells.wf = true → (State.blockEntry s k e).mem.cells.wf = true := by
  intros; unfold State.blockEntry; (repeat' split) <;> simp [*]

@[simp] theorem State.lateShow_wf : ∀ (s : State) (k e : Nat),
    s.mem.cells.wf = true → (State.lateShow s k e).mem.cells.wf = true := by
  intros; simp [State.lateShow, *]

@[simp] theorem State.showEntries_wf : ∀ (s : State) (k : Nat) (old now : Int) (jumped : Bool),
    s.mem.cells.wf = true → (State.showEntries s k old now jumped).mem.cells.wf = true := by
  intros; unfold State.showEntries; simp only []; (repeat' (first | split | (refine foldl_wf _ _ _ ?_ ?_ <;>
    intros))) <;> simp [*]

@[simp] theorem State.actions_wf (s : State) (k : Nat) (o n : Int) (j : Bool) (h : s.mem.cells.wf =
    true) : (s.actions k o n j).mem.cells.wf = true := by
  unfold State.actions; simp only []
  refine State.showEntries_wf _ _ _ _ _ (foldl_wf _ _ _ (fun t x ht => ?_) h)
  split <;> simp [*]

@[simp] theorem State.showBoundary_wf : ∀ (s : State) (k : Nat) (under : Int) (first : Bool),
    s.mem.cells.wf = true → (Prod.fst (State.showBoundary s k under first)).mem.cells.wf = true := by
  intros; simp [State.showBoundary, *]

@[simp] theorem State.showMoved_wf (s : State) (under : Int) (h : s.mem.cells.wf = true) :
    (s.showMoved under).mem.cells.wf = true := by
  unfold State.showMoved; dsimp only []; split <;> simp [h]

@[simp] theorem execShowJump_wf (j : Int) (s : State) (h : s.mem.cells.wf = true) :
    outWf (execShowJump j s) = true := by
  unfold execShowJump; split <;> simp [h]

@[simp] theorem execLtcReanchor_wf (s : State) (h : s.mem.cells.wf = true) : outWf (execLtcReanchor s) = true := by
  unfold execLtcReanchor; (repeat' split) <;> simp [h]

@[simp] theorem execPauseFrame_wf (port : Fin 7) (dst opcode quanta : Nat) (s : State) (h : s.mem.cells.wf = true) :
    outWf (execPauseFrame port dst opcode quanta s) = true := by
  simp [execPauseFrame, h]

@[simp] theorem State.sceneHalf_wf : ∀ (s : State) (k : Nat) (first : Bool),
    s.mem.cells.wf = true → (State.sceneHalf s k first).mem.cells.wf = true := by
  intros; simp [State.sceneHalf, *]

@[simp] theorem State.replayBlock_wf : ∀ (s : State) (m : Nat),
    s.mem.cells.wf = true → (State.replayBlock s m).mem.cells.wf = true := by
  intros; simp [State.replayBlock, *]

@[simp] theorem execUnknownMessageType_wf : ∀ (r : Req) (type : Nat) (s : State),
    s.mem.cells.wf = true → outWf (execUnknownMessageType r type s) = true := by
  intros; simp [execUnknownMessageType, *]

@[simp] theorem State.resyncHalf_wf (s : State) (k : Nat) (h : s.mem.cells.wf =
    true) : (s.resyncHalf k).mem.cells.wf = true := by
  delta State.resyncHalf
  extract_lets live rest txns cu s0 t1 t2 now tw u tw2 w
  have h1 : t2.mem.cells.wf = true := State.liveTxns_wf _ k live txns h
  clear_value t2
  have h3 : u.mem.cells.wf = true := State.heldEntries_wf _ _ _ h1
  clear_value u
  simp only [State.presentQuiet_cells]
  simp only [State.timeBoundary_cells, State.portMoved_cells]; exact State.settleChanges_wf _ _ h3

@[simp] theorem execRead_wf : ∀ (r : Req) (addrs : List Nat) (s : State),
    s.mem.cells.wf = true → outWf (execRead r addrs s) = true := by
  intros; simp [execRead, *]

@[simp] theorem execFmul_wf : ∀ (c : Fin 8) (s : State), s.mem.cells.wf = true → outWf (execFmul c s) = true := by
  intros; simp [execFmul, *]

@[simp] theorem execPllRampWrite_wf : ∀ (r : Req) (p : Fin 2) (data : List Byte) (s : State),
    s.mem.cells.wf = true → outWf (execPllRampWrite r p data s) = true := by
  intros; simp [execPllRampWrite, *]

@[simp] theorem execTxnPrepare_wf : ∀ (r : Req) (p : PrepareArgs) (s : State),
    s.mem.cells.wf = true → outWf (execTxnPrepare r p s) = true := by
  intros; simp [execTxnPrepare, *]

@[simp] theorem State.laceFrame_wf (s : State) (f : LaceIn) (type : Nat) (body : List Byte) (act : State →
    State) (h : (act s).mem.cells.wf = true) (hs : s.mem.cells.wf = true) : (s.laceFrame f type body act).mem.cells.wf =
    true := by
  unfold State.laceFrame; (repeat' split) <;> simp [h, hs]

@[simp] theorem State.loadCheckpoint_wf : ∀ (s : State) (c : Checkpoint),
    s.mem.cells.wf = true → (State.loadCheckpoint s c).mem.cells.wf = true := by
  intros; unfold State.loadCheckpoint; simp only []; (repeat' (first | split | (refine foldl_wf _ _ _ ?_ ?_ <;>
    intros))) <;> simp [*]

@[simp] theorem State.replay_wf (s : State) (c : Nat) (x : Checkpoint) (h : s.mem.cells.wf = true) :
    (s.replay c x).mem.cells.wf = true := by
  have h1 : (s.heldEntries (c - 1) pairWide).mem.cells.wf = true := by simp [h]
  unfold State.replay; simp only []
  generalize s.heldEntries (c - 1) pairWide = t at h1 ⊢
  refine foldl_wf _ _ _ (fun t i ht => ?_) ?_
  · simp [ht]
  · exact State.loadCheckpoint_wf _ _ h1

@[simp] theorem execLoop_wf : ∀ (c : Fin 8) (s : State), s.mem.cells.wf = true → outWf (execLoop c s) = true := by
  intros; simp [execLoop, *]

@[simp] theorem execFmin_wf : ∀ (c : Fin 8) (s : State), s.mem.cells.wf = true → outWf (execFmin c s) = true := by
  intros; simp [execFmin, *]

@[simp] theorem execFence_wf : ∀ (c : Fin 8) (s : State), s.mem.cells.wf = true → outWf (execFence c s) = true := by
  intros; simp [execFence, *]

@[simp] theorem execDispatchTick_wf : ∀ (s : State), s.mem.cells.wf = true → outWf (execDispatchTick s) = true := by
  intros; unfold execDispatchTick; simp only []; (repeat' (first | split | (refine foldl_wf _ _ _ ?_ ?_ <;>
    intros))) <;> simp [*]

@[simp] theorem execTxnResolveCommit_wf : ∀ (r : Req) (id : Nat) (s : State),
    s.mem.cells.wf = true → outWf (execTxnResolveCommit r id s) = true := by
  intros; simp [execTxnResolveCommit, *]

@[simp] theorem State.boundary_wf : ∀ (s : State) (k : Nat),
    s.mem.cells.wf = true → (State.boundary s k).mem.cells.wf = true := by
  intros; simp [State.boundary, *]

@[simp] theorem execBlockBoundary_wf : ∀ (k : Nat) (s : State),
    s.mem.cells.wf = true → outWf (execBlockBoundary k s) = true := by
  intros; simp [execBlockBoundary, *]

@[simp] theorem execSesFinish_wf : ∀ (r : Req) (id : Nat) (sig : List (BitVec 8)) (s : State),
    s.mem.cells.wf = true → outWf (execSesFinish r id sig s) = true := by
  intros; simp [execSesFinish, *]

@[simp] theorem execUvloShutdownComplete_wf : ∀ (s : State),
    s.mem.cells.wf = true → outWf (execUvloShutdownComplete s) = true := by
  intros; simp [execUvloShutdownComplete, *]

@[simp] theorem execFsin_wf : ∀ (c : Fin 8) (s : State), s.mem.cells.wf = true → outWf (execFsin c s) = true := by
  intros; simp [execFsin, *]

@[simp] theorem execErrAlarmAck_wf : ∀ (r : Req) (s : State),
    s.mem.cells.wf = true → outWf (execErrAlarmAck r s) = true := by
  intros; simp [execErrAlarmAck, *]

@[simp] theorem execFdiv_wf : ∀ (c : Fin 8) (s : State), s.mem.cells.wf = true → outWf (execFdiv c s) = true := by
  intros; simp [execFdiv, *]

@[simp] theorem execTxnStatus_wf : ∀ (r : Req) (id : Nat) (s : State),
    s.mem.cells.wf = true → outWf (execTxnStatus r id s) = true := by
  intros; simp [execTxnStatus, *]

@[simp] theorem execFabs_wf : ∀ (c : Fin 8) (s : State), s.mem.cells.wf = true → outWf (execFabs c s) = true := by
  intros; simp [execFabs, *]

@[simp] theorem execRingTailWrite_wf : ∀ (r : Req) (ring : Fin 64) (v : Nat) (s : State),
    s.mem.cells.wf = true → outWf (execRingTailWrite r ring v s) = true := by
  intros; simp [execRingTailWrite, *]

@[simp] theorem execTxnAdd_wf : ∀ (r : Req) (id : Nat) (items : List Item) (s : State),
    s.mem.cells.wf = true → outWf (execTxnAdd r id items s) = true := by
  intros; simp [execTxnAdd, *]

@[simp] theorem execOwnerCertWrite_wf : ∀ (r : Req) (first last : Bool) (other : Fin 64) (offset total : Nat) (data : List (BitVec 8)) (s : State),
    s.mem.cells.wf = true → outWf (execOwnerCertWrite r first last other offset total data s) = true := by
  intros; simp [execOwnerCertWrite, *]

@[simp] theorem execBlobRead_wf : ∀ (r : Req) (addr offset most : Nat) (s : State),
    s.mem.cells.wf = true → outWf (execBlobRead r addr offset most s) = true := by
  intros; simp [execBlobRead, *]

@[simp] theorem execCall_wf : ∀ (c : Fin 8) (s : State), s.mem.cells.wf = true → outWf (execCall c s) = true := by
  intros; simp [execCall, *]

@[simp] theorem execVinUndervoltage_wf : ∀ (s : State),
    s.mem.cells.wf = true → outWf (execVinUndervoltage s) = true := by
  intros; unfold execVinUndervoltage; (repeat' split) <;> simp [*]

@[simp] theorem execDomAdjust_wf : ∀ (r : Req) (d : Fin 2) (v : Int) (s : State),
    s.mem.cells.wf = true → outWf (execDomAdjust r d v s) = true := by
  intros; simp [execDomAdjust, *]

@[simp] theorem State.heldValues_wf (s : State) (h : Held) (more : State → List (Nat × Nat)) (f : State →
    State) (hs : s.mem.cells.wf = true) (hf : (f s).mem.cells.wf = true) : (s.heldValues h more f).mem.cells.wf =
    true := by
  unfold State.heldValues; split
  · simp [hs]
  · exact hf

@[simp] theorem execYield_wf : ∀ (c : Fin 8) (s : State), s.mem.cells.wf = true → outWf (execYield c s) = true := by
  intros; simp [execYield, *]

@[simp] theorem execPauseExpire_wf : ∀ (port : Fin 7) (s : State),
    s.mem.cells.wf = true → outWf (execPauseExpire port s) = true := by
  intros; simp [execPauseExpire, *]

@[simp] theorem execPersistReplayDone_wf : ∀ (s : State),
    s.mem.cells.wf = true → outWf (execPersistReplayDone s) = true := by
  intros; simp [execPersistReplayDone, *]

@[simp] theorem State.rxStore_wf (s : State) (r n k : Nat) (l : List Byte) (h : s.mem.cells.wf =
    true) : (s.rxStore r n k l).1.mem.cells.wf = true := by
  induction n generalizing s k l with
  | zero => exact h
  | succ n ih => rw [State.rxStore]; simp only []; (repeat' split) <;> simp [ih, h]

@[simp] theorem State.rxWriteBack_wf : ∀ (s : State) (ring filter : Nat) (f : List Byte) (stamp : Nat)
    (first last : Bool) (p : RxPart),
    s.mem.cells.wf = true → (State.rxWriteBack s ring filter f stamp first last p).mem.cells.wf = true := by
  intros; simp [State.rxWriteBack, *]

@[simp] theorem State.rxWriteAll_wf : ∀ (s : State) (ring filter : Nat) (f : List Byte) (stamp lastK : Nat)
    (x0 : Bool) (x1 : List RxPart),
    s.mem.cells.wf = true → (State.rxWriteAll s ring filter f stamp lastK x0 x1).mem.cells.wf = true := by
  intro s ring filter f stamp lastK x0 x1 h0; fun_induction State.rxWriteAll s ring filter f stamp lastK x0 x1 <;>
    simp_all

@[simp] theorem State.deliverRing_wf : ∀ (s : State) (ring filter : Nat) (f : List Byte) (lt : Int),
    s.mem.cells.wf = true → (State.deliverRing s ring filter f lt).mem.cells.wf = true := by
  intros; simp [State.deliverRing, *]

@[simp] theorem execFrameReceive_wf : ∀ (port : Fin 7) (fcsOk : Bool) (f : List Byte) (lt : Int) (s : State),
    s.mem.cells.wf = true → outWf (execFrameReceive port fcsOk f lt s) = true := by
  intros; unfold execFrameReceive; simp only []; (repeat' (first | split | (refine foldl_wf _ _ _ ?_ ?_ <;>
    intros))) <;> simp [*]

@[simp] theorem execFadd_wf : ∀ (c : Fin 8) (s : State), s.mem.cells.wf = true → outWf (execFadd c s) = true := by
  intros; simp [execFadd, *]

@[simp] theorem execOverrun_wf : ∀ (c : Fin 8) (s : State),
    s.mem.cells.wf = true → outWf (execOverrun c s) = true := by
  intros; unfold execOverrun; (repeat' split) <;> simp [*]

@[simp] theorem execAadd_wf : ∀ (c : Fin 8) (s : State), s.mem.cells.wf = true → outWf (execAadd c s) = true := by
  intros; simp [execAadd, *]

@[simp] theorem execCheckpoint_wf : ∀ (f : LaceIn) (block offset total : Nat) (data : List Byte) (whole : Option Checkpoint)
    (s : State),
    s.mem.cells.wf = true → outWf (execCheckpoint f block offset total data whole s) = true := by
  intros; unfold execCheckpoint; (repeat' split) <;> simp [*]

@[simp] theorem execAldf_wf : ∀ (c : Fin 8) (s : State), s.mem.cells.wf = true → outWf (execAldf c s) = true := by
  intros; simp [execAldf, *]

@[simp] theorem execDescribe_wf : ∀ (r : Req) (addr start : Nat) (next : Bool) (s : State),
    s.mem.cells.wf = true → outWf (execDescribe r addr start next s) = true := by
  intros; simp [execDescribe, *]

@[simp] theorem execMtrReset_wf : ∀ (r : Req) (s : State),
    s.mem.cells.wf = true → outWf (execMtrReset r s) = true := by
  intros; simp [execMtrReset, *]

@[simp] theorem execFlog10_wf : ∀ (c : Fin 8) (s : State), s.mem.cells.wf = true → outWf (execFlog10 c s) = true := by
  intros; simp [execFlog10, *]

@[simp] theorem execMov_wf : ∀ (c : Fin 8) (s : State), s.mem.cells.wf = true → outWf (execMov c s) = true := by
  intros; simp [execMov, *]

@[simp] theorem execDmaStop_wf : ∀ (r : Req) (c : Fin 8) (s : State),
    s.mem.cells.wf = true → outWf (execDmaStop r c s) = true := by
  intros; simp [execDmaStop, *]

@[simp] theorem execTxnOpen_wf : ∀ (r : Req) (scope rung : Nat) (s : State),
    s.mem.cells.wf = true → outWf (execTxnOpen r scope rung s) = true := by
  intros; simp [execTxnOpen, *]

@[simp] theorem execGraverDeadline_wf : ∀ (n : Fin 4096) (k : Nat) (s : State),
    s.mem.cells.wf = true → outWf (execGraverDeadline n k s) = true := by
  intros; simp only [execGraverDeadline, *]; (repeat' split) <;> simp [*]

@[simp] theorem execFmax_wf : ∀ (c : Fin 8) (s : State), s.mem.cells.wf = true → outWf (execFmax c s) = true := by
  intros; simp [execFmax, *]

@[simp] theorem execNresetRequest_wf : ∀ (s : State), s.mem.cells.wf = true → outWf (execNresetRequest s) = true := by
  intros; simp [execNresetRequest, *]

@[simp] theorem execThermalTrip_wf : ∀ (s : State), s.mem.cells.wf = true → outWf (execThermalTrip s) = true := by
  intros; simp [execThermalTrip, *]

@[simp] theorem execWrite_wf : ∀ (r : Req) (items : List Item) (target : Nat) (s : State),
    s.mem.cells.wf = true → outWf (execWrite r items target s) = true := by
  intros; simp [execWrite, *]

@[simp] theorem execWriteStaged_wf : ∀ (r : Req) (items : List Item) (s : State),
    s.mem.cells.wf = true → outWf (execWriteStaged r items s) = true := by
  intros; simp [execWriteStaged, *]

@[simp] theorem execSubscribe_wf : ∀ (r : Req) (sub addr mode interval : Nat) (s : State),
    s.mem.cells.wf = true → outWf (execSubscribe r sub addr mode interval s) = true := by
  intros; simp [execSubscribe, *]

@[simp] theorem execBlobWrite_wf : ∀ (r : Req) (addr : Nat) (first last : Bool) (other : Fin 64) (offset total : Nat) (data : List (BitVec 8)) (s : State),
    s.mem.cells.wf = true → outWf (execBlobWrite r addr first last other offset total data s) = true := by
  intros; simp [execBlobWrite, *]

@[simp] theorem execSesCertRead_wf : ∀ (r : Req) (id offset len : Nat) (s : State),
    s.mem.cells.wf = true → outWf (execSesCertRead r id offset len s) = true := by
  intros; simp [execSesCertRead, *]

@[simp] theorem execSesCertSend_wf : ∀ (r : Req) (id offset total : Nat) (data : List (BitVec 8)) (s : State),
    s.mem.cells.wf = true → outWf (execSesCertSend r id offset total data s) = true := by
  intros; simp [execSesCertSend, *]

@[simp] theorem execSesPing_wf : ∀ (r : Req) (s : State), s.mem.cells.wf = true → outWf (execSesPing r s) = true := by
  intros; simp [execSesPing, *]

@[simp] theorem execSesClose_wf : ∀ (r : Req) (reason : Nat) (s : State),
    s.mem.cells.wf = true → outWf (execSesClose r reason s) = true := by
  intros; simp [execSesClose, *]

@[simp] theorem execSessionCloseWrite_wf : ∀ (r : Req) (id : Nat) (s : State),
    s.mem.cells.wf = true → outWf (execSessionCloseWrite r id s) = true := by
  intros; simp [execSessionCloseWrite, *]

@[simp] theorem execPersistFlush_wf : ∀ (r : Req) (s : State),
    s.mem.cells.wf = true → outWf (execPersistFlush r s) = true := by
  intros; simp [execPersistFlush, *]

@[simp] theorem execPersistReset_wf : ∀ (r : Req) (s : State),
    s.mem.cells.wf = true → outWf (execPersistReset r s) = true := by
  intros; simp [execPersistReset, *]

@[simp] theorem execTbIncrementWrite_wf : ∀ (r : Req) (v : Nat) (s : State),
    s.mem.cells.wf = true → outWf (execTbIncrementWrite r v s) = true := by
  intros; simp [execTbIncrementWrite, *]

@[simp] theorem execDomRateWrite_wf : ∀ (r : Req) (d : Fin 2) (v : Int) (s : State),
    s.mem.cells.wf = true → outWf (execDomRateWrite r d v s) = true := by
  intros; simp [execDomRateWrite, *]

@[simp] theorem execDomEnableWrite_wf : ∀ (r : Req) (d : Fin 2) (v : Bool) (s : State),
    s.mem.cells.wf = true → outWf (execDomEnableWrite r d v s) = true := by
  intros; simp [execDomEnableWrite, *]

@[simp] theorem execEvRearm_wf : ∀ (r : Req) (pin : Fin 6) (field : Fin 3) (v : Nat) (s : State),
    s.mem.cells.wf = true → outWf (execEvRearm r pin field v s) = true := by
  intros; simp [execEvRearm, *]

@[simp] theorem execEvPop_wf : ∀ (r : Req) (pin : Fin 6) (s : State),
    s.mem.cells.wf = true → outWf (execEvPop r pin s) = true := by
  intros; simp [execEvPop, *]

@[simp] theorem execLaunch_wf : ∀ (r : Fin 24) (s : State),
    s.mem.cells.wf = true → outWf (execLaunch r s) = true := by
  intros; unfold execLaunch; simp only []; (repeat' (first | split | (refine foldl_wf _ _ _ ?_ ?_ <;> intros)))
    <;> simp [*]

@[simp] theorem execTxnCommit_wf : ∀ (r : Req) (id : Nat) (s : State),
    s.mem.cells.wf = true → outWf (execTxnCommit r id s) = true := by
  intros; simp [execTxnCommit, *]

@[simp] theorem execTxnAbort_wf : ∀ (r : Req) (id : Nat) (s : State),
    s.mem.cells.wf = true → outWf (execTxnAbort r id s) = true := by
  intros; simp [execTxnAbort, *]

@[simp] theorem execTxnResolveAbort_wf : ∀ (r : Req) (id : Nat) (s : State),
    s.mem.cells.wf = true → outWf (execTxnResolveAbort r id s) = true := by
  intros; simp [execTxnResolveAbort, *]

@[simp] theorem execNop_wf : ∀ (c : Fin 8) (s : State), s.mem.cells.wf = true → outWf (execNop c s) = true := by
  intros; simp [execNop, *]

@[simp] theorem execMsu_wf : ∀ (c : Fin 8) (s : State), s.mem.cells.wf = true → outWf (execMsu c s) = true := by
  intros; simp [execMsu, *]

@[simp] theorem execFma_wf : ∀ (c : Fin 8) (s : State), s.mem.cells.wf = true → outWf (execFma c s) = true := by
  intros; simp [execFma, *]

@[simp] theorem execFms_wf : ∀ (c : Fin 8) (s : State), s.mem.cells.wf = true → outWf (execFms c s) = true := by
  intros; simp [execFms, *]

@[simp] theorem execDfmaFadd_wf : ∀ (c : Fin 8) (s : State),
    s.mem.cells.wf = true → outWf (execDfmaFadd c s) = true := by
  intros; simp [execDfmaFadd, *]

@[simp] theorem execIadd_wf : ∀ (c : Fin 8) (s : State), s.mem.cells.wf = true → outWf (execIadd c s) = true := by
  intros; simp [execIadd, *]

@[simp] theorem execIsub_wf : ∀ (c : Fin 8) (s : State), s.mem.cells.wf = true → outWf (execIsub c s) = true := by
  intros; simp [execIsub, *]

@[simp] theorem execFneg_wf : ∀ (c : Fin 8) (s : State), s.mem.cells.wf = true → outWf (execFneg c s) = true := by
  intros; simp [execFneg, *]

@[simp] theorem execFcmp_wf : ∀ (c : Fin 8) (s : State), s.mem.cells.wf = true → outWf (execFcmp c s) = true := by
  intros; simp [execFcmp, *]

@[simp] theorem execFtoi_wf : ∀ (c : Fin 8) (s : State), s.mem.cells.wf = true → outWf (execFtoi c s) = true := by
  intros; simp [execFtoi, *]

@[simp] theorem execItof_wf : ∀ (c : Fin 8) (s : State), s.mem.cells.wf = true → outWf (execItof c s) = true := by
  intros; simp [execItof, *]

@[simp] theorem execFsqrt_wf : ∀ (c : Fin 8) (s : State), s.mem.cells.wf = true → outWf (execFsqrt c s) = true := by
  intros; simp [execFsqrt, *]

@[simp] theorem execFpow_wf : ∀ (c : Fin 8) (s : State), s.mem.cells.wf = true → outWf (execFpow c s) = true := by
  intros; simp [execFpow, *]

@[simp] theorem execImm_wf : ∀ (c : Fin 8) (s : State), s.mem.cells.wf = true → outWf (execImm c s) = true := by
  intros; simp [execImm, *]

@[simp] theorem execAclr_wf : ∀ (c : Fin 8) (s : State), s.mem.cells.wf = true → outWf (execAclr c s) = true := by
  intros; simp [execAclr, *]

@[simp] theorem execAmov_wf : ∀ (c : Fin 8) (s : State), s.mem.cells.wf = true → outWf (execAmov c s) = true := by
  intros; simp [execAmov, *]

@[simp] theorem execAsub_wf : ∀ (c : Fin 8) (s : State), s.mem.cells.wf = true → outWf (execAsub c s) = true := by
  intros; simp [execAsub, *]

@[simp] theorem execAstf_wf : ∀ (c : Fin 8) (s : State), s.mem.cells.wf = true → outWf (execAstf c s) = true := by
  intros; simp [execAstf, *]

@[simp] theorem execBr_wf : ∀ (c : Fin 8) (s : State), s.mem.cells.wf = true → outWf (execBr c s) = true := by
  intros; simp [execBr, *]

@[simp] theorem execRet_wf : ∀ (c : Fin 8) (s : State), s.mem.cells.wf = true → outWf (execRet c s) = true := by
  intros; simp [execRet, *]

@[simp] theorem execLoopCountExpire_wf : ∀ (c : Fin 8) (level : Fin 2) (s : State),
    s.mem.cells.wf = true → outWf (execLoopCountExpire c level s) = true := by
  intros; unfold execLoopCountExpire; (repeat' split) <;> simp [*]

@[simp] theorem execExit_wf : ∀ (c : Fin 8) (s : State), s.mem.cells.wf = true → outWf (execExit c s) = true := by
  intros; unfold execExit; (repeat' split) <;> simp [*]

@[simp] theorem execWait_wf : ∀ (c : Fin 8) (s : State), s.mem.cells.wf = true → outWf (execWait c s) = true := by
  intros; simp [execWait, *]

@[simp] theorem execTrap_wf : ∀ (c : Fin 8) (s : State), s.mem.cells.wf = true → outWf (execTrap c s) = true := by
  intros; simp [execTrap, *]

@[simp] theorem execForcedSwitch_wf : ∀ (c : Fin 8) (s : State),
    s.mem.cells.wf = true → outWf (execForcedSwitch c s) = true := by
  intros; unfold execForcedSwitch; (repeat' split) <;> simp [*]

@[simp] theorem execIdacQPush_wf : ∀ (r : Req) (l : Fin 16) (s : State),
    s.mem.cells.wf = true → outWf (execIdacQPush r l s) = true := by
  intros; simp [execIdacQPush, *]

@[simp] theorem execIdacQClear_wf : ∀ (r : Req) (l : Fin 16) (s : State),
    s.mem.cells.wf = true → outWf (execIdacQClear r l s) = true := by
  intros; simp [execIdacQClear, *]

@[simp] theorem execIdacPowerupWrite_wf : ∀ (r : Req) (l : Fin 16) (v : Nat) (s : State),
    s.mem.cells.wf = true → outWf (execIdacPowerupWrite r l v s) = true := by
  intros; simp [execIdacPowerupWrite, *]

@[simp] theorem execJournalAck_wf (f : LaceIn) (index : Nat) (s : State) (h : s.mem.cells.wf = true) :
    outWf (execJournalAck f index s) = true := by
  unfold execJournalAck; rw [outWf_next]; refine State.laceFrame_wf _ _ _ _ _ ?_ h; (repeat' split) <;> simp [h]

@[simp] theorem execLaceLaneDown_wf : ∀ (lane : Fin 2) (s : State),
    s.mem.cells.wf = true → outWf (execLaceLaneDown lane s) = true := by
  intros; simp [execLaceLaneDown, *]

@[simp] theorem execTwinRejoin_wf : ∀ (r : Req) (s : State),
    s.mem.cells.wf = true → outWf (execTwinRejoin r s) = true := by
  intros; simp [execTwinRejoin, *]

@[simp] theorem execBurnishRead_wf : ∀ (m : MemUnit) (word : Nat) (flips : BitVec 80) (newer lastOfPass : Bool)
    (s : State),
    s.mem.cells.wf = true → outWf (execBurnishRead m word flips newer lastOfPass s) = true := by
  intros; unfold execBurnishRead; simp only []; (repeat' (first | split | (refine foldl_wf _ _ _ ?_ ?_ <;> intros)))
    <;> simp [*]

@[simp] theorem execDmaStart_wf : ∀ (r : Req) (c : Fin 8) (s : State),
    s.mem.cells.wf = true → outWf (execDmaStart r c s) = true := by
  intros; simp [execDmaStart, *]

@[simp] theorem execDmaDescriptorDone_wf : ∀ (c : Fin 8) (s : State),
    s.mem.cells.wf = true → outWf (execDmaDescriptorDone c s) = true := by
  intros; unfold execDmaDescriptorDone; simp only []; (repeat' (first | split | (refine foldl_wf _ _ _ ?_ ?_ <;>
    intros))) <;> simp [*]

@[simp] theorem execDmaReset_wf : ∀ (r : Req) (c : Fin 8) (s : State),
    s.mem.cells.wf = true → outWf (execDmaReset r c s) = true := by
  intros; simp [execDmaReset, *]

@[simp] theorem execShankFault_wf : ∀ (s : State), s.mem.cells.wf = true → outWf (execShankFault s) = true := by
  intros; simp [execShankFault, *]

@[simp] theorem execLogClear_wf : ∀ (r : Req) (s : State),
    s.mem.cells.wf = true → outWf (execLogClear r s) = true := by
  intros; simp [execLogClear, *]

@[simp] theorem execOwnerClear_wf : ∀ (r : Req) (s : State),
    s.mem.cells.wf = true → outWf (execOwnerClear r s) = true := by
  intros; simp [execOwnerClear, *]

@[simp] theorem execErrFaultClear_wf : ∀ (r : Req) (s : State),
    s.mem.cells.wf = true → outWf (execErrFaultClear r s) = true := by
  intros; simp [execErrFaultClear, *]

end Sys2Proof.Machine
end

