-- ==== Sys2Proof/Laws/Requests.lean ====
section
/-! SUPPORT. What a request comes to: where the objects with commands of their own lie, what a served request answers, what
a WRITE of one value does, and that a reply changes nothing but the protocol's own state. -/

namespace Sys2Proof.Machine

open Sys2Proof Host

/-! ### Where objects lie -/

theorem objAt_ring_tail : ∀ i : Fin 64, objAt (D.ring_tail.addr i.val) = some (D.ring_tail, i.val, 0) := by decide +kernel

theorem objAt_runControl : ∀ o ∈ runControls, ∀ i : Fin 24, i.val < o.count →
    objAt (o.addr i.val) = some (o, i.val, 0) ∧ governor (o.addr i.val) = none ∧ oneOf o runControls = true ∧
      o.effect = .live ∧ o.persist = false ∧ o.addr i.val ≠ D.persist_flush.base ∧ o.acc = .rw ∧ o.ty ≠ .blob := by
  decide +kernel

theorem objAt_single : ∀ o ∈ [D.tb_increment, D.txn_resolve_commit, D.txn_resolve_abort, D.mtr_reset, D.twin_rejoin,
    D.dmc_retrain, D.log_window_start, D.log_clear, D.owner_clear, D.err_alarm_ack, D.err_fault_clear, D.session_close,
    D.persist_flush, D.persist_reset], objAt (o.addr 0) = some (o, 0, 0) := by decide +kernel

theorem objAt_domain : ∀ o ∈ [D.dom_rate, D.dom_adjust, D.dom_enable], ∀ i : Fin 2,
    objAt (o.addr i.val) = some (o, i.val, 0) := by decide +kernel

theorem objAt_pin : ∀ o ∈ [D.ev_mode, D.ev_start, D.ev_start_sample, D.ev_pop], ∀ i : Fin 6,
    objAt (o.addr i.val) = some (o, i.val, 0) := by decide +kernel

theorem objAt_idac : ∀ o ∈ [D.idac_value, D.idac_q_push, D.idac_q_clear, D.idac_powerup], ∀ i : Fin 16,
    objAt (o.addr i.val) = some (o, i.val, 0) := by decide +kernel

theorem objAt_dma : ∀ o ∈ [D.dma_start, D.dma_stop, D.dma_reset], ∀ i : Fin 8,
    objAt (o.addr i.val) = some (o, i.val, 0) := by decide +kernel

/-! ### What an admitted request comes to -/

/-- An arrival changes the protocol's state alone. -/
theorem State.arrived_only (s : State) (r : Req) : ∃ m, s.arrived r = { s with mdap := m } := by
  simp only [State.arrived]; split <;> split <;> exact ⟨_, rfl⟩

@[simp] theorem State.arrived_dict (s : State) (r : Req) : (s.arrived r).dict = s.dict := by
  obtain ⟨m, e⟩ := s.arrived_only r; rw [e]
@[simp] theorem State.arrived_blobs (s : State) (r : Req) : (s.arrived r).blobs = s.blobs := by
  obtain ⟨m, e⟩ := s.arrived_only r; rw [e]
@[simp] theorem State.arrived_err (s : State) (r : Req) : (s.arrived r).err = s.err := by
  obtain ⟨m, e⟩ := s.arrived_only r; rw [e]
@[simp] theorem State.arrived_hist (s : State) (r : Req) : (s.arrived r).hist = s.hist := by
  obtain ⟨m, e⟩ := s.arrived_only r; rw [e]
@[simp] theorem State.arrived_time (s : State) (r : Req) : (s.arrived r).time = s.time := by
  obtain ⟨m, e⟩ := s.arrived_only r; rw [e]
@[simp] theorem State.arrived_timeline (s : State) (r : Req) : (s.arrived r).timeline = s.timeline := by
  obtain ⟨m, e⟩ := s.arrived_only r; rw [e]
@[simp] theorem State.arrived_cu (s : State) (r : Req) : (s.arrived r).cu = s.cu := by
  obtain ⟨m, e⟩ := s.arrived_only r; rw [e]
@[simp] theorem State.arrived_render (s : State) (r : Req) : (s.arrived r).render = s.render := by
  obtain ⟨m, e⟩ := s.arrived_only r; rw [e]
@[simp] theorem State.arrived_svc (s : State) (r : Req) : (s.arrived r).svc = s.svc := by
  obtain ⟨m, e⟩ := s.arrived_only r; rw [e]
@[simp] theorem State.arrived_nand (s : State) (r : Req) : (s.arrived r).nand = s.nand := by
  obtain ⟨m, e⟩ := s.arrived_only r; rw [e]
@[simp] theorem State.arrived_power (s : State) (r : Req) : (s.arrived r).power = s.power := by
  obtain ⟨m, e⟩ := s.arrived_only r; rw [e]
@[simp] theorem State.arrived_io (s : State) (r : Req) : (s.arrived r).io = s.io := by
  obtain ⟨m, e⟩ := s.arrived_only r; rw [e]
@[simp] theorem State.arrived_mem (s : State) (r : Req) : (s.arrived r).mem = s.mem := by
  obtain ⟨m, e⟩ := s.arrived_only r; rw [e]
@[simp] theorem State.arrived_ports (s : State) (r : Req) : (s.arrived r).ports = s.ports := by
  obtain ⟨m, e⟩ := s.arrived_only r; rw [e]
@[simp] theorem State.arrived_twin (s : State) (r : Req) : (s.arrived r).twin = s.twin := by
  obtain ⟨m, e⟩ := s.arrived_only r; rw [e]
@[simp] theorem State.arrived_fabric (s : State) (r : Req) : (s.arrived r).fabric = s.fabric := by
  obtain ⟨m, e⟩ := s.arrived_only r; rw [e]
@[simp] theorem State.arrived_graver (s : State) (r : Req) : (s.arrived r).graver = s.graver := by
  obtain ⟨m, e⟩ := s.arrived_only r; rw [e]
@[simp] theorem State.arrived_wire (s : State) (r : Req) : (s.arrived r).wire = s.wire := by
  obtain ⟨m, e⟩ := s.arrived_only r; rw [e]
@[simp] theorem State.arrived_free (s : State) (r : Req) : (s.arrived r).free = s.free := by
  obtain ⟨m, e⟩ := s.arrived_only r; rw [e]
@[simp] theorem State.arrived_pending (s : State) (r : Req) : (s.arrived r).pending = s.pending := by
  obtain ⟨m, e⟩ := s.arrived_only r; rw [e]

@[simp] theorem State.arrived_get (s : State) (r : Req) (o : Obj) (i k : Nat) :
    (s.arrived r).get o i k = s.get o i k := by
  obtain ⟨m, e⟩ := s.arrived_only r; rw [e]; rfl

/-- The frame of an admitted request leaves its transport. -/
theorem received_of_admits (s : State) (r : Req) (m : Msg) (h : s.admits r m = true) :
    s.received r.onPort m = some (if r.onPort.src = .spi then
      { s with mdap := { s.mdap with spiIn := s.mdap.spiIn.drop 1 } } else s) := by
  simp only [State.admits, Bool.and_eq_true, decide_eq_true_eq, Bool.or_eq_true] at h
  obtain ⟨⟨⟨⟨⟨⟨⟨⟨⟨⟨h1, h2⟩, h3⟩, -⟩, -⟩, -⟩, -⟩, -⟩, -⟩, -⟩, -⟩ := h
  unfold State.received
  rw [if_neg (by simp [h1]; omega)]
  by_cases hs : r.onPort.src = .spi
  · rw [if_pos hs]
    cases hl : s.mdap.spiIn with
    | nil =>
      rw [if_pos (by simp)]
      exact congrArg some (congrArg (fun l => ({ s with mdap := { s.mdap with spiIn := l } } : State)) hl)
    | cons f l =>
      have h3' : s.carries r.onPort m f = true := by simpa [hs, hl] using h3
      rw [if_neg (by simp [hs]), List.dropWhile_cons_of_neg (by simp [h3'])]
      rfl
  · rw [if_neg hs, if_pos (by simp [hs])]

/-- An admitted request is served, for who asks, in the state that its arrival leaves. -/
theorem answer_of_admits (s : State) (r : Req) (m : Msg) (h : s.admits r m = true) :
    s.answer r m = (s.arrived r).serveRequest r.onPort (s.asker r) m := by
  have hr := received_of_admits s r m h
  simp only [State.admits, Bool.and_eq_true, decide_eq_true_eq, Bool.or_eq_true] at h
  obtain ⟨⟨⟨⟨⟨⟨⟨⟨⟨⟨-, -⟩, -⟩, h4⟩, h5⟩, h6⟩, h7⟩, h8⟩, h9⟩, h10⟩, h11⟩ := h
  simp only [State.answer, hr]
  generalize ht : (if r.onPort.src = .spi then
      ({ s with mdap := { s.mdap with spiIn := s.mdap.spiIn.drop 1 } } : State) else s) = t at *
  have ha : t.accepting = false := by subst ht; split <;> simpa [State.accepting] using h4
  have hb : ∀ q, t.requestBody q m = s.requestBody q m := by subst ht; intro q; split <;> rfl
  have hn : t.session r.onPort.session = s.session r.onPort.session := by subst ht; split <;> rfl
  have hl : t.time = s.time := by subst ht; split <;> rfl
  have hu : s.arrived r = ((match if r.onPort.isProtected then t.session r.onPort.session else none with
      | some x => t.putSession (x.accept r.onPort.seq t.time.local_)
      | none => t) : State).heard r.onPort := by
    simp only [State.arrived, ht]
    try rfl
  simp only [ha, Bool.false_and, Bool.false_eq_true, if_false, State.dispatch]
  have hp : (if r.onPort.isProtected then t.checkTag r.onPort (t.requestBody r.onPort m) else (t, true)) =
      ((match if r.onPort.isProtected then t.session r.onPort.session else none with
        | some x => t.putSession (x.accept r.onPort.seq t.time.local_)
        | none => t), true) := by
    by_cases hq : r.onPort.isProtected = true
    · simp only [hq, Bool.not_true, Bool.false_eq_true, false_or] at h6
      rw [if_pos hq, if_pos hq, hb, hn]
      cases hx : s.session r.onPort.session with
      | none => simp [hx] at h6
      | some x =>
        simp only [hx, Option.any_some, Bool.and_eq_true] at h6
        simp only [State.checkTag, hn, hx, h6.1, h6.2, Bool.not_true, Bool.false_eq_true, if_false]
    · rw [if_neg hq, if_neg hq]
  obtain ⟨who, hw⟩ := Option.isSome_iff_exists.mp h9
  have hk : (s.arrived r).keptReply r.onPort (kindOf m) = none := by simpa using h7
  have hz : s.asker r = who := by simp [State.asker, hw]
  have hf : (s.arrived r).inFlight r.onPort (kindOf m) = false := by simpa using h8
  have he : t.examine r.onPort m = .serve (s.arrived r) r.onPort who := by
    unfold State.examine
    rw [if_neg (by simpa using h5)]
    simp only [hp, ← hu, Bool.not_true, Bool.false_eq_true, if_false, hk, hw, hf]
    rw [if_neg]
    rw [hz] at h10
    simp only [Bool.or_eq_true, decide_eq_true_eq, Bool.and_eq_true, Bool.not_eq_true', not_or, not_and]
    refine ⟨by simpa using h10, fun a => ?_⟩
    obtain ⟨a1, a2⟩ := a
    rcases h11 with (b | b) | b
    · simp [a1] at b
    · simp [a2] at b
    · simp [b]
  rw [he, hz]

/-- What a served request does and answers. -/
theorem answer_of_serves (s : State) (r : Req) (m : Msg) (h : s.serves r m) :
    s.answer r m = (s.arrived r).finishRequest r.onPort (s.asker r) m := by
  have hm : (s.arrived r).mirrored = false := by
    have : (s.arrived r).mirrored = s.mirrored := by
      simp only [State.arrived]
      split <;> (split <;> rfl)
    rw [this]; exact h.2
  rw [answer_of_admits s r m h.1]
  simp only [State.serveRequest, State.needsPartner, hm, Bool.not_false, if_true]

theorem writeOne_of_takes (s : State) (r : Req) (o : Obj) (i v : Nat)
    (h : s.takes r o i v) (ho : objAt (o.addr i) = some (o, i, 0))
    (hs : (o.acc == .wo && o.effect == .staged) = false) (hp : o.addr i ≠ D.mdap_udp_port.base) :
    let u := s.arrived r
    s.writeOne r o i v = (u.acceptItem ⟨o.addr i, tyCode o.ty, v, 0⟩).reply r.onPort mtWrite
      [flushed u (u.acceptItem ⟨o.addr i, tyCode o.ty, v, 0⟩) [⟨o.addr i, tyCode o.ty, v, 0⟩]] := by
  intro u
  obtain ⟨h1, h2⟩ := h
  have e : refusal [⟨o.addr i, tyCode o.ty, v, 0⟩]
      (u.checkTarget (s.asker r) ([(⟨o.addr i, tyCode o.ty, v, 0⟩ : Item)].length == 1) 0) = none := by
    simp [refusal, firstFailure, State.checkTarget, u, h2]
  simp only [State.writeOne, answer_of_serves _ _ _ h1, State.finishRequest, State.perform]
  rw [show s.arrived r = u from rfl, e]
  simp only [State.writeNow, stagedCommand,
    ho, hs, Bool.false_eq_true, if_false, State.acceptItems, List.foldl_cons, List.foldl_nil, State.targeted]
  simp [kindOf, hp]

/-- A write-only object that takes effect at once: its command. -/
theorem writeOne_command (s : State) (r : Req) (o : Obj) (i v : Nat)
    (h : s.takes r o i v) (ho : objAt (o.addr i) = some (o, i, 0)) (ha : o.acc = .wo)
    (he : o.effect = .liveSample) (hf : o.addr i ≠ D.persist_flush.base) (hp : o.addr i ≠ D.mdap_udp_port.base) :
    let u := s.arrived r
    s.writeOne r o i v = (u.command u.blockNow o i v).reply r.onPort mtWrite [scOk] := by
  intro u
  rw [writeOne_of_takes _ _ _ _ _ h ho (by simp [he]) hp]
  have : u.acceptItem ⟨o.addr i, tyCode o.ty, v, 0⟩ = u.command u.blockNow o i v := by
    simp [State.acceptItem, ho, ha, State.acceptValue, he, State.applyValue]
  rw [show s.arrived r = u from rfl, this]; simp [flushed, hf]

/-- A readable object that takes effect at once: it is assigned, and the machine reacts. -/
theorem writeOne_assign (s : State) (r : Req) (o : Obj) (i v : Nat)
    (h : s.takes r o i v) (ho : objAt (o.addr i) = some (o, i, 0)) (ha : o.acc = .rw)
    (he : o.effect = .liveSample) (ht : o.ty ≠ .blob) (hb : o.base ≠ D.lst_status.base)
    (hi : o.base ≠ D.persist_image.base) (hf : o.addr i ≠ D.persist_flush.base) (hp : o.addr i ≠ D.mdap_udp_port.base)
    (w : State) (hw : (s.arrived r).persistValue o i 0 v = w) :
    let u := s.arrived r
    s.writeOne r o i v = ((w.assign u.blockNow o i 0 v).react u.blockNow o i (w.get o i)
      ((w.assign u.blockNow o i 0 v).get o i != w.get o i) []).reply r.onPort mtWrite [scOk] := by
  intro u
  rw [writeOne_of_takes _ _ _ _ _ h ho (by simp [he]) hp]
  have hk : w.blockNow = u.blockNow := by subst hw; unfold State.persistValue; split <;> rfl
  have : u.acceptItem ⟨o.addr i, tyCode o.ty, v, 0⟩ = (w.assign u.blockNow o i 0 v).react u.blockNow o i (w.get o i)
      ((w.assign u.blockNow o i 0 v).get o i != w.get o i) [] := by
    simp [State.acceptItem, ho, ha, State.acceptValue, he, ht, show u.persistValue o i 0 v = w from hw,
      State.applyValue, hb, hi, hk]
  rw [show s.arrived r = u from rfl, this]; simp [flushed, hf]

/-! ### A reply changes nothing but the protocol's state -/

theorem State.spiEmit_only (s : State) (f : SpiFrame) :
    ∃ d m, s.spiEmit f = { s with dict := d, mdap := m } ∧
      ∀ a, a ≠ D.hspi_notify_drops.addr 0 → look d a = look s.dict a := by
  unfold State.spiEmit
  dsimp only
  split
  · exact ⟨_, _, rfl, fun _ _ => rfl⟩
  · split
    · exact ⟨_, _, rfl, fun a h => look_put_other _ _ _ _ (Ne.symm h)⟩
    · split
      · exact ⟨_, s.mdap, rfl, fun a h => look_put_other _ _ _ _ (Ne.symm h)⟩
      · exact ⟨_, _, rfl, fun _ _ => rfl⟩

theorem State.frameFor_only (s : State) (session : Nat) (body : List Byte) :
    ∃ m, (s.frameFor session body).1 = { s with mdap := m } := by
  unfold State.frameFor
  split
  · exact ⟨_, rfl⟩
  · exact ⟨_, rfl⟩

theorem State.emit_only (s : State) (src : Source) (session : Nat) (body : List Byte) (notify : Bool) :
    ∃ d m w, s.emit src session body notify = { s with dict := d, mdap := m, wire := w } ∧
      ∀ a, a ≠ D.hspi_notify_drops.addr 0 → look d a = look s.dict a := by
  unfold State.emit
  obtain ⟨m, e⟩ := s.frameFor_only session body
  cases src
  case' udp addr port => generalize hv : s.viaOf (.udp addr port) = via
  case' l2 mac => generalize hv : s.viaOf (.l2 mac) = via
  case spi =>
    obtain ⟨d, m', e', h⟩ := State.spiEmit_only (s.frameFor session body).1 ⟨notify, (s.frameFor session body).2⟩
    refine ⟨d, m', s.wire, ?_, ?_⟩
    · show State.spiEmit _ _ = _
      rw [e', e]
    · rw [e] at h; exact h
  all_goals
    refine ⟨s.dict, m, (⟨via, "MDAP", (s.frameFor session body).2.map fun b => b.toNat⟩ : Sent) :: s.wire, ?_,
      fun _ _ => rfl⟩
    · show State.send _ _ = _
      rw [e]
      subst hv
      rfl

/-- What a reply changes: the protocol's state, the messages sent, and a counter of frames dropped. -/
theorem State.reply_only (s : State) (r : Req) (kind : Nat) (body : List Nat) :
    ∃ d m w, s.reply r kind body = { s with dict := d, mdap := m, wire := w } ∧
      ∀ a, a ≠ D.hspi_notify_drops.addr 0 → look d a = look s.dict a := by
  unfold State.reply
  split
  · exact ⟨s.dict, s.mdap, s.wire, rfl, fun _ _ => rfl⟩
  · obtain ⟨d, m, w, e, h⟩ :=
      State.emit_only (s.keepReply r kind (replyBody kind r.id body)) r.src r.cacheSession (replyBody kind r.id body) false
    exact ⟨d, m, w, e, h⟩

theorem State.reply_look (s : State) (r : Req) (kind : Nat) (body : List Nat) (a : Nat)
    (h : a ≠ D.hspi_notify_drops.addr 0) : look (s.reply r kind body).dict a = look s.dict a := by
  obtain ⟨d, m, w, e, k⟩ := s.reply_only r kind body
  rw [e]; exact k a h

@[simp] theorem State.reply_blobs (s : State) (r : Req) (kind : Nat) (body : List Nat) :
    (s.reply r kind body).blobs = s.blobs := by
  obtain ⟨d, m, w, e, -⟩ := s.reply_only r kind body; rw [e]

@[simp] theorem State.reply_err (s : State) (r : Req) (kind : Nat) (body : List Nat) :
    (s.reply r kind body).err = s.err := by
  obtain ⟨d, m, w, e, -⟩ := s.reply_only r kind body; rw [e]

@[simp] theorem State.reply_time (s : State) (r : Req) (kind : Nat) (body : List Nat) :
    (s.reply r kind body).time = s.time := by
  obtain ⟨d, m, w, e, -⟩ := s.reply_only r kind body; rw [e]

@[simp] theorem State.reply_cu (s : State) (r : Req) (kind : Nat) (body : List Nat) :
    (s.reply r kind body).cu = s.cu := by
  obtain ⟨d, m, w, e, -⟩ := s.reply_only r kind body; rw [e]

@[simp] theorem State.reply_nand (s : State) (r : Req) (kind : Nat) (body : List Nat) :
    (s.reply r kind body).nand = s.nand := by
  obtain ⟨d, m, w, e, -⟩ := s.reply_only r kind body; rw [e]

@[simp] theorem State.reply_power (s : State) (r : Req) (kind : Nat) (body : List Nat) :
    (s.reply r kind body).power = s.power := by
  obtain ⟨d, m, w, e, -⟩ := s.reply_only r kind body; rw [e]

@[simp] theorem State.reply_io (s : State) (r : Req) (kind : Nat) (body : List Nat) :
    (s.reply r kind body).io = s.io := by
  obtain ⟨d, m, w, e, -⟩ := s.reply_only r kind body; rw [e]

@[simp] theorem State.reply_graver (s : State) (r : Req) (kind : Nat) (body : List Nat) :
    (s.reply r kind body).graver = s.graver := by
  obtain ⟨d, m, w, e, -⟩ := s.reply_only r kind body; rw [e]

end Sys2Proof.Machine
end

