-- ==== Sys2Proof/Laws/Steps.lean ====
section
/-! SUPPORT. What the shared operations can do: an occurrence of an error touches the error unit and four objects of
the dictionary and nothing else; driving a current output touches that output alone. -/

namespace Sys2Proof.Machine

open Sys2Proof

/-! ### Error records -/

@[simp] theorem State.raiseRec_blobs (s : State) (area index code : Nat) (sev : Severity) (repeats : Nat) :
    (s.raiseRec area index code sev repeats).blobs = s.blobs := by
  unfold State.raiseRec
  dsimp only
  split <;> split <;> simp [State.set, State.count, State.countSat]

@[simp] theorem State.error_blobs (s : State) (area index code : Nat) (sev : Severity) :
    (s.error area index code sev).blobs = s.blobs := by
  unfold State.error
  repeat' split
  all_goals simp

@[simp] theorem State.raiseRec_hist (s : State) (area index code : Nat) (sev : Severity) (repeats : Nat) :
    (s.raiseRec area index code sev repeats).hist = s.hist := by
  unfold State.raiseRec
  dsimp only
  split <;> split <;> simp [State.set, State.count, State.countSat]

@[simp] theorem State.error_hist (s : State) (area index code : Nat) (sev : Severity) :
    (s.error area index code sev).hist = s.hist := by
  unfold State.error
  repeat' split
  all_goals simp

@[simp] theorem State.raiseRec_time (s : State) (area index code : Nat) (sev : Severity) (repeats : Nat) :
    (s.raiseRec area index code sev repeats).time = s.time := by
  unfold State.raiseRec
  dsimp only
  split <;> split <;> simp [State.set, State.count, State.countSat]

@[simp] theorem State.error_time (s : State) (area index code : Nat) (sev : Severity) :
    (s.error area index code sev).time = s.time := by
  unfold State.error
  repeat' split
  all_goals simp

@[simp] theorem State.raiseRec_timeline (s : State) (area index code : Nat) (sev : Severity) (repeats : Nat) :
    (s.raiseRec area index code sev repeats).timeline = s.timeline := by
  unfold State.raiseRec
  dsimp only
  split <;> split <;> simp [State.set, State.count, State.countSat]

@[simp] theorem State.error_timeline (s : State) (area index code : Nat) (sev : Severity) :
    (s.error area index code sev).timeline = s.timeline := by
  unfold State.error
  repeat' split
  all_goals simp

@[simp] theorem State.raiseRec_cu (s : State) (area index code : Nat) (sev : Severity) (repeats : Nat) :
    (s.raiseRec area index code sev repeats).cu = s.cu := by
  unfold State.raiseRec
  dsimp only
  split <;> split <;> simp [State.set, State.count, State.countSat]

@[simp] theorem State.error_cu (s : State) (area index code : Nat) (sev : Severity) :
    (s.error area index code sev).cu = s.cu := by
  unfold State.error
  repeat' split
  all_goals simp

@[simp] theorem State.raiseRec_render (s : State) (area index code : Nat) (sev : Severity) (repeats : Nat) :
    (s.raiseRec area index code sev repeats).render = s.render := by
  unfold State.raiseRec
  dsimp only
  split <;> split <;> simp [State.set, State.count, State.countSat]

@[simp] theorem State.error_render (s : State) (area index code : Nat) (sev : Severity) :
    (s.error area index code sev).render = s.render := by
  unfold State.error
  repeat' split
  all_goals simp

@[simp] theorem State.raiseRec_svc (s : State) (area index code : Nat) (sev : Severity) (repeats : Nat) :
    (s.raiseRec area index code sev repeats).svc = s.svc := by
  unfold State.raiseRec
  dsimp only
  split <;> split <;> simp [State.set, State.count, State.countSat]

@[simp] theorem State.error_svc (s : State) (area index code : Nat) (sev : Severity) :
    (s.error area index code sev).svc = s.svc := by
  unfold State.error
  repeat' split
  all_goals simp

@[simp] theorem State.raiseRec_nand (s : State) (area index code : Nat) (sev : Severity) (repeats : Nat) :
    (s.raiseRec area index code sev repeats).nand = s.nand := by
  unfold State.raiseRec
  dsimp only
  split <;> split <;> simp [State.set, State.count, State.countSat]

@[simp] theorem State.error_nand (s : State) (area index code : Nat) (sev : Severity) :
    (s.error area index code sev).nand = s.nand := by
  unfold State.error
  repeat' split
  all_goals simp

@[simp] theorem State.raiseRec_power (s : State) (area index code : Nat) (sev : Severity) (repeats : Nat) :
    (s.raiseRec area index code sev repeats).power = s.power := by
  unfold State.raiseRec
  dsimp only
  split <;> split <;> simp [State.set, State.count, State.countSat]

@[simp] theorem State.error_power (s : State) (area index code : Nat) (sev : Severity) :
    (s.error area index code sev).power = s.power := by
  unfold State.error
  repeat' split
  all_goals simp

@[simp] theorem State.raiseRec_io (s : State) (area index code : Nat) (sev : Severity) (repeats : Nat) :
    (s.raiseRec area index code sev repeats).io = s.io := by
  unfold State.raiseRec
  dsimp only
  split <;> split <;> simp [State.set, State.count, State.countSat]

@[simp] theorem State.error_io (s : State) (area index code : Nat) (sev : Severity) :
    (s.error area index code sev).io = s.io := by
  unfold State.error
  repeat' split
  all_goals simp

@[simp] theorem State.raiseRec_mem (s : State) (area index code : Nat) (sev : Severity) (repeats : Nat) :
    (s.raiseRec area index code sev repeats).mem = s.mem := by
  unfold State.raiseRec
  dsimp only
  split <;> split <;> simp [State.set, State.count, State.countSat]

@[simp] theorem State.error_mem (s : State) (area index code : Nat) (sev : Severity) :
    (s.error area index code sev).mem = s.mem := by
  unfold State.error
  repeat' split
  all_goals simp

@[simp] theorem State.raiseRec_ports (s : State) (area index code : Nat) (sev : Severity) (repeats : Nat) :
    (s.raiseRec area index code sev repeats).ports = s.ports := by
  unfold State.raiseRec
  dsimp only
  split <;> split <;> simp [State.set, State.count, State.countSat]

@[simp] theorem State.error_ports (s : State) (area index code : Nat) (sev : Severity) :
    (s.error area index code sev).ports = s.ports := by
  unfold State.error
  repeat' split
  all_goals simp

@[simp] theorem State.raiseRec_twin (s : State) (area index code : Nat) (sev : Severity) (repeats : Nat) :
    (s.raiseRec area index code sev repeats).twin = s.twin := by
  unfold State.raiseRec
  dsimp only
  split <;> split <;> simp [State.set, State.count, State.countSat]

@[simp] theorem State.error_twin (s : State) (area index code : Nat) (sev : Severity) :
    (s.error area index code sev).twin = s.twin := by
  unfold State.error
  repeat' split
  all_goals simp

@[simp] theorem State.raiseRec_fabric (s : State) (area index code : Nat) (sev : Severity) (repeats : Nat) :
    (s.raiseRec area index code sev repeats).fabric = s.fabric := by
  unfold State.raiseRec
  dsimp only
  split <;> split <;> simp [State.set, State.count, State.countSat]

@[simp] theorem State.error_fabric (s : State) (area index code : Nat) (sev : Severity) :
    (s.error area index code sev).fabric = s.fabric := by
  unfold State.error
  repeat' split
  all_goals simp

@[simp] theorem State.raiseRec_graver (s : State) (area index code : Nat) (sev : Severity) (repeats : Nat) :
    (s.raiseRec area index code sev repeats).graver = s.graver := by
  unfold State.raiseRec
  dsimp only
  split <;> split <;> simp [State.set, State.count, State.countSat]

@[simp] theorem State.error_graver (s : State) (area index code : Nat) (sev : Severity) :
    (s.error area index code sev).graver = s.graver := by
  unfold State.error
  repeat' split
  all_goals simp

@[simp] theorem State.raiseRec_mdap (s : State) (area index code : Nat) (sev : Severity) (repeats : Nat) :
    (s.raiseRec area index code sev repeats).mdap = s.mdap := by
  unfold State.raiseRec
  dsimp only
  split <;> split <;> simp [State.set, State.count, State.countSat]

@[simp] theorem State.error_mdap (s : State) (area index code : Nat) (sev : Severity) :
    (s.error area index code sev).mdap = s.mdap := by
  unfold State.error
  repeat' split
  all_goals simp

@[simp] theorem State.raiseRec_wire (s : State) (area index code : Nat) (sev : Severity) (repeats : Nat) :
    (s.raiseRec area index code sev repeats).wire = s.wire := by
  unfold State.raiseRec
  dsimp only
  split <;> split <;> simp [State.set, State.count, State.countSat]

@[simp] theorem State.error_wire (s : State) (area index code : Nat) (sev : Severity) :
    (s.error area index code sev).wire = s.wire := by
  unfold State.error
  repeat' split
  all_goals simp

@[simp] theorem State.raiseRec_free (s : State) (area index code : Nat) (sev : Severity) (repeats : Nat) :
    (s.raiseRec area index code sev repeats).free = s.free := by
  unfold State.raiseRec
  dsimp only
  split <;> split <;> simp [State.set, State.count, State.countSat]

@[simp] theorem State.error_free (s : State) (area index code : Nat) (sev : Severity) :
    (s.error area index code sev).free = s.free := by
  unfold State.error
  repeat' split
  all_goals simp

/-- The objects of the dictionary that raising a record writes (R645, R650, R653). -/
theorem State.raiseRec_look (s : State) (area index code : Nat) (sev : Severity) (repeats a : Nat)
    (h1 : a ≠ D.err_sequence.addr 0 0) (h2 : a ≠ D.err_overflow.addr 0 0) (h3 : a ≠ D.err_queue_max.addr 0 0)
    (h4 : a ≠ D.err_alarm_pending.addr 0 0) :
    look (s.raiseRec area index code sev repeats).dict a = look s.dict a := by
  unfold State.raiseRec
  dsimp only
  split <;> split <;>
    simp only [State.countSat, State.count, State.look_set_other _ _ _ _ _ _ (Ne.symm h1), State.look_set_other _ _ _ _ _ _ (Ne.symm h2),
      State.look_set_other _ _ _ _ _ _ (Ne.symm h3), State.look_set_other _ _ _ _ _ _ (Ne.symm h4)]

/-- An occurrence of an error writes no other object (R645–R653). -/
theorem State.error_look (s : State) (area index code : Nat) (sev : Severity) (a : Nat)
    (h1 : a ≠ D.err_sequence.addr 0 0) (h2 : a ≠ D.err_overflow.addr 0 0) (h3 : a ≠ D.err_queue_max.addr 0 0)
    (h4 : a ≠ D.err_alarm_pending.addr 0 0) :
    look (s.error area index code sev).dict a = look s.dict a := by
  unfold State.error
  repeat' split
  · rfl
  · rfl
  · exact State.raiseRec_look _ _ _ _ _ _ _ h1 h2 h3 h4
  · exact State.raiseRec_look _ _ _ _ _ _ _ h1 h2 h3 h4

/-- Two states whose stores agree at an address agree on a fixed object there. -/
theorem State.get_of_look (s t : State) (o : Obj) (i k : Nat) (hd : o.dflt.fixed = true)
    (h : look t.dict (o.addr i k) = look s.dict (o.addr i k)) : t.get o i k = s.get o i k := by
  simp only [State.get, h]
  split
  · rfl
  · unfold dfltValue
    cases e : o.dflt <;> rw [e] at hd <;> first | rfl | cases hd

/-! ### Current outputs -/

@[simp] theorem State.driveIdac_blobs (s : State) (l ua : Nat) : (s.driveIdac l ua).blobs = s.blobs := by
  rfl

@[simp] theorem State.idacsPowerUp_blobs (s : State) : s.idacsPowerUp.blobs = s.blobs := by
  unfold State.idacsPowerUp
  generalize List.range 16 = l
  induction l generalizing s with
  | nil => rfl
  | cons x l ih => rw [List.foldl_cons, ih]; split <;> simp

@[simp] theorem State.idacsOff_blobs (s : State) : s.idacsOff.blobs = s.blobs := by
  unfold State.idacsOff
  generalize List.range 16 = l
  induction l generalizing s with
  | nil => rfl
  | cons x l ih => rw [List.foldl_cons, ih]; simp

@[simp] theorem State.driveIdac_err (s : State) (l ua : Nat) : (s.driveIdac l ua).err = s.err := by
  rfl

@[simp] theorem State.idacsPowerUp_err (s : State) : s.idacsPowerUp.err = s.err := by
  unfold State.idacsPowerUp
  generalize List.range 16 = l
  induction l generalizing s with
  | nil => rfl
  | cons x l ih => rw [List.foldl_cons, ih]; split <;> simp

@[simp] theorem State.idacsOff_err (s : State) : s.idacsOff.err = s.err := by
  unfold State.idacsOff
  generalize List.range 16 = l
  induction l generalizing s with
  | nil => rfl
  | cons x l ih => rw [List.foldl_cons, ih]; simp

@[simp] theorem State.driveIdac_hist (s : State) (l ua : Nat) : (s.driveIdac l ua).hist = s.hist := by
  rfl

@[simp] theorem State.idacsPowerUp_hist (s : State) : s.idacsPowerUp.hist = s.hist := by
  unfold State.idacsPowerUp
  generalize List.range 16 = l
  induction l generalizing s with
  | nil => rfl
  | cons x l ih => rw [List.foldl_cons, ih]; split <;> simp

@[simp] theorem State.idacsOff_hist (s : State) : s.idacsOff.hist = s.hist := by
  unfold State.idacsOff
  generalize List.range 16 = l
  induction l generalizing s with
  | nil => rfl
  | cons x l ih => rw [List.foldl_cons, ih]; simp

@[simp] theorem State.driveIdac_time (s : State) (l ua : Nat) : (s.driveIdac l ua).time = s.time := by
  rfl

@[simp] theorem State.idacsPowerUp_time (s : State) : s.idacsPowerUp.time = s.time := by
  unfold State.idacsPowerUp
  generalize List.range 16 = l
  induction l generalizing s with
  | nil => rfl
  | cons x l ih => rw [List.foldl_cons, ih]; split <;> simp

@[simp] theorem State.idacsOff_time (s : State) : s.idacsOff.time = s.time := by
  unfold State.idacsOff
  generalize List.range 16 = l
  induction l generalizing s with
  | nil => rfl
  | cons x l ih => rw [List.foldl_cons, ih]; simp

@[simp] theorem State.driveIdac_timeline (s : State) (l ua : Nat) : (s.driveIdac l ua).timeline = s.timeline := by
  rfl

@[simp] theorem State.idacsPowerUp_timeline (s : State) : s.idacsPowerUp.timeline = s.timeline := by
  unfold State.idacsPowerUp
  generalize List.range 16 = l
  induction l generalizing s with
  | nil => rfl
  | cons x l ih => rw [List.foldl_cons, ih]; split <;> simp

@[simp] theorem State.idacsOff_timeline (s : State) : s.idacsOff.timeline = s.timeline := by
  unfold State.idacsOff
  generalize List.range 16 = l
  induction l generalizing s with
  | nil => rfl
  | cons x l ih => rw [List.foldl_cons, ih]; simp

@[simp] theorem State.driveIdac_cu (s : State) (l ua : Nat) : (s.driveIdac l ua).cu = s.cu := by
  rfl

@[simp] theorem State.idacsPowerUp_cu (s : State) : s.idacsPowerUp.cu = s.cu := by
  unfold State.idacsPowerUp
  generalize List.range 16 = l
  induction l generalizing s with
  | nil => rfl
  | cons x l ih => rw [List.foldl_cons, ih]; split <;> simp

@[simp] theorem State.idacsOff_cu (s : State) : s.idacsOff.cu = s.cu := by
  unfold State.idacsOff
  generalize List.range 16 = l
  induction l generalizing s with
  | nil => rfl
  | cons x l ih => rw [List.foldl_cons, ih]; simp

@[simp] theorem State.driveIdac_render (s : State) (l ua : Nat) : (s.driveIdac l ua).render = s.render := by
  rfl

@[simp] theorem State.idacsPowerUp_render (s : State) : s.idacsPowerUp.render = s.render := by
  unfold State.idacsPowerUp
  generalize List.range 16 = l
  induction l generalizing s with
  | nil => rfl
  | cons x l ih => rw [List.foldl_cons, ih]; split <;> simp

@[simp] theorem State.idacsOff_render (s : State) : s.idacsOff.render = s.render := by
  unfold State.idacsOff
  generalize List.range 16 = l
  induction l generalizing s with
  | nil => rfl
  | cons x l ih => rw [List.foldl_cons, ih]; simp

@[simp] theorem State.driveIdac_svc (s : State) (l ua : Nat) : (s.driveIdac l ua).svc = s.svc := by
  rfl

@[simp] theorem State.idacsPowerUp_svc (s : State) : s.idacsPowerUp.svc = s.svc := by
  unfold State.idacsPowerUp
  generalize List.range 16 = l
  induction l generalizing s with
  | nil => rfl
  | cons x l ih => rw [List.foldl_cons, ih]; split <;> simp

@[simp] theorem State.idacsOff_svc (s : State) : s.idacsOff.svc = s.svc := by
  unfold State.idacsOff
  generalize List.range 16 = l
  induction l generalizing s with
  | nil => rfl
  | cons x l ih => rw [List.foldl_cons, ih]; simp

@[simp] theorem State.driveIdac_nand (s : State) (l ua : Nat) : (s.driveIdac l ua).nand = s.nand := by
  rfl

@[simp] theorem State.idacsPowerUp_nand (s : State) : s.idacsPowerUp.nand = s.nand := by
  unfold State.idacsPowerUp
  generalize List.range 16 = l
  induction l generalizing s with
  | nil => rfl
  | cons x l ih => rw [List.foldl_cons, ih]; split <;> simp

@[simp] theorem State.idacsOff_nand (s : State) : s.idacsOff.nand = s.nand := by
  unfold State.idacsOff
  generalize List.range 16 = l
  induction l generalizing s with
  | nil => rfl
  | cons x l ih => rw [List.foldl_cons, ih]; simp

@[simp] theorem State.driveIdac_power (s : State) (l ua : Nat) : (s.driveIdac l ua).power = s.power := by
  rfl

@[simp] theorem State.idacsPowerUp_power (s : State) : s.idacsPowerUp.power = s.power := by
  unfold State.idacsPowerUp
  generalize List.range 16 = l
  induction l generalizing s with
  | nil => rfl
  | cons x l ih => rw [List.foldl_cons, ih]; split <;> simp

@[simp] theorem State.idacsOff_power (s : State) : s.idacsOff.power = s.power := by
  unfold State.idacsOff
  generalize List.range 16 = l
  induction l generalizing s with
  | nil => rfl
  | cons x l ih => rw [List.foldl_cons, ih]; simp

@[simp] theorem State.driveIdac_mem (s : State) (l ua : Nat) : (s.driveIdac l ua).mem = s.mem := by
  rfl

@[simp] theorem State.idacsPowerUp_mem (s : State) : s.idacsPowerUp.mem = s.mem := by
  unfold State.idacsPowerUp
  generalize List.range 16 = l
  induction l generalizing s with
  | nil => rfl
  | cons x l ih => rw [List.foldl_cons, ih]; split <;> simp

@[simp] theorem State.idacsOff_mem (s : State) : s.idacsOff.mem = s.mem := by
  unfold State.idacsOff
  generalize List.range 16 = l
  induction l generalizing s with
  | nil => rfl
  | cons x l ih => rw [List.foldl_cons, ih]; simp

@[simp] theorem State.driveIdac_ports (s : State) (l ua : Nat) : (s.driveIdac l ua).ports = s.ports := by
  rfl

@[simp] theorem State.idacsPowerUp_ports (s : State) : s.idacsPowerUp.ports = s.ports := by
  unfold State.idacsPowerUp
  generalize List.range 16 = l
  induction l generalizing s with
  | nil => rfl
  | cons x l ih => rw [List.foldl_cons, ih]; split <;> simp

@[simp] theorem State.idacsOff_ports (s : State) : s.idacsOff.ports = s.ports := by
  unfold State.idacsOff
  generalize List.range 16 = l
  induction l generalizing s with
  | nil => rfl
  | cons x l ih => rw [List.foldl_cons, ih]; simp

@[simp] theorem State.driveIdac_twin (s : State) (l ua : Nat) : (s.driveIdac l ua).twin = s.twin := by
  rfl

@[simp] theorem State.idacsPowerUp_twin (s : State) : s.idacsPowerUp.twin = s.twin := by
  unfold State.idacsPowerUp
  generalize List.range 16 = l
  induction l generalizing s with
  | nil => rfl
  | cons x l ih => rw [List.foldl_cons, ih]; split <;> simp

@[simp] theorem State.idacsOff_twin (s : State) : s.idacsOff.twin = s.twin := by
  unfold State.idacsOff
  generalize List.range 16 = l
  induction l generalizing s with
  | nil => rfl
  | cons x l ih => rw [List.foldl_cons, ih]; simp

@[simp] theorem State.driveIdac_fabric (s : State) (l ua : Nat) : (s.driveIdac l ua).fabric = s.fabric := by
  rfl

@[simp] theorem State.idacsPowerUp_fabric (s : State) : s.idacsPowerUp.fabric = s.fabric := by
  unfold State.idacsPowerUp
  generalize List.range 16 = l
  induction l generalizing s with
  | nil => rfl
  | cons x l ih => rw [List.foldl_cons, ih]; split <;> simp

@[simp] theorem State.idacsOff_fabric (s : State) : s.idacsOff.fabric = s.fabric := by
  unfold State.idacsOff
  generalize List.range 16 = l
  induction l generalizing s with
  | nil => rfl
  | cons x l ih => rw [List.foldl_cons, ih]; simp

@[simp] theorem State.driveIdac_graver (s : State) (l ua : Nat) : (s.driveIdac l ua).graver = s.graver := by
  rfl

@[simp] theorem State.idacsPowerUp_graver (s : State) : s.idacsPowerUp.graver = s.graver := by
  unfold State.idacsPowerUp
  generalize List.range 16 = l
  induction l generalizing s with
  | nil => rfl
  | cons x l ih => rw [List.foldl_cons, ih]; split <;> simp

@[simp] theorem State.idacsOff_graver (s : State) : s.idacsOff.graver = s.graver := by
  unfold State.idacsOff
  generalize List.range 16 = l
  induction l generalizing s with
  | nil => rfl
  | cons x l ih => rw [List.foldl_cons, ih]; simp

@[simp] theorem State.driveIdac_mdap (s : State) (l ua : Nat) : (s.driveIdac l ua).mdap = s.mdap := by
  rfl

@[simp] theorem State.idacsPowerUp_mdap (s : State) : s.idacsPowerUp.mdap = s.mdap := by
  unfold State.idacsPowerUp
  generalize List.range 16 = l
  induction l generalizing s with
  | nil => rfl
  | cons x l ih => rw [List.foldl_cons, ih]; split <;> simp

@[simp] theorem State.idacsOff_mdap (s : State) : s.idacsOff.mdap = s.mdap := by
  unfold State.idacsOff
  generalize List.range 16 = l
  induction l generalizing s with
  | nil => rfl
  | cons x l ih => rw [List.foldl_cons, ih]; simp

@[simp] theorem State.driveIdac_wire (s : State) (l ua : Nat) : (s.driveIdac l ua).wire = s.wire := by
  rfl

@[simp] theorem State.idacsPowerUp_wire (s : State) : s.idacsPowerUp.wire = s.wire := by
  unfold State.idacsPowerUp
  generalize List.range 16 = l
  induction l generalizing s with
  | nil => rfl
  | cons x l ih => rw [List.foldl_cons, ih]; split <;> simp

@[simp] theorem State.idacsOff_wire (s : State) : s.idacsOff.wire = s.wire := by
  unfold State.idacsOff
  generalize List.range 16 = l
  induction l generalizing s with
  | nil => rfl
  | cons x l ih => rw [List.foldl_cons, ih]; simp

@[simp] theorem State.driveIdac_free (s : State) (l ua : Nat) : (s.driveIdac l ua).free = s.free := by
  rfl

@[simp] theorem State.idacsPowerUp_free (s : State) : s.idacsPowerUp.free = s.free := by
  unfold State.idacsPowerUp
  generalize List.range 16 = l
  induction l generalizing s with
  | nil => rfl
  | cons x l ih => rw [List.foldl_cons, ih]; split <;> simp

@[simp] theorem State.idacsOff_free (s : State) : s.idacsOff.free = s.free := by
  unfold State.idacsOff
  generalize List.range 16 = l
  induction l generalizing s with
  | nil => rfl
  | cons x l ih => rw [List.foldl_cons, ih]; simp

end Sys2Proof.Machine
end

