-- ==== Sys2Proof/WellFormed.lean ====
section
/-! DEFINITION. Which commands are well formed: their operands fit the fields that carry them (R3, R82, R93, R95,
R200, R219, R500, R540). -/

namespace Sys2Proof

open Machine

/-- A value of a 32-bit field. -/
def isU32 (n : Nat) : Bool := decide (n < 2 ^ 32)

/-- A value of a 64-bit field. -/
def isU64 (n : Nat) : Bool := decide (n < 2 ^ 64)

/-- The fields of an MDAP header (R82). -/
def Machine.Req.wf (r : Req) : Bool :=
  decide (r.version < 256) && isU32 r.session && isU64 r.seq && isU32 r.id

/-- An item: its address, and the type code (R95). -/
def Machine.Item.wf (it : Item) : Bool := isU32 it.addr && decide (it.ty < 256)

/-- The items that one frame can carry: at least 6 bytes each in 9216 (R95). -/
def itemsWf (l : List Item) : Bool := decide (l.length ≤ 1536) && l.all Item.wf

/-- Values of 64-bit fields, in one frame. -/
def listWf (l : List Nat) : Bool := decide (l.length ≤ 9216) && l.all isU64

/-- The bytes of one frame. -/
def bytesWf (l : List Byte) : Bool := decide (l.length ≤ 9216)

/-- The fields of TXN_PREPARE (R221). -/
def Machine.PrepareArgs.wf (p : PrepareArgs) : Bool :=
  isU64 p.id && isU64 p.time && decide (p.kind < 256) && decide (p.late < 256) &&
    (match p.nodes with | some l => l.all fun n => decide (n < 4096) | none => true)

/-- The head and the trailer of a fabric frame (R500). -/
def Machine.FabFrame.wf (f : FabFrame) : Bool :=
  decide (f.mac < 2 ^ 48) && decide (f.version < 256) && decide (f.type < 256) && decide (f.flags < 256) &&
    decide (f.hop < 256) && decide (f.source < 65536) && decide (f.dest < 65536) && isU32 f.streamId &&
    decide (f.sequence < 65536) && decide (f.length < 65536) && isU64 f.linkSeq && bytesWf f.tag

/-- The body of a HELLO (R503). -/
def Machine.Hello.wf (h : Hello) : Bool :=
  decide (h.node < 65536) && decide (h.slot < 256) && decide (h.role < 256) && decide (h.port < 256) &&
    decide (h.state < 256) && decide (h.rate < 256) && decide (h.pres < 256) && isU32 h.fabId && isU64 h.pairId &&
    isU32 h.lsaSeq && isU64 h.digest && decide (h.certFp < 2 ^ 128)

/-- The body of an LSA (R507). -/
def Machine.Lsa.wf (l : Lsa) : Bool :=
  decide (l.vertex < 65536) && isU32 l.seq && isU64 l.claim && isU64 l.pairId && decide (l.certFp < 2 ^ 128) &&
    decide (l.links.length < 256) && l.links.all fun x =>
      decide (x.vertex < 65536) && decide (x.localPort < 256) && decide (x.remotePort < 256) && decide (x.cost < 65536)

/-- The body of an ADMIT frame (R505). -/
def Machine.AdmitStep.wf : AdmitStep → Bool
  | .init nonce key => bytesWf nonce && bytesWf key
  | .reply status id nonce key total =>
    decide (status < 256) && isU32 id && bytesWf nonce && bytesWf key && decide (total < 65536)
  | .certRead id offset len => isU32 id && decide (offset < 65536) && decide (len < 65536)
  | .certSend id offset total data =>
    isU32 id && decide (offset < 65536) && decide (total < 65536) && bytesWf data && !data.isEmpty
  | .certReply status data => decide (status < 256) && bytesWf data
  | .finish id sig => isU32 id && bytesWf sig
  | .finishReply status sig => decide (status < 256) && bytesWf sig

/-- A fabric transaction frame (R218, R500). -/
def Machine.TxnIn.wf (f : TxnIn) : Bool := f.frame.wf && decide (f.node < 65536) && decide (f.version < 256)

/-- The fields of PREPARE (R219). -/
def Machine.FabPrepare.wf (p : FabPrepare) : Bool :=
  isU64 p.id && decide (p.node < 4096) && isU64 p.orderTime && isU64 p.applyBlock && isU64 p.show_ && isU32 p.length

/-- The header and the CRC of a Lace frame (R539). -/
def Machine.LaceIn.wf (f : LaceIn) : Bool :=
  decide (f.version < 256) && decide (f.type < 256) && decide (f.from_ < 256) && decide (f.length < 65536) &&
    isU32 f.seq && isU32 f.crc

/-- The fields of a Lace HELLO (R540). -/
def Machine.LaceHello.wf (h : LaceHello) : Bool :=
  decide (h.slot < 256) && decide (h.role < 256) && decide (h.certFp < 2 ^ 128) && isU64 h.claim &&
    decide (h.offset < 65536) && decide (h.total < 65536) && bytesWf h.data && decide (h.data.length ≤ 1024)

/-- The fields of a STREAM frame (R517). -/
def Machine.StreamFrame.wf (f : StreamFrame) : Bool :=
  isU64 f.firstIndex && decide (f.status.length < 256) && f.status.all fun w => decide (w < 65536)

/-- A command whose operands fit. -/
def Instr.wf : Instr → Bool
  | .vinUndervoltage => true
  | .uvloShutdownComplete => true
  | .vinRecover => true
  | .vioLoss => true
  | .vioReturn => true
  | .vdacChange _ => true
  | .suppliesGood => true
  | .nresetRequest => true
  | .resetRelease _ _ keeper _ => isU64 keeper
  | .bootSelfCheck _ => true
  | .thermalTrip => true
  | .thermalRestart => true
  | .read r addrs => r.wf && listWf addrs
  | .write r items target => r.wf && itemsWf items && isU64 target
  | .writeStaged r items => r.wf && itemsWf items
  | .describe r addr start _ => r.wf && isU32 addr && isU32 start
  | .subscribe r sub addr mode interval => r.wf && isU32 sub && isU32 addr && isU64 mode && isU32 interval
  | .blobWrite r addr _ _ _ offset total data => r.wf && isU32 addr && isU64 offset && isU64 total && bytesWf data
  | .blobRead r addr offset most => r.wf && isU32 addr && isU64 offset && isU64 most
  | .blobShadowExpire addr => isU32 addr
  | .unknownMessageType r type => r.wf && isU64 type
  | .spiPut frame => bytesWf frame
  | .spiGet => true
  | .spiStatus => true
  | .sesInit m => m.req.wf && decide (m.nonce.length = 16) && decide (m.key.length = 65)
  | .sesCertRead r id offset len => r.wf && isU64 id && isU64 offset && isU64 len
  | .sesCertSend r id offset total data => r.wf && isU64 id && isU64 offset && isU64 total && bytesWf data
  | .sesFinish r id sig => r.wf && isU64 id && decide (sig.length = 64)
  | .sesPing r => r.wf
  | .sesClose r reason => r.wf && isU64 reason
  | .handshakeTimeout id => isU64 id
  | .sessionIdleTimeout id => isU64 id
  | .sessionRekey id => isU64 id
  | .roleChangeClose => true
  | .sessionCloseWrite r id => r.wf && isU64 id
  | .persistAppend _ bytes => isU64 bytes
  | .persistFlush r => r.wf
  | .persistReset r => r.wf
  | .runControlWrite r a _ => r.wf && isU64 a
  | .seal b => isU64 b
  | .blockBoundary k => isU64 k
  | .mediaRevert => true
  | .mediaStep => true
  | .timebaseTick => true
  | .tbIncrementWrite r v => r.wf && isU64 v
  | .domRateWrite r _ _ => r.wf
  | .domAdjust r _ _ => r.wf
  | .domEnableWrite r _ _ => r.wf
  | .ptpAnnounce _ _ _ => true
  | .ptpSync _ _ sender seq _ _ _ => isU64 sender && isU32 seq
  | .announceTimeout _ => true
  | .syncTimeout _ => true
  | .holdoverLimitExpire _ => true
  | .syntSourceLoss => true
  | .wclkEdge => true
  | .wclkLost => true
  | .eventPulse _ _ => true
  | .evRearm r _ _ v => r.wf && isU64 v
  | .eventCapture _ _ => true
  | .evPop r _ => r.wf
  | .launch _ => true
  | .apllLock _ => true
  | .apllUnlock _ => true
  | .showRun _ => true
  | .showJump _ => true
  | .showSetRate r => isU64 r
  | .ltcFrame h mi sec f user _ => isU64 h && isU64 mi && isU64 sec && isU64 f && isU64 user
  | .ltcReanchor => true
  | .ltcLoss => true
  | .ltcFreewheelExpire => true
  | .ltcOutFrame => true
  | .txnOpen r scope rung => r.wf && isU64 scope && isU64 rung
  | .txnAdd r id items => r.wf && isU64 id && itemsWf items
  | .txnPrepare r p => r.wf && p.wf
  | .txnCommit r id => r.wf && isU64 id
  | .txnAbort r id => r.wf && isU64 id
  | .txnStatus r id => r.wf && isU64 id
  | .fabTxnData f id index count data => f.wf && isU64 id && isU64 index && isU64 count && bytesWf data
  | .fabTxnPrepare f p => f.wf && p.wf
  | .fabTxnVote f id _ reason => f.wf && isU64 id && isU64 reason
  | .fabTxnNack f id first count => f.wf && isU64 id && isU64 first && isU64 count
  | .fabTxnDecision f id _ block => f.wf && isU64 id && isU64 block
  | .fabTxnQuery f id => f.wf && isU64 id
  | .fabTxnOutcome f id outcome block => f.wf && isU64 id && isU64 outcome && isU64 block
  | .fabTxnAck f id a => f.wf && isU64 id && isU64 a.applied
  | .voteDeadline id => isU64 id
  | .txnCommitWaitExpire id => isU64 id
  | .queryTimer id => isU64 id
  | .txnIndoubtAlarm id => isU64 id
  | .txnOutcomeExpire id => isU64 id
  | .txnResolveCommit r id => r.wf && isU64 id
  | .txnResolveAbort r id => r.wf && isU64 id
  | .triangulationDone => true
  | .triangulationSwap => true
  | .lstClearFail _ => true
  | .renderSlot _ _ _ => true
  | .weltDeadline _ => true
  | .outchainDeadline _ => true
  | .etchTransformDone _ => true
  | .etchXfadeComplete _ => true
  | .etchPersist _ => true
  | .stepperTimeout _ => true
  | .nop _ => true
  | .mac _ => true
  | .msu _ => true
  | .fma _ => true
  | .fms _ => true
  | .dfmaFadd _ => true
  | .mov _ => true
  | .iadd _ => true
  | .isub _ => true
  | .fadd _ => true
  | .fsub _ => true
  | .fmul _ => true
  | .fmin _ => true
  | .fmax _ => true
  | .fabs _ => true
  | .fneg _ => true
  | .fcmp _ => true
  | .ftoi _ => true
  | .itof _ => true
  | .fdiv _ => true
  | .fsqrt _ => true
  | .fsin _ => true
  | .fcos _ => true
  | .fexp10 _ => true
  | .flog10 _ => true
  | .fpow _ => true
  | .imm _ => true
  | .aclr _ => true
  | .amov _ => true
  | .aadd _ => true
  | .asub _ => true
  | .aldf _ => true
  | .astf _ => true
  | .br _ => true
  | .brc _ => true
  | .call _ => true
  | .ret _ => true
  | .loop _ => true
  | .loopr _ => true
  | .loopCountExpire _ _ => true
  | .exit _ => true
  | .yield _ => true
  | .wait _ => true
  | .fence _ => true
  | .trap _ => true
  | .overrun _ => true
  | .inputsAvailable _ k => isU64 k
  | .dispatchTick => true
  | .forcedSwitch _ => true
  | .graverDeadline _ k => isU64 k
  | .ambWindowEnd _ => true
  | .voiceStart _ => true
  | .voiceStop _ => true
  | .voiceLoopEnd _ => true
  | .clipLoadDone _ => true
  | .clipPersist _ => true
  | .mtrReset r => r.wf
  | .silenceTimeout _ => true
  | .integrationWindowEnd => true
  | .proofVerdict _ => true
  | .pfRefCapture _ => true
  | .pfRefPersist _ => true
  | .pfWindowOpen d => isU64 d
  | .proofWindowClose => true
  | .lsPhase _ => true
  | .lsPeriodEnd _ => true
  | .lsLearn _ => true
  | .spFrameRx _ _ words => listWf words
  | .spFrameTx _ n => isU64 n
  | .spClockLost _ => true
  | .spClockRestore _ => true
  | .aesFrameRx _ _ _ _ _ => true
  | .aesFrameTx _ n => isU64 n
  | .pdmChSync _ => true
  | .idacValueWrite r _ v => r.wf && isU64 v
  | .idacQPush r _ => r.wf
  | .idacQClear r _ => r.wf
  | .idacQueueApply _ => true
  | .idacPowerupWrite r _ v => r.wf && isU64 v
  | .idacComplianceLow _ => true
  | .idacComplianceOk _ => true
  | .linkUp _ _ => true
  | .linkDown _ => true
  | .frameReceive _ _ frame _ => bytesWf frame
  | .pauseFrame _ dst opcode quanta => isU64 dst && isU64 opcode && isU64 quanta
  | .pauseExpire _ => true
  | .ringTailWrite r _ v => r.wf && isU64 v
  | .txFrameDone _ _ => true
  | .aes67PacketRx _ _ => true
  | .aes67PacketTx _ n _ => isU64 n
  | .fabHello _ h t => h.wf && t.wf
  | .helloTimer _ => true
  | .helloLost _ => true
  | .admission _ a => a.frame.wf && a.step.wf
  | .admitTimeout _ => true
  | .refusedExpire _ => true
  | .linkRekey _ => true
  | .lsa _ l t => l.wf && t.wf
  | .lsaAck _ vertex seq t => decide (vertex < 65536) && isU32 seq && t.wf
  | .lsaResend _ => true
  | .lsaReflood => true
  | .lsaAgeOut vertex => isU64 vertex
  | .graphChange => true
  | .oldGenerationExpire => true
  | .treeSwitchA => true
  | .treeSwitchB => true
  | .leavingExpire => true
  | .streamFrameRx _ f t => f.wf && t.wf
  | .streamFrameTx _ => true
  | .sceneDigestUpdate => true
  | .sceneDigestMismatch _ => true
  | .election => true
  | .roleLineFall => true
  | .heartbeatTimeout _ _ => true
  | .twTakeFall => true
  | .laceHello f h => f.wf && h.wf
  | .laceHeartbeat f h boundary sent => f.wf && isU64 h.journal && isU64 boundary && isU64 sent
  | .laceTime f _ _ _ => f.wf
  | .journal f index block _ => f.wf && isU64 index && isU64 block
  | .journalAck f index => f.wf && isU64 index
  | .journalRetransmit index => isU64 index
  | .mirror f block first _ => f.wf && isU64 block && decide (first < 65536)
  | .inPresence f block _ => f.wf && isU64 block
  | .repair f block ctx first words _ =>
    f.wf && isU64 block && decide (ctx < 65536) && decide (first < 256) && listWf words
  | .outDigest f _ => f.wf
  | .selftest f unit _ => f.wf && decide (unit < 256)
  | .selftestResultTimeout => true
  | .selftestDone unit _ => isU64 unit
  | .checkpoint f block offset total data _ =>
    f.wf && isU64 block && isU32 offset && isU32 total && bytesWf data
  | .checkpointAck f block held => f.wf && isU64 block && isU32 held
  | .laceBlob f addr gen offset total data =>
    f.wf && isU32 addr && isU32 gen && isU32 offset && isU32 total && bytesWf data
  | .resyncComplete => true
  | .laceLaneDown _ => true
  | .twinSwitch => true
  | .twinRejoin r => r.wf
  | .safeSceneLoaded => true
  | .burnishRead _ word _ _ _ => isU64 word
  | .dmcRequest _ addr others => isU64 addr && others.all fun r => isU64 r.addr
  | .dmcServe hits => listWf hits
  | .agePromotion _ => true
  | .refreshDue => true
  | .setpointChange _ => true
  | .trainStepDone _ _ => true
  | .dmcRetrain r _ => r.wf
  | .masterReset _ => true
  | .dmaStart r _ => r.wf
  | .dmaTrigger _ => true
  | .dmaDescriptorDone _ => true
  | .dmaStop r _ => r.wf
  | .dmaReset r _ => r.wf
  | .pllRampWrite r _ data => r.wf && bytesWf data
  | .pllRampStep _ => true
  | .shankFault => true
  | .sensorSample _ => true
  | .lifeUpdate => true
  | .logWindowStart r v => r.wf && isU64 v
  | .logClear r => r.wf
  | .ownerCertWrite r _ _ _ offset total data => r.wf && isU64 offset && isU64 total && bytesWf data
  | .ownerClear r => r.wf
  | .fwActivate _ => true
  | .fwTrialConfirm => true
  | .pwRequest _ => true
  | .powerEntry _ => true
  | .dormantReached _ => true
  | .aodAlarm _ => true
  | .wakeEvent _ => true
  | .wakeComplete k => isU64 k
  | .aodSlew _ => true
  | .histSnap _ => true
  | .errorHandle _ => true
  | .rateLimitSecondEnd area index code => isU64 area && isU64 index && isU64 code
  | .errAlarmAck r => r.wf
  | .errFaultClear r => r.wf
  | .aesRxLost _ => true
  | .laceLaneUp _ => true
  | .twHbEdge _ => true
  | .twHbToggle => true
  | .laceHeartbeatTimer => true
  | .laceTimeTimer => true
  | .inPresenceSend => true
  | .ptpPathDelayMessage _ _ _ => true
  | .ptpMasterTimer _ _ => true
  | .syntLock _ => true
  | .vaoChange _ => true
  | .firmwareLoaded _ _ => true
  | .persistReplayDone => true

end Sys2Proof
end

