-- ==== Sys2Proof/Tests/Slice0.lean ====
section
/-! SUPPORT. Small tests: for every statement with hypotheses a concrete state that meets them, the checks of
well-formedness, and single steps whose expected results are worked out from the spec. -/

namespace Sys2Proof.Tests

set_option Elab.async false

open Sys2Proof Sys2Proof.Machine Host

/-- A state whose dictionary holds the values of a list: object, value, index. -/
def withValues (l : List (Obj × Nat × Nat)) : State := l.foldl (fun s e => s.set e.1 e.2.1 e.2.2) {}

/-- A state in a phase. -/
def inPhase (p : Phase) : State := { power := { phase := p } }

/-! ### Witnesses: the hypotheses of every statement can be met, clause by clause -/

theorem test_EmptyQueueIdles_witness : ({} : State).pending = [] := rfl

theorem test_MemoryFormKept_witness :
    State.reset.memoryCanonical = true ∧ step State.reset = .next State.reset := by
  constructor
  · decide +kernel
  · rfl

theorem test_EveryRunIsSafe_witness : State.reset.memoryCanonical = true := by decide +kernel

theorem test_OtherCommandsKeepMemory_witness :
    leavesMemory .wclkLost = true ∧ exec .wclkLost (withValues [(D.wclk_state, 1, 0)]) =
      .next ((withValues [(D.wclk_state, 1, 0)]).set D.wclk_state 2) := ⟨rfl, rfl⟩

theorem test_BundleRoundTrip_witness :
    Bundle.legal .nop = true ∧ (Bundle.sys 2#4 4800#16).legal = true ∧
      decodeBundle 0#64 = some .nop := by decide +kernel

theorem test_SupplyEventsComplete_witness :
    (inPhase .running).powered = true ∧ (inPhase .shutdown).power.phase = .shutdown ∧
      ((inPhase .off).power.phase = .off ∧ (inPhase .off).power.thermal = false) ∧
      ((inPhase .running).powered = true ∧ (inPhase .running).power.vin = true ∧ (inPhase .running).power.phase ≠ .reset) ∧
      (inPhase .running).power.phase ≠ .reset ∧ (inPhase .reset).power.phase = .reset ∧
      ({} : State).power.vin = true ∧ ({ power := { vin := false } } : State).power.vin = false := by decide

theorem test_ResetEventsComplete_witness :
    (let s : State := { power := { rails := false, phase := .off } }
     s.power.vin = true ∧ s.power.vio = true ∧ s.power.rails = false ∧ s.power.thermal = false ∧
      (s.power.phase = .off ∨ s.power.phase = .reset)) ∧
    (inPhase .reset).power.phase = .reset ∧
    (let s := inPhase .running
     s.power.vin = true ∧ s.power.vio = true ∧ s.power.thermal = false ∧ s.railsRun = true ∧ s.powered = true ∧
      s.power.phase ≠ .reset) ∧
    (let s : State := { power := { phase := .off, thermal := true } }
     s.power.thermal = true ∧ s.power.phase = .off ∧ s.power.vin = true) ∧
    (let s : State := { power := { phase := .reset, aod := { cause := some 5 } } }
     s.power.phase = .reset ∧ s.power.pgood = true ∧ s.power.aod.cause = some 5) ∧
    (inPhase .boot).power.phase = .boot ∧ ({} : State).power.aod.cause = none := by decide

theorem test_FirmwareEventsComplete_witness :
    (let s : State := { err := { nfault := false } }
     s.power.phase = .boot ∧ s.err.nfault = false ∧ s.get D.boot_strap = 0 ∧ s.trialSlot = none ∧
      s.power.trialFresh = false ∧ s.power.bootSlot = 0) ∧
    (let s : State := { err := { nfault := false }, dict := (withValues [(D.boot_strap, 3, 0)]).dict }
     s.power.phase = .boot ∧ s.err.nfault = false ∧ s.get D.boot_strap ≠ 0) ∧
    (let s : State := { power := { phase := .starting, aod := { idacs := [0] } } }
     s.power.phase = .starting ∧ s.power.aod.idacs ≠ []) ∧
    (withValues [(D.fw_slot_state, 2, 1)]).get D.fw_slot_state (1 : Fin 2).val = 2 ∧
    (let s : State := { withValues [(D.fw_slot_state, 4, 1), (D.fw_running, 1, 0)] with power := { startedUp := true } }
     s.trialSlot = some 1 ∧ s.power.startedUp = true ∧ s.get D.fw_running = 1 ∧ s.role ≤ 2) := by decide +kernel

theorem test_PowerStateEventsComplete_witness :
    (let s : State := {}
     (1 : Fin 3).val ≠ 2 ∧ s.powerBusy = false ∧ s.urgent = false ∧ s.role ≤ 1 ∧ s.power.entry = none ∧
      s.get D.pw_state = 0) ∧
    (let s : State := { power := { entry := some (2, 7) } }
     s.powerBusy = true ∧ s.power.entry = some (2, 7) ∧ s.power.early = none) ∧
    (let s : State := { power := { entry := some (2, 7), early := some .mgt } }
     s.power.entry = some (2, 7) ∧ s.power.early = some .mgt) ∧
    (let s : State := { withValues [(D.aod_alarm_enable, 1, 3), (D.wake_enable_mgt, 1, 0)] with power := { phase := .dormant } }
     s.power.phase = .dormant ∧ s.getB D.aod_alarm_enable (3 : Fin 4).val = true ∧ s.wakeAdmits .mgt = true) ∧
    (let s : State := { withValues [(D.aod_alarm_enable, 1, 0)] with power := { phase := .running, entry := some (2, 0) } }
     s.power.phase ≠ .dormant ∧ s.getB D.aod_alarm_enable (0 : Fin 4).val = true ∧ s.power.entry = some (2, 0) ∧
      s.power.early = none) ∧
    (inPhase .waking).power.phase = .waking ∧
    (let s : State := { time := { bridge := 1000000 * ns32 + 1 } }
     1000000 * ns32 < ((s.media - s.time.local_ - s.power.aod.offset).natAbs : Int)) ∧
    (let s : State := { time := { bridge := 1000000 * ns32 } }
     ((s.media - s.time.local_ - s.power.aod.offset).natAbs : Int) ≤ 1000000 * ns32) := by decide +kernel

/-- A record and a held key for the witnesses. -/
def record (code : Nat) (sev : Severity) : ErrRec := ⟨0, 0x7E, 0, code, sev, 0, 1⟩

theorem test_ShankWorkCompletes_witness : (5 : Nat) * 2 ^ 24 / 2 ^ 24 ≠ 0x7C := by decide

theorem test_MonitorEventsComplete_witness :
    nextRec [record 0x0101 .warn] = some (record 0x0101 .warn) ∧
    (let h : HeldKey := ⟨2, 0, 0x0201, .info, 1⟩
     let s : State := { err := { held := [⟨1, 0, 0x0201, .info, 0⟩, h] } }
     0x0201 ≠ 0x0C05 ∧
      (s.err.held.find? fun x => x.area == 2 && x.index == 0 && x.code == 0x0201) = some h ∧ 0 < h.held) ∧
    (let h : HeldKey := ⟨1, 0, 0x0201, .info, 0⟩
     let s : State := { err := { held := [h] } }
     (s.err.held.find? fun x => x.area == 1 && x.index == 0 && x.code == 0x0201) = some h ∧ h.held = 0) := by decide

theorem test_ErrorFoldsIntoQueuedRecord_witness :
    (let s : State := { err := { queue := [record 0x0101 .failed] } }
     ∃ r ∈ s.err.queue, sameKey r 0x7E 0 0x0101 = true) ∧
    (let s : State := { err := { queue := List.replicate 60 (record 0x0101 .warn) } }
     (∀ r ∈ s.err.queue, sameKey r 0x7E 0 0x0102 = false) ∧ rateLimited 0x0102 = false ∧ s.err.held = [] ∧
      s.err.queue.length = 60) := by decide +kernel

theorem test_HighestSeverityHandledFirst_witness :
    nextRec [record 0x0101 .warn, record 0x0102 .failed, record 0x0103 .failed] = some (record 0x0102 .failed) := by decide

theorem test_MediaTimeEventsComplete_witness :
    ({} : State).followsTime = false ∧ ({ time := { stepAt := some 9 } } : State).time.stepAt = some 9 ∧
    (let s := withValues [(D.media_revert, 1, 0), (D.media_source, 1, 0), (D.media_source_now, 4, 0), (D.dom_state, 3, 1)]
     s.getB D.media_revert = true ∧ s.get D.media_source < 2 ∧ s.get D.media_source_now ≠ s.get D.media_source ∧
      s.get D.dom_state (s.get D.media_source) = domLocked) := by decide +kernel

theorem test_SlewNeverCrossesZero_witness : (0 : Int) ≤ 6 := by decide

/-- A master for the witnesses. -/
def master1 : Master := ⟨0, 0, 0, 0, 0, 0, 0, 0, 6⟩

/-- A PTP domain 1 in a state, on port 6. -/
def ptpState (d : Domain) (state profile : Nat) : State :=
  { withValues [(D.dom_state, state, 1), (D.runDom, 1, 1), (D.dom_ports, 64, 1), (D.dom_profile, profile, 1)] with
    time := { domains := [{}, d] } }

theorem test_PtpDomainsComplete_witness :
    (let s := ptpState {} 1 0
     s.ptpHears 1 ⟨6, false⟩ = true ∧ s.ptpChooses 1 { master1 with port := 6 } = true ∧
      s.get D.dom_state 1 ≠ domGrandmaster ∧ (s.domain 1).master = none) ∧
    (let s := (ptpState {} 1 0).set D.dom_slave_only 0 1
     s.ptpHears 1 ⟨5, false⟩ = false ∧ s.ptpHears 1 ⟨6, true⟩ = false ∧
      s.ptpChooses 1 ⟨0xFFFF, 255, 255, 255, 0xFFFF, 255, 0, 0, 6⟩ = false) ∧
    (let s := ptpState { master := some master1 } domLocked 0
     (s.domain 1).master = some master1 ∧ s.ptpHears 1 ⟨6, false⟩ = true ∧ master1.port = 6 ∧ s.get D.dom_state 1 = domLocked) ∧
    (let s := ptpState { master := some master1 } domListening 0
     (s.domain 1).master = some master1 ∧ s.ptpHears 1 ⟨6, false⟩ = true ∧ s.get D.dom_state 1 = domListening) ∧
    (let s := (ptpState {} domListening 0).set D.dom_slave_only 0 1
     s.power.phase ≠ .dormant ∧ s.get D.dom_state 1 = domListening ∧ s.getB D.dom_slave_only 1 = false) ∧
    (ptpState {} domHoldover 0).get D.dom_state 1 = domHoldover ∧
    (let s := ptpState { syncWait := some (7, 5) } domLocked 0
     s.ptpHears 1 ⟨6, false⟩ = true ∧ (s.domain 1).syncWait = some (7, 5)) ∧
    (let s := ptpState {} domGrandmaster 0
     s.power.phase ≠ .dormant ∧ s.ptpHears 1 ⟨6, false⟩ = true ∧ s.get D.dom_profile 1 = 0 ∧ (s.masterPorts 1).contains 6 = true ∧
      s.get D.dom_state 1 = domGrandmaster ∧ s.get D.runDom 1 = 1) ∧
    (let s := ptpState { delayReq := some (7, 30), lastSync := some (10, 20) } domLocked 0
     s.ptpHears 1 ⟨6, false⟩ = true ∧ s.get D.dom_profile 1 = 0 ∧ (s.domain 1).delayReq = some (7, 30) ∧
      (s.domain 1).lastSync = some (10, 20)) ∧
    (let s := ptpState { pdelays := [⟨6, 7, 1, some (2, 4)⟩] } domLocked 1
     s.ptpHears 1 ⟨6, false⟩ = true ∧ s.get D.dom_profile 1 ≠ 0 ∧
      ((s.domain 1).pdelays.find? fun e => e.port == 6 && e.seq == 7) = some ⟨6, 7, 1, some (2, 4)⟩ ∧
      s.time.domains[1]? = some (s.domain 1)) := by decide +kernel

theorem test_ClockEventsComplete_witness :
    (let s := withValues [(D.synt_source, 2, 0)]
     (s.set D.synt_state 4).syntSelect = none) ∧
    (let s := withValues [(D.synt_source, 3, 0), (D.port_link, 1, 1)]
     (s.set D.synt_state 4).syntSelect = some 1 ∧ 1 + 2 ≠ s.get D.synt_port) ∧
    (withValues [(D.synt_state, 2, 0)]).get D.synt_state = 2 ∧
    (let s : State := { time := { wclk := { index := some 5, lastEdge := some 0 } } }
     s.time.wclk.index = some 5 ∧ s.time.wclk.lastEdge = some 0 ∧ s.get D.wclk_state ≠ 2 ∧ s.power.vio = true) ∧
    (withValues [(D.wclk_state, 1, 0)]).get D.wclk_state = 1 ∧
    (withValues [(D.apll_state, 1, 0)]).get D.apll_state = 1 ∧
    (withValues [(D.apll_state, 2, 0)]).get D.apll_state = 2 ∧
    (let s : State := { withValues [(D.ev_mode, 3, 4)] with time := { pins := List.replicate 6 { done := false } } }
     1 ≤ s.get D.ev_mode (4 : Fin 6) ∧ s.get D.ev_mode (4 : Fin 6) ≤ 3 ∧ (s.pin 4).done = false) := by decide +kernel

theorem test_CaptureQueueKeepsSixteen_witness :
    (let s : State := { withValues [(D.ev_mode, 6, 5)] with
       time := { local_ := 15 * ns32 - 1, pins := List.replicate 6 { lastEdge := some 0 } } }
     captures (s.get D.ev_mode (5 : Fin 6)) .rise = true ∧ s.power.vio = true ∧ (s.pin 5).lastEdge = some 0 ∧
      s.landTime (20 : Fin 26) - 0 < 20 * ns32) ∧
    (let s : State := { withValues [(D.ev_mode, 6, 5)] with
       time := { local_ := 15 * ns32, pins := List.replicate 6 { lastEdge := some 0, queue := List.replicate 16 (0, .rise) } } }
     captures (s.get D.ev_mode (5 : Fin 6)) .rise = true ∧ s.power.vio = true ∧ (s.pin 5).lastEdge = some 0 ∧
      20 * ns32 ≤ s.landTime (20 : Fin 26) - 0 ∧ 16 ≤ (s.pin 5).queue.length) ∧
    (let s : State := { withValues [(D.ev_mode, 6, 5)] with
       time := { pins := List.replicate 6 { queue := List.replicate 15 (0, .rise) } } }
     captures (s.get D.ev_mode (5 : Fin 6)) .rise = true ∧ s.power.vio = true ∧ (s.pin 5).lastEdge = none ∧
      (s.pin 5).queue.length < 16 ∧ s.time.pins[5]? = some (s.pin 5)) := by
  decide +kernel

/-- The tracker of timecode in a state. -/
def ltcState (x : LtcTracker) (l : List (Obj × Nat × Nat)) : State :=
  { withValues l with timeline := { ltc := x } }

theorem test_ShowAndTimecodeComplete_witness :
    (let s := withValues [(D.show_source, 2, 0), (D.show_map_rate, 0x10000, 0)]
     s.showInternal = true ∧ s.showRuns = true ∧ s.get D.show_map_rate ≠ 0x8000) ∧
    (let s := withValues [(D.show_source, 2, 0)]
     s.showInternal = true ∧ s.showRuns = false) ∧
    (let s := withValues [(D.show_source, 2, 0), (D.show_jump_threshold, 1000, 0)]
     let t (j : Int) := s.setMap j (s.tBoundary s.blockNow) (s.get D.show_map_rate)
     s.showTime s.blockNow = 0 ∧ s.showInternal = true ∧
      ((((t 1000).showTime s.blockNow - 0).natAbs : Nat) : Int) ≤ ((t 1000).get D.show_jump_threshold : Int) ∧
      (((t 1001).get D.show_jump_threshold : Nat) : Int) < (((t 1001).showTime s.blockNow - 0).natAbs : Int)) ∧
    (let s := withValues []
     s.power.vio = true ∧ s.get D.ltc_state = 0) ∧ (withValues [(D.ltc_state, 2, 0)]).get D.ltc_state = 2 ∧
    (let s := withValues [(D.ltc_state, 3, 0), (D.show_source, 0, 0)]
     s.get D.ltc_state = 3 ∧ s.get D.show_source = 0) ∧
    (let s := withValues [(D.ltc_out_enable, 1, 0), (D.show_map_rate, 0x10000, 0)]
     s.getB D.ltc_out_enable = true ∧ s.showRuns = true ∧ 0 ≤ s.showTime s.blockNow + s.getI D.ltc_out_offset) ∧
    (let s := ltcState { reanchor := true } [(D.show_source, 0, 0), (D.ltc_publish, 0, 0)]
     s.timeline.ltc.reanchor = true ∧ s.timeline.ltc.pause = false ∧ s.role ≤ 1 ∧ s.get D.show_source = 0 ∧
      s.getB D.ltc_publish = false ∧ s.mirrored = false) ∧
    (let s := ltcState { pause := true } [(D.show_source, 0, 0)]
     s.timeline.ltc.reanchor = false ∧ s.timeline.ltc.pause = true ∧ s.role ≤ 1 ∧ s.get D.show_source = 0 ∧
      s.mirrored = false) := by decide +kernel

theorem test_ShowTimeContinuous_witness :
    (-(2 ^ 63) : Int) ≤ 2 ^ 63 - 1 ∧ (2 ^ 63 - 1 : Int) < 2 ^ 63 ∧ (-(2 ^ 63) : Int) ≤ ({} : State).showTime 1 ∧
      ({} : State).showTime 1 < 2 ^ 63 := by decide +kernel

/-- A chain of output 1023 at a step. -/
def chainAt (x : Stepper) : Chain := { out := 1023, step := x }

theorem test_RenderEventsComplete_witness :
    (let j : TriJob := ⟨0, [], ⟨0, 0, 0⟩, 0, none⟩
     let s : State := { render := { triJobs := [j] } }
     s.render.triJobs = j :: [] ∧ j.result = none) ∧
    (let j : TriJob := ⟨0, [], ⟨0, 0, 0⟩, 0, some ⟨0, [], 0, [], []⟩⟩
     let s : State := { render := { triJobs := [j] } }
     s.render.triJobs = j :: [] ∧ j.result = some ⟨0, [], 0, [], []⟩) ∧
    (let s : State := { render := { marks := [{ out := 1023, failed := true }] } }
     (s.mark (1023 : Fin 1024).val).failed = true) ∧
    (let s := withValues [(D.runState12, 2, 0)]
     s.awaitsState = false ∧ s.render.slot = none ∧ s.get D.runState12 ≠ 0 ∧ s.power.stopAt = none) ∧
    (withValues [(D.etch_pending_state, 5, 1023)]).get D.etch_pending_state 1023 = 5 ∧
    (let s : State := { render := { chains := [chainAt (.waiting 3)] } }
     chainAt (.waiting 3) ∈ s.render.chains ∧ (chainAt (.waiting 3)).out = 1023 ∧
      (chainAt (.waiting 3)).step = .waiting 3) := by decide +kernel

/-- A filter set of output 1023 in the state of its transform. -/
def etching (taps : List Word32) : State :=
  { withValues [(D.etch_pending_state, 2, 1023), (D.etch_max_taps, 1, 1023)] with
    render := { etchSets := [⟨1023, taps, 0⟩] } }

theorem test_RenderEventsComplete_transform_witness :
    ((etching [0#32]).get D.etch_pending_state 1023 = 2 ∧
      etchSetOf (etching [0#32]).render.etchSets 1023 = some ⟨1023, [0#32], 0⟩ ∧
      (∀ x ∈ [0#32], F32.isFinite x = true) ∧ [0#32].length ≤ (etching [0#32]).get D.etch_max_taps 1023) ∧
    ((etching [0x7F800000#32]).get D.etch_pending_state 1023 = 2 ∧
      etchSetOf (etching [0x7F800000#32]).render.etchSets 1023 = some ⟨1023, [0x7F800000#32], 0⟩ ∧
      ∃ x ∈ [0x7F800000#32], F32.isFinite x = false) :=
  ⟨⟨by decide +kernel, by decide +kernel, List.forall_mem_singleton.2 (by decide +kernel), by decide +kernel⟩,
    by decide +kernel, by decide +kernel, _, List.mem_singleton_self _, by decide +kernel⟩

/-- A state with values and a part of the services. -/
def serving (l : List (Obj × Nat × Nat)) (x : ServiceState) : State := { withValues l with svc := x }

theorem test_ServiceEventsComplete_witness :
    (let s := (withValues [(D.voice_clip, 7, 63), (D.clip_rate, 0, 7)]).setBlob D.clip_blob [0#8, 0#8, 0#8] 7
     s.clipLen (s.get D.voice_clip (63 : Fin 64).val) ≠ 0 ∧
      s.get D.clip_rate (s.get D.voice_clip (63 : Fin 64).val) = s.get D.render_rate ∧
      s.get D.voice_bind (63 : Fin 64).val = 0) ∧
    (let s : State := {}
     s.clipLen (s.get D.voice_clip (63 : Fin 64).val) = 0) ∧
    (let x : VoiceRun := ⟨63, 7, 0, 0, .none_, true⟩
     let s := serving [(D.voice_state, 1, 63)] { voices := [x] }
     voiceOf s.svc.voices (63 : Fin 64).val = some x ∧ s.get D.voice_state (63 : Fin 64).val = 1 ∧ x.ended = true) ∧
    (withValues [(D.clip_state, 2, 1023)]).get D.clip_state (1023 : Fin 1024).val = 2 ∧
    (let s := serving [(D.fab_node_addr, 9, 0), (D.amb_owner, 9, 255)] { trackers := [{ tracker := 255, spoiled := true }] }
     s.ownTrackers.contains (255 : Fin 256).val = true ∧ (trackerOf s.svc.trackers (255 : Fin 256).val).spoiled = true) ∧
    (let s := serving [(D.fab_node_addr, 9, 0), (D.amb_owner, 9, 255)] { trackers := [{ tracker := 255, samples := 1 }] }
     s.ownTrackers.contains (255 : Fin 256).val = true ∧
      (trackerOf s.svc.trackers (255 : Fin 256).val).spoiled = false ∧
      (trackerOf s.svc.trackers (255 : Fin 256).val).samples ≠ 0) := by decide +kernel

theorem test_ProofEventsComplete_witness :
    (let w : DoneWindow := ⟨8, 8, [], [⟨1023, 0, true⟩]⟩
     let s := serving [(D.pf_probe, 31, 1023)] { closed := some w, done := some w }
     s.svc.closed = some w ∧ s.mirrored = false ∧ s.svc.done = some w ∧ s.get D.pf_probe (1023 : Fin 1024).val < 32 ∧
      ((w.outs.find? (·.out = (1023 : Fin 1024).val)).getD ⟨(1023 : Fin 1024).val, 0, true⟩).spoiled = true) ∧
    (let s : State := {}
     (1 : Nat) ≠ 0 ∧ s.get D.pw_state = 0 ∧ s.get D.pf_window_state ≠ 1) ∧
    (let s := serving [(D.ls_enable, 1, 15)] { lines := [{ line := 15, spoiled := true }] }
     s.mirrored = false ∧ s.supervised.contains (15 : Fin 16).val = true ∧
      (lineOf s.svc.lines (15 : Fin 16).val).spoiled = true) := by decide +kernel

theorem test_LocalIoEventsComplete_witness :
    (let s := withValues [(D.sp_state, 2, 15), (D.sp_clock, 0, 15)]
     s.portsLive = true ∧ s.sideState (2 * (7 : Fin 8).val + 1) = 2 ∧ s.sideSlave (2 * (7 : Fin 8).val + 1) = false) ∧
    (let s := withValues [(D.sp_state, 2, 14), (D.sp_clock, 0, 14), (D.apll_state, 2, 0)]
     s.sideState (2 * (7 : Fin 8).val) = 2 ∧ s.get D.apll_state ≠ 0 ∧ s.sideSlave (2 * (7 : Fin 8).val) = false ∧
      s.outputsMuted = false) ∧
    (let s := withValues [(D.sp_state, 2, 15), (D.sp_clock, 1, 15)]
     s.sideState (15 : Fin 16).val = 2 ∧ s.sideSlave (15 : Fin 16).val = true) ∧
    (withValues [(D.sp_state, 3, 15)]).sideState (15 : Fin 16).val = 3 ∧
    (let s := withValues [(D.aes_rx_state, 2, 3), (D.aes_rx_asrc, 0, 3)]
     let u := (s.trackFrame 19 (s.frameIndex 0 0).1 (s.frameIndex 0 0).2).1
     s.portsLive = true ∧ s.sideState (16 + (3 : Fin 4).val) = 2 ∧
      s.trackFrame 19 (s.frameIndex 0 0).1 (s.frameIndex 0 0).2 = (u, false) ∧ u.sideState 19 = 2 ∧
      u.sideAsrc 19 = false) ∧
    (let s := withValues [(D.aes_tx_enable, 1, 3), (D.apll_state, 1, 0)]
     s.getB D.aes_tx_enable (3 : Fin 4).val = true ∧ s.get D.apll_state ≠ 0 ∧ s.outputsMuted = true) ∧
    (let s : State := { io := { idac := [{ idac := 15, queue := [(48000, 100)] }] } }
     (idacOf s.io.idac (15 : Fin 16).val).queue = (48000, 100) :: []) ∧
    ({} : State).get D.idac_compliance (15 : Fin 16).val ≠ 1 := by decide +kernel

/-- Transmit ring 63 on port 6 with one descriptor: a frame of 60 bytes at the start of USER, with `flags`. -/
def oneFrame (flags : Nat) : State :=
  (withValues [(D.ring_base, 0xEC001000, 63), (D.ring_size, 4, 63), (D.ring_tail, 1, 63), (D.ring_port, 6, 63),
    (D.runRingTx, 1, 23), (D.port_link, 1, 6)]).writeMem 0xEC001000
      (leBytes 32 (0xEC000000 + 60 * 2 ^ 64 + 3 * 2 ^ 93 + flags))

theorem test_PortsAndFramesComplete_witness :
    (let s := withValues [(D.runPort, 1, 6), (D.port_speed, 2, 6)]
     s.get D.runPort (6 : Fin 7).val = 1 ∧ s.get D.port_speed (6 : Fin 7).val = 2) ∧
    (withValues [(D.runPort, 1, 6)]).get D.runPort 6 = 1 ∧
    ((2 : Nat) ≠ 1 ∧ (withValues [(D.port_pause, 0, 6)]).get D.port_pause (6 : Fin 7).val = 0) ∧
    (let s := withValues [(D.port_pause, 1, 6), (D.port_speed, 1, 6)]
     s.get D.port_pause (6 : Fin 7).val = 1 ∧ s.get D.port_speed (6 : Fin 7).val = 1 ∧ s.ports.pauses = [] ∧
      s.ports.launches = [] ∧ s.ports.queued = []) ∧
    (let s := oneFrame (2 ^ 91 + 10000 * 2 ^ 96)
     let now := s.ringTime 63 s.time.local_
     let at_ := extendStamp (bits (s.ringDesc 63 0) 96 32) (now / ns32).toNat
     s.txHead (40 + (23 : Fin 24).val) = .frame 1 [(0xEC000000, 60)] ∧ descBit (s.ringDesc 63 0) 91 = true ∧
      s.launchOf 63 = none ∧ now + 10000 * ns32 ≤ at_ * ns32) ∧
    (let s := withValues [(D.port_link, 1, 6)]
     let f : List Byte := List.replicate 60 0#8
     s.power.phase ≠ .dormant ∧ s.get D.port_link (6 : Fin 7).val = 1 ∧ 60 ≤ f.length ∧ f.length ≤ 1518 ∧
      frameField f 12 2 ≠ 0x8808 ∧ frameField f 12 2 ≠ 0x88B6 ∧
      (s.count D.rx_frames 6).classify 6 f = (.unclaimed, none)) ∧
    (let s := withValues [(D.port_link, 1, 6), (D.port_default, 1, 6), (D.port_default_ring, 31, 6)]
     (s.count D.rx_frames 6).classify 6 (List.replicate 60 0#8) = (.ring 31 0xFF, none)) ∧
    ((List.replicate 59 0#8 : List Byte).length < 60 ∧ 1518 < (List.replicate 1519 0#8 : List Byte).length) ∧
    (let s := oneFrame 0
     s.get D.port_link (6 : Fin 7).val = 1 ∧ s.heldBack (6 : Fin 7).val 0 = false ∧ s.ports.launches = [] ∧
      s.txPick (6 : Fin 7).val 0 = some 63 ∧
      s.txHead 63 = .frame 1 [(0xEC000000, 60)] ∧ s.badIn 0xEC000000 60 = false ∧ s.launchOf 63 = none ∧
      descBit (s.ringDesc 63 0) 92 = false) ∧
    (let s := withValues [(D.es_kind, 1, 511), (D.es_port, 6, 511), (D.port_link, 1, 6), (D.port_personality, 1, 6),
       (D.es_addr, 0x0A000001, 511)]
     s.get D.es_kind (511 : Fin 512).val = 1 ∧ 96 % s.packetSamples (s.get D.es_ptime (511 : Fin 512).val) = 0 ∧
      s.get D.port_link (s.get D.es_port (511 : Fin 512).val) = 1 ∧
      s.get D.port_personality (s.get D.es_port (511 : Fin 512).val) ≠ 0 ∧ s.twin.drive = true ∧
      s.macOf (s.get D.es_port (511 : Fin 512).val) (s.get D.es_addr (511 : Fin 512).val) = none) ∧
    (let s := withValues [(D.es_kind, 1, 511), (D.es_port, 6, 511), (D.port_link, 1, 6), (D.port_personality, 1, 6),
       (D.es_addr, 0xEF000001, 511)]
     s.get D.es_kind (511 : Fin 512).val = 1 ∧ s.get D.port_link (s.get D.es_port (511 : Fin 512).val) = 1 ∧
      s.get D.port_personality (s.get D.es_port (511 : Fin 512).val) ≠ 0 ∧
      s.macOf (s.get D.es_port (511 : Fin 512).val) (s.get D.es_addr (511 : Fin 512).val) = some 0x01005E000001) := by
  decide +kernel

theorem test_CodeCorrectsTwoBits_witness : 78 < 79 ∧ 0 < 79 ∧ 78 ≠ 0 := by decide

theorem test_BurnishCompletes_witness :
    (let s : State := {}
     s.mem.bad.contains 3 = false ∧ decTed (codeword (s.wordAt 3) 3 ^^^ 0#80) 3 = .clean 0#64) ∧
    (let s := ({} : State).writeMem 24 [1#8]
     s.mem.bad.contains 3 = false ∧ s.wordAt 3 = 1#64 ∧
      decTed (codeword (s.wordAt 3) 3 ^^^ 1#80) 3 = .corrected (s.wordAt 3)) ∧
    (let s : State := { mem := { badUnit := [(.etcher, 5)] } }
     MemUnit.etcher.mapped = false ∧ s.mem.badUnit.contains (.etcher, 5) = true) := by decide +kernel

theorem test_MemoryEventsComplete_requests_witness :
    Requester.burnish.master? = none ∧ (matrixDecodes (7 : Fin 8).val 0x1FFFFFFFF = true ∧ matrixTarget 0x1FFFFFFFF = some 0) ∧
      (matrixDecodes (7 : Fin 8).val 0x210000000 = false ∧ matrixDecodes (0 : Fin 8).val 0x200800000 = false) ∧
    (let a : MemRequest := ⟨.master 7, 2 ^ 33 - 1⟩
     let b : MemRequest := ⟨.master 1, 0⟩
     let c : MemRequest := ⟨.master 2, 0⟩
     let s := withValues [(D.mtx_park, 3, 0)]
     a.who = .master 7 ∧ b.who = .master 1 ∧ (7 : Fin 8) ≠ 1 ∧ a.addr < 2 ^ 33 ∧ b.addr < 2 ^ 33 ∧
      s.get D.mtx_park 0 ≠ 7 ∧ s.get D.mtx_park 0 ≠ 1 ∧ s.get D.mtx_park 0 ≠ 2 ∧ b.class_ < a.class_ ∧
      b.class_ = c.class_ ∧ turnDistance (s.mem.turns.getD 0 7) 1 < turnDistance (s.mem.turns.getD 0 7) 2) := by
  decide +kernel

theorem test_MemoryEventsComplete_witness :
    (let r : DmcRequest := ⟨1, 7, 2, 5, 0, 100⟩
     let s : State := { mem := { waiting := [r], postponed := 7 } }
     dmcPick [] s.time.local_ s.mem.waiting = some r ∧ s.mem.ahead = 0 ∧ r ∈ s.mem.waiting ∧ r.cls = 2 ∧
      s.mem.postponed < 8) ∧
    (let r : DmcRequest := ⟨1, 7, 2, 5, 0, 100⟩
     let s : State := { mem := { waiting := [r], postponed := 8 } }
     s.mem.ahead = 0 ∧ r ∈ s.mem.waiting ∧ r.cls = 2 ∧ 8 ≤ s.mem.postponed) ∧
    0 < ({ mem := { ahead := 1 } } : State).mem.ahead ∧ ({} : State).mem.training = none ∧
    (let t : Training := { setPoint := 1, step := 5 }
     let s : State := { mem := { training := some t } }
     s.mem.training = some t ∧ s.mem.deferred = [] ∧ t.step < 6) ∧
    (let t : Training := { setPoint := 1, step := 6 }
     let s : State := { mem := { training := some t } }
     s.mem.training = some t ∧ s.mem.deferred = [] ∧ 6 ≤ t.step ∧ t.fails = 0) ∧
    (let s := withValues [(D.dma_trigger, 1, 7), (D.runDma, 1, 7), (D.dma_size, 4, 7), (D.dma_tail, 1, 7),
       (D.dma_state, 0, 15)]
     s.get D.dma_trigger (7 : Fin 8).val ≠ 0 ∧ s.get D.runDma (7 : Fin 8).val = 1 ∧
      s.get D.dma_size (7 : Fin 8).val ≠ 0 ∧ s.get D.dma_state ((7 : Fin 8).val + 8) = 0 ∧
      s.dmaOwned (7 : Fin 8).val ≠ 0) ∧
    (let s := withValues [(D.dma_trigger, 1, 7), (D.runDma, 1, 7), (D.dma_size, 4, 7), (D.dma_state, 2, 15)]
     s.get D.dma_trigger (7 : Fin 8).val ≠ 0 ∧ s.get D.runDma (7 : Fin 8).val = 1 ∧
      s.get D.dma_size (7 : Fin 8).val ≠ 0 ∧ s.get D.dma_state ((7 : Fin 8).val + 8) = 2) ∧
    (let s : State := { mem := { ramps := [(1, [(48, 100), (49, 100)])] } }
     (s.mem.ramps.find? fun r => r.1 == (1 : Fin 2).val) = some ((1 : Fin 2).val, (48, 100) :: [(49, 100)])) := by
  decide +kernel

/-- DMA channel 7, RUNNING, with one descriptor: 64 bytes within USER, with `flags`. -/
def oneDescriptor (flags : Nat) : State :=
  (withValues [(D.dma_base, 0xEC001000, 7), (D.dma_size, 4, 7), (D.dma_tail, 1, 7), (D.dma_state, 1, 15)]).writeMem
    0xEC001000 (leBytes 32 (0xEC000000 + 0xEC000800 * 2 ^ 64 + 64 * 2 ^ 160 + flags))

/-- The three hypotheses on a descriptor that both of its clauses share. -/
def descriptorWaits (s : State) : Bool := s.get D.dma_state 15 == 1 && s.dmaOwned 7 != 0

theorem test_DmaDescriptorDone_witness :
    (let s := oneDescriptor (2 ^ 199 + 2 ^ 198 + 2 ^ 197 + 2 ^ 196)
     let d := s.dmaDesc (s.dmaAt (7 : Fin 8).val)
     descriptorWaits s = true ∧ d.bad = false ∧ s.dmaBadWord d = none ∧ d.fence = true ∧ d.event = true) ∧
    (let s := oneDescriptor (2 ^ 199 + 2 ^ 192)
     let d := s.dmaDesc (s.dmaAt (7 : Fin 8).val)
     descriptorWaits s = true ∧ d.bad = true) := by decide +kernel

theorem test_GreatestKeyServed_witness :
    (let a : DmcRequest := ⟨1, 7, 0, 5, 0, 100⟩
     let b : DmcRequest := ⟨2, 0, 2, 6, 0, 100⟩
     dmcPick [1] 0 [a, b] = some b ∧ a ∈ [a, b] ∧ dmcFree [a, b] a = true) ∧
    (let r : DmcRequest := ⟨1, 7, 0, 5, 0, 100⟩
     let t := (r.target : Int) * 2 ^ 32
     2 * r.age (50 * 2 ^ 32 - 1) < t ∧ (t ≤ 2 * r.age (50 * 2 ^ 32) ∧ 4 * r.age (50 * 2 ^ 32) < 3 * t) ∧
      (3 * t ≤ 4 * r.age (75 * 2 ^ 32) ∧ r.age (75 * 2 ^ 32) < t) ∧ t ≤ r.age (100 * 2 ^ 32)) ∧
    (let r : DmcRequest := ⟨1, 7, 0, 5, 0, 100⟩
     let s : State := { withValues [(D.dmc_port_age_limit, 1000, 7)] with
       time := { local_ := 1000 * ns32 }, mem := { waiting := [r] } }
     (s.mem.waiting.find? fun r => r.port == (7 : Fin 8).val && r.cls != 2 &&
       decide (r.age s.time.local_ ≥ (s.get D.dmc_port_age_limit (7 : Fin 8).val : Int) * ns32)) = some r) := by
  decide +kernel

/-- An instance of node 0xEFF that runs on core 7 and holds a program of two bundles, the first of them `b`. -/
def runningOn7 (b : Bundle) : Inst :=
  { node := 0xEFF, block := 1, core := 7, cls := 0, stage := .running, due := 0, deadline := 0, released := 0
    code := [b.encode, 0#64], cost := 8, regs := { stack := [0] } }

/-- A state in which that instance runs. -/
def stateOn7 (b : Bundle) : State := { graver := { insts := [runningOn7 b] } }

/-- The bundle can be issued, as a computation. -/
def canIssue (b : Bundle) : Bool :=
  let i := runningOn7 b
  (match i.fetch with | .ok q => q == b | .error _ => false) && !i.overruns b &&
    ((i.loadAddrs b).all fun a => !(stateOn7 b).badIn a 4) &&
    (match i.run b ((stateOn7 b).wordX i b) ((stateOn7 b).wordY i b) with | .ok _ => true | .exception _ => false)

theorem bundleIssues_of_canIssue (b : Bundle) (h : canIssue b = true) :
    ∃ r, bundleIssues (stateOn7 b) 7 (runningOn7 b) b r := by
  simp only [canIssue, Bool.and_eq_true] at h
  obtain ⟨⟨⟨h1, h2⟩, h3⟩, h4⟩ := h
  cases hf : (runningOn7 b).fetch with
  | error e => simp [hf] at h1
  | ok q =>
    cases hr : (runningOn7 b).run b ((stateOn7 b).wordX (runningOn7 b) b) ((stateOn7 b).wordY (runningOn7 b) b) with
    | exception k => simp [hr] at h4
    | ok r =>
      have hq : q = b := by simpa [hf] using h1
      exact ⟨r, rfl, rfl, by rw [hf, hq], by simpa using h2, by simpa using h3, hr⟩

/-- A bundle for each clause, with what the clause asks of it. -/
def issueList : List (Bundle × Bool) :=
  [(.nop, Bundle.quiet .nop)] ++
  ([1#2, 2#2].map fun op => let b : Bundle := .dual ⟨op, 3, 15, 15⟩ ⟨0, 0, 0, 0⟩ idleMoves; (b, b.hasMac op)) ++
  ([1#2, 2#2, 3#2].map fun op =>
    let b : Bundle := .dfma ⟨op, 15, 15, 15⟩ ⟨0, 0, 0, 0⟩ ⟨0, 0, 0, 0⟩ ⟨0, 0, 0, 0⟩ 0; (b, b.hasFma op)) ++
  (aluOps.map fun n => let b : Bundle := .alu (BitVec.ofNat 6 n) 15 15 15 idleMoves; (b, b.hasAlu (BitVec.ofNat 6 n))) ++
  [(.imm 0x33 0xFFFFFFFF, Bundle.isImm (.imm 0x33 0xFFFFFFFF))] ++
  ([0#4, 1#4, 2#4, 3#4, 4#4, 5#4].map fun op =>
    let b : Bundle := .acc op 3 0 15 idleMoves; (b, b.hasAcc op)) ++
  ([0#4, 1#4, 2#4, 3#4, 4#4, 5#4].map fun op =>
    let b : Bundle := .flow op 0 0 0 1 0; (b, b.hasFlow op)) ++
  [(.sys 3 0, Bundle.hasSys 3 (.sys 3 0)), (.sys 0 0, Bundle.exits (.sys 0 0)), (.sys 1 0, Bundle.yields (.sys 1 0)),
    (.sys 2 4800, Bundle.hasSys 2 (.sys 2 4800))]

theorem issueList_issues : (issueList.all fun e => canIssue e.1 && e.2) = true := by decide +kernel

theorem test_BundlesIssue_witness : ∀ e ∈ issueList,
    (∃ r, bundleIssues (stateOn7 e.1) 7 (runningOn7 e.1) e.1 r) ∧ e.2 = true := by
  intro e he
  have h := List.all_eq_true.1 issueList_issues e he
  simp only [Bool.and_eq_true] at h
  exact ⟨bundleIssues_of_canIssue _ h.1, h.2⟩

/-- A bundle that stores f15 through y7, and one that does nothing else. -/
def storing : Bundle := .dual ⟨0, 0, 0, 0⟩ ⟨0, 0, 0, 0⟩ ⟨⟨0, 0, 0, 0⟩, ⟨0, 0, 0, 0⟩, ⟨1, 1, 15, 7, 0⟩, 0⟩

theorem test_BundleStoresOneWord_witness :
    (∃ r, bundleIssues (stateOn7 storing) 7 (runningOn7 storing) storing r) ∧ storing.exits = false ∧
      storing.waitsFor = none ∧ storing.yields = false ∧ storing.store? = some ⟨1, 1, 15, 7, 0⟩ ∧
      Bundle.store? .nop = none :=
  ⟨bundleIssues_of_canIssue _ (by decide +kernel), by decide⟩

/-- An instance at its start, with a program of two bundles. -/
def fresh (r : GravCtx) : Inst := { runningOn7 .nop with regs := r }

theorem test_SlotResults_witness : (fresh {}).regs.straight := ⟨rfl, rfl, rfl⟩

theorem test_DfmaOperations_witness :
    (fresh {}).regs.straight ∧ (0x2401000800162000#64).extractLsb' 60 4 = 2#4 ∧
      (decodeBundle (0x2#4 ++ 1#2 ++ 15#4 ++ 15#4 ++ 15#4 ++ 0#46)).isSome = true :=
  ⟨⟨rfl, rfl, rfl⟩, by decide, by decide⟩

theorem test_AccumulatorIsExact_witness : (-(2 ^ 71) : Int) ≤ 2 ^ 71 - 1 ∧ (2 ^ 71 - 1 : Int) < 2 ^ 71 ∧
    (-(2 ^ 71) : Int) ≤ -(2 ^ 71) ∧ (-(2 ^ 71) : Int) < 2 ^ 71 := by decide

theorem test_PostModifyStaysInBuffer_witness :
    ((0x00000007#32).extractLsb' 30 2).toNat = 0 ∧ ((0x40000007#32).extractLsb' 30 2).toNat = 1 ∧
      (let n := ((0x40000007#32).extractLsb' 0 16).toNat + 1
       (0xFFFF#16).toNat / 2 ^ ceilLog2 n * 2 ^ ceilLog2 n + n ≤ 2 ^ 16) := by decide +kernel

theorem test_FlowAndStopsComplete_witness :
    (let i := fresh { stack := [1, 2, 3] }
     i.regs.straight ∧ i.code.length ≤ (2#13).toNat ∧ (1#13).toNat < i.code.length ∧ i.regs.cond (0#4).toNat = true ∧
      i.regs.cond (1#4).toNat = false ∧ i.regs.stack.length < 4 ∧ i.regs.stack = 1 :: [2, 3] ∧
      i.regs.pc < (1#13).toNat ∧ (1#16 : BitVec 16) ≠ 0#16) ∧
    (let i := fresh { x := List.replicate 8 1#16 }
     (i.readReg (0x10#6).toNat).setWidth 16 ≠ 0#16 ∧ i.regs.stack = []) ∧
    4 ≤ (fresh { stack := [1, 2, 3, 4] }).regs.stack.length ∧
    (let i := runningOn7 (.sys 4#4 7#16)
     let s := stateOn7 (.sys 4#4 7#16)
     s.issuing (7 : Fin 8).val = some i ∧ vendorNode i.node = false ∧
      (match i.fetch with | .ok q => q == .sys 4#4 7#16 | .error _ => false) = true ∧
      i.overruns (.sys 4#4 7#16) = false) ∧
    ({ runningOn7 .nop with cost := 0 } : Inst).overruns .nop = true ∧
    (let i : Inst := { runningOn7 .nop with node := 0xF00 }
     let s : State := { graver := { insts := [i] } }
     s.issuing (7 : Fin 8).val = some i ∧ vendorNode i.node = true) ∧
    (let r : GravCtx := { lv0 := some ⟨0, 0⟩ }
     r.delay = none ∧ r.lv0 = some ⟨0, 0⟩ ∧ r.lv1 = none ∧ (⟨0, 0⟩ : LoopLevel).last = r.pc ∧
      (r.lc.getD 0 0#16).toNat ≤ 1) :=
  ⟨⟨⟨rfl, rfl, rfl⟩, by decide⟩, by decide +kernel, by decide, by decide +kernel, by decide +kernel, by decide +kernel,
    by decide⟩

/-- The end bundle of a loop whose count has run out. -/
theorem test_LoopCountExpire_witness :
    (let i : Inst := { runningOn7 .nop with regs := { lv0 := some ⟨0, 0⟩ } }
     let s : State := { graver := { insts := [i] } }
     s.issuing (7 : Fin 8).val = some i ∧ vendorNode i.node = false ∧
      (match i.fetch with | .ok q => q == .nop | .error _ => false) = true ∧ i.overruns .nop = false ∧
      i.loadAddrs .nop = [] ∧
      (match i.run .nop 0#32 0#32 with | .ok _ => true | .exception _ => false) = true ∧
      i.regs.lv0 = some ⟨0, 0⟩ ∧ (⟨0, 0⟩ : LoopLevel).last = i.regs.pc ∧ (i.regs.lc.getD 0 0#16).toNat ≤ 1) := by
  decide +kernel

theorem test_DispatchEventsComplete_witness :
    (let x : NodeNow := ⟨0xEFF, 7, 0, 0, 0, 0, 0, 0, 0, 0, 0, false, []⟩
     let s : State := { withValues [(D.node_kind, 1, 0xEFF), (D.node_period, 1, 0xEFF)] with graver := { nodes := [x] } }
     vendorNode (0xEFF : Fin 4096).val = false ∧
      (s.graver.insts.any fun y => y.node == (0xEFF : Fin 4096).val && y.block == 3) = false ∧
      s.nodeNow (0xEFF : Fin 4096).val = some x ∧ s.nodeReleases (0xEFF : Fin 4096).val 3 = true ∧
      s.inputsReady (0xEFF : Fin 4096).val 3 = true) ∧
    (let r : Inst := { runningOn7 .nop with cls := 3, regs := { preq := true } }
     let i : Inst := { runningOn7 .nop with node := 5, stage := .ready }
     let s : State := { withValues [(D.core_mode, 0, 7)] with graver := { insts := [r, i] } }
     s.issuing (7 : Fin 8).val = some r ∧ r.regs.preq = true ∧ s.challenger (7 : Fin 8).val = some (r, i)) ∧
    (let i := runningOn7 .nop
     ((stateOn7 .nop).graver.insts.find? fun x => x.node == (0xEFF : Fin 4096).val && x.block == 1 && x.stage != .done) =
      some i) := by decide +kernel

theorem test_ReadyOrder_witness :
    (let i : Inst := { runningOn7 .nop with cls := 3 }
     bestInst [i, { i with cls := 1, stage := .preempted }, { i with cls := 1 }] = some { i with cls := 1, stage := .preempted }) := by
  decide +kernel

/-- A neighbour on port 5 in a state of R526, its digests equal to our own or not. -/
def withNeighbour (nbrState : Nat) (n : Neighbour) (l : List (Obj × Nat × Nat)) : State :=
  { withValues ([(D.nbr_state, nbrState, 5), (D.port_personality, 0, 5), (D.port_link, 1, 5)] ++ l) with
    fabric := { neighbours := [n] } }

/-- A HELLO with a fabric id. -/
def helloWith (id : Nat) : Hello := ⟨9, 0, 0, 2, 0, 0, id, 0, 0, 0, 0, 3⟩

/-- An LSA of a vertex with a sequence. -/
def lsaWith (vertex seq : Nat) : Lsa := ⟨vertex, false, false, true, seq, 0, 0, 0, []⟩

/-- A link's direction, which has accepted link_seq 64. -/
def linkKey : LinkDir := { key := List.replicate 16 1#8, salt := List.replicate 4 2#8, top := 64, seen := [64] }

/-- A frame of vertex 9 for every vertex, with a hop limit and a link_seq, and with the tag of `linkKey`. -/
def frameOf (type hop linkSeq : Nat) (body : List Byte) : FabFrame :=
  let f : FabFrame :=
    { type := type, hop := hop, source := 9, dest := toEvery, streamId := 77, sequence := 1, length := body.length, linkSeq := linkSeq }
  { f with tag := linkKey.tagOf linkSeq (f.covered body) }

theorem frameOf_formed (type hop n : Nat) (body : List Byte) : (frameOf type hop n body).formed type body = true := by
  simp [FabFrame.formed, frameOf]

/-- The window of `linkKey` holds 1, and neither 0 nor 64 again. -/
theorem frameOf_admits (type hop : Nat) (body : List Byte) : linkKey.admits (frameOf type hop 1 body) body = true ∧
    linkKey.admits (frameOf type hop 0 body) body = false ∧ linkKey.admits (frameOf type hop 64 body) body = false := by
  simp [LinkDir.admits, frameOf, linkKey, LinkDir.tagOf, FabFrame.covered]

/-- The neighbour on port 5 with that key. -/
def nbrKeyed : Neighbour := { port := 5, rx := some linkKey }

/-- The body of a STREAM frame without channels. -/
def noChannels : StreamFrame := ⟨0, [], []⟩

/-- A state with the tree of vertex 9: this unit, vertex 0, is its child by port 5 and passes on by `down`. -/
def withTree (down : List TreeBranch) : State :=
  { withNeighbour 3 nbrKeyed [] with
    fabric := { neighbours := [nbrKeyed], gens := [⟨0, [⟨9, false, ⟨0, 9, 5, 1⟩ :: down⟩]⟩] } }

theorem test_FabricEventsComplete_witness :
    (let s := withNeighbour 1 { port := 5 } [(D.fab_id, 4, 0), (D.render_rate, 0, 0), (D.pres_offset, 0, 0)]
     s.fabPort (5 : Fin 6).val = true ∧ s.get D.nbr_state (5 : Fin 6).val = 1 ∧ s.helloDiffers (helloWith 4) = 0 ∧
      s.helloDiffers (helloWith 7) ≠ 0 ∧ s.fabric.quiet = false) ∧
    (let s := withNeighbour 2 { port := 5, peerMac := 1 } [(D.owner_state, 1, 0), (D.port_mac, 2, 5)]
     s.fabPort (5 : Fin 6).val = true ∧ s.get D.nbr_state (5 : Fin 6).val = 2 ∧ s.get D.nbr_state (5 : Fin 6).val ≠ 0 ∧
      s.get D.owner_state ≠ 0 ∧ (s.nbr (5 : Fin 6).val).peerMac < s.get D.port_mac (5 : Fin 6).val) ∧
    (let s := withNeighbour 2 { port := 5, peerMac := 1 } [(D.owner_state, 0, 0), (D.port_mac, 2, 5)]
     s.get D.owner_state = 0 ∧ (s.nbr (5 : Fin 6).val).peerMac < s.get D.port_mac (5 : Fin 6).val) ∧
    (List.replicate 16 0#8 : List Byte).length = 16 ∧ (keyOf (keyBytes eccG)).isSome = true ∧
    (let x : LinkShake := { initiator := false, id := 9, secret := 1 }
     let s := withNeighbour 2 { port := 5, shake := some x } []
     (s.nbr (5 : Fin 6).val).shake = some x ∧ x.initiator = false ∧ x.id = 9) ∧
    (let x : LinkShake := { initiator := true, id := 9, secret := 1, chain := [0#8], total := 1 }
     let s := withNeighbour 2 { port := 5, shake := some x } []
     (s.nbr (5 : Fin 6).val).shake = some x ∧ x.initiator = true ∧ 0 < x.total ∧ x.total ≤ x.chain.length) ∧
    (withNeighbour 5 { port := 5 } []).get D.nbr_state (5 : Fin 6).val = 5 ∧
    (let s := withNeighbour 3 nbrKeyed []
     s.get D.nbr_state (5 : Fin 6).val = 3 ∧ (s.nbr (5 : Fin 6).val).differs = false ∧
      (s.nbr (5 : Fin 6).val).rx = some linkKey ∧ (s.nbr (5 : Fin 6).val).rxOld = none) ∧
    (withValues [(D.fab_state, 4, 0)]).get D.fab_state = 4 := by decide +kernel

theorem test_FabricEventsComplete_formed_witness :
    (frameOf ftHello 1 0 (helloWith 4).bytes).formed ftHello (helloWith 4).bytes = true ∧
    (frameOf ftAdmit 1 0 (helloWith 4).bytes).formed ftHello (helloWith 4).bytes = false ∧
    (frameOf ftHello 1 0 []).formed ftHello (helloWith 4).bytes = false ∧
    ({ frameOf ftHello 1 0 [] with version := 2 } : FabFrame).formed ftHello [] = false := by decide +kernel

theorem test_FabricEventsComplete_lsa_witness :
    (let s := withNeighbour 3 nbrKeyed []
     let l := lsaWith 9 2
     s.get D.nbr_state (5 : Fin 6).val = 3 ∧ s.fabPort (5 : Fin 6).val = true ∧
      (s.nbr (5 : Fin 6).val).rx = some linkKey ∧ l.vertex ≠ s.vertex ∧ s.heldLsa l.vertex = none) ∧
    (let h : HeldLsa := ⟨lsaWith 9 2, 0⟩
     let s : State := { withNeighbour 3 nbrKeyed [] with
       time := { local_ := 90000000000 * ns32 }
       fabric := { neighbours := [nbrKeyed], lsdb := [h], waiting := [(5, 9, 2)] } }
     (lsaWith 9 2).vertex ≠ s.vertex ∧ s.heldLsa 9 = some h.lsa ∧ (lsaWith 9 2).seq ≤ h.lsa.seq ∧
      (s.fabric.waiting.filter fun w => w.1 == (5 : Fin 6).val) = [((5 : Fin 6).val, 9, 2)] ∧ h ∈ s.fabric.lsdb ∧
      h.lsa.vertex = 9 ∧ 9 ≠ s.vertex ∧ 90000000000 * ns32 ≤ s.time.local_ - h.time) ∧
    (let s := withNeighbour 3 nbrKeyed []
     let u := s.putNbr { s.nbr 5 with rx := some (linkKey.accept 1), rxOld := none }
     let v := u.sendLink 5 (u.linkHead ftLsaAck) (lsaAckBytes 0 3)
     (lsaWith 0 3).vertex = s.vertex ∧ s.fabric.seq ≤ (lsaWith 0 3).seq ∧ lsaWith 0 3 ≠ v.ownLsa) ∧
    (let s : State := { withValues [(D.route_generation, 0, 0)] with fabric := { dirty := true } }
     s.fabric.dirty = true ∧ s.switching = false) := by decide +kernel

theorem test_FabricEventsComplete_stream_witness :
    (let s := withNeighbour 3 nbrKeyed []
     let t := frameOf ftStream 8 1 noChannels.bytes
     s.treeOf t.vertex t.treeB t.gen = none) ∧
    (let s := withTree [⟨3, 0, 2, 4⟩]
     let tree : Tree := ⟨9, false, [⟨0, 9, 5, 1⟩, ⟨3, 0, 2, 4⟩]⟩
     let t := frameOf ftStream 2 1 noChannels.bytes
     s.get D.nbr_state 5 = 3 ∧ s.fabPort 5 = true ∧ (s.nbr 5).rx = some linkKey ∧ t.vertex = 9 ∧ t.treeB = false ∧
      t.gen = false ∧ s.treeOf 9 false false = some tree ∧ t.forEvery = true ∧
      parentPort tree s.vertex ≠ some (4 : Fin 6).val ∧ parentPort tree s.vertex = some (5 : Fin 6).val ∧
      t.vertex ≠ s.vertex ∧ s.streamContexts t.streamId = [] ∧ s.get D.fab_state ≠ 3 ∧
      1 < t.hop ∧ (frameOf ftStream 1 1 noChannels.bytes).hop ≤ 1 ∧ childPorts tree s.vertex ≠ []) ∧
    (let s := withTree []
     let tree : Tree := ⟨9, false, [⟨0, 9, 5, 1⟩]⟩
     s.treeOf 9 false false = some tree ∧ parentPort tree s.vertex = some (5 : Fin 6).val ∧ childPorts tree s.vertex = []) ∧
    (let s : State := { withValues [(D.es_kind, 2, 511)] with time := { block := some 1 } }
     s.get D.es_kind (511 : Fin 512).val = 2 ∧ s.originates = true ∧ 0 < s.blockNow) := by decide +kernel

theorem test_EliminationWindow_witness :
    (let w : ElimWindow := ⟨511, 0, [(0, true, false)], 0⟩
     let s : State := { time := { local_ := 100000000 * ns32 }, fabric := { windows := [w] } }
     s.window 511 = some w ∧ w.key = 511 ∧ s.time.local_ - w.last ≤ 100000000 * ns32 ∧
      (256 : Int) < ((257 : Int) - w.top + 32768) % 65536 - 32768 ∧
      (((65280 : Int) - w.top + 32768) % 65536 - 32768 ≤ -256) ∧
      ((0 : Int) - w.top + 32768) % 65536 - 32768 ≤ 0 ∧ -256 < ((0 : Int) - w.top + 32768) % 65536 - 32768 ∧
      (w.seen.any fun e => e.1 == 0) = true) := by decide +kernel

theorem test_TwinRoleEventsComplete_witness :
    (let s : State := { withValues [(D.twin_role, 3, 0)] with power := { phase := .running } }
     s.role = roleResync ∧ s.power.phase = .running ∧ s.twin.roleIn = false ∧ s.twin.asleep = false ∧
      s.twin.slotZero = true) ∧
    (let s := withValues [(D.twin_enable, 1, 0), (D.twin_role, 2, 0), (D.twin_partner_role, 1, 0)]
     s.getB D.twin_enable = true ∧ s.role = roleStandby ∧ s.twin.asleep = false ∧ s.twin.switchAt = none ∧
      s.partnerRole = roleActive ∧ s.twin.theirResult = none) ∧
    (let s := withValues [(D.twin_role, 1, 0), (D.twin_partner_role, 2, 0)]
     s.role = roleActive ∧ s.partnerRole = roleStandby) ∧
    (let s := withValues [(D.twin_enable, 1, 0)]
     s.getB D.twin_enable = true ∧ s.twin.drive = true ∧ s.beats = true ∧ s.get D.lace_state (1 : Fin 2).val ≠ 3) ∧
    ({ twin := { loading := true } } : State).twin.loading = true ∧
    (let s := withValues [(D.twin_enable, 1, 0), (D.lace_state, 2, 0), (D.lace_state, 2, 1)]
     (s.set D.lace_state 0 (1 : Fin 2).val).laneUp (1 - (1 : Fin 2).val) = true) ∧
    (let s := withValues [(D.twin_enable, 1, 0), (D.lace_state, 2, 1)]
     s.laneUp (1 : Fin 2).val = true ∧ (s.set D.lace_state 0 (1 : Fin 2).val).laneUp (1 - (1 : Fin 2).val) = false) ∧
    (let s := withValues [(D.twin_role, 3, 0)]
     s.twin.testing = false ∧ s.role = roleResync) ∧
    (let s : State := { withValues [(D.twin_role, 1, 0)] with twin := { testing := true, ownResult := some false } }
     s.twin.testing = true ∧ s.twin.ownResult = some false ∧ s.twin.theirResult = none ∧ s.role = roleActive) ∧
    (let s : State := { withValues [(D.twin_role, 3, 0), (D.twin_partner_role, 1, 0), (D.twin_health, 1, 0)] with
       twin := { step := 3 } }
     s.role = roleResync ∧ s.paired = true ∧ s.partnerRole = roleActive ∧ s.twin.step = 3) := by decide +kernel

/-- A Lace HELLO from a partner in slot 1, with its chain in one part. -/
def helloLace : LaceHello := ⟨1, true, 1, 0, 0, 0, 0, 1, [0#8]⟩

/-- A Lace frame with its CRC, as lane 1 sends and receives it. -/
def laceOf (type : Nat) (body : List Byte) : LaceIn :=
  ⟨1, 1, type, 1, body.length, 1, crc32 (laceBytes 1 type 1 body.length 1 body)⟩

/-- The header of R539: version, type, lane, zero, length, sequence. -/
theorem test_laceBytes : laceBytes 1 ltJournalAck 1 8 5 (beBytes 8 7) =
    [1#8, 5#8, 1#8, 0#8, 0#8, 8#8, 0#8, 0#8, 0#8, 5#8, 0#8, 0#8, 0#8, 0#8, 0#8, 0#8, 0#8, 7#8] := by decide

/-- Every message has a frame that is taken, and one whose CRC fails. -/
theorem laceOf_takes (type : Nat) (body : List Byte) : (laceOf type body).holds body = true ∧
    (laceOf type body).formed type body = true ∧
    ({ laceOf type body with crc := 1 + (laceOf type body).crc } : LaceIn).holds body = false := by
  simp [LaceIn.holds, LaceIn.formed, laceOf]

/-- A pair of units with both lanes UP, in a role and with a partner's role. -/
def pairState (role partner : Nat) (x : TwinState) : State :=
  { withValues [(D.twin_enable, 1, 0), (D.twin_role, role, 0), (D.twin_partner_role, partner, 0), (D.twin_health, 1, 0),
      (D.lace_state, 2, 0), (D.lace_state, 2, 1), (D.is_kind, 1, 0)] with twin := x }

theorem test_LaceMessagesComplete_witness :
    (let f := laceOf ltJournalAck (beBytes 8 0)
     let s := pairState 2 1 {}
     ({} : State).getB D.twin_enable = false ∧ s.getB D.twin_enable = true ∧
      f.from_ = f.lane.val ∧ helloLace.slot ≠ s.get D.twin_slot ∧ helloLace.offset = 0 ∧
      helloLace.total ≤ helloLace.data.length ∧ helloLace.enabled = true ∧ s.laneUp 0 = true ∧ s.laneUp f.lane.val = true ∧
      s.paired = true ∧ s.role ≠ roleFailed ∧
      presenceAt s.twin.presence true (s.blockNow + 2 - s.get D.pres_offset) = none) ∧
    (⟨1, true, 0⟩ : LaceBeat).role.val ≠ roleStandby ∧
    (let e : JournalEntry := ⟨7, 1, none, .live []⟩
     let s := pairState 1 2 { journal := [e] }
     s.twin.journal.find? (fun e => e.index == 7) = some e ∧ s.laneFor 0 = some 0) ∧
    (let s := pairState 1 2 { timeSent := some 1, timeReceived := some 4 }
     s.twin.timeSent = some 1 ∧ s.twin.timeReceived = some 4 ∧ s.role = roleActive) ∧
    (let s := pairState 2 1 { timeSent := some 1, timeReceived := some 4, heard := [9] }
     s.twin.timeSent = some 1 ∧ s.twin.timeReceived = some 4 ∧ s.role = roleStandby ∧ s.partnerRole = roleActive ∧
      s.paired = true ∧ s.twin.heard.contains 7 = false ∧ s.twin.heard.contains 9 = true ∧
      s.blockNow + 1 < 5 + s.get D.pres_offset ∧ s.get D.is_kind 0 ≠ 0) ∧
    (let s := pairState 3 1 { testing := true, involved := 0xFF }
     s.twin.testing = true ∧ 0xFF = s.twin.involved ∧ s.role = roleResync ∧ s.twin.checkpoint = none ∧
      pairWide 0x50000000 = true ∧ 1 ≤ [0#8].length) ∧
    (pairState 1 2 { checkpoint := some 8 }).twin.checkpoint = some 8 := by decide +kernel

/-- A running module whose host SPI port is open with role OWN, and values. -/
def spi (l : List (Obj × Nat × Nat)) : State :=
  { withValues ([(D.hspi_enable, 1, 0), (D.hspi_role, 4, 0), (D.pw_state, 0, 0)] ++ l) with power := { phase := .running } }

/-- A request of the host SPI port, and who sends it. -/
def spiReq : Req := { src := .spi }
def spiWho : Who := { src := .spi, role := .own }

/-- A message of the host SPI port is served. -/
def servedAt (s : State) (m : Msg) : Bool := s.admits spiReq m && !s.mirrored

theorem serves_of_servedAt (s : State) (m : Msg) (h : servedAt s m = true) : s.serves spiReq m := by
  simpa [servedAt, State.serves] using h

/-- A WRITE of one value by the host SPI port is served and passes its checks. -/
def takesAt (e : State × Obj × Nat × Nat) : Bool :=
  let it : Item := ⟨e.2.1.addr e.2.2.1, tyCode e.2.1.ty, e.2.2.2, 0⟩
  servedAt e.1 (.write [it] 0) && (e.1.arrived spiReq).checkWrite (e.1.asker spiReq) true it == scOk

theorem takes_of_takesAt (e : State × Obj × Nat × Nat) (h : takesAt e = true) :
    e.1.takes spiReq e.2.1 e.2.2.1 e.2.2.2 := by
  simp only [takesAt, Bool.and_eq_true, beq_iff_eq] at h
  exact ⟨serves_of_servedAt _ _ h.1, h.2⟩

/-- A transaction of the host SPI port in a slot. -/
def ownTxnOf (scope st : Nat) : Txn :=
  { id := 7, scope := scope, st := st, owner := some (.spi, 0), role := .own, applyBlock := 100 }

def withTxn (t : Txn) : State := { spi [] with cu := { slots := [t] } }

/-- The writes of ObjectRequestsComplete, one for each clause, at the last instance of each object. -/
def writeList : List (State × Obj × Nat × Nat) :=
  [(spi [(D.dom_servo_enable, 0, 0), (D.dom_servo_enable, 0, 1)], D.tb_increment, 0, 27474046799),
    (spi [(D.dom_servo_enable, 0, 1)], D.dom_rate, 1, ofSigned 32 (-1)),
    (spi [(D.dom_servo_enable, 0, 1)], D.dom_adjust, 1, ofSigned 32 (-1)),
    (spi [], D.dom_enable, 1, 1), (spi [], D.ev_mode, 5, 6), (spi [], D.ev_start, 5, 1),
    (spi [], D.ev_start_sample, 5, 1), (spi [], D.ev_pop, 5, 1),
    (withTxn (ownTxnOf 1 7), D.txn_resolve_commit, 0, 7), (withTxn (ownTxnOf 1 7), D.txn_resolve_abort, 0, 7),
    (spi [], D.mtr_reset, 0, 1), (spi [], D.idac_value, 15, 1), (spi [(D.idac_mode, 1, 15)], D.idac_q_push, 15, 1),
    (spi [], D.idac_q_clear, 15, 1), (spi [], D.idac_powerup, 15, 1), (spi [(D.ring_size, 4, 63)], D.ring_tail, 63, 3),
    (spi [(D.twin_role, 4, 0)], D.twin_rejoin, 0, 1), (spi [(D.pw_state, 1, 0)], D.dmc_retrain, 0, 1),
    (spi [], D.dma_start, 7, 1), (spi [], D.dma_stop, 7, 1), (spi [], D.dma_reset, 7, 1),
    (spi [], D.log_window_start, 0, 5), (spi [], D.log_clear, 0, 1), (spi [], D.owner_clear, 0, 1),
    (spi [], D.err_alarm_ack, 0, 1), (spi [], D.err_fault_clear, 0, 1), (spi [], D.session_close, 0, 1),
    (spi [], D.persist_flush, 0, 1), (spi [], D.persist_reset, 0, 1), (spi [], D.runPort, 6, 1)]

theorem writeList_takes : (writeList.all takesAt) = true := by decide +kernel

theorem test_ObjectRequestsComplete_witness :
    (∀ e ∈ writeList, e.1.takes spiReq e.2.1 e.2.2.1 e.2.2.2) ∧
      1 ≠ ((spi []).arrived spiReq).get D.idac_value 15 ∧ 1 ≠ ((spi []).arrived spiReq).get D.idac_powerup 15 ∧
      ((spi [(D.twin_role, 4, 0)]).arrived spiReq).role = roleFailed ∧ D.runPort ∈ runControls ∧ 6 < D.runPort.count :=
  ⟨fun e he => takes_of_takesAt e (List.all_eq_true.1 writeList_takes e he), by decide +kernel⟩

/-- A session of the layer-2 peer 5, with a sequence window at 100 and a key of zeros. -/
def session3 : Session :=
  { id := 3, src := .l2 5, role := .own, top := 100, seen := [100], keyPm := List.replicate 16 0#8,
    ivPm := List.replicate 4 0#8 }

/-- A running module with that session, and a frame of it: a SES_PING with sequence `seq` and a tag. -/
def inSession (bad : Nat) : State :=
  { withValues [(D.mdap_l2_enable, 1, 0), (D.owner_state, 1, 0)] with
    power := { phase := .running }, mdap := { sessions := [{ session3 with bad := bad }] } }

def pingIn (seq tag : Nat) : Req := { src := .l2 5, session := 3, isProtected := true, seq := seq, tag := beBytes 16 tag }

/-- A SES_PING of that session with the tag that its key gives. -/
def pingSealed (seq : Nat) : Req :=
  { pingIn seq 0 with
    tag := (sealBody session3.keyPm session3.ivPm seq ((pingIn seq 0).header (({} : State).requestBody (pingIn seq 0) .ping).length)
      (({} : State).requestBody (pingIn seq 0) .ping)).2 }

theorem pingSealed_holds (seq : Nat) (s : State) :
    session3.tagHolds (pingSealed seq) (s.requestBody (pingSealed seq) .ping) = true :=
  beq_self_eq_true (sealBody session3.keyPm session3.ivPm seq _ _).2

/-- The SES_PING with sequence 101. -/
def sessionReq : Req := pingIn 101 0x40aa4815a4ee20951bf5bc193bea0eae

/-- A frame of the host SPI port: a READ of object 0. -/
def readFrame : List Byte := headerBytes 1 false 0 9 9 ++ ({} : State).requestBody spiReq (.read [0])

theorem test_RequestsAreServed_witness :
    (let s : State := { spi [] with mdap := { spiIn := [readFrame] } }
     let m : Msg := .read [0]
     spiReq.src = .spi ∧ spiReq.version = 1 ∧ s.serving .spi = true ∧ s.accepting = false ∧
      spiReq.onPort.frameLength (s.requestBody spiReq.onPort m) ≤ 1400 ∧
      (∀ f ∈ s.mdap.spiIn.head?, s.carries spiReq.onPort m f = true) ∧
      (s.arrived spiReq).keptReply spiReq.onPort (kindOf m) = none ∧
      (s.arrived spiReq).inFlight spiReq.onPort (kindOf m) = false ∧ roleOfNat (s.get D.hspi_role) ≠ .none ∧
      servedAt s m = true) ∧
    (let s := inSession 0
     let r := sessionReq
     let x := session3
     isNet r.src = true ∧ r.version = 1 ∧ r.isProtected = true ∧ s.serving r.src = true ∧ s.accepting = false ∧
      r.frameLength (s.requestBody r .ping) ≤ 1400 ∧ s.session r.session = some x ∧
      x.tagHolds r (s.requestBody r .ping) = true ∧ x.fresh r.seq = true ∧
      (s.arrived r).keptReply r mtSesPing = none ∧ (s.arrived r).inFlight r mtSesPing = false ∧ x.role ≠ .none) := by
  decide +kernel

theorem test_needsPartner_witness :
    (let s : State := spi [(D.twin_enable, 1, 0), (D.twin_role, 1, 0), (D.twin_partner_role, 2, 0), (D.twin_health, 1, 0),
       (D.lace_state, 2, 0)]
     let m : Msg := .write [⟨D.obj_gain.addr 3, tyCode D.obj_gain.ty, 0, 0⟩] 0
     s.admits spiReq m = true ∧ ((s.arrived spiReq).needsPartner spiReq.onPort (s.asker spiReq) m).isSome = true) := by
  decide +kernel

theorem test_SessionWindow_witness :
    (let s := inSession 14
     let r := pingIn 101 0
     let x : Session := { session3 with bad := 14 }
     r.version = 1 ∧ r.isProtected = true ∧ s.session r.session = some x ∧
      x.tagHolds r (s.requestBody r .ping) = false ∧ x.bad < 15) ∧
    ((inSession 15).session 3 = some { session3 with bad := 15 } ∧ 15 ≤ ({ session3 with bad := 15 } : Session).bad) ∧
    (let r := pingSealed 35
     session3.tagHolds r (({} : State).requestBody r .ping) = true ∧ r.seq + 64 < session3.top) ∧
    (let r := pingSealed 100
     session3.tagHolds r (({} : State).requestBody r .ping) = true ∧ r.seq ∈ session3.seen ∧
      ¬ 36 + 64 < session3.top) ∧
    (let s : State := { inSession 0 with
       twin := { journal := [⟨7, 1, some (.request spiReq .ping), .live []⟩] }
       mdap := { sessions := [session3], waiting := List.replicate 64 (spiReq, .ping) } }
     isNet sessionReq.src = true ∧ s.received sessionReq .ping = some s ∧ s.accepting = true ∧
      64 ≤ s.mdap.waiting.length) :=
  ⟨by decide +kernel, by decide +kernel, ⟨pingSealed_holds 35 _, by decide⟩, ⟨pingSealed_holds 100 _, by decide, by decide⟩,
    by decide +kernel⟩

/-- An item that writes object 3's gain. -/
def gainItem : Item := ⟨D.obj_gain.addr 3, tyCode D.obj_gain.ty, 0, 0⟩

/-- An item that writes mdap_udp_port. -/
def portItem (v : Nat) : Item := ⟨D.mdap_udp_port.base, tyCode D.mdap_udp_port.ty, v, 0⟩

/-- A WRITE of one item by the host SPI port is served and passes its checks. -/
def writesAt (s : State) (it : Item) : Bool :=
  servedAt s (.write [it] 0) && refusal [it] ((s.arrived spiReq).checkTarget (s.asker spiReq) true 0) == none &&
    !stagedCommand [it]

/-- mdap_udp_port before such a WRITE, and when it has been answered. -/
def portsOf (s : State) (it : Item) : Nat × Nat :=
  let u := s.arrived spiReq
  let t := u.acceptItems [it] 0
  (u.get D.mdap_udp_port, (t.reply spiReq.onPort mtWrite [flushed u t [it]]).get D.mdap_udp_port)

theorem test_MdapRequestsComplete_read_witness :
    servedAt (spi []) (.read [D.obj_gain.addr 3]) = true ∧
    (writesAt (spi []) gainItem = true ∧ gainItem.addr ≠ D.mdap_udp_port.base) ∧
    (writesAt (spi [(D.mdap_udp_port, 4000, 0)]) (portItem 4000) = true ∧
      portsOf (spi [(D.mdap_udp_port, 4000, 0)]) (portItem 4000) = (4000, 4000)) ∧
    (writesAt (spi [(D.mdap_udp_port, 4000, 0)]) (portItem 4001) = true ∧
      portsOf (spi [(D.mdap_udp_port, 4000, 0)]) (portItem 4001) = (4000, 4001)) ∧
    servedAt (spi []) (.describe (D.obj_gain.addr 3) 0 false) = true ∧
    (servedAt (spi []) (.subscribe 0 (D.obj_gain.addr 3) 2 65535) = true ∧
      ((spi []).arrived spiReq).checkRead ((spi []).asker spiReq) (D.obj_gain.addr 3) = scOk ∧
      ((spi []).arrived spiReq).mdap.subs = []) ∧
    servedAt (spi []) (.unknown 0xFF) = true ∧ servedAt (spi []) .ping = true := by decide +kernel

theorem test_MdapRequestsComplete_staged_witness :
    (let s := spi []
     servedAt s (.writeStaged [gainItem]) = true ∧ Role.opr.rank ≤ (s.asker spiReq).role.rank ∧
      refusal [gainItem] ((s.arrived spiReq).checkCommit (s.asker spiReq)) = none ∧
      (s.arrived spiReq).writable = true) := by decide +kernel

theorem test_MdapRequestsComplete_blob_witness :
    (let s := spi []
     let a := D.clip_blob.addr 1023
     servedAt s (.blobWrite a true true 0 0 3 [1#8, 2#8, 3#8]) = true ∧
      (s.arrived spiReq).blobTarget (s.asker spiReq) a true true 0 3 3 = (scOk, some (D.clip_blob, 1023))) ∧
    (let s := (spi []).setBlob D.clip_blob [1#8, 2#8, 3#8] 1023
     let u := s.arrived spiReq
     let a := D.clip_blob.addr 1023
     servedAt s (.blobRead a 3 1024) = true ∧ u.checkRead (s.asker spiReq) a = scOk ∧
      u.object a = some (D.clip_blob, 1023, 0) ∧ D.clip_blob.ty = .blob ∧ 3 ≤ (u.shownData D.clip_blob 1023).length) ∧
    (let s : State := { spi [] with mdap := { subs := [⟨4, .spi, 0, 0, 1, 1, 0, none, 0, 0⟩] } }
     servedAt s (.subscribe 4 0 0 0) = true ∧
      ((s.arrived spiReq).mdap.subs.any fun x =>
        (x.src == (s.asker spiReq).src && x.session == (s.asker spiReq).session) && x.id == 4) = true) ∧
    (let s := inSession 0
     let r := pingIn 101 0x77ce14ede195ee306a38ec658bb55db6
     s.admits r (.close 0) = true ∧ s.mirrored = false ∧ r.onPort.isProtected = true) ∧
    (let s := spi []
     let a := D.owner_cert.base
     servedAt s (.blobWrite a true true 0 0 2 [1#8, 2#8]) = true ∧
      (s.arrived spiReq).blobTarget (s.asker spiReq) a true true 0 2 2 = (scOk, some (D.owner_cert, 0))) := by
  decide +kernel

/-- A ramp of one point that keeps N of PLL 1 and dwells one sample. -/
theorem test_MdapRequestsComplete_ramp_witness :
    (let s := spi []
     let a := D.pll_ramp.addr 1
     servedAt s (.blobWrite a true true 0 0 4 [4#8, 0#8, 0#8, 0#8]) = true ∧
      (s.arrived spiReq).blobTarget (s.asker spiReq) a true true 0 4 4 = (scOk, some (D.pll_ramp, 1))) := by decide +kernel

/-- A transaction in a slot when a request of the host SPI port on it has arrived: the transaction that its source asks
for. -/
def asked (t : Txn) : Nat × Option Txn := ((withTxn t).arrived spiReq).ownTxn ((withTxn t).asker spiReq) 7

theorem test_TxnRequestsComplete_witness :
    (let s := spi []
     servedAt s (.txnOpen 1 7) = true ∧ Role.opr.rank ≤ (s.asker spiReq).role.rank ∧
      (s.arrived spiReq).writable = true ∧ (s.arrived spiReq).freeSlot ≠ none) ∧
    (let s : State := { spi [] with cu := { slots := (List.range 16).map fun n => { ownTxnOf 0 1 with slot := n } } }
     servedAt s (.txnOpen 1 7) = true ∧ (s.arrived spiReq).freeSlot = none) ∧
    (let t := ownTxnOf 0 tsOpen
     let s := withTxn t
     servedAt s (.txnAdd 7 [gainItem]) = true ∧ asked t = (scOk, some t) ∧ t.st = tsOpen ∧
      (s.arrived spiReq).writable = true ∧
      firstFailure ((s.arrived spiReq).checkAdd (s.asker spiReq) t) [gainItem] 0 = none ∧
      (lastNodeItems isCommand (t.items ++ [gainItem])).length ≤ 4096 ∧
      itemsSize (t.scope == 1) (lastNodeItems isCommand (t.items ++ [gainItem])) ≤ 65536) ∧
    (let p : PrepareArgs := { id := 7, kind := 2, time := 5, entry := 1023, late := 1 }
     let t := ownTxnOf 1 tsOpen
     servedAt (withTxn t) (.txnPrepare p) = true ∧ asked t = (scOk, some t) ∧ p.kind ≤ 2 ∧
      p.late ≤ 1 ∧ p.entry ≤ 1023 ∧ t.st = tsOpen ∧ t.scope = 1) ∧
    (let p : PrepareArgs := { id := 7, kind := 0, time := 0 }
     let t : Txn := { ownTxnOf 0 tsOpen with items := [gainItem] }
     servedAt (withTxn t) (.txnPrepare p) = true ∧ asked t = (scOk, some t) ∧ t.scope = 0) ∧
    (let t := ownTxnOf 0 tsPrepared
     servedAt (withTxn t) (.txnCommit 7) = true ∧ servedAt (withTxn t) (.txnAbort 7) = true ∧
      asked t = (scOk, some t) ∧ t.st = tsPrepared ∧ t.scope = 0) ∧
    (let t := ownTxnOf 1 tsOpen
     servedAt (withTxn t) (.txnAbort 7) = true ∧ asked t = (scOk, some t) ∧ t.st = tsOpen ∧ t.scope = 1) ∧
    (let t := ownTxnOf 1 tsOpen
     servedAt (withTxn t) (.txnStatus 7) = true ∧ Role.obs.rank ≤ ((withTxn t).asker spiReq).role.rank ∧
      ((withTxn t).arrived spiReq).txnKnown 7 = some t ∧ ((withTxn t).arrived spiReq).writable = true) := by
  decide +kernel

/-- A running module open to the layer-2 peer 5, with a handshake in progress and no session. -/
def inHandshake (h : List Handshake) : State :=
  { withValues [(D.mdap_l2_enable, 1, 0), (D.owner_state, 1, 0), (D.default_role, 1, 0), (D.dom_state, 3, 0)] with
    power := { phase := .running }, mdap := { handshakes := h } }

/-- A message of the layer-2 peer 5, outside a session. -/
def peerReq : Req := { src := .l2 5 }
def peerServed (s : State) (m : Msg) : Bool := s.admits peerReq m && !s.mirrored

theorem test_SessionEventsComplete_witness :
    (let s := spi []
     s.hspiAnswers = true ∧ [0#8] ≠ ([] : List Byte) ∧ s.spiInFull = false ∧ s.mdap.spiOut = []) ∧
    (let s : State := { spi [] with mdap := { spiIn := List.replicate 8 [0#8], spiOut := [⟨true, [1#8]⟩] } }
     s.hspiAnswers = true ∧ s.spiInFull = true ∧ s.mdap.spiOut = ⟨true, [1#8]⟩ :: [] ∧ s.mdap.spiLate = []) ∧
    (inPhase .reset).hspiAnswers = false ∧
    (let s := inHandshake []
     let u := s.arrived peerReq
     let nonce := List.replicate 16 1#8
     peerServed s (.sesInit nonce (keyBytes eccG)) = true ∧ peerReq.src ≠ .spi ∧ u.get D.owner_state ≠ 0 ∧
      nonce.length = 16 ∧ (keyOf (keyBytes eccG)).isSome = true ∧ u.mdap.sessions.length < 16 ∧
      u.mdap.handshakes.length < 4) ∧
    (let h : Handshake := { id := 9, src := .l2 5, chain := List.replicate 10 0#8, total := 100 }
     let s := inHandshake [h]
     (s.arrived peerReq).handshake 9 = some h ∧ peerServed s (.sesCertRead 9 0 1024) = true ∧
      0 ≤ (s.arrived peerReq).ownChain.length ∧ peerServed s (.sesCertSend 9 10 100 (List.replicate 90 0#8)) = true ∧
      h.chain.length + (List.replicate 90 0#8).length ≤ 100 ∧ h.chain ≠ [] ∧ 100 = h.total) ∧
    (let s : State := { withValues [(D.default_role, 1, 0)] with mdap := { sessions := [session3] } }
     s.session 3 = some session3 ∧ s.changedRoles = [session3]) ∧
    (let x : Shadow := { addr := D.clip_blob.addr 5, src := .spi, session := 0, total := 3, data := [] }
     let s : State := { mdap := { shadows := [x] } }
     s.mdap.shadows.find? (fun x => x.addr == D.clip_blob.addr 5 && !x.complete) = some x ∧
      D.etch_taps.locate x.addr = none) := by decide +kernel

/-- A self-signed P-256 certificate of common name "o", a CA for digitalSignature, valid from 1970 to 2049. -/
def peerCert : List Byte := beBytes 300 0x308201283081d0a003020102020101300a06082a8648ce3d040302300c310a300806035504030c016f301e170d3730303130313030303030305a170d3439313233313233353935395a300c310a300806035504030c016f3059301306072a8648ce3d020106082a8648ce3d03010703420004088bb9ff22ab291a74c86fc677ba897baadee370cc6129b82d170ba3fc26415c442da9a716067956d91eaa02b93ad409490e87cd5e758ea6a331a1deb75ba846a3233021300e0603551d0f0101ff040403020780300f0603551d130101ff040530030101ff300a06082a8648ce3d04030203470030440220050f1973f020476859f33217266fa0af41af2eae2ba4b223d19c9b1d4d5a20c5022058188d8eba8f23c2f957ea892f4e03c50a54eec9828d9c1b16aedf7244cfa3ec

/-- The handshake of the peer with that certificate, and its signature over the transcript. -/
def peerShake : Handshake :=
  { id := 9, src := .l2 5, nonceP := List.replicate 16 1#8, keyP := keyBytes eccG, nonceM := List.replicate 16 2#8
    chain := peerCert, total := 300 }
def peerSig : List Byte := beBytes 64 0x5aec2275d0429ad4262437934d269e3aa387bf05cb1dfc0718edc1feafd8479e193a050a19b38eeba26f2676e205eb152c8aefb684611435821f3eb2348a1c63

/-- A module enrolled with that certificate, in that handshake, when its SES_FINISH has arrived and the handshake ended.
-/
def enrolled : State := (inHandshake [peerShake]).setBlob D.owner_cert peerCert
def finishing : State := (enrolled.arrived peerReq).dropHandshake 9

def peerLeaf : Cert := ((certChain peerCert).bind List.head?).getD ⟨[], (0, 0), [], [], 0, 0, (0, 0), false, false, []⟩

theorem finishing_time : finishing.utcNow = some 0 := by
  have h : toNT64 (finishing.domainTime 0) / 1000000000 = 0 := by decide +kernel
  have h3 : finishing.get D.dom_state 0 = domLocked := by decide +kernel
  simp only [State.utcNow, h3, if_true, h, Nat.zero_sub]

theorem peer_signed : signed peerLeaf.key (peerShake.transcript finishing.ownChain) peerSig = true := by decide +kernel

theorem peer_admitted : finishing.admitsPeer peerShake peerSig = true := by
  have hc : certChain peerShake.chain = some [peerLeaf] := by decide +kernel
  have ho : finishing.ownerTrusts [peerLeaf] = true := by decide +kernel
  have hs : peerLeaf.signs = true := by decide +kernel
  have hv : chainValidAt 0 [peerLeaf] = true := by decide +kernel
  simp only [State.admitsPeer, hc, ho, hs, peer_signed, finishing_time, hv, Option.all_some, Bool.or_true, Bool.and_true]

theorem test_sesFinish_witness :
    peerServed enrolled (.sesFinish 9 peerSig) = true ∧ peerReq.src ≠ .spi ∧
      (enrolled.arrived peerReq).handshake 9 = some peerShake ∧ finishing.utcNow.isSome = true ∧
      peerShake.chain.length = peerShake.total ∧ finishing.admitsPeer peerShake peerSig = true ∧
      (finishing.sessionOf peerShake peerReq.src).role ≠ .none ∧ finishing.mdap.sessions.length < 16 :=
  ⟨by decide +kernel, by decide, by decide +kernel, by rw [finishing_time]; rfl, by decide +kernel, peer_admitted,
    by decide +kernel, by decide +kernel⟩

/-- A participant's transaction. -/
def theirTxn (st : Nat) : Txn :=
  { id := 7, scope := 1, originator := false, st := st, applyBlock := 100, origin := 9, chunkCount := 2 }

/-- A state whose port 5 leads to vertex 9, the parent on its tree. -/
def linked (s : State) : State :=
  let t := ((s.set D.nbr_state 3 5).set D.port_personality 0 5).set D.port_link 1 5
  { t with fabric := { neighbours := [nbrKeyed], gens := [⟨0, [⟨9, false, [⟨t.vertex, 9, 5, 1⟩]⟩]⟩] } }

/-- A message from node 9 in a frame that its link admits, and what comes of it. -/
def fromNode9 (code : Nat) (fields : List Byte) : TxnIn :=
  { port := 5, node := 9, frame := frameOf ftTxn 1 1 (txnMessage code 1 7 9 fields) }
def taken (s : State) (code : Nat) (fields : List Byte) : State × Bool := (linked s).txnFrame (fromNode9 code fields) code 7 fields

/-- The link has accepted that frame. -/
def heard9 (s : State) : State := (linked s).putNbr { nbrKeyed with rx := some (linkKey.accept 1), rxOld := none }

theorem linked_two_way (s : State) : (linked s).get D.nbr_state 5 = 3 := by
  show ((((s.set D.nbr_state 3 5).set D.port_personality 0 5).set D.port_link 1 5).get D.nbr_state 5) = 3
  rw [State.get_set_if _ _ _ _ _ _ _ _ (by rfl), if_neg (by decide), State.get_set_if _ _ _ _ _ _ _ _ (by rfl), if_neg (by decide),
    State.get_set_if _ _ _ _ _ _ _ _ (by rfl), if_pos (by decide)]

theorem linked_heard (s : State) (body : List Byte) :
    (linked s).linkFrame 5 ftTxn (frameOf ftTxn 1 1 body) body = (heard9 s, true) := by
  have hn : (linked s).nbr 5 = nbrKeyed := rfl
  have ha : linkKey.admits (frameOf ftTxn 1 1 body) body = true := (frameOf_admits _ _ _).1
  have ht : (linked s).trailed 5 ftTxn = true := rfl
  have hs : (frameOf ftTxn 1 1 body).linkSeq = 1 := rfl
  simp [State.linkFrame, frameOf_formed, ht, State.linkAuth, hn, linked_two_way, nbrKeyed, ha, heard9, hs]

/-- What comes of the frame, without its trailer. -/
theorem taken_eq (s : State) (code : Nat) (fields : List Byte) : taken s code fields =
    (let f := (fromNode9 code fields).frame
     if !(linked s).fabPort 5 then (linked s, false)
     else
       match (heard9 s).cameBy 5 f with
       | none => ((heard9 s).count D.fab_rpf_drops, false)
       | some t =>
         let u := (heard9 s).passOn t f (txnMessage code 1 7 9 fields)
         if (f.forEvery || f.forNode == (linked s).fabNode) && (linked s).originates && 1 == 1 then u.eliminateTxn f else (u, false)) := by
  have h : (linked s).linkFrame (fromNode9 code fields).port.val ftTxn (fromNode9 code fields).frame
      (txnMessage code (fromNode9 code fields).version 7 (fromNode9 code fields).node fields) = (heard9 s, true) :=
    linked_heard s _
  simp only [taken, State.txnFrame, h]
  rfl

/-- A PREPARE of node 9 for nodes 3 and 9. -/
def prepare9 : FabPrepare := ⟨7, 9, 0, 1, 100, 0, 0, 1, true, false, 0, 1, 0, 0, [3, 9]⟩

theorem test_FabricTxnComplete_witness :
    (let s := withValues [(D.fab_node_addr, 3, 0)]
     let a := (taken s txData (dataFields 0 1 [])).1
     (taken s txData (dataFields 0 1 [])).2 = true ∧ a.txnAt 7 = none ∧ a.txnKnown 7 = none) ∧
    (let s := withValues [(D.fab_node_addr, 3, 0)]
     let a := (taken s txPrepare prepare9.fields).1
     (taken s txPrepare prepare9.fields).2 = true ∧ prepare9.nodes.contains a.fabNode = true ∧
      a.txnKnown prepare9.id = none ∧ a.freeSlot = some 0) ∧
    (let t := theirTxn tsPreparing
     let a := (taken (withTxn t) txData (dataFields 1 2 [])).1
     (taken (withTxn t) txData (dataFields 1 2 [])).2 = true ∧ a.txnAt 7 = some t ∧ t.originator = false ∧
      t.st = tsPreparing ∧ ({ t with chunks := putChunk 0 [] t.chunks } : Txn).missing.isSome = true ∧
      ({ t with chunks := putChunk 1 [] (putChunk 0 [] t.chunks) } : Txn).missing = none) ∧
    (let t := ownTxnOf 1 tsPreparing
     let a := (taken (withTxn t) txVote (voteFields true 0)).1
     (taken (withTxn t) txVote (voteFields true 0)).2 = true ∧ (taken (withTxn t) txVote (voteFields false 1)).2 = true ∧
      (taken (withTxn t) txNack (nackFields 0 1)).2 = true ∧ a.txnAt 7 = some t ∧ t.originator = true ∧
      t.st = tsPreparing ∧ t.yes.contains 9 = false ∧ t.no = []) ∧
    (let t := theirTxn tsInDoubt
     let a := (taken (withTxn t) txDecision (decisionFields true 100)).1
     (taken (withTxn t) txDecision (decisionFields true 100)).2 = true ∧
      (taken (withTxn t) txOutcome (outcomeFields 6 100)).2 = true ∧ a.txnAt 7 = some t ∧ t.undecided = true ∧
      t.st = tsInDoubt ∧ (withTxn t).media < (withTxn t).blockTime t.applyBlock - 20000 * ns32 + 10000000 * ns32) ∧
    ((taken {} txQuery []).2 = true ∧ (taken {} txQuery []).1.mirrored = false ∧
      (taken (pairState 1 2 {}) txQuery []).2 = true ∧ (taken (pairState 1 2 {}) txQuery []).1.mirrored = true) ∧
    (let t := { ownTxnOf 1 tsApplied with participants := [9] }
     let s : State := { cu := { finished := [t] } }
     let a := (taken s txAck (TxnAck.fields ⟨100, false⟩)).1
     (taken s txAck (TxnAck.fields ⟨100, false⟩)).2 = true ∧ a.cu.slots = [] ∧ a.cu.finished = [t] ∧ t.id = 7 ∧
      t.originator = true ∧ t.acked.contains 9 = false) ∧
    (let t : Txn := { ownTxnOf 1 tsPrepared with autoCommit := false }
     (withTxn t).txnAt 7 = some t ∧ t.originator = true ∧ t.st = tsPrepared ∧ t.autoCommit = false ∧ t.scope = 1) ∧
    (let t : Txn := { ownTxnOf 0 tsPrepared with autoCommit := false }
     (withTxn t).txnAt 7 = some t ∧ t.scope = 0) := by
  simp only [taken_eq]
  decide +kernel

theorem test_SealAndBoundaryComplete_witness :
    (spi []).power.phase = .running ∧
    ((theirTxn tsPrepared).st = tsPrepared ∧ (theirTxn tsPrepared).applyBlock ≤ 100 ∧
      (theirTxn tsPrepared).originator = false) ∧
    ((ownTxnOf 1 tsPrepared).st = tsPrepared ∧ (ownTxnOf 1 tsPrepared).applyBlock ≤ 100 ∧
      (ownTxnOf 1 tsPrepared).originator = true) ∧
    ((ownTxnOf 1 tsPrepared).st ≠ tsPrepared ∨ 99 < (ownTxnOf 1 tsPrepared).applyBlock) := by decide +kernel

theorem test_CommandsStayInTheirPart_witness :
    homeParts .wclkLost = some [] ∧ exec .wclkLost (withValues []) = .next (withValues []) ∧
      homeParts (.txnOutcomeExpire 7) = some [.cu] ∧ homeParts .treeSwitchA = some [.fabric] :=
  ⟨rfl, rfl, rfl, rfl⟩

theorem test_DomainTimeSteps_witness :
    (let s := spi [(D.dom_servo_enable, 0, 1)]
     (-(2 ^ 31) : Int) ≤ -1 ∧ (-1 : Int) < 2 ^ 31 ∧ s.time.domains[(1 : Fin 2).val]? = some {} ∧
      takesAt (s, D.dom_rate, 1, ofSigned 32 (-1)) = true ∧ takesAt (s, D.dom_adjust, 1, ofSigned 32 (-1)) = true) := by
  decide +kernel

theorem test_SamplesFallOnTheGrid_witness :
    sampleInstant 16 48000 ≤ sampleInstant 16 48000 ∧ sampleInstant 16 48000 < sampleInstant (16 + 1) 48000 := by
  decide +kernel

theorem test_HistogramRecords_witness :
    (let s := withValues [(D.hist_source, 2, 31), (D.hist_select, 7, 31)]
     31 < 32 ∧ s.hist[31]? = some ({} : HistUnit) ∧ s.get D.hist_source 31 = 2 ∧ s.get D.hist_select 31 = 7 ∧
      s.histInvalid 31 = false ∧ F32.isNaN 0x7FC00000#32 = true ∧ F32.isNaN 0x3F800000#32 = false) ∧
    ¬({} : State).get D.hist_source 31 = 2 := by decide +kernel

/-! ### The checks of well-formedness refuse what does not fit -/

theorem test_wf_req : ({ src := .spi, version := 256 } : Req).wf = false ∧ ({ src := .spi, session := 2 ^ 32 } : Req).wf = false ∧
    ({ src := .spi, seq := 2 ^ 64 } : Req).wf = false ∧ ({ src := .spi, id := 2 ^ 32 } : Req).wf = false := by decide

theorem test_wf_item : (⟨2 ^ 32, 1, 0, 0⟩ : Item).wf = false ∧ (⟨0, 256, 0, 0⟩ : Item).wf = false ∧
    itemsWf [⟨0, 1, 0, 0⟩, ⟨2 ^ 32, 1, 0, 0⟩] = false ∧ itemsWf (List.replicate 1537 ⟨0, 1, 0, 0⟩) = false := by
  decide +kernel

theorem test_wf_lists : listWf [2 ^ 64] = false ∧ listWf (List.replicate 9217 0) = false ∧
    bytesWf (List.replicate 9217 0#8) = false := by decide +kernel

theorem test_wf_prepare : (PrepareArgs.mk (2 ^ 64) 0 0 0 0 true false none).wf = false ∧
    (PrepareArgs.mk 0 256 0 0 0 true false none).wf = false ∧ (PrepareArgs.mk 0 0 (2 ^ 64) 0 0 true false none).wf = false ∧
    (PrepareArgs.mk 0 0 0 0 256 true false none).wf = false ∧
    (PrepareArgs.mk 0 0 0 0 0 true false (some [4096])).wf = false := by decide

theorem test_wf_fabric : (TxnIn.mk 5 { type := 6, hop := 0, source := 0, dest := 0 } 65536 1).wf = false ∧
    (TxnIn.mk 5 { type := 6, hop := 0, source := 0, dest := 0 } 0 256).wf = false ∧
    (FabFrame.wf { type := 6, hop := 256, source := 0, dest := 0 }) = false ∧
    (FabFrame.wf { type := 6, hop := 0, source := 65536, dest := 0 }) = false ∧
    (FabFrame.wf { type := 6, hop := 0, source := 0, dest := 0, linkSeq := 2 ^ 64 }) = false ∧
    (Hello.mk 65536 0 0 0 0 0 0 0 0 0 0 0).wf = false ∧ (Lsa.mk 65536 false false true 0 0 0 0 []).wf = false ∧
    (AdmitStep.certSend 0 0 0 []).wf = false ∧ (AdmitStep.finish (2 ^ 32) []).wf = false ∧
    (FabPrepare.mk (2 ^ 64) 0 0 1 0 0 0 1 true false 0 0 0 0 []).wf = false ∧
    (FabPrepare.mk 0 4096 0 1 0 0 0 1 true false 0 0 0 0 []).wf = false ∧
    (StreamFrame.mk (2 ^ 64) [] []).wf = false ∧ (StreamFrame.mk 0 [65536] []).wf = false := by decide +kernel

theorem test_wf_lace : (LaceHello.mk 256 true 0 0 0 0 0 0 []).wf = false ∧
    (LaceHello.mk 0 true 0 0 (2 ^ 128) 0 0 0 []).wf = false ∧ (LaceHello.mk 0 true 0 0 0 0 65536 0 []).wf = false ∧
    (LaceIn.mk 0 256 1 0 0 1 0).wf = false ∧ (LaceIn.mk 0 1 1 0 0 1 (2 ^ 32)).wf = false := by
  decide

theorem test_wf_commands : (Instr.seal (2 ^ 64)).wf = false ∧ (Instr.describe spiReq (2 ^ 32) 0 false).wf = false ∧
    (Instr.read spiReq [2 ^ 64]).wf = false ∧ (Instr.seal (2 ^ 64 - 1)).wf = true := by decide +kernel

/-! ### No word spells a command (log entry 39) -/

theorem test_noWordSpells : decodeTableWord 64 0x1401000816250000 = none := rfl

/-! ### Values worked out from the spec -/

/-- R6: NT64 1,753,000,000,250,000,010 ns at 48 kHz lies in sample 84,144,000,012,000. -/
theorem test_sampleIndex : sampleIndex ((1753000000250000010 : Int) * ns32) 48000 = 84144000012000 := by decide +kernel

/-- R149: at 48 kHz sample 16 begins at 333,333 ns and 21,846/65,536. -/
theorem test_sampleInstant : sampleInstant 16 48000 = 333333 * 65536 + 21846 := by decide +kernel

/-- R340–R342: class 1 at [63:60], MAC slot 0 at [59:48] with operation 1, accumulator 2, f3 and f4. -/
theorem test_decodeDual : decodeBundle 0x1634000000000000#64 =
    some (.dual ⟨1, 2, 3, 4⟩ ⟨0, 0, 0, 0⟩ idleMoves) := by decide

/-- R344, R348: SYS with TRAP (4) at [59:56] and its code at [31:16]. -/
theorem test_decodeTrap : decodeBundle 0x7400000000070000#64 = some (.sys 4 7) := by decide

/-- R340: class 8 is no class, and a NOP has no other bit set. -/
theorem test_decodeIllegal : decodeBundle 0x8000000000000000#64 = none ∧ decodeBundle 1#64 = none := by decide

/-- R342, R347: f3 · f4 = 1.5 · 2.0 = 3.0 leaves the accumulator at 3 · 2⁴⁸ of its unit; read back it is 3.0. -/
theorem test_mac : (match (fresh { f := (List.replicate 16 0#32).set 3 0x3FC00000#32 |>.set 4 0x40000000#32 }).run
      (.dual ⟨1, 2, 3, 4⟩ ⟨0, 0, 0, 0⟩ idleMoves) 0#32 0#32 with
    | .ok r => (r.acc.getD 2 {}).store.1
    | .exception _ => 0#32) = 0x40400000#32 := by decide +kernel

/-- R343: FMS gives −1.5 · 2.0 + 4.0 = 1.0. -/
theorem test_fms : F32.fma (F32.neg 0x3FC00000#32) 0x40000000#32 0x40800000#32 = 0x3F800000#32 := by decide +kernel

/-- R339, R350: in a circular buffer of 8 words, 7 and one step wraps to 0. -/
theorem test_circular : postModify 0x40000007#32 7#16 1 = 0#16 := by decide +kernel

/-- R30, R40: VIN_UNDERVOLTAGE in a running module asserts nFAULT and enters the shutdown sequence. -/
theorem test_undervoltage : (match exec .vinUndervoltage (spi []) with
    | .next t => t.err.nfault && t.power.phase == .shutdown
    | _ => false) = true := by decide +kernel

/-- R157: WCLK_LOST shows state 2, and the queue's rest is kept. -/
theorem test_step : (match step { withValues [(D.wclk_state, 1, 0)] with pending := [.wclkLost, .timebaseTick] } with
    | .next t => t.get D.wclk_state == 2 && t.pending == [.timebaseTick]
    | _ => false) = true := by decide +kernel

/-- R163: a write of ev_pop removes the oldest of two captured edges. -/
theorem test_evPop : (match exec (.evPop spiReq 5)
      { spi [] with time := { pins := List.replicate 6 { queue := [(1, .rise), (2, .fall)] } } } with
    | .next t => (t.pin 5).queue
    | _ => []) = [(2, .fall)] := by decide +kernel

/-- R87: the status byte of the host SPI port says that the output queue is empty. -/
theorem test_spiStatus : (match exec .spiStatus (spi []) with
    | .next t => t.wire.map fun x => x.fields
    | _ => []) = [[0]] := by decide +kernel

/-- R202: a participant that is PREPARED at the seal of its apply block becomes IN_DOUBT (7). -/
theorem test_inDoubt : ((theirTxn tsPrepared).atSeal 100).st = 7 ∧ ((theirTxn tsPrepared).atSeal 99).st = 3 := by decide

/-- R519: a sequence beyond the window's end is accepted, and again it is a duplicate. -/
theorem test_eliminate : (let r := (({} : State).eliminate 5 10 false).1.eliminate 5 11 true
    (r.2, (r.1.eliminate 5 11 false).2)) = (true, false) := by decide +kernel

/-- R116: AES-128-GCM of 16 zero bytes under a key and a nonce of zeros (McGrew and Viega, test case 2). -/
theorem test_gcm : (let k := List.replicate 16 0#8
    let c := gcmCrypt k (List.replicate 12 0#8) k
    (beNat c, beNat (gcmTag k (List.replicate 12 0#8) [] c))) =
      (0x0388DACE60B6A392F328C2B971B2FE78, 0xAB6E47D42CEC13BDF53A67B21257BDDF) := by decide +kernel

/-- R112: HKDF-SHA-256 (RFC 5869, test case 1, the first 32 bytes). -/
theorem test_hkdf : beNat (hkdf ((List.range 13).map (BitVec.ofNat 8)) (List.replicate 22 0x0B#8)
    ((List.range 10).map fun n => BitVec.ofNat 8 (0xF0 + n)) 32) =
      0x3CB25F25FAACD57A90434F64D0362F2A2D2D0A90CF1A5A4C5DB02D56ECC4C5BF := by decide +kernel

/-- R565: one wrong bit of a codeword is corrected. -/
theorem test_oneBit : decTed (codeword 0x123456789ABCDEF0#64 9 ^^^ BitVec.ofNat 80 (2 ^ 78)) 9 =
    .corrected 0x123456789ABCDEF0#64 := by decide +kernel

/-- R577: a refresh that is due with one pulled in ahead uses it up. -/
theorem test_refresh : (match exec .refreshDue { mem := { ahead := 1 } } with
    | .next t => t.mem.ahead
    | _ => 9) = 0 := by decide +kernel

/-- R528–R535: TW_TAKE of a driving unit falls: the unit is FAILED (4) and drives no more. -/
theorem test_twTake : (match exec .twTakeFall (withValues [(D.twin_enable, 1, 0), (D.twin_role, 1, 0)]) with
    | .next t => (t.role, t.twin.drive)
    | _ => (0, true)) = (4, false) := by decide +kernel

/-- R475: PAUSE that is not enabled is counted and does not pause. -/
theorem test_pause : (match exec (.pauseFrame 6 0x0180C2000001 1 5) (withValues [(D.port_pause, 0, 6)]) with
    | .next t => (t.get D.pause_rx 6, t.ports.pauses.length)
    | _ => (0, 9)) = (1, 0) := by decide +kernel

/-- R461: a queued value of a current output applies, and the queue is empty. -/
theorem test_idacQueue : (match exec (.idacQueueApply 15) { io := { idac := [⟨15, 0, 0, [(48000, 100)]⟩] } } with
    | .next t => ((idacOf t.io.idac 15).target, (idacOf t.io.idac 15).queue.length)
    | _ => (0, 9)) = (100, 0) := by decide +kernel

/-- R399, R400: VOICE_STOP of a playing voice runs it down over its block. -/
theorem test_voiceStop : (match exec (.voiceStop 63) (serving [(D.voice_state, 1, 63)] { voices := [⟨63, 7, 0, 0, .none_, false⟩] }) with
    | .next t => (voiceOf t.svc.voices 63).map fun x => x.fade
    | _ => none) = some .stop := by decide +kernel

/-- R646: a FAILED record asserts nFAULT, and WARN does not. -/
theorem test_failed : (({ err := { nfault := false } } : State).error 0x7E 0 0x0101 .failed).err.nfault = true ∧
    (({ err := { nfault := false } } : State).error 0x7E 0 0x0101 .warn).err.nfault = false := by decide +kernel

end Sys2Proof.Tests
end

section
/-! PROOFS. Supplies, reset and start-up (chapter 1, R600, R608–R613): what each command of the family answers, case by
case, and what the operations they share leave as it was. -/

namespace Sys2Proof.Machine

open Sys2Proof Host

/-! ### The phases in which the module runs from its own rails -/

theorem State.powered_iff (s : State) : s.powered = true ↔ s.power.phase ≠ .off ∧ s.power.phase ≠ .shutdown := by
  simp [State.powered]

theorem State.railsRun_iff (s : State) : s.railsRun = true ↔ s.powered = true ∧ s.power.phase ≠ .reset := by
  simp [State.railsRun]

/-! ### Causes of a reset (R39, R40) -/

theorem State.noteCause_first (s : State) (c : Nat) (h : s.power.aod.cause = none) :
    (s.noteCause c).power.aod.cause = some c := by
  simp [State.noteCause, AlwaysOn.noteCause, h]

theorem State.noteCause_next (s : State) (c d : Nat) (h : s.power.aod.cause = some c) :
    (s.noteCause d).power.aod.cause = causeOrder.find? fun x => x == d || x == c := by
  simp [State.noteCause, AlwaysOn.noteCause, h]

/-- The first two causes of one reset: the order of R40 decides, not the order in which they came. -/
theorem State.noteCause_noteCause (s : State) (c d : Nat) (h : s.power.aod.cause = none) :
    ((s.noteCause c).noteCause d).power.aod.cause = causeOrder.find? fun x => x == c || x == d := by
  rw [State.noteCause_next _ c d (s.noteCause_first c h)]
  simp only [Bool.or_comm]

@[simp] theorem State.noteCause_phase (s : State) (c : Nat) : (s.noteCause c).power.phase = s.power.phase := rfl

/-! ### nFAULT from the start of a reset (R40, R42) -/

/-- A part of the state that no round of a loop changes is as before the loop. -/
theorem foldl_keeps {α β : Type} (p : State → β) (f : State → α → State) (h : ∀ t a, p (f t a) = p t) (l : List α)
    (s : State) : p (l.foldl f s) = p s := by
  rw [← List.foldl_hom p (g₂ := fun x _ => x) fun t a => (h t a).symm, List.foldl_fixed]

@[simp] theorem State.restored_err (s : State) : s.restored.err = {} := rfl

@[simp] theorem State.loadTri_err (s : State) : s.loadTri.err = s.err := rfl

@[simp] theorem State.derived_err (s : State) : s.derived.err = s.err := by
  unfold State.derived
  dsimp only [State.loadTri_err]
  rw [foldl_keeps State.err, foldl_keeps State.err]
  · simp
  · intros; rfl
  · intro t b
    split
    · rfl
    · split <;> rfl

@[simp] theorem State.idacsHeld_err (s : State) : s.idacsHeld.err = s.err :=
  foldl_keeps State.err _ (fun t l => t.driveIdac_err l _) _ s

@[simp] theorem State.sidebandReset_err (s : State) : s.sidebandReset.err = s.err := by
  simp [State.sidebandReset]

/-- A reset leaves the error block as it is at power-up: nFAULT asserted, and no record. -/
@[simp] theorem State.enterReset_err (s : State) (phase : Phase) : (s.enterReset phase).err = {} := by
  simp [State.enterReset]

theorem State.enterReset_nfault (s : State) (phase : Phase) : (s.enterReset phase).err.nfault = true := by
  rw [State.enterReset_err]

/-! ### VIN and the shutdown sequence (R30, R31, R52) -/

theorem execVinUndervoltage_of_powered (s : State) (h : s.powered = true) :
    execVinUndervoltage s = .next { s.shutDown 0x0101 with power := { (s.shutDown 0x0101).power with
      vin := false, pgood := false, aod := (s.shutDown 0x0101).power.aod.vinLost s.aodTime } } := by
  obtain ⟨hoff, hshut⟩ := s.powered_iff.1 h
  unfold execVinUndervoltage
  split
  case h_1 he => exact absurd he hoff
  case h_2 he => exact absurd he hshut
  case h_3 => rfl

/-- Another under-voltage in the sequence is a cause of that reset too, and takes back what a recovery allowed. -/
theorem execVinUndervoltage_of_shutdown (s : State) (h : s.power.phase = .shutdown) :
    execVinUndervoltage s = .next { s with power := { s.power with
      vin := false, pgood := false, restart := false, aod := (s.power.aod.vinLost s.aodTime).noteCause 2 } } := by
  simp only [execVinUndervoltage, h, State.noteCause]

theorem execUvloShutdownComplete_of_shutdown (s : State) (h : s.power.phase = .shutdown) :
    let d := s.drainFailed
    let n := d.noteCause (if d.power.thermal then 3 else 2)
    let u := n.aodFed.enterReset (if n.power.restart && !n.power.thermal then .reset else .off)
    execUvloShutdownComplete s =
      .next ({ u with power := { u.power with rails := false, pgood := false } } : State).idacsOff :=
  if_pos h

theorem execVinRecover_of_shutdown (s : State) (h : s.power.phase = .shutdown) :
    execVinRecover s = .next { s with power := { s.power with
      vin := true, restart := true, aod := s.power.aod.vinBack s.aodTime } } := by
  simp only [execVinRecover, h]

theorem execVinRecover_of_off (s : State) (h : s.power.phase = .off) (ht : s.power.thermal = false) :
    execVinRecover s = .next { s with power := { s.power with
      vin := true, phase := .reset, aod := s.power.aod.vinBack s.aodTime } } := by
  simp [execVinRecover, h, ht]

/-! ### VIO, VDAC and VAO (R24–R26, R33) -/

theorem execVioLoss_of_running (s : State) (hp : s.powered = true) (hv : s.power.vin = true)
    (hr : s.power.phase ≠ .reset) :
    execVioLoss s = .next (({ s with power := { s.power with vio := false, pgood := false } } : State).error
      0x7E 0 0x0104 .failed) := by
  simp [execVioLoss, hp, hv, hr]

theorem execVioReturn_eq (s : State) :
    let t : State := { s with power := { s.power with
      vio := true, vioWait := s.railsRun, pgood := s.power.vin && s.power.rails && s.powered } }
    execVioReturn s = .next (if s.power.phase = .reset then t.idacsRedrive else t) := rfl

theorem State.aodFed_of_vin (s : State) (h : s.power.vin = true) : s.aodFed = s := by
  simp [State.aodFed, h]

theorem State.aodFed_of_unfed (s : State) (hin : s.power.vin = false) (hao : s.power.vao = false) :
    s.aodFed = { s with power := { s.power with aod := { held := false } } } := by
  simp [State.aodFed, hin, hao]

theorem execVaoChange_of_vin (s : State) (on : Bool) (h : s.power.vin = true) :
    execVaoChange on s = .next { s with power := { s.power with vao := on } } :=
  congrArg Outcome.next (State.aodFed_of_vin _ h)

theorem execVaoChange_lost (s : State) (h : s.power.vin = false) :
    execVaoChange false s = .next { s with power := { s.power with vao := false, aod := { held := false } } } :=
  congrArg Outcome.next (State.aodFed_of_unfed _ h rfl)

/-- Settles O11: each clause is the answer of one command in one case of the supplies. -/
theorem supplyEventsComplete : Obligations.SupplyEventsComplete := by
  unfold Obligations.SupplyEventsComplete
  refine ⟨fun s h => ?powered, fun s h => ?shutdown, execUvloShutdownComplete_of_shutdown, execVinRecover_of_shutdown,
    execVinRecover_of_off, execVioLoss_of_running, fun s => ?vio, fun s => ?vdac, execVaoChange_of_vin,
    execVaoChange_lost⟩
  case powered => exact ⟨execVinUndervoltage_of_powered s h, rfl, rfl, rfl, rfl⟩
  case shutdown => exact ⟨_, execVinUndervoltage_of_shutdown s h, h, rfl, rfl, rfl⟩
  case vio =>
    exact ⟨fun h => (execVioReturn_eq s).trans (by rw [if_neg h]),
      fun h => (execVioReturn_eq s).trans (by rw [if_pos h])⟩
  case vdac => exact ⟨rfl, rfl⟩

/-! ### Good supplies, and what starts a reset (R34–R36, R41, R52, R600) -/

/-- A start from switched-off rails is a power-on, and the current outputs take their power-up values. -/
theorem execSuppliesGood_of_start (s : State) (hin : s.power.vin = true) (hio : s.power.vio = true)
    (hrails : s.power.rails = false) (hth : s.power.thermal = false)
    (hp : s.power.phase = .off ∨ s.power.phase = .reset) :
    execSuppliesGood s = .next (({ s with power := { s.power with
      rails := true, pgood := true, phase := .reset, aod := { s.power.aod with held := true } } } : State).noteCause
        0).idacsRedrive := by
  have hrun : s.railsRun = false := by
    rcases hp with hp | hp <;> simp [State.railsRun, State.powered, hp]
  have hshut : s.power.phase ≠ .shutdown := by
    rcases hp with hp | hp <;> simp [hp]
  simp [execSuppliesGood, hin, hio, hth, hrails, hrun, hshut]

/-- With the rails in use only PGOOD and the rails' own state change. -/
theorem execSuppliesGood_of_railsRun (s : State) (hin : s.power.vin = true) (hio : s.power.vio = true)
    (hth : s.power.thermal = false) (hrun : s.railsRun = true) :
    execSuppliesGood s = .next { s with power := { s.power with rails := true, pgood := true } } := by
  obtain ⟨hpow, hreset⟩ := s.railsRun_iff.1 hrun
  obtain ⟨-, hshut⟩ := s.powered_iff.1 hpow
  simp [execSuppliesGood, hin, hio, hth, hrun, hreset, hshut]

theorem execNresetRequest_of_powered (s : State) (h : s.powered = true) :
    let t := (s.noteCause 1).enterReset .reset
    execNresetRequest s = .next { t with power := { t.power with nreset := false } } :=
  if_pos h

theorem execShankFault_of_powered (s : State) (h : s.powered = true) (hr : s.power.phase ≠ .reset) :
    execShankFault s = .next ((s.noteCause 4).enterReset .reset) := by
  simp [execShankFault, h, hr]

theorem execThermalTrip_of_powered (s : State) (h : s.powered = true) :
    execThermalTrip s =
      .next { s.shutDown 0x0102 with power := { (s.shutDown 0x0102).power with thermal := true } } :=
  if_pos h

theorem execThermalRestart_of_off (s : State) (ht : s.power.thermal = true) (hp : s.power.phase = .off)
    (hv : s.power.vin = true) :
    execThermalRestart s = .next { s with power := { s.power with thermal := false, phase := .reset } } := by
  simp [execThermalRestart, ht, hp, hv]

/-! ### Reset release (R36, R39) -/

/-- What a part of the start may change: values of the dictionary, but not the cause that is reported, error records,
and the local side. -/
structure KeepsCause (s t : State) : Prop where
  parts : ∃ d e x, t = { s with dict := d, err := e, io := x }
  cause : t.get D.reset_cause = s.get D.reset_cause

namespace KeepsCause

theorem refl (s : State) : KeepsCause s s := ⟨⟨_, _, _, rfl⟩, rfl⟩

theorem trans {s t u : State} (h : KeepsCause s t) (k : KeepsCause t u) : KeepsCause s u := by
  obtain ⟨d, e, x, rfl⟩ := h.parts
  obtain ⟨d', e', x', hu⟩ := k.parts
  exact ⟨⟨d', e', x', hu⟩, k.cause.trans h.cause⟩

/-- A write to an object that lies after reset_cause. -/
theorem set (s : State) (o : Obj) (v i k : Nat) (h : D.reset_cause.base < o.base) : KeepsCause s (s.set o v i k) :=
  have hne : o.addr i k ≠ D.reset_cause.addr := by
    have : D.reset_cause.addr = D.reset_cause.base := rfl
    unfold Obj.addr at *; omega
  ⟨⟨_, _, _, rfl⟩, s.get_set_other _ _ _ _ _ _ _ hne (.inl rfl)⟩

theorem putIdac (s : State) (x : IdacNow) : KeepsCause s (s.putIdac x) := by
  have hio : KeepsCause s { s with io := { s.io with idac := x :: s.io.idac.filter fun y => y.idac != x.idac } } :=
    ⟨⟨_, _, _, rfl⟩, rfl⟩
  exact (hio.trans (set _ D.idac_now _ _ _ (by decide))).trans (set _ D.idac_q_count _ _ _ (by decide))

theorem driveIdac (s : State) (l ua : Nat) : KeepsCause s (s.driveIdac l ua) := putIdac s _

theorem foldl {α : Type} (f : State → α → State) (h : ∀ t a, KeepsCause t (f t a)) (l : List α) (s : State) :
    KeepsCause s (l.foldl f s) :=
  List.foldlRecOn l f (refl s) fun t ht a _ => ht.trans (h t a)

end KeepsCause

/-- An error record reaches the dictionary and the error block alone. -/
theorem State.raiseRec_only (s : State) (area index code : Nat) (sev : Severity) (repeats : Nat) :
    ∃ d e, s.raiseRec area index code sev repeats = { s with dict := d, err := e } := by
  unfold State.raiseRec
  dsimp only
  split <;> split <;> exact ⟨_, _, rfl⟩

theorem State.error_only (s : State) (area index code : Nat) (sev : Severity) :
    ∃ d e, s.error area index code sev = { s with dict := d, err := e } := by
  obtain ⟨d, e, h⟩ := s.raiseRec_only area index code sev 0
  unfold State.error
  dsimp only
  rw [h]
  repeat' split
  all_goals exact ⟨_, _, rfl⟩

theorem KeepsCause.error (s : State) (area index code : Nat) (sev : Severity) :
    KeepsCause s (s.error area index code sev) := by
  obtain ⟨d, e, h⟩ := s.error_only area index code sev
  refine ⟨⟨d, e, s.io, h⟩, State.get_of_look _ _ _ _ _ rfl ?_⟩
  exact s.error_look _ _ _ _ _ (by decide) (by decide) (by decide) (by decide)

theorem KeepsCause.idacsPowerUp (s : State) : KeepsCause s s.idacsPowerUp := by
  refine .foldl _ (fun t l => ?_) _ s
  split
  · exact (driveIdac ..).trans (.set _ _ _ _ _ (by decide))
  · exact .refl t

/-- What is read at reset release: the straps, the twin slot, TW_ROLE_I and the time-keeper; the cause that the
always-on domain held is reported, and held no more. -/
def State.readStraps (s : State) (boot : Fin 4) (slot : Fin 2) (keeper : Nat) (roleIn : Bool) : State :=
  let lt : Int := (keeper : Int) * ns32
  let t := ((s.set D.boot_strap boot.val).set D.twin_slot slot.val).set D.reset_cause (s.power.aod.cause.getD 0)
  let solo := !t.getB D.twin_enable
  { t with
    time := { t.time with local_ := lt, released := lt }
    power := { t.power with phase := .boot, nreset := true, aod := { t.power.aod with cause := none, offset := 0 } }
    twin := { t.twin with
      roleIn := roleIn, drive := solo && !roleIn, noDrive := solo && roleIn, slotZero := slot.val == 0 } }

/-- At reset release an enabled domain listens, and another one is disabled. -/
def State.startDomains (s : State) : State :=
  (List.range 2).foldl (fun u d =>
    if u.getB D.dom_enable d then u.set D.dom_state domListening d else u.set D.dom_state domDisabled d) s

/-- A single unit whose TW_ROLE_I is high is wired wrongly: the fault of R537. -/
def State.checkWiring (s : State) (bad : Bool) : State :=
  if bad then (s.set D.twin_health (s.get D.twin_health ||| 2 ^ 10)).error 0x68 3 0x0B04 .failed else s

theorem KeepsCause.startDomains (s : State) : KeepsCause s s.startDomains := by
  refine .foldl _ (fun t d => ?_) _ s
  split <;> exact .set _ _ _ _ _ (by decide)

theorem KeepsCause.checkWiring (s : State) (bad : Bool) : KeepsCause s (s.checkWiring bad) := by
  cases bad
  · exact .refl s
  · exact (KeepsCause.set _ _ _ _ _ (by decide)).trans (.error ..)

theorem execResetRelease_of_reset (boot : Fin 4) (slot : Fin 2) (keeper : Nat) (roleIn : Bool) (s : State)
    (hp : s.power.phase = .reset) (hg : s.power.pgood = true) :
    let r := s.readStraps boot slot keeper roleIn
    execResetRelease boot slot keeper roleIn s =
      .next (((r.startDomains.checkWiring r.twin.noDrive).set D.twin_role
        (if !r.getB D.twin_enable then 0 else 3)).idacsPowerUp) :=
  if_pos (by simp [hp, hg])

/-- The steps after the straps are read keep the other parts, and the cause that is reported. -/
theorem execResetRelease_keepsCause (boot : Fin 4) (slot : Fin 2) (keeper : Nat) (roleIn : Bool) (s : State)
    (hp : s.power.phase = .reset) (hg : s.power.pgood = true) :
    ∃ t, execResetRelease boot slot keeper roleIn s = .next t ∧
      KeepsCause (s.readStraps boot slot keeper roleIn) t :=
  ⟨_, execResetRelease_of_reset boot slot keeper roleIn s hp hg,
    ((((KeepsCause.startDomains _).trans (.checkWiring _ _)).trans (.set _ _ _ _ _ (by decide))).trans
      (.idacsPowerUp _))⟩

theorem State.readStraps_cause (s : State) (boot : Fin 4) (slot : Fin 2) (keeper : Nat) (roleIn : Bool) :
    (s.readStraps boot slot keeper roleIn).get D.reset_cause = s.power.aod.cause.getD 0 :=
  State.get_set_same ..

/-! ### The boot ROM's self-check (R42) -/

theorem execBootSelfCheck_of_boot (s : State) (pass : Bool) (h : s.power.phase = .boot) :
    execBootSelfCheck pass s = .next (if pass then { s with err := { s.err with nfault := false } }
      else { s with
        power := { s.power with phase := .halted }, err := { s.err with nfault := true }
        twin := { s.twin with sound := false } }) := by
  rw [execBootSelfCheck, if_pos h]
  cases pass <;> rfl

/-- Settles O12: each clause is the answer of one command, and reset release is what is read at it followed by steps
that keep the other parts and the cause reported. -/
theorem resetEventsComplete : Obligations.ResetEventsComplete := by
  unfold Obligations.ResetEventsComplete
  refine ⟨execSuppliesGood_of_start, execSuppliesGood_of_railsRun, execNresetRequest_of_powered,
    execShankFault_of_powered, fun s h => ?trip, execThermalRestart_of_off,
    fun boot slot keeper roleIn s hp hg => ?release, fun s h => ?check,
    fun boot slot keeper c roleIn s hp hg hc => ?cause, fun phase s => s.enterReset_nfault phase,
    fun c d s h => ⟨s.noteCause_first c h, s.noteCause_noteCause c d h⟩⟩
  case trip => exact ⟨execThermalTrip_of_powered s h, rfl, rfl, rfl⟩
  case release =>
    obtain ⟨t, ht, hk⟩ := execResetRelease_keepsCause boot slot keeper roleIn s hp hg
    obtain ⟨d, e, x, rfl⟩ := hk.parts
    exact ⟨_, ht, rfl, rfl, rfl, rfl, rfl, rfl, rfl, rfl, rfl, rfl, rfl, rfl⟩
  case check => exact ⟨execBootSelfCheck_of_boot s true h, execBootSelfCheck_of_boot s false h⟩
  case cause =>
    obtain ⟨t, ht, hk⟩ := execResetRelease_keepsCause boot slot keeper roleIn s hp hg
    exact ⟨t, ht, by rw [hk.cause, State.readStraps_cause, hc]; rfl⟩

end Sys2Proof.Machine
end

section
/-! PROOFS. The object dictionary (chapter 2): the persistent image and Shank's periodic work, and the frames of a
session. -/

namespace Sys2Proof.Machine

open Sys2Proof Host

/-! ### Error records outside area 7C (R645–R653) -/

/-- An occurrence of an error reaches the error block and the objects of area 7C alone. -/
theorem State.error_area7C (s : State) (area index code : Nat) (sev : Severity) :
    ∃ d e, s.error area index code sev = { s with dict := d, err := e } ∧
      ∀ a, a / 2 ^ 24 ≠ 0x7C → look d a = look s.dict a := by
  obtain ⟨d, e, h⟩ := s.error_only area index code sev
  refine ⟨d, e, h, fun a ha => ?_⟩
  have hne : ∀ o : Obj, o.addr / 2 ^ 24 = 0x7C → a ≠ o.addr := by
    rintro o ho rfl
    exact ha ho
  have hl := s.error_look area index code sev a (hne _ (by decide)) (hne _ (by decide)) (hne _ (by decide))
    (hne _ (by decide))
  rwa [h] at hl

/-! ### The persistent image (R74–R78) -/

@[simp] theorem NandState.fill_journal (n : NandState) (bytes : Nat) : (n.fill bytes).journal = n.journal := by
  unfold NandState.fill; split <;> rfl

@[simp] theorem NandState.fill_image (n : NandState) (bytes : Nat) : (n.fill bytes).image = n.image := by
  unfold NandState.fill; split <;> rfl

/-- The account of an append changes what it counts, and neither the image nor what waits for it. -/
theorem State.noteAppend_nand (s : State) (bytes : Nat) :
    ∃ l w, (s.noteAppend bytes).nand = { s.nand with appends := l, warned := w } := by
  unfold State.noteAppend
  dsimp only
  split
  · rw [State.error_nand]; exact ⟨_, _, rfl⟩
  · exact ⟨_, _, rfl⟩

@[simp] theorem State.noteAppend_journal (s : State) (bytes : Nat) :
    (s.noteAppend bytes).nand.journal = s.nand.journal := by
  obtain ⟨l, w, h⟩ := s.noteAppend_nand bytes
  rw [h]

@[simp] theorem State.noteAppend_image (s : State) (bytes : Nat) :
    (s.noteAppend bytes).nand.image = s.nand.image := by
  obtain ⟨l, w, h⟩ := s.noteAppend_nand bytes
  rw [h]

theorem State.appendBytes_journal (s : State) (bytes : Nat) : (s.appendBytes bytes).nand.journal = [] := by
  simp [State.appendBytes, State.persistAll]

theorem State.appendBytes_image (s : State) (bytes : Nat) :
    (s.appendBytes bytes).nand.image = s.persistAll.nand.image := by
  simp [State.appendBytes]

/-- persist_state shows the last write's failure before it shows what waits (R78). -/
theorem State.viewCore_persist_state (s : State) (who : Who) (i : Nat) :
    s.viewCore who D.persist_state i =
      some (if s.nand.fault then 3 else if s.nand.journal.isEmpty then 0 else 1) := by
  unfold State.viewCore
  dsimp only
  rw [if_neg (by decide), if_neg (by decide), if_neg (by decide), if_pos rfl]

/-- A write of the image that fails leaves a fault and a record, and every value outside the error area. -/
theorem State.persistFails_only (s : State) :
    ∃ d e, s.persistFails = { s with dict := d, err := e, nand := { s.nand with fault := true } } ∧
      ∀ a, a / 2 ^ 24 ≠ 0x7C → look d a = look s.dict a :=
  State.error_area7C { s with nand := { s.nand with fault := true } } _ _ _ _

/-! ### Sensors (R34, R52, R601) -/

/-- What the readings and records of a sample may change: values of the dictionary, error records, and the conditions
already recorded. -/
def Senses (s t : State) : Prop :=
  ∃ d e w, t = { s with dict := d, err := e, power := { s.power with warned := w } }

namespace Senses

theorem refl (s : State) : Senses s s := ⟨_, _, _, rfl⟩

theorem trans {s t u : State} (h : Senses s t) (k : Senses t u) : Senses s u := by
  obtain ⟨d, e, w, rfl⟩ := h
  obtain ⟨d', e', w', rfl⟩ := k
  exact ⟨d', e', w', rfl⟩

theorem setF (s : State) (o : Obj) (x : F32) (i k : Nat) : Senses s (s.setF o x i k) := ⟨_, _, _, rfl⟩

theorem condition (s : State) (index code : Nat) (sev : Severity) (on : Bool) :
    Senses s (s.condition index code sev on) := by
  unfold State.condition
  dsimp only
  split
  · obtain ⟨d, e, h⟩ := State.error_only { s with power := { s.power with
      warned := (index * 2 ^ 16 + code) :: s.power.warned } } 0x7E index code sev
    exact ⟨d, e, _, h⟩
  · split
    · exact ⟨_, _, _, rfl⟩
    · exact refl s

theorem foldl {α : Type} (f : State → α → State) (h : ∀ t a, Senses t (f t a)) (l : List α) (s : State) :
    Senses s (l.foldl f s) :=
  List.foldlRecOn l f (refl s) fun t ht a _ => ht.trans (h t a)

end Senses

/-- The readings of the module's temperatures, of its input current and of its supplies. -/
def State.showSupplies (s : State) (x : Sensors) : State :=
  ((((((s.setF D.sens_module_temp x.module).setF D.sens_dram_temp x.dram).setF D.sens_vin x.vin).setF
    D.sens_iin x.iin).setF D.sens_vio x.vio).setF D.sens_vao x.vao).setF D.sens_vdac x.vdac

/-- The readings of a sample, with the records of the die temperatures. -/
def State.showSensors (s : State) (x : Sensors) : State :=
  let t := (List.range 8).foldl (fun u n =>
    (u.setF D.sens_die_temp (x.die.getD n F32.zero) n).setF D.rail_v (x.rails.getD n F32.zero) n) s
  let t := (List.range 9).foldl (fun u n => u.setF D.eye_margin (x.eyes.getD n F32.zero) n) t
  (List.range 8).foldl (fun u n => u.condition n 0x0103 .warn (F32.le f115 (u.getF D.sens_die_temp n))) (t.showSupplies x)

/-- PGOOD follows the rails while the module runs from them (R34). -/
def State.sampleRails (s : State) (x : Sensors) : State :=
  if s.railsRun then { s with power := { s.power with
    rails := x.out.isEmpty, pgood := x.out.isEmpty && s.power.vin && s.power.vio } } else s

/-- The other records of a sample, and the refresh rate that the DRAM temperature asks for. -/
def State.recordSensors (s : State) (x : Sensors) : State :=
  let t := s.condition 0x10 0x0106 .warn (F32.lt (s.getF D.sens_module_warn) x.module)
  let t := (List.range 8).foldl (fun u n => u.condition (0x20 + n) 0x0105 .degraded (x.out.contains n)) t
  let t := (t.condition 0x10 0x0107 .info (F32.lt f85 x.dram)).set D.dmc_refresh_rate (if F32.lt f85 x.dram then 1 else 0)
  (List.range 9).foldl (fun u k =>
    u.condition (0x30 + k) 0x0108 .warn (u.laneIsUp k && F32.lt (u.getF D.eye_margin k) f20)) t

theorem execSensorSample_eq (x : Sensors) (s : State) :
    execSensorSample x s = .next (((s.showSensors x).sampleRails x).recordSensors x) := rfl

theorem Senses.showSupplies (s : State) (x : Sensors) : Senses s (s.showSupplies x) := ⟨_, _, _, rfl⟩

theorem Senses.showSensors (s : State) (x : Sensors) : Senses s (s.showSensors x) := by
  have dies := foldl (fun u n =>
    (u.setF D.sens_die_temp (x.die.getD n F32.zero) n).setF D.rail_v (x.rails.getD n F32.zero) n)
    (fun _ _ => (setF ..).trans (setF ..)) (List.range 8)
  have eyes := foldl (fun u n => u.setF D.eye_margin (x.eyes.getD n F32.zero) n) (fun _ _ => setF ..) (List.range 9)
  have hot := foldl (fun u n => u.condition n 0x0103 .warn (F32.le f115 (u.getF D.sens_die_temp n)))
    (fun _ _ => condition ..) (List.range 8)
  exact (((dies s).trans (eyes _)).trans (showSupplies _ x)).trans (hot _)

theorem Senses.recordSensors (s : State) (x : Sensors) : Senses s (s.recordSensors x) := by
  have outs := foldl (fun u n => u.condition (0x20 + n) 0x0105 .degraded (x.out.contains n))
    (fun _ _ => condition ..) (List.range 8)
  have dram (t : State) (v : Nat) : Senses t (t.set D.dmc_refresh_rate v) := ⟨_, _, _, rfl⟩
  exact ((((condition ..).trans (outs _)).trans (condition ..)).trans (dram _ _)).trans
    (foldl _ (fun _ _ => condition ..) _ _)

/-- A sample reaches the dictionary, the error block, and of the power state the rails, PGOOD and the conditions
recorded; PGOOD is as the readings have it where the rails are in use. -/
theorem execSensorSample_only (x : Sensors) (s : State) :
    ∃ d e r w, execSensorSample x s = .next { s with dict := d, err := e, power := { s.power with
      rails := r, warned := w
      pgood := if s.railsRun then x.out.isEmpty && s.power.vin && s.power.vio else s.power.pgood } } := by
  obtain ⟨d, e, w, hshow⟩ := Senses.showSensors s x
  obtain ⟨d', e', w', hrec⟩ := Senses.recordSensors ((s.showSensors x).sampleRails x) x
  have hrun : (s.showSensors x).railsRun = s.railsRun := by rw [hshow]; rfl
  rw [execSensorSample_eq, hrec, State.sampleRails, hrun, hshow]
  split
  · exact ⟨d', e', x.out.isEmpty, w', rfl⟩
  · exact ⟨d', e', s.power.rails, w', rfl⟩

/-- Settles O15: a sample and a failed write are what they may change, and an append is what it leaves of the journal
and the image. -/
theorem shankWorkCompletes : Obligations.ShankWorkCompletes := by
  unfold Obligations.ShankWorkCompletes
  refine ⟨fun s => rfl, fun x s => ?sample, fun bytes s => ?append, fun bytes s => rfl, fun bytes s => ?fails⟩
  case sample =>
    obtain ⟨d, e, r, w, h⟩ := execSensorSample_only x s
    exact ⟨_, h, rfl, rfl, rfl, rfl, rfl, rfl, rfl, rfl, rfl, rfl⟩
  case append => exact ⟨rfl, rfl, rfl, rfl, s.appendBytes_journal bytes, s.appendBytes_image bytes⟩
  case fails =>
    obtain ⟨d, e, h, hlook⟩ := s.persistFails_only
    exact ⟨_, congrArg Outcome.next h, fun who => State.viewCore_persist_state .., rfl, hlook⟩

/-! ### The tag and the window of a session's frames (R109, R117) -/

theorem Session.fresh_eq_false_iff (x : Session) (seq : Nat) :
    x.fresh seq = false ↔ seq + 64 < x.top ∨ seq ∈ x.seen := by
  simp [Session.fresh, or_iff_not_imp_left]

/-- A frame accepted stays in the window while it is less than 65 below the highest. -/
theorem Session.mem_accept_seen (x : Session) (seq n : Nat) (now : Int) :
    n ∈ (x.accept seq now).seen ↔ (n = seq ∨ n ∈ x.seen) ∧ (x.accept seq now).top ≤ n + 64 := by
  simp [Session.accept]

theorem State.checkTag_of_tagFails (s : State) (r : Req) (body : List Byte) (x : Session)
    (hx : s.session r.session = some x) (hf : x.tagHolds r body = false) :
    let t := (s.count D.integrity_drops).putSession { x with bad := x.bad + 1 }
    s.checkTag r body = (if 16 ≤ x.bad + 1 then t.closeSession x.id crIntegrity else t, false) := by
  simp [State.checkTag, hx, hf]

theorem State.checkTag_of_replay (s : State) (r : Req) (body : List Byte) (x : Session)
    (hx : s.session r.session = some x) (hh : x.tagHolds r body = true) (hr : x.fresh r.seq = false) :
    s.checkTag r body = (s.count D.replay_drops, false) := by
  simp [State.checkTag, hx, hh, hr]

/-- A protected frame that its check drops is dealt with: no reply, and the state that the check leaves. -/
theorem State.examine_of_dropped (s t : State) (r : Req) (m : Msg) (hv : r.version = 1) (hp : r.isProtected = true)
    (hd : s.checkTag r (s.requestBody r m) = (t, false)) : s.examine r m = .done t := by
  simp [State.examine, hv, hp, hd]

/-! ### A full dispatcher (R91) -/

theorem Req.onPort_of_isNet (r : Req) (h : isNet r.src = true) : r.onPort = r :=
  if_neg (by simpa [isNet] using h)

theorem State.answer_of_full (s t : State) (r : Req) (m : Msg) (hn : isNet r.src = true)
    (hr : s.received r m = some t) (ha : t.accepting = true) (hl : 64 ≤ t.mdap.waiting.length) :
    s.answer r m = t.turnAway r m := by
  simp [State.answer, r.onPort_of_isNet hn, hr, ha, hl, hn]

/-- Settles O60: what the check of a frame comes to decides its examination, case by case. -/
theorem sessionWindow : Obligations.SessionWindow := by
  unfold Obligations.SessionWindow
  refine ⟨fun r x m s hv hp hx => ⟨fun hf hb => ?more, fun hf hb => ?sixteenth, fun hh hr => ?replay⟩,
    fun r m s t => s.answer_of_full t r m, fun x seq now => ⟨rfl, rfl, fun n => x.mem_accept_seen seq n now⟩⟩
  case more =>
    refine s.examine_of_dropped _ r m hv hp ?_
    rw [s.checkTag_of_tagFails r _ x hx hf, if_neg (by omega)]
  case sixteenth =>
    refine s.examine_of_dropped _ r m hv hp ?_
    rw [s.checkTag_of_tagFails r _ x hx hf, if_pos (by omega)]
  case replay =>
    exact s.examine_of_dropped _ r m hv hp (s.checkTag_of_replay r _ x hx hh ((x.fresh_eq_false_iff _).2 hr))

end Sys2Proof.Machine
end

section
/-! PROOFS. Network time (chapter 3): the grid that samples begin on, the steps of a domain's time and the captures of an
event pin. -/

namespace Sys2Proof.Machine

open Sys2Proof Host

/-! ### Lists of fixed length, and two's complement -/

theorem modAt_getElem?_same {α : Type} (l : List α) (n : Nat) (f : α → α) (x : α) (h : l[n]? = some x) :
    (modAt l n f)[n]? = some (f x) := by
  induction l generalizing n with
  | nil => simp at h
  | cons y l ih =>
    cases n with
    | zero => simpa [modAt] using congrArg f (by simpa using h)
    | succ n => simpa [modAt] using ih n (by simpa using h)

/-- An integer that fits in `b` bits is the one that its two's complement spells (R60). -/
theorem toSigned_ofSigned (b : Nat) (z : Int) (hl : -(2 ^ b) ≤ 2 * z) (hu : 2 * z < 2 ^ b) :
    toSigned b (ofSigned b z) = z := by
  simp only [toSigned, ofSigned, Nat.cast_pow, Nat.cast_ofNat, ge_iff_le]
  have hp : (2 : Int) ^ b = ((2 ^ b : Nat) : Int) := by simp
  have hmod : (z % 2 ^ b).toNat % 2 ^ b = (z % 2 ^ b).toNat := Nat.mod_eq_of_lt (by
    have := Int.emod_lt_of_pos z (by positivity : (0 : Int) < 2 ^ b)
    omega)
  rw [hmod]
  rcases le_or_gt 0 z with hz | hz
  · rw [Int.emod_eq_of_lt hz (by omega), if_neg (by omega)]
    omega
  · rw [← Int.add_emod_right, Int.emod_eq_of_lt (by omega) (by omega), if_pos (by omega)]
    omega

/-! ### The grid of 2⁻¹⁶ ns (R6, R149) -/

theorem sampleInstant_le_iff (n g fs : Nat) (hfs : 0 < fs) :
    sampleInstant n fs ≤ g ↔ n * (1000000000 * 2 ^ 16) ≤ fs * g := by
  rw [sampleInstant, ← Nat.ceilDiv_eq_add_pred_div, ceilDiv_le_iff_le_mul hfs, Nat.mul_assoc]

theorem sampleIndex_grid (g fs : Nat) : sampleIndex ((g : Int) * 2 ^ 16) fs = fs * g / (1000000000 * 2 ^ 16) := by
  rw [sampleIndex, Int.mul_ediv_cancel _ (by norm_num), Nat.mul_comm]
  exact Int.toNat_natCast _

/-- R6 yields a sample's index from the instant it is placed at up to the next sample's. -/
theorem sampleIndex_grid_eq_iff (n g fs : Nat) (hfs : 0 < fs) :
    sampleIndex ((g : Int) * 2 ^ 16) fs = n ↔ sampleInstant n fs ≤ g ∧ g < sampleInstant (n + 1) fs := by
  rw [sampleIndex_grid, ← Nat.not_le, sampleInstant_le_iff n g fs hfs, sampleInstant_le_iff (n + 1) g fs hfs]
  omega

/-- Samples lie further apart than one point of the grid at any rate of up to 1 GHz. -/
theorem sampleInstant_lt_succ (n fs : Nat) (hfs : 0 < fs) (hle : fs ≤ 1000000000) :
    sampleInstant n fs < sampleInstant (n + 1) fs := by
  rw [sampleInstant, sampleInstant, Nat.lt_iff_add_one_le, ← Nat.add_div_right _ hfs]
  exact Nat.div_le_div_right (by omega)

/-- Settles O58: the grid points that R6 gives an index are those from its instant up to the next one's. -/
theorem samplesFallOnTheGrid : Obligations.SamplesFallOnTheGrid := by
  unfold Obligations.SamplesFallOnTheGrid
  intro n fs hrate
  have hfs : 0 < fs := by omega
  exact ⟨(sampleIndex_grid_eq_iff n _ fs hfs).2 ⟨le_rfl, sampleInstant_lt_succ n fs hfs (by omega)⟩,
    fun g hlo hhi => (sampleIndex_grid_eq_iff n g fs hfs).2 ⟨hlo, hhi⟩⟩

/-! ### Reads after a reply -/

/-- A default that is fixed is read from no store (R655). -/
theorem dfltValue_of_fixed (m n : List (Nat × Nat)) (o : Obj) (i k : Nat) (h : o.dflt.fixed = true) :
    dfltValue m o i k = dfltValue n o i k := by
  unfold dfltValue
  cases hd : o.dflt <;> simp_all [Dflt.fixed]

theorem State.reply_getI (s : State) (r : Req) (kind : Nat) (body : List Nat) (o : Obj) (i : Nat)
    (ha : o.addr i ≠ D.hspi_notify_drops.addr 0) (h : o.dflt.fixed = true) :
    (s.reply r kind body).getI o i = s.getI o i := by
  simp only [State.getI, State.get, s.reply_look r kind body _ ha,
    dfltValue_of_fixed (s.reply r kind body).dict s.dict o i 0 h]

/-! ### The commands that are a WRITE of one object (R131, R132, R163) -/

theorem addr_ne_of_lt_base (o : Obj) (i a : Nat) (h : a < o.base) : o.addr i ≠ a := by
  unfold Obj.addr
  omega

/-- The rate of a domain spoils no list of the render. -/
theorem State.reactScene_domRate (s : State) (i old : Nat) : s.reactScene D.dom_rate i old = s := by
  have hplain : s.reactScene D.dom_rate i old = { s with render := { s.render with
      loadDirty := s.render.loadDirty || false
      triDirty := s.render.triDirty || false
      dirty := s.render.dirty ++ [] } } := rfl
  rw [hplain, Bool.or_false, Bool.or_false, List.append_nil]

/-- No other part of the machine reacts to the rate of a domain. -/
theorem State.react_domRate (s : State) (k i old : Nat) (changed : Bool) :
    s.react k D.dom_rate i old changed [] = s := by
  cases changed with
  | false => rfl
  | true => exact s.reactScene_domRate i old

theorem execDomRateWrite_of_takes (r : Req) (d : Fin 2) (v : Int) (s : State) (hl : -(2 ^ 31) ≤ v) (hu : v < 2 ^ 31)
    (h : s.takes r D.dom_rate d.val (ofSigned 32 v)) :
    execDomRateWrite r d v s = .next (((s.arrived r).writeRate d.val v).reply r.onPort mtWrite [scOk]) := by
  have hat := objAt_domain D.dom_rate (by simp) d
  have hflush := addr_ne_of_lt_base D.dom_rate d D.persist_flush.base (by decide)
  have hudp := addr_ne_of_lt_base D.dom_rate d D.mdap_udp_port.base (by decide)
  have hassign (t : State) (k : Nat) : t.assign k D.dom_rate d.val 0 (ofSigned 32 v) =
      t.writeRate d.val (toSigned 32 (ofSigned 32 v)) := rfl
  rw [execDomRateWrite, writeOne_assign s r D.dom_rate d.val _ h hat rfl rfl (by decide) (by decide) (by decide)
    hflush hudp (s.arrived r) rfl, State.react_domRate, hassign, toSigned_ofSigned 32 v (by omega) (by omega)]

theorem execDomAdjust_of_takes (r : Req) (d : Fin 2) (v : Int) (s : State) (hl : -(2 ^ 31) ≤ v) (hu : v < 2 ^ 31)
    (h : s.takes r D.dom_adjust d.val (ofSigned 32 v)) :
    execDomAdjust r d v s = .next (((s.arrived r).stepDomain d.val (v * ns32)).reply r.onPort mtWrite [scOk]) := by
  have hat := objAt_domain D.dom_adjust (by simp) d
  have hflush := addr_ne_of_lt_base D.dom_adjust d D.persist_flush.base (by decide)
  have hudp := addr_ne_of_lt_base D.dom_adjust d D.mdap_udp_port.base (by decide)
  have hcommand (t : State) (k : Nat) : t.command k D.dom_adjust d.val (ofSigned 32 v) =
      t.stepDomain d.val (toSigned 32 (ofSigned 32 v) * ns32) := rfl
  rw [execDomAdjust, writeOne_command s r D.dom_adjust d.val _ h hat rfl rfl hflush hudp, hcommand,
    toSigned_ofSigned 32 v (by omega) (by omega)]

theorem execEvPop_of_takes (r : Req) (p : Fin 6) (s : State) (h : s.takes r D.ev_pop p.val 1) :
    execEvPop r p s = .next (((s.arrived r).popCapture p.val).reply r.onPort mtWrite [scOk]) := by
  have hat := objAt_pin D.ev_pop (by simp) p
  have hflush := addr_ne_of_lt_base D.ev_pop p D.persist_flush.base (by decide)
  have hudp := addr_ne_of_lt_base D.ev_pop p D.mdap_udp_port.base (by decide)
  have hcommand (t : State) (k : Nat) : t.command k D.ev_pop p.val 1 = t.popCapture p.val := rfl
  rw [execEvPop, writeOne_command s r D.ev_pop p.val _ h hat rfl rfl hflush hudp, hcommand]

/-! ### The time of a domain (R130–R132) -/

section
variable (s : State) (d : Nat) (x : Domain) (hx : s.time.domains[d]? = some x)
include hx

theorem State.domainTime_of_domain : s.domainTime d =
    s.time.local_ + x.offset + s.getI D.dom_rate d * (s.time.local_ - x.anchor) / ns32 := by
  simp [State.domainTime, State.domainAt, State.domain, hx]

theorem State.writeRate_domain (r : Int) : (s.writeRate d r).time.domains[d]? = some { x with
    offset := x.offset + s.getI D.dom_rate d * (s.time.local_ - x.anchor) / ns32
    anchor := s.time.local_ } :=
  modAt_getElem?_same _ d _ x hx

theorem State.stepDomain_domain (delta : Int) :
    (s.stepDomain d delta).time.domains[d]? = some { x with offset := x.offset + delta } :=
  modAt_getElem?_same _ d _ x hx

/-- At the anchor the rate has no weight, so that its old share, moved into the offset, keeps the time. -/
theorem State.writeRate_domainTime (r : Int) : (s.writeRate d r).domainTime d = s.domainTime d := by
  have hlocal : (s.writeRate d r).time.local_ = s.time.local_ := rfl
  rw [State.domainTime_of_domain _ d _ (s.writeRate_domain d x hx r), s.domainTime_of_domain d x hx, hlocal,
    Int.sub_self, Int.mul_zero, Int.zero_ediv, Int.add_zero, Int.add_assoc]

theorem State.stepDomain_domainTime (delta : Int) : (s.stepDomain d delta).domainTime d = s.domainTime d + delta := by
  have hlocal : (s.stepDomain d delta).time.local_ = s.time.local_ := rfl
  have hrate : (s.stepDomain d delta).getI D.dom_rate d = s.getI D.dom_rate d := rfl
  rw [State.domainTime_of_domain _ d _ (s.stepDomain_domain d x hx delta), s.domainTime_of_domain d x hx, hlocal, hrate]
  ring

end

theorem State.writeRate_getI (s : State) (d : Nat) (v : Int) (hl : -(2 ^ 31) ≤ v) (hu : v < 2 ^ 31) :
    (s.writeRate d v).getI D.dom_rate d = v := by
  have hread : (s.writeRate d v).getI D.dom_rate d = toSigned 32 (ofSigned 32 v) :=
    congrArg (toSigned 32) (State.get_set_same _ D.dom_rate (ofSigned 32 v) d 0)
  rw [hread, toSigned_ofSigned 32 v (by omega) (by omega)]

/-- What a domain's time is read from, a request's arrival leaves as it was. -/
theorem State.arrived_domainTime (s : State) (r : Req) (d : Nat) : (s.arrived r).domainTime d = s.domainTime d := by
  simp [State.domainTime, State.domainAt, State.domain, State.getI]

theorem State.reply_domRate (s : State) (r : Req) (kind : Nat) (body : List Nat) (d : Nat) :
    (s.reply r kind body).getI D.dom_rate d = s.getI D.dom_rate d :=
  s.reply_getI r kind body D.dom_rate d (addr_ne_of_lt_base _ _ _ (by decide)) rfl

theorem State.reply_domainTime (s : State) (r : Req) (kind : Nat) (body : List Nat) (d : Nat) :
    (s.reply r kind body).domainTime d = s.domainTime d := by
  simp only [State.domainTime, State.domainAt, State.domain, State.reply_time, State.reply_domRate]

/-- Settles O57: the write is its step of the domain in the state of the request's arrival, which neither the arrival nor
the reply disturbs. -/
theorem domainTimeSteps : Obligations.DomainTimeSteps := by
  unfold Obligations.DomainTimeSteps
  intro r d v x s hl hu hx
  have hdom : (s.arrived r).time.domains[d.val]? = some x := by rw [s.arrived_time r, hx]
  refine ⟨fun h => ⟨_, execDomRateWrite_of_takes r d v s hl hu h, ?rate, ?domain, ?time⟩,
    fun h => ⟨_, execDomAdjust_of_takes r d v s hl hu h, ?stepped, ?stepTime⟩⟩
  case rate => rw [State.reply_domRate, State.writeRate_getI _ _ _ hl hu]
  case domain =>
    rw [State.reply_time, State.writeRate_domain _ _ x hdom]
    simp [State.getI, ns32]
  case time => rw [State.reply_domainTime, State.writeRate_domainTime _ _ x hdom, State.arrived_domainTime]
  case stepped => rw [State.reply_time, State.stepDomain_domain _ _ x hdom]
  case stepTime => rw [State.reply_domainTime, State.stepDomain_domainTime _ _ x hdom, State.arrived_domainTime]

/-! ### The captures of an event pin (R160, R163) -/

theorem State.not_close_of_apart (s : State) (p : Nat) (now : Int)
    (hfar : ∀ t, (s.pin p).lastEdge = some t → 20 * ns32 ≤ now - t) :
    ((s.pin p).lastEdge.any fun t => decide (now - t < 20 * ns32)) = false := by
  cases hlast : (s.pin p).lastEdge with
  | none => rfl
  | some t => exact decide_eq_false (not_lt.2 (hfar t hlast))

section
variable (pin : Fin 6) (e : PinEdge) (s : State) (hc : captures (s.get D.ev_mode pin) e.edge = true)
  (hv : s.power.vio = true)
include hc hv

theorem execEventCapture_of_close (t : Int) (ht : (s.pin pin).lastEdge = some t)
    (hclose : s.landTime e.quarters - t < 20 * ns32) :
    execEventCapture pin e s = .next (s.count D.ev_merged pin) := by
  simp [execEventCapture, hc, hv, ht, hclose]

variable (hfar : ∀ t, (s.pin pin).lastEdge = some t → 20 * ns32 ≤ s.landTime e.quarters - t)
include hfar

theorem execEventCapture_of_full (hq : 16 ≤ (s.pin pin).queue.length) :
    execEventCapture pin e s = .next ((s.modPin pin fun y =>
      { y with lastEdge := some (s.landTime e.quarters) }).count D.ev_lost pin) := by
  have hapart := s.not_close_of_apart pin _ hfar
  simp [execEventCapture, hc, hv, hapart, hq]

theorem execEventCapture_of_room (hq : (s.pin pin).queue.length < 16) :
    let then_ : State := { s with time := { s.time with local_ := s.landTime e.quarters } }
    let time := toT80 (then_.pinTime pin - ofPs (s.getI D.ev_adjust pin))
    execEventCapture pin e s = .next (((s.modPin pin fun y => { y with
      lastEdge := some (s.landTime e.quarters)
      queue := y.queue ++ [(time, e.edge)] }).pinFlag pin 3).showCaptures pin) := by
  have hapart := s.not_close_of_apart pin _ hfar
  simp [execEventCapture, hc, hv, hapart, hq]

end

theorem State.showCaptures_time (s : State) (p : Nat) : (s.showCaptures p).time = s.time := by
  simp only [State.showCaptures]
  split <;> rfl

theorem State.popCapture_pin (s : State) (p : Nat) (y : EventPin) (hy : s.time.pins[p]? = some y) :
    (s.popCapture p).time.pins[p]? = some { y with queue := y.queue.tail } := by
  rw [State.popCapture, State.showCaptures_time]
  exact modAt_getElem?_same _ p _ y hy

/-- Settles O23: an edge meets one of the three cases of a capture, and a pop drops the head of the queue. -/
theorem captureQueueKeepsSixteen : Obligations.CaptureQueueKeepsSixteen := by
  unfold Obligations.CaptureQueueKeepsSixteen
  refine ⟨fun pin e q s hc hv => ⟨fun ⟨t, ht, hclose⟩ => execEventCapture_of_close pin ⟨e, q⟩ s hc hv t ht hclose,
    execEventCapture_of_full pin ⟨e, q⟩ s hc hv, execEventCapture_of_room pin ⟨e, q⟩ s hc hv⟩,
    fun r p y s h hy => ?pop⟩
  case pop =>
    have hpin : (s.arrived r).time.pins[p.val]? = some y := by rw [s.arrived_time r, hy]
    refine ⟨_, execEvPop_of_takes r p s h, ?_⟩
    rw [State.reply_time, State.popCapture_pin _ _ y hpin]

end Sys2Proof.Machine
end

section
/-! PROOFS. DFMA (chapter 8, R343): the two slots of its word, and what a slot that stands alone in its bundle does. -/

namespace Sys2Proof.Machine

open Sys2Proof Host

/-! ### The two slots in the word -/

/-- What a word decodes to is its fields by its class: the other checks of R340 only refuse. -/
theorem parseBundle_of_decodeBundle (w : BitVec 64) (b : Bundle) (h : decodeBundle w = some b) :
    parseBundle w = some b := by
  unfold decodeBundle at h
  split at h
  case h_1 => exact absurd h (by simp)
  case h_2 c hparse =>
    split at h
    · rw [hparse, h]
    · exact absurd h (by simp)

theorem parseBundle_of_dfma (w : BitVec 64) (h : w.extractLsb' 60 4 = 2#4) :
    parseBundle w =
      some (.dfma (fmaAt w 46) (fmaAt w 32) (loadAt w 22) (loadAt w 12) (w.extractLsb' 0 4)) := by
  simp [parseBundle, h]

/-! ### One slot -/

/-- Write an FP result to an f register: a NaN sets NANR beside (R346). -/
def GravCtx.putFloat (r : GravCtx) (n : Nat) (v : BitVec 32) : GravCtx :=
  { r with f := r.f.set n v, nanr := r.nanr || F32.isNaN v }

/-- Outside every loop and delay slot, execution goes to the next bundle (R351, R352). -/
theorem GravCtx.advance_of_straight (r : GravCtx) (h : r.straight) : r.advance = { r with pc := r.pc + 1 } := by
  obtain ⟨hdelay, hlv0, hlv1⟩ := h
  simp [GravCtx.advance, hdelay, hlv0, hlv1]

theorem GravCtx.putFloat_advance (r : GravCtx) (n : Nat) (v : BitVec 32) (h : r.straight) :
    (r.putFloat n v).advance = { r.putFloat n v with pc := r.pc + 1 } :=
  (r.putFloat n v).advance_of_straight h

section
variable (r old : GravCtx) (fd fs ft : BitVec 4)

@[simp] theorem GravCtx.fmaSlot_none : r.fmaSlot old ⟨0#2, fd, fs, ft⟩ = r := by
  simp [GravCtx.fmaSlot]

theorem GravCtx.fmaSlot_fma : r.fmaSlot old ⟨1#2, fd, fs, ft⟩ = r.putFloat fd.toNat
    (F32.fma (old.f.getD fs.toNat 0#32) (old.f.getD ft.toNat 0#32) (old.f.getD fd.toNat 0#32)) := by
  simp [GravCtx.fmaSlot, GravCtx.raise, GravCtx.putFloat]

theorem GravCtx.fmaSlot_fms : r.fmaSlot old ⟨2#2, fd, fs, ft⟩ = r.putFloat fd.toNat
    (F32.fma (F32.neg (old.f.getD fs.toNat 0#32)) (old.f.getD ft.toNat 0#32) (old.f.getD fd.toNat 0#32)) := by
  simp [GravCtx.fmaSlot, GravCtx.raise, GravCtx.putFloat]

theorem GravCtx.fmaSlot_fadd : r.fmaSlot old ⟨3#2, fd, fs, ft⟩ = r.putFloat fd.toNat
    (F32.add (old.f.getD fs.toNat 0#32) (old.f.getD ft.toNat 0#32)) := by
  simp [GravCtx.fmaSlot, GravCtx.raise, GravCtx.putFloat]

end

/-! ### A bundle with one slot -/

/-- The DFMA bundle that holds `m` in its first or its second slot, and neither loads nor CTL. -/
def dfmaAlone (first : Bool) (m : FmaSlot) : Bundle :=
  if first then .dfma m ⟨0, 0, 0, 0⟩ ⟨0, 0, 0, 0⟩ ⟨0, 0, 0, 0⟩ 0
  else .dfma ⟨0, 0, 0, 0⟩ m ⟨0, 0, 0, 0⟩ ⟨0, 0, 0, 0⟩ 0

/-- Its outcome is that of the slot, whichever of the two it is: the idle slot, the loads and CTL change nothing. -/
theorem Inst.run_dfmaAlone (i : Inst) (first : Bool) (m : FmaSlot) (x y : BitVec 32) :
    i.run (dfmaAlone first m) x y = .ok (i.regs.fmaSlot i.regs m).advance := by
  cases first with
  | true => exact congrArg (Ran.ok ·.advance) (GravCtx.fmaSlot_none _ i.regs 0 0 0)
  | false => rfl

/-- Settles O37: the word's class is DFMA's, so its slots lie where DFMA's do; and a slot alone in its bundle writes
its result, after which execution goes to the next bundle. -/
theorem dfmaOperations : Obligations.DfmaOperations := by
  unfold Obligations.DfmaOperations
  refine ⟨fun w b hclass hdecode => ?slots, fun i first fd fs ft x y hstraight => ?results⟩
  case slots =>
    have hparse := parseBundle_of_decodeBundle w b hdecode
    rw [parseBundle_of_dfma w hclass] at hparse
    exact ⟨_, _, _, (Option.some.inj hparse).symm⟩
  case results =>
    have runs (op : BitVec 2) := i.run_dfmaAlone first ⟨op, fd, fs, ft⟩ x y
    have writes (v : BitVec 32) := i.regs.putFloat_advance fd.toNat v hstraight
    refine ⟨(runs 0#2).trans ?none, (runs 1#2).trans ?fma, (runs 2#2).trans ?fms, (runs 3#2).trans ?fadd⟩
    case none => rw [GravCtx.fmaSlot_none, i.regs.advance_of_straight hstraight]
    case fma => rw [GravCtx.fmaSlot_fma, writes, GravCtx.putFloat]
    case fms => rw [GravCtx.fmaSlot_fms, writes, GravCtx.putFloat]
    case fadd => rw [GravCtx.fmaSlot_fadd, writes, GravCtx.putFloat]

end Sys2Proof.Machine
end

section
/-! PROOFS. The DMC (chapter 15, R575, R576): the key of a request as an order, the scheduling decision as a greatest
element under it, and what a service leaves of the waiting requests. -/

namespace Sys2Proof.Machine

open Sys2Proof Host

/-! ### The key of R575 -/

/-- The key of a request, field by field: class, urgency, row hit and age; the identifier, compared the other way
round, decides between equal keys by arrival. -/
def DmcRequest.key (hits : List Nat) (now : Int) (r : DmcRequest) : ℕ ×ₗ ℕ ×ₗ Bool ×ₗ ℤ ×ₗ ℕᵒᵈ :=
  toLex (r.cls, toLex (r.urgency now, toLex (hits.contains r.id, toLex (r.age now, OrderDual.toDual r.id))))

/-- The comparison that the scheduling decision makes is the strict order of the keys. Of two row hits or two misses the
age decides what class and urgency leave open; a hit beside a miss decides by itself. -/
theorem DmcRequest.before_iff (hits : List Nat) (now : Int) (a b : DmcRequest) :
    a.before hits now b = true ↔ b.key hits now < a.key hits now := by
  simp only [DmcRequest.before, DmcRequest.key, Prod.Lex.toLex_lt_toLex, OrderDual.toDual_lt_toDual, Bool.lt_iff]
  cases hits.contains a.id <;> cases hits.contains b.id
  case false.false | true.true =>
    simp [List.lex]
    omega
  case false.true | true.false => simp [List.lex]

/-- The thresholds of the urgency are a half, three quarters and the whole of the target. -/
theorem DmcRequest.urgency_steps (r : DmcRequest) (now : Int) :
    let a := r.age now
    let t := (r.target : Int) * 2 ^ 32
    (2 * a < t → r.urgency now = 0) ∧ (t ≤ 2 * a → 4 * a < 3 * t → r.urgency now = 1) ∧
      (3 * t ≤ 4 * a → a < t → r.urgency now = 2) ∧ (t ≤ a → r.urgency now = 3) := by
  intro a t
  have hcases : r.urgency now =
      if 4 * a ≥ 4 * t then 3 else if 4 * a ≥ 3 * t then 2 else if 4 * a ≥ 2 * t then 1 else 0 := rfl
  rw [hcases]
  split_ifs <;> omega

/-! ### The scheduling decision -/

/-- A scheduling decision takes the greatest key of the requests that can be served. -/
theorem dmcPick_eq_argmax (hits : List Nat) (now : Int) (l : List DmcRequest) :
    dmcPick hits now l = (l.filter (dmcFree l)).argmax (DmcRequest.key hits now) := by
  unfold dmcPick List.argmax
  congr 1
  funext best r
  cases best with
  | none => rfl
  | some b => simp only [List.argAux, DmcRequest.before_iff]

theorem free_of_dmcPick {hits : List Nat} {now : Int} {l : List DmcRequest} {r : DmcRequest}
    (h : dmcPick hits now l = some r) : r ∈ l ∧ dmcFree l r = true := by
  rw [dmcPick_eq_argmax] at h
  exact List.mem_filter.mp (List.argmax_mem h)

theorem key_le_of_dmcPick {hits : List Nat} {now : Int} {l : List DmcRequest} {r x : DmcRequest}
    (h : dmcPick hits now l = some r) (hx : x ∈ l) (hfree : dmcFree l x = true) :
    x.key hits now ≤ r.key hits now := by
  rw [dmcPick_eq_argmax] at h
  exact List.le_of_mem_argmax (List.mem_filter.mpr ⟨hx, hfree⟩) h

/-- What a key at most another says of the fields that R575 compares. -/
theorem DmcRequest.fields_of_key_le {hits : List Nat} {now : Int} {x r : DmcRequest}
    (h : x.key hits now ≤ r.key hits now) :
    x.cls < r.cls ∨ x.cls = r.cls ∧ (x.urgency now < r.urgency now ∨ x.urgency now = r.urgency now ∧
      ((hits.contains x.id = false ∧ hits.contains r.id = true) ∨ hits.contains x.id = hits.contains r.id ∧
        x.age now ≤ r.age now)) := by
  simp only [DmcRequest.key, Prod.Lex.toLex_le_toLex, Bool.lt_iff] at h
  exact h.imp_right <| .imp_right <| .imp_right <| .imp_right <| .imp_right <| .imp_right fun hage =>
    hage.elim Int.le_of_lt fun hsame => hsame.left.le

/-! ### What a service and a promotion do to the waiting requests -/

@[simp] theorem State.histFrom_mem (s : State) (src sel : Nat) (v : F32) (n u : Nat) :
    (s.histFrom src sel v n u).mem = s.mem := by
  induction n generalizing s u with
  | zero => rfl
  | succ n ih =>
    rw [State.histFrom, ih]
    split <;> rfl

@[simp] theorem State.histRecord_mem (s : State) (src sel : Nat) (v : F32) :
    (s.histRecord src sel v).mem = s.mem := s.histFrom_mem src sel v 32 0

@[simp] theorem State.dmcAverages_mem (s : State) : s.dmcAverages.mem = s.mem := by
  simp only [State.dmcAverages, State.setF_mem]
  exact foldl_keeps State.mem _ (fun t p => State.setF_mem t _ _ _ _) _ s

theorem execDmcServe_of_pick (hits : List Nat) (r : DmcRequest) (s : State)
    (h : dmcPick hits s.time.local_ s.mem.waiting = some r) :
    ∃ t, execDmcServe hits s = .next t ∧ t.mem.waiting = s.mem.waiting.filter fun x => x.id != r.id := by
  simp only [execDmcServe, h]
  exact ⟨_, rfl, by rw [State.dmcAverages_mem, State.histRecord_mem]⟩

theorem execAgePromotion_of_due (port : Fin 8) (r : DmcRequest) (s : State)
    (h : (s.mem.waiting.find? fun r => r.port == port.val && r.cls != 2 &&
      decide (r.age s.time.local_ ≥ (s.get D.dmc_port_age_limit port.val : Int) * ns32)) = some r) :
    execAgePromotion port s = .next (({ s with mem := { s.mem with
      waiting := s.mem.waiting.map fun x => if x.id = r.id then { x with cls := 2 } else x } } : State).count
        D.dmc_port_promotions port.val) := by
  simp only [execAgePromotion, h]

/-- Settles O34: a scheduling decision takes a greatest element, so its key is at least that of every request that can
be served; the urgency is read off its thresholds, and the two commands off their meanings. -/
theorem greatestKeyServed : Obligations.GreatestKeyServed := by
  unfold Obligations.GreatestKeyServed
  refine ⟨fun hits now l r h => ?_, execDmcServe_of_pick, DmcRequest.urgency_steps, execAgePromotion_of_due⟩
  obtain ⟨hmem, hfree⟩ := free_of_dmcPick h
  exact ⟨hmem, hfree, fun x hx hxfree => DmcRequest.fields_of_key_le (key_le_of_dmcPick h hx hxfree)⟩

end Sys2Proof.Machine
end

section
/-! PROOFS. Histogram units (chapter 17, R637–R643): what a recorded value leaves in each unit, and what a unit shows
before any. -/

namespace Sys2Proof.Machine

open Sys2Proof Host

theorem modAt_eq_modify {α : Type} (l : List α) (n : Nat) (f : α → α) : modAt l n f = l.modify n f := by
  induction l generalizing n with
  | nil => simp [modAt]
  | cons x l ih =>
    cases n with
    | zero => simp [modAt]
    | succ n => simp [modAt, ih]

theorem modAt_getElem?_other {α : Type} (l : List α) (n m : Nat) (f : α → α) (h : n ≠ m) :
    (modAt l n f)[m]? = l[m]? := by
  rw [modAt_eq_modify, List.getElem?_modify_ne _ _ h]

/-! ### A value in one unit (R640) -/

@[simp] theorem histAdd_count (h : HistUnit) (bin : Nat) (v : F32) :
    (histAdd h bin v).count = (h.count + 1) % 2 ^ 64 := rfl

@[simp] theorem histAdd_start (h : HistUnit) (bin : Nat) (v : F32) : (histAdd h bin v).start = h.start := rfl

theorem look_histAdd_bins (h : HistUnit) (bin b : Nat) (v : F32) :
    (look (histAdd h bin v).bins b).getD 0 =
      if b = bin then min ((look h.bins b).getD 0 + 1) 0xFFFFFFFF else (look h.bins b).getD 0 := by
  dsimp only [histAdd]
  split
  case isTrue hb => rw [hb, look_put_same, Option.getD_some]
  case isFalse hb => rw [look_put_other _ _ _ _ (Ne.symm hb)]

theorem histAdd_range_of_nan (h : HistUnit) (bin : Nat) (v : F32) (hv : v.isNaN = true) :
    (histAdd h bin v).least = h.least ∧ (histAdd h bin v).greatest = h.greatest := by
  simp [histAdd, hv]

theorem histAdd_range_of_not_nan (h : HistUnit) (bin : Nat) (v : F32) (hv : v.isNaN = false) :
    (histAdd h bin v).least = F32.min h.least v ∧ (histAdd h bin v).greatest = F32.max h.greatest v := by
  simp [histAdd, hv]

/-! ### A value of a source in every unit (R638) -/

/-- Unit `u` records the values of this source and selection: its configuration names them and is valid (R638, R642). -/
def State.histRecords (s : State) (src sel u : Nat) : Prop :=
  s.get D.hist_source u = src ∧ s.get D.hist_select u = sel ∧ s.histInvalid u = false

/-- What unit `u` holds after it records a value, in the bin that its configuration gives (R639). -/
def State.histTaken (s : State) (v : F32) (u : Nat) (h : HistUnit) : HistUnit :=
  histAdd h (histBin (s.get D.hist_scale u == 1) (s.getF D.hist_lo u) (s.getF D.hist_hi u) v) v

section
variable (s : State) (src sel : Nat) (v : F32) (n u : Nat)

theorem State.histFrom_succ_of_records (h : s.histRecords src sel u) :
    s.histFrom src sel v (n + 1) u =
      ({ s with hist := modAt s.hist u (s.histTaken v u) } : State).histFrom src sel v n (u + 1) := by
  obtain ⟨hsource, hselect, hvalid⟩ := h
  simp only [State.histFrom, hsource, hselect, hvalid, beq_self_eq_true, Bool.not_false, Bool.and_self, if_true]
  rfl

theorem State.histFrom_succ_of_not_records (h : ¬s.histRecords src sel u) :
    s.histFrom src sel v (n + 1) u = s.histFrom src sel v n (u + 1) := by
  rw [State.histFrom, if_neg]
  simpa [State.histRecords, and_assoc] using h

/-- The units before the first one, and those that do not record the value, stay as they were: the configuration stands
in the dictionary, which no step changes. -/
theorem State.histFrom_keeps_unit (j : Nat) (hj : j < u ∨ ¬s.histRecords src sel j) :
    (s.histFrom src sel v n u).hist[j]? = s.hist[j]? := by
  induction n generalizing s u with
  | zero => rfl
  | succ n ih =>
    have hnext : j < u + 1 ∨ ¬s.histRecords src sel j := hj.imp_left Nat.lt_succ_of_lt
    by_cases hu : s.histRecords src sel u
    · have hne : u ≠ j := by
        rintro rfl
        exact hj.elim (lt_irrefl u) (· hu)
      rw [s.histFrom_succ_of_records src sel v n u hu]
      refine (ih _ _ ?_).trans (modAt_getElem?_other _ _ _ _ hne)
      exact hnext
    · rw [s.histFrom_succ_of_not_records src sel v n u hu, ih _ _ hnext]

/-- A unit that records the value takes it once: no step for another unit touches it. -/
theorem State.histFrom_takes_unit (j : Nat) (h : HistUnit) (hl : u ≤ j) (hr : j < u + n)
    (hj : s.histRecords src sel j) (hx : s.hist[j]? = some h) :
    (s.histFrom src sel v n u).hist[j]? = some (s.histTaken v j h) := by
  induction n generalizing s u with
  | zero => omega
  | succ n ih =>
    obtain rfl | hlt := hl.eq_or_lt
    · rw [s.histFrom_succ_of_records src sel v n u hj, State.histFrom_keeps_unit _ _ _ _ _ _ _ (.inl u.lt_succ_self)]
      exact modAt_getElem?_same _ u _ h hx
    · by_cases hu : s.histRecords src sel u
      · rw [s.histFrom_succ_of_records src sel v n u hu]
        exact ih _ _ hlt (by omega) hj ((modAt_getElem?_other _ _ _ _ hlt.ne).trans hx)
      · rw [s.histFrom_succ_of_not_records src sel v n u hu]
        exact ih _ _ hlt (by omega) hj hx

end

/-! ### A unit after its snapshot (R641) -/

theorem exec_histSnap_unit (u : Fin 32) (h : HistUnit) (s : State) (hx : s.hist[u.val]? = some h) :
    ∃ t, exec (.histSnap u) s = .next t ∧ t.hist[u.val]? = some { start := s.blockNow, clear := h.clear } :=
  ⟨s.histSnap u.val s.blockNow, rfl, modAt_getElem?_same _ u.val _ h hx⟩

/-- Settles O59: the 32 units are gone through one by one, each step touches its own unit only, and what it leaves there
is read off `histAdd`. -/
theorem histogramRecords : Obligations.HistogramRecords := by
  unfold Obligations.HistogramRecords
  refine ⟨fun src sel v u h s hu hx => ⟨fun hn => ?_, fun hj => ?_⟩, fun u h s hx => ?_⟩
  · exact (s.histFrom_keeps_unit src sel v 32 0 u (.inr hn)).trans hx
  · exact ⟨_, s.histFrom_takes_unit src sel v 32 0 u h u.zero_le (by omega) hj hx, histAdd_count ..,
      fun b => look_histAdd_bins .., histAdd_range_of_nan _ _ v, histAdd_range_of_not_nan _ _ v, histAdd_start ..⟩
  · obtain ⟨t, ht, hunit⟩ := exec_histSnap_unit u h s hx
    exact ⟨t, _, ht, hunit, rfl, rfl, rfl, rfl, rfl⟩

end Sys2Proof.Machine
end

section
/-! PROOFS. Reads of objects after writes of others: the number that an object has in its area tells it
from another, whatever their instances (R57). -/

namespace Sys2Proof.Machine

open Sys2Proof Host

/-! ### Addresses of different fields -/

/-- Sub `k` of one object and sub `n` of another lie at different places of their instances, and the other's default
depends on no object. -/
def apart (o : Obj) (k : Nat) (p : Obj) (n : Nat) : Bool :=
  o.stride % 256 == 0 && p.stride % 256 == 0 && (o.base + k) % 256 != (p.base + n) % 256 && p.dflt.fixed

theorem addr_mod (o : Obj) (i k : Nat) (h : o.stride % 256 = 0) : o.addr i k % 256 = (o.base + k) % 256 := by
  obtain ⟨m, hm⟩ := Nat.dvd_of_mod_eq_zero h
  rw [Obj.addr, hm, show o.base + i * (256 * m) + k = o.base + k + 256 * (i * m) by ring, Nat.add_mul_mod_self_left]

theorem addr_ne_of_apart {o p : Obj} {k n : Nat} (h : apart o k p n = true) (i j : Nat) : o.addr i k ≠ p.addr j n := by
  simp only [apart, Bool.and_eq_true, beq_iff_eq, bne_iff_ne] at h
  obtain ⟨⟨⟨ho, hp⟩, hfield⟩, -⟩ := h
  intro he
  rw [← addr_mod o i k ho, ← addr_mod p j n hp, he] at hfield
  exact hfield rfl

theorem fixed_of_apart {o p : Obj} {k n : Nat} (h : apart o k p n = true) : p.dflt.fixed = true :=
  (Bool.and_eq_true_iff.1 h).2

/-! ### Reads after a write elsewhere -/

section
variable (s : State) {o p : Obj} (v i k j n : Nat)

theorem State.get_set_apart (h : apart o k p n = true) : (s.set o v i k).get p j n = s.get p j n :=
  s.get_set_other o p v i k j n (addr_ne_of_apart h i j) (.inl (fixed_of_apart h))

theorem State.get_keepValue_apart (h : apart o k p n = true) : (s.keepValue o v i k).get p j n = s.get p j n :=
  s.get_set_apart v i k j n h

theorem State.get_count_apart (h : apart o 0 p n = true) : (s.count o i v).get p j n = s.get p j n :=
  s.get_set_apart _ i 0 j n h

theorem State.get_countSat_apart (h : apart o 0 p n = true) : (s.countSat o i v).get p j n = s.get p j n :=
  s.get_set_apart _ i 0 j n h

theorem State.get_setF_apart (x : F32) (h : apart o k p n = true) : (s.setF o x i k).get p j n = s.get p j n :=
  s.get_set_apart _ i k j n h

theorem State.get_setB_apart (x : Bool) (h : apart o k p n = true) : (s.setB o x i k).get p j n = s.get p j n :=
  s.get_set_apart _ i k j n h

theorem State.get_setI_apart (x : Int) (h : apart o k p n = true) : (s.setI o x i k).get p j n = s.get p j n :=
  s.get_set_apart _ i k j n h

theorem State.get_set_else (h : o.addr i k ≠ p.addr j n ∧ p.dflt.fixed = true) :
    (s.set o v i k).get p j n = s.get p j n := s.get_set_other o p v i k j n h.1 (.inl h.2)

theorem State.get_keepValue_else (h : o.addr i k ≠ p.addr j n ∧ p.dflt.fixed = true) :
    (s.keepValue o v i k).get p j n = s.get p j n := s.get_set_else v i k j n h

@[simp] theorem State.get_keepValue_same : (s.keepValue o v i k).get o i k = v := s.get_set_same o v i k

end

/-- An occurrence of an error is read in area 7C alone (R645–R653). -/
theorem State.get_error_else (s : State) (area index code : Nat) (sev : Severity) {p : Obj} (j n : Nat)
    (h : p.addr j n / 2 ^ 24 ≠ 0x7C ∧ p.dflt.fixed = true) :
    (s.error area index code sev).get p j n = s.get p j n := by
  obtain ⟨d, e, honly, hlook⟩ := s.error_area7C area index code sev
  refine State.get_of_look _ _ _ _ _ h.2 ?_
  rw [honly]
  exact hlook _ h.1

end Sys2Proof.Machine
end

section
/-! PROOFS. The machine as a whole: that every command completes and leaves the queue alone, that the DRAM keeps its
canonical form along every run, and which commands reach it. -/

namespace Sys2Proof.Machine

open Sys2Proof Host

/-! ### Every command completes -/

/-- An outcome with a queue is a next state that has it. -/
theorem eq_next_of_outPending {o : Outcome State Fault Refusal} {l : List Instr} (h : outPending o = some l) :
    ∃ t, o = .next t ∧ t.pending = l := by
  cases o with
  | next t => exact ⟨t, rfl, Option.some.inj h⟩
  | fault r => cases h
  | refused r => cases h

/-- No command reads or writes the queue. -/
theorem exec_pending (c : Instr) (s : State) : outPending (exec c s) = some s.pending := by
  cases c <;> simp [exec]

/-- Settles O3: the queue of the outcome is the queue before, so the outcome is a next state. -/
theorem everyCommandCompletes : Obligations.EveryCommandCompletes := by
  unfold Obligations.EveryCommandCompletes
  exact fun c s => eq_next_of_outPending (exec_pending c s)

/-! ### One step -/

theorem step_cons (c : Instr) (rest : List Instr) (s : State) :
    step { s with pending := c :: rest } = exec c { s with pending := rest } := rfl

theorem step_of_empty (s : State) (h : s.pending = []) : step s = .next s := by
  simp only [step, h]

theorem step_of_cons {s : State} {c : Instr} {rest : List Instr} (h : s.pending = c :: rest) :
    step s = exec c { s with pending := rest } := by
  simp only [step, h]

/-- Settles O1: the equation of `step` on a queue that is not empty. -/
theorem stepRunsFrontCommand : Obligations.StepRunsFrontCommand := step_cons

/-- Settles O2: the equation of `step` on an empty queue. -/
theorem emptyQueueIdles : Obligations.EmptyQueueIdles := step_of_empty

/-- A step never stops: it idles, or the command at the front completes. -/
theorem exists_step (s : State) : ∃ t, step s = .next t := by
  cases h : s.pending with
  | nil => exact ⟨s, step_of_empty s h⟩
  | cons c rest =>
    obtain ⟨t, ht, -⟩ := everyCommandCompletes c { s with pending := rest }
    exact ⟨t, (step_of_cons h).trans ht⟩

/-! ### Commands that store nothing -/

theorem exec_cells (c : Instr) (s : State) (h : leavesMemory c = true) : outCells (exec c s) = some s.mem.cells := by
  revert h
  cases c <;> simp [exec, leavesMemory]

theorem cells_of_leavesMemory {c : Instr} {s t : State} (h : leavesMemory c = true) (ht : exec c s = .next t) :
    t.mem.cells = s.mem.cells := by
  have hcells := exec_cells c s h
  rw [ht] at hcells
  exact Option.some.inj hcells

/-- Settles O9: such a command leaves the listed cells as they were, from which a byte is read. -/
theorem otherCommandsKeepMemory : Obligations.OtherCommandsKeepMemory := fun _ _ _ h ht a =>
  congrArg (Memory.read · a) (cells_of_leavesMemory h ht)

/-! ### The canonical form of the DRAM -/

/-- A command that stores keeps the canonical form, and any other one the whole DRAM. -/
theorem exec_wf (c : Instr) (s : State) (h : s.mem.cells.wf = true) : outWf (exec c s) = true := by
  by_cases hc : leavesMemory c = true
  case pos =>
    obtain ⟨t, ht, -⟩ := everyCommandCompletes c s
    rw [ht, outWf_next, cells_of_leavesMemory hc ht, h]
  case neg =>
    revert hc
    cases c <;> simp [exec, leavesMemory, h]

theorem step_memoryCanonical {s t : State} (h : s.memoryCanonical = true) (hstep : step s = .next t) :
    t.memoryCanonical = true := by
  cases hq : s.pending with
  | nil => exact Outcome.next.inj ((step_of_empty s hq).symm.trans hstep) ▸ h
  | cons c rest =>
    have hwf := exec_wf c { s with pending := rest } h
    rw [← step_of_cons hq, hstep] at hwf
    exact hwf

/-- Settles O6: a step idles, or its command keeps the form. -/
theorem memoryFormKept : Obligations.MemoryFormKept := fun _ _ => step_memoryCanonical

theorem runsSafely_of_memoryCanonical (k : Nat) (s : State) (h : s.memoryCanonical = true) : runsSafely k s := by
  induction k generalizing s with
  | zero => exact ⟨s, rfl, h⟩
  | succ k ih =>
    obtain ⟨t, ht⟩ := exists_step s
    obtain ⟨u, hu, hwf⟩ := ih t (step_memoryCanonical h ht)
    refine ⟨u, ?_, hwf⟩
    simp only [Core.run, show Sys2Proof.core.step s = .next t from ht]
    exact hu

/-- Settles O7, by induction on the number of steps. -/
theorem everyRunIsSafe : Obligations.EveryRunIsSafe := runsSafely_of_memoryCanonical

/-! ### Reset and writes -/

/-- Settles O4: one value after another. -/
theorem resetHoldsSpecValues : Obligations.ResetHoldsSpecValues := by
  unfold Obligations.ResetHoldsSpecValues
  refine ⟨rfl, rfl, rfl, rfl, rfl, rfl, ?_, ?_, rfl, rfl, rfl⟩
  · decide
  · decide +kernel

/-- Settles O5: the list of cells is empty. -/
theorem resetMemoryEmpty : Obligations.ResetMemoryEmpty := ⟨State.reset_wf, fun _ => rfl⟩

/-- A word is correct again when it is covered whole, and no other word changes its standing. -/
theorem mem_writeMem_bad (s : State) (a : Nat) (l : List Byte) (w : Nat) :
    w ∈ (s.writeMem a l).mem.bad ↔ w ∈ s.mem.bad ∧ ¬(a ≤ 8 * w ∧ 8 * w + 8 ≤ a + l.length) := by
  simp only [State.writeMem, badAfter, List.mem_filter, Bool.not_eq_true', Bool.and_eq_false_iff,
    decide_eq_false_iff_not, not_and_or]

/-- Settles O8: what a byte reads after a write, and which words a write covers whole. -/
theorem memoryReadAfterWrite : Obligations.MemoryReadAfterWrite := fun s a l b =>
  ⟨s.writeMem_read a l b, mem_writeMem_bad s a l⟩

end Sys2Proof.Machine
end

section
/-! PROOFS. The code of the memories (chapter 15, R564, R565): division by g(x) as a linear map, the syndromes of the
errors of one or two bits, and what the decoder makes of each. -/

namespace Sys2Proof.Machine

open Sys2Proof Host

/-! ### Division by g(x) is linear (R564) -/

/-- One step of the division: the next coefficient enters, and g(x) is taken off where its degree is reached. -/
def bchStep (bit r : Nat) : Nat :=
  if 2 * r + bit ≥ 0x8000 then (2 * r + bit) ^^^ 0xC599 else 2 * r + bit

theorem bchRemainder_succ (v n r : Nat) :
    bchRemainder v (n + 1) r = bchRemainder v n (bchStep (v / 2 ^ n % 2) r) := rfl

theorem xor_g_lt (x : Nat) (hx : x < 2 ^ 16) (hdeg : 2 ^ 15 ≤ x) : x ^^^ 0xC599 < 2 ^ 15 := by
  have htop : (x ^^^ 0xC599) / 2 ^ 15 = 0 := by
    rw [Nat.xor_div_two_pow, show x / 2 ^ 15 = 1 by omega]
    rfl
  omega

theorem bchStep_lt (bit r : Nat) (hbit : bit < 2) (hr : r < 2 ^ 15) : bchStep bit r < 2 ^ 15 := by
  unfold bchStep
  split
  · exact xor_g_lt _ (by omega) (by omega)
  · omega

theorem xor_lt_two {a b : Nat} (ha : a < 2) (hb : b < 2) : a ^^^ b < 2 := Nat.xor_lt_two_pow (n := 1) ha hb

theorem shift_in_xor (a b r s : Nat) (ha : a < 2) (hb : b < 2) :
    2 * (r ^^^ s) + (a ^^^ b) = (2 * r + a) ^^^ (2 * s + b) := by
  have hab := xor_lt_two ha hb
  have hdiv : ((2 * r + a) ^^^ (2 * s + b)) / 2 = r ^^^ s := by
    rw [Nat.xor_div_two, show (2 * r + a) / 2 = r by omega, show (2 * s + b) / 2 = s by omega]
  have hmod : ((2 * r + a) ^^^ (2 * s + b)) % 2 ^ 1 = a ^^^ b := by
    rw [Nat.xor_mod_two_pow, show (2 * r + a) % 2 ^ 1 = a by omega, show (2 * s + b) % 2 ^ 1 = b by omega]
  omega

/-- What a step takes off is g(x) or nothing, by the top coefficient. -/
theorem bchStep_eq (bit r : Nat) (hbit : bit < 2) (hr : r < 2 ^ 15) :
    bchStep bit r = (2 * r + bit) ^^^ (2 * r + bit) / 2 ^ 15 * 0xC599 := by
  unfold bchStep
  split
  · rw [show (2 * r + bit) / 2 ^ 15 = 1 by omega, Nat.one_mul]
  · rw [show (2 * r + bit) / 2 ^ 15 = 0 by omega, Nat.zero_mul, Nat.xor_zero]

theorem xor_mul_g {a b : Nat} (ha : a < 2) (hb : b < 2) : (a ^^^ b) * 0xC599 = a * 0xC599 ^^^ b * 0xC599 := by
  interval_cases a <;> interval_cases b <;> rfl

theorem bchStep_xor (a b r s : Nat) (ha : a < 2) (hb : b < 2) (hr : r < 2 ^ 15) (hs : s < 2 ^ 15) :
    bchStep (a ^^^ b) (r ^^^ s) = bchStep a r ^^^ bchStep b s := by
  rw [bchStep_eq _ _ (xor_lt_two ha hb) (Nat.xor_lt_two_pow hr hs), bchStep_eq a r ha hr, bchStep_eq b s hb hs,
    shift_in_xor a b r s ha hb, Nat.xor_div_two_pow, xor_mul_g (by omega) (by omega)]
  ac_rfl

theorem bchRemainder_lt (v n r : Nat) (hr : r < 2 ^ 15) : bchRemainder v n r < 2 ^ 15 := by
  induction n generalizing r with
  | zero => exact hr
  | succ n ih => exact ih _ (bchStep_lt _ _ (Nat.mod_lt _ two_pos) hr)

theorem bchRemainder_xor (v w n r s : Nat) (hr : r < 2 ^ 15) (hs : s < 2 ^ 15) :
    bchRemainder (v ^^^ w) n (r ^^^ s) = bchRemainder v n r ^^^ bchRemainder w n s := by
  induction n generalizing r s with
  | zero => rfl
  | succ n ih =>
    have hv : v / 2 ^ n % 2 < 2 := Nat.mod_lt _ two_pos
    have hw : w / 2 ^ n % 2 < 2 := Nat.mod_lt _ two_pos
    have hbit : (v ^^^ w) / 2 ^ n % 2 = (v / 2 ^ n % 2) ^^^ (w / 2 ^ n % 2) := by
      rw [Nat.xor_div_two_pow]
      exact Nat.xor_mod_two_pow (n := 1)
    rw [bchRemainder_succ, bchRemainder_succ, bchRemainder_succ, hbit, bchStep_xor _ _ _ _ hv hw hr hs,
      ih _ _ (bchStep_lt _ _ hv hr) (bchStep_lt _ _ hw hs)]

/-- A polynomial below the degree of g(x) is its own remainder. -/
theorem bchRemainder_of_lt (v n : Nat) (hv : v < 2 ^ 15) : bchRemainder v n (v / 2 ^ n) = v := by
  induction n with
  | zero => simp [bchRemainder]
  | succ n ih =>
    have hle : v / 2 ^ n ≤ v := Nat.div_le_self ..
    have hstep : bchStep (v / 2 ^ n % 2) (v / 2 ^ (n + 1)) = v / 2 ^ n := by
      rw [Nat.pow_succ, ← Nat.div_div_eq_div_mul]
      unfold bchStep
      rw [if_neg (by omega)]
      omega
    rw [bchRemainder_succ, hstep, ih]

/-! ### Syndromes -/

/-- The syndrome of d and c[14:0], or of an error in them (R565). -/
def syndrome (v : Nat) : Nat := bchRemainder v 79 0

theorem syndrome_xor (v w : Nat) : syndrome (v ^^^ w) = syndrome v ^^^ syndrome w :=
  bchRemainder_xor v w 79 0 0 (by norm_num) (by norm_num)

@[simp] theorem syndrome_zero : syndrome 0 = 0 := by decide +kernel

/-- d and c[14:0] of a stored codeword (R564). -/
def codeBody (d : BitVec 64) : Nat := checkBits d + d.toNat * 2 ^ 15

theorem checkBits_lt (d : BitVec 64) : checkBits d < 2 ^ 15 := bchRemainder_lt _ _ _ (by norm_num)

theorem codeBody_lt (d : BitVec 64) : codeBody d < 2 ^ 79 := by
  have := checkBits_lt d
  unfold codeBody
  omega

theorem codeBody_eq_xor (d : BitVec 64) : codeBody d = d.toNat * 2 ^ 15 ^^^ checkBits d := by
  have hc := checkBits_lt d
  have hdiv : (d.toNat * 2 ^ 15 ^^^ checkBits d) / 2 ^ 15 = d.toNat := by
    rw [Nat.xor_div_two_pow, Nat.mul_div_cancel _ (by norm_num), Nat.div_eq_of_lt hc, Nat.xor_zero]
  have hmod : (d.toNat * 2 ^ 15 ^^^ checkBits d) % 2 ^ 15 = checkBits d := by
    rw [Nat.xor_mod_two_pow, Nat.mul_mod_left, Nat.mod_eq_of_lt hc, Nat.zero_xor]
  unfold codeBody
  omega

theorem syndrome_codeBody (d : BitVec 64) : syndrome (codeBody d) = 0 := by
  have hown : syndrome (checkBits d) = checkBits d := by
    have h := bchRemainder_of_lt (checkBits d) 79 (checkBits_lt d)
    rwa [Nat.div_eq_of_lt ((checkBits_lt d).trans (by norm_num))] at h
  rw [codeBody_eq_xor, syndrome_xor, hown]
  exact Nat.xor_self _

theorem codeData_codeBody (d : BitVec 64) : codeData (codeBody d) = d := by
  have := checkBits_lt d
  rw [codeData, show codeBody d / 2 ^ 15 = d.toNat by unfold codeBody; omega, BitVec.ofNat_toNat, BitVec.setWidth_eq]

/-! ### The errors of one or two bits have syndromes of their own -/

/-- The members of a list, and the sums of two of them. -/
def smallSums : List Nat → List Nat
  | [] => []
  | c :: l => c :: (l.map (c ^^^ ·) ++ smallSums l)

theorem mem_smallSums_of_mem {l : List Nat} {c : Nat} (h : c ∈ l) : c ∈ smallSums l := by
  induction l with
  | nil => exact h
  | cons a l ih =>
    rcases List.mem_cons.1 h with rfl | h
    · exact List.mem_cons_self ..
    · exact List.mem_cons_of_mem _ (List.mem_append_right _ (ih h))

theorem xor_mem_smallSums {l : List Nat} (i j : Nat) (hij : i < j) (hj : j < l.length) :
    l[i] ^^^ l[j] ∈ smallSums l := by
  induction l generalizing i j with
  | nil => exact absurd hj (Nat.not_lt_zero _)
  | cons a l ih =>
    obtain _ | j := j
    · exact absurd hij (Nat.not_lt_zero _)
    have hj' : j < l.length := Nat.lt_of_succ_lt_succ hj
    obtain _ | i := i
    · exact List.mem_cons_of_mem _ (List.mem_append_left _ (List.mem_map.2 ⟨l[j], List.getElem_mem hj', rfl⟩))
    · exact List.mem_cons_of_mem _ (List.mem_append_right _ (ih i j (Nat.lt_of_succ_lt_succ hij) hj'))

theorem map_smallSums (f : Nat → Nat) (hf : ∀ v w, f (v ^^^ w) = f v ^^^ f w) (l : List Nat) :
    (smallSums l).map f = smallSums (l.map f) := by
  induction l with
  | nil => rfl
  | cons a l ih => simp [smallSums, ih, hf, Function.comp_def]

/-- The errors of one bit of d and c[14:0]. -/
def oneBitErrors : List Nat := (List.range 79).map (2 ^ ·)

/-- The syndromes of the errors of one bit: the powers of x modulo g(x). -/
def columns : List Nat :=
  [0x1, 0x2, 0x4, 0x8, 0x10, 0x20, 0x40, 0x80, 0x100, 0x200, 0x400, 0x800, 0x1000, 0x2000, 0x4000, 0x4599, 0x4EAB,
   0x58CF, 0x7407, 0x2D97, 0x5B2E, 0x73C5, 0x2213, 0x4426, 0x4DD5, 0x5E33, 0x79FF, 0x3667, 0x6CCE, 0x1C05, 0x380A,
   0x7014, 0x25B1, 0x4B62, 0x535D, 0x6323, 0x3DF, 0x7BE, 0xF7C, 0x1EF8, 0x3DF0, 0x7BE0, 0x3259, 0x64B2, 0xCFD,
   0x19FA, 0x33F4, 0x67E8, 0xA49, 0x1492, 0x2924, 0x5248, 0x6109, 0x78B, 0xF16, 0x1E2C, 0x3C58, 0x78B0, 0x34F9,
   0x69F2, 0x167D, 0x2CFA, 0x59F4, 0x7671, 0x297B, 0x52F6, 0x6075, 0x573, 0xAE6, 0x15CC, 0x2B98, 0x5730, 0x6BF9,
   0x126B, 0x24D6, 0x49AC, 0x56C1, 0x681B, 0x15AF]

theorem syndromes_of_oneBitErrors : oneBitErrors.map syndrome = columns := by decide +kernel

/-- No number of a list occurs twice, and none is a bit of `m`. -/
def freshFrom : Nat → List Nat → Bool
  | _, [] => true
  | m, v :: l => !m.testBit v && freshFrom (m ||| 2 ^ v) l

theorem of_freshFrom (m : Nat) (l : List Nat) (h : freshFrom m l = true) :
    l.Nodup ∧ ∀ v ∈ l, m.testBit v = false := by
  induction l generalizing m with
  | nil => simp
  | cons v l ih =>
    simp only [freshFrom, Bool.and_eq_true, Bool.not_eq_true'] at h
    obtain ⟨hnodup, hnew⟩ := ih _ h.2
    simp only [Nat.testBit_or, Bool.or_eq_false_iff, Nat.testBit_two_pow] at hnew
    refine ⟨List.nodup_cons.2 ⟨fun hv => ?_, hnodup⟩, fun w hw => ?_⟩
    · simpa using (hnew v hv).2
    · rcases List.mem_cons.1 hw with rfl | hw
      · exact h.1
      · exact (hnew w hw).1

theorem columns_fresh : freshFrom 0 (0 :: smallSums columns) = true := by decide +kernel

/-- No error, and the errors of one or two bits of d and c[14:0]. -/
def smallErrors : List Nat := 0 :: smallSums oneBitErrors

theorem syndrome_injOn_smallErrors {e f : Nat} (he : e ∈ smallErrors) (hf : f ∈ smallErrors)
    (h : syndrome e = syndrome f) : e = f := by
  have hmap : smallErrors.map syndrome = 0 :: smallSums columns := by
    rw [smallErrors, List.map_cons, map_smallSums _ syndrome_xor, syndromes_of_oneBitErrors, syndrome_zero]
  exact List.inj_on_of_nodup_map (hmap ▸ (of_freshFrom _ _ columns_fresh).1) he hf h

theorem oneBitErrors_get (p : Nat) (hp : p < oneBitErrors.length) : oneBitErrors[p] = 2 ^ p := by
  simp [oneBitErrors]

theorem two_pow_mem_smallErrors {p : Nat} (hp : p < 79) : 2 ^ p ∈ smallErrors :=
  List.mem_cons_of_mem _ (mem_smallSums_of_mem (List.mem_map.2 ⟨p, List.mem_range.2 hp, rfl⟩))

theorem two_pow_xor_mem_smallErrors {p q : Nat} (hp : p < 79) (hq : q < 79) (hpq : p ≠ q) :
    2 ^ p ^^^ 2 ^ q ∈ smallErrors := by
  have hlen : oneBitErrors.length = 79 := by simp [oneBitErrors]
  rcases Nat.lt_or_gt_of_ne hpq with h | h
  · have hmem := xor_mem_smallSums p q h (hlen ▸ hq)
    rw [oneBitErrors_get, oneBitErrors_get] at hmem
    exact List.mem_cons_of_mem _ hmem
  · have hmem := xor_mem_smallSums q p h (hlen ▸ hp)
    rw [oneBitErrors_get, oneBitErrors_get, Nat.xor_comm] at hmem
    exact List.mem_cons_of_mem _ hmem

/-! ### The searches of the decoder -/

theorem oneBit_eq_some {syn n p q : Nat} (h : oneBit syn n p = some q) :
    p ≤ q ∧ q < p + n ∧ syndrome (2 ^ q) = syn := by
  induction n generalizing p with
  | zero => cases h
  | succ n ih =>
    unfold oneBit at h
    split at h
    case isTrue hsyn =>
      obtain rfl := Option.some.inj h
      exact ⟨le_rfl, by omega, hsyn⟩
    case isFalse =>
      obtain ⟨hlow, hhigh, hsyn⟩ := ih h
      exact ⟨by omega, by omega, hsyn⟩

theorem oneBit_isSome {syn n p q : Nat} (hlow : p ≤ q) (hhigh : q < p + n) (hsyn : syndrome (2 ^ q) = syn) :
    (oneBit syn n p).isSome := by
  induction n generalizing p with
  | zero => omega
  | succ n ih =>
    unfold oneBit
    split
    case isTrue => rfl
    case isFalse hne =>
      have hpq : p ≠ q := by
        rintro rfl
        exact hne hsyn
      exact ih (by omega) (by omega)

theorem twoBits_eq_some {syn n p i j : Nat} (h : twoBits syn n p = some (i, j)) :
    i < j ∧ j < p + n ∧ syndrome (2 ^ i ^^^ 2 ^ j) = syn := by
  induction n generalizing p with
  | zero => cases h
  | succ n ih =>
    unfold twoBits at h
    split at h
    case h_1 q hq =>
      obtain ⟨rfl, rfl⟩ := Prod.mk.inj (Option.some.inj h)
      obtain ⟨hlow, hhigh, hsyn⟩ := oneBit_eq_some hq
      refine ⟨by omega, by omega, ?_⟩
      rw [syndrome_xor, hsyn, Nat.xor_comm]
      exact Nat.xor_xor_cancel_right ..
    case h_2 =>
      obtain ⟨hlt, hhigh, hsyn⟩ := ih h
      exact ⟨hlt, by omega, hsyn⟩

theorem twoBits_isSome {syn n p i j : Nat} (hlow : p ≤ i) (hij : i < j) (hhigh : j < p + n)
    (hsyn : syndrome (2 ^ i ^^^ 2 ^ j) = syn) : (twoBits syn n p).isSome := by
  induction n generalizing p with
  | zero => omega
  | succ n ih =>
    unfold twoBits
    split
    case h_1 => rfl
    case h_2 hnone =>
      refine ih ?_ (by omega)
      by_contra hpi
      obtain rfl : p = i := by omega
      have hrest : syndrome (2 ^ j) = syn ^^^ syndrome (2 ^ p) := by
        rw [← hsyn, syndrome_xor, Nat.xor_comm]
        exact (Nat.xor_xor_cancel_left ..).symm
      have := oneBit_isSome (p := p + 1) (n := n) (by omega) (by omega) hrest
      exact absurd (hnone ▸ this) (by simp)

/-- The search for one bit finds an error of one bit. -/
theorem oneBit_of_one {p : Nat} (hp : p < 79) :
    ∃ q, oneBit (syndrome (2 ^ p)) 79 0 = some q ∧ 2 ^ q = 2 ^ p := by
  obtain ⟨q, hq⟩ := Option.isSome_iff_exists.1 (oneBit_isSome (n := 79) (Nat.zero_le p) (by omega) rfl)
  obtain ⟨-, hlt, hsyn⟩ := oneBit_eq_some hq
  exact ⟨q, hq, syndrome_injOn_smallErrors (two_pow_mem_smallErrors (by omega)) (two_pow_mem_smallErrors hp) hsyn⟩

/-- The search for one bit finds nothing for an error of two bits, which the search for two bits finds. -/
theorem twoBits_of_two {p q : Nat} (hp : p < 79) (hq : q < 79) (hpq : p ≠ q) :
    oneBit (syndrome (2 ^ p ^^^ 2 ^ q)) 79 0 = none ∧
      ∃ i j, twoBits (syndrome (2 ^ p ^^^ 2 ^ q)) 79 0 = some (i, j) ∧ 2 ^ i ^^^ 2 ^ j = 2 ^ p ^^^ 2 ^ q := by
  have hmem := two_pow_xor_mem_smallErrors hp hq hpq
  constructor
  · by_contra hsome
    obtain ⟨k, hk⟩ := Option.ne_none_iff_exists'.1 hsome
    obtain ⟨-, hlt, hsyn⟩ := oneBit_eq_some hk
    have hpow := syndrome_injOn_smallErrors (two_pow_mem_smallErrors (by omega)) hmem hsyn
    have hp' := congrArg (Nat.testBit · p) hpow
    have hq' := congrArg (Nat.testBit · q) hpow
    simp only [Nat.testBit_xor, Nat.testBit_two_pow] at hp' hq'
    simp [hpq, Ne.symm hpq] at hp' hq'
    omega
  · have hfound : (twoBits (syndrome (2 ^ p ^^^ 2 ^ q)) 79 0).isSome := by
      rcases Nat.lt_or_gt_of_ne hpq with h | h
      · exact twoBits_isSome (Nat.zero_le p) h (by omega) rfl
      · exact twoBits_isSome (Nat.zero_le q) h (by omega) (by rw [Nat.xor_comm])
    obtain ⟨⟨i, j⟩, hij⟩ := Option.isSome_iff_exists.1 hfound
    obtain ⟨hlt, hhigh, hsyn⟩ := twoBits_eq_some hij
    exact ⟨i, j, hij, syndrome_injOn_smallErrors
      (two_pow_xor_mem_smallErrors (by omega) (by omega) (by omega)) hmem hsyn⟩

/-! ### Decoding -/

theorem codeword_toNat (d : BitVec 64) (word : Nat) :
    (codeword d word).toNat = codeBody d + onesIn word 40 % 2 * 2 ^ 79 := by
  have := codeBody_lt d
  rw [codeword, BitVec.toNat_ofNat]
  unfold codeBody at *
  omega

theorem xor_low_bits (b t e : Nat) (hb : b < 2 ^ 79) (he : e < 2 ^ 79) :
    (b + t * 2 ^ 79 ^^^ e) / 2 ^ 79 = t ∧ (b + t * 2 ^ 79 ^^^ e) % 2 ^ 79 = b ^^^ e := by
  constructor
  · rw [Nat.xor_div_two_pow, Nat.div_eq_of_lt he, Nat.xor_zero]
    omega
  · rw [Nat.xor_mod_two_pow, Nat.mod_eq_of_lt he, Nat.add_mul_mod_self_right, Nat.mod_eq_of_lt hb]

/-- What a read of a codeword with an error `e` in d and c[14:0] finds in them and in c15. -/
theorem read_with_error (d : BitVec 64) (word e : Nat) (he : e < 2 ^ 79) :
    (codeword d word ^^^ BitVec.ofNat 80 e).toNat / 2 ^ 79 = onesIn word 40 % 2 ∧
      (codeword d word ^^^ BitVec.ofNat 80 e).toNat % 2 ^ 79 = codeBody d ^^^ e := by
  have hwide : e % 2 ^ 80 = e := Nat.mod_eq_of_lt (by omega)
  rw [BitVec.toNat_xor, codeword_toNat, BitVec.toNat_ofNat, hwide]
  exact xor_low_bits _ _ _ (codeBody_lt d) he

theorem syndrome_read (d : BitVec 64) (e : Nat) : bchRemainder (codeBody d ^^^ e) 79 0 = syndrome e := by
  rw [← syndrome, syndrome_xor, syndrome_codeBody, Nat.zero_xor]

section
variable {d : BitVec 64} {word e : Nat} (he : e < 2 ^ 79)
include he

theorem decTed_of_syndrome_zero (hsyn : syndrome e = 0) :
    decTed (codeword d word ^^^ BitVec.ofNat 80 e) word = .clean (codeData (codeBody d ^^^ e)) := by
  obtain ⟨htop, hlow⟩ := read_with_error d word e he
  simp only [decTed, htop, hlow, syndrome_read, hsyn, ne_eq, not_true_eq_false, if_true, if_false]

theorem decTed_of_oneBit {p : Nat} (hsyn : syndrome e ≠ 0) (hone : oneBit (syndrome e) 79 0 = some p) :
    decTed (codeword d word ^^^ BitVec.ofNat 80 e) word = .corrected (codeData (codeBody d ^^^ e ^^^ 2 ^ p)) := by
  obtain ⟨htop, hlow⟩ := read_with_error d word e he
  simp only [decTed, htop, hlow, syndrome_read, hsyn, ne_eq, not_true_eq_false, if_false]
  generalize oneBit (syndrome e) 79 0 = found at hone ⊢
  rw [hone]

theorem decTed_of_twoBits {p q : Nat} (hsyn : syndrome e ≠ 0) (hone : oneBit (syndrome e) 79 0 = none)
    (htwo : twoBits (syndrome e) 79 0 = some (p, q)) :
    decTed (codeword d word ^^^ BitVec.ofNat 80 e) word =
      .corrected (codeData (codeBody d ^^^ e ^^^ 2 ^ p ^^^ 2 ^ q)) := by
  obtain ⟨htop, hlow⟩ := read_with_error d word e he
  simp only [decTed, htop, hlow, syndrome_read, hsyn, ne_eq, not_true_eq_false, if_false]
  generalize oneBit (syndrome e) 79 0 = found at hone ⊢
  generalize twoBits (syndrome e) 79 0 = pair at htwo ⊢
  rw [hone, htwo]

end

theorem syndrome_ne_zero {e : Nat} (he : e ∈ smallErrors) (hne : e ≠ 0) : syndrome e ≠ 0 := fun h =>
  hne (syndrome_injOn_smallErrors he (List.mem_cons_self ..) (h.trans syndrome_zero.symm))

theorem decTed_codeword (d : BitVec 64) (word : Nat) : decTed (codeword d word) word = .clean d := by
  have h := decTed_of_syndrome_zero (d := d) (word := word) (e := 0) (by norm_num) syndrome_zero
  rwa [Nat.xor_zero, codeData_codeBody, BitVec.xor_zero] at h

theorem decTed_of_one_error (d : BitVec 64) (word p : Nat) (hp : p < 79) :
    decTed (codeword d word ^^^ BitVec.ofNat 80 (2 ^ p)) word = .corrected d := by
  have hsyn := syndrome_ne_zero (two_pow_mem_smallErrors hp) (Nat.two_pow_pos p).ne'
  obtain ⟨q, hone, hq⟩ := oneBit_of_one hp
  rw [decTed_of_oneBit (Nat.pow_lt_pow_right one_lt_two hp) hsyn hone, hq, Nat.xor_xor_cancel_right,
    codeData_codeBody]

theorem decTed_of_two_errors (d : BitVec 64) (word p q : Nat) (hp : p < 79) (hq : q < 79) (hpq : p ≠ q) :
    decTed (codeword d word ^^^ BitVec.ofNat 80 (2 ^ p) ^^^ BitVec.ofNat 80 (2 ^ q)) word = .corrected d := by
  have hne : 2 ^ p ^^^ 2 ^ q ≠ 0 := by
    rw [Nat.xor_ne_zero_iff]
    exact fun h => hpq (Nat.pow_right_injective le_rfl h)
  have hsyn := syndrome_ne_zero (two_pow_xor_mem_smallErrors hp hq hpq) hne
  obtain ⟨hone, i, j, htwo, hij⟩ := twoBits_of_two hp hq hpq
  have hlt : 2 ^ p ^^^ 2 ^ q < 2 ^ 79 :=
    Nat.xor_lt_two_pow (Nat.pow_lt_pow_right one_lt_two hp) (Nat.pow_lt_pow_right one_lt_two hq)
  rw [BitVec.xor_assoc, ← BitVec.ofNat_xor, decTed_of_twoBits hlt hsyn hone htwo, Nat.xor_assoc _ (2 ^ i), hij,
    Nat.xor_xor_cancel_right, codeData_codeBody]

/-- c15 alone in error (R565). -/
theorem decTed_of_parity_error (d : BitVec 64) (word : Nat) :
    decTed (codeword d word ^^^ BitVec.ofNat 80 (2 ^ 79)) word = .uncorrectable := by
  have htop : (codeword d word ^^^ BitVec.ofNat 80 (2 ^ 79)).toNat / 2 ^ 79 = (onesIn word 40 % 2) ^^^ 1 := by
    rw [BitVec.toNat_xor, codeword_toNat, BitVec.toNat_ofNat, Nat.xor_div_two_pow, Nat.add_mul_div_right _ _ (by norm_num),
      Nat.div_eq_of_lt (codeBody_lt d), Nat.zero_add]
    rfl
  have hne : (onesIn word 40 % 2) ^^^ 1 ≠ onesIn word 40 % 2 := by
    rcases Nat.mod_two_eq_zero_or_one (onesIn word 40) with h | h <;> rw [h] <;> decide
  exact if_pos (htop ▸ hne)

/-- Settles O31: an error of at most two bits is found by its syndrome, which is that of no other such error. -/
theorem codeCorrectsTwoBits : Obligations.CodeCorrectsTwoBits := by
  unfold Obligations.CodeCorrectsTwoBits
  exact fun d word => ⟨decTed_codeword d word, decTed_of_one_error d word, decTed_of_two_errors d word,
    decTed_of_parity_error d word⟩

end Sys2Proof.Machine
end

section
/-! PROOFS. The word of a bundle (chapter 8, R340–R344): its fields lie where its class has them. -/

namespace Sys2Proof.Machine

open Sys2Proof Host

/-! ### Fields of a word -/

section
variable {v w : Nat} (x : BitVec v) (y : BitVec w) (lo n : Nat)

/-- A field that lies in the low part of a word. -/
theorem extract_low (h : lo + n ≤ w) : (x ++ y).extractLsb' lo n = y.extractLsb' lo n :=
  BitVec.extractLsb'_append_eq_of_add_le h

/-- A field that lies in the high part of a word. -/
theorem extract_high (h : w ≤ lo) : (x ++ y).extractLsb' lo n = x.extractLsb' (lo - w) n :=
  BitVec.extractLsb'_append_eq_of_le h

end

/-- A field of a field. -/
theorem extract_within {v : Nat} (w : BitVec v) (lo n a m : Nat) (h : a + m ≤ n) :
    w.extractLsb' (lo + a) m = (w.extractLsb' lo n).extractLsb' a m := by
  ext i hi
  simp [show a + i < n by omega, Nat.add_assoc]

/-! ### Slots, from the bits that they take -/

theorem loadAt_of_bits {w : BitVec 64} {lo : Nat} {l : LoadSlot} (h : w.extractLsb' lo 10 = l.encode) :
    loadAt w lo = l := by
  have field (a m : Nat) (ha : a + m ≤ 10) : w.extractLsb' (lo + a) m = l.encode.extractLsb' a m := by
    rw [extract_within w lo 10 a m ha, h]
  rw [loadAt, field 9 1 (by decide), field 5 4 (by decide), field 2 3 (by decide), ← Nat.add_zero lo,
    field 0 2 (by decide)]
  simp (disch := decide) only [LoadSlot.encode, extract_low, extract_high, Nat.reduceSub, BitVec.extractLsb'_eq_self]

theorem macAt_of_bits {w : BitVec 64} {lo : Nat} {m : MacSlot} (h : w.extractLsb' lo 12 = m.encode) :
    macAt w lo = m := by
  have field (a n : Nat) (ha : a + n ≤ 12) : w.extractLsb' (lo + a) n = m.encode.extractLsb' a n := by
    rw [extract_within w lo 12 a n ha, h]
  rw [macAt, field 10 2 (by decide), field 8 2 (by decide), field 4 4 (by decide), ← Nat.add_zero lo,
    field 0 4 (by decide)]
  simp (disch := decide) only [MacSlot.encode, extract_low, extract_high, Nat.reduceSub, BitVec.extractLsb'_eq_self]

theorem fmaAt_of_bits {w : BitVec 64} {lo : Nat} {m : FmaSlot} (h : w.extractLsb' lo 14 = m.encode) :
    fmaAt w lo = m := by
  have field (a n : Nat) (ha : a + n ≤ 14) : w.extractLsb' (lo + a) n = m.encode.extractLsb' a n := by
    rw [extract_within w lo 14 a n ha, h]
  rw [fmaAt, field 12 2 (by decide), field 8 4 (by decide), field 4 4 (by decide), ← Nat.add_zero lo,
    field 0 4 (by decide)]
  simp (disch := decide) only [FmaSlot.encode, extract_low, extract_high, Nat.reduceSub, BitVec.extractLsb'_eq_self]

theorem movesOf_of_bits {w : BitVec 64} {mv : Moves} (h : w.extractLsb' 0 36 = mv.encode) : movesOf w = mv := by
  have field (a m : Nat) (ha : a + m ≤ 36) : w.extractLsb' a m = mv.encode.extractLsb' a m := by
    rw [← h, ← extract_within w 0 36 a m ha, Nat.zero_add]
  have hx : loadAt w 26 = mv.ldx := loadAt_of_bits (by
    simp (disch := decide) only [field, Moves.encode, extract_high, Nat.reduceSub, BitVec.extractLsb'_eq_self])
  have hy : loadAt w 16 = mv.ldy := loadAt_of_bits (by
    simp (disch := decide) only [field, Moves.encode, extract_low, extract_high, Nat.reduceSub,
      BitVec.extractLsb'_eq_self])
  rw [movesOf, hx, hy]
  simp (disch := decide) only [field, Moves.encode, StoreSlot.encode, extract_low, extract_high, Nat.reduceSub,
    BitVec.extractLsb'_eq_self]

/-! ### Each class, from the fields of its word -/

section
variable {w : BitVec 64}

theorem parseBundle_of_nop (h : w.extractLsb' 60 4 = 0#4) : parseBundle w = some .nop := by
  simp [parseBundle, h]

theorem parseBundle_of_dual (h : w.extractLsb' 60 4 = 1#4) :
    parseBundle w = some (.dual (macAt w 48) (macAt w 36) (movesOf w)) := by
  simp [parseBundle, h]

theorem parseBundle_of_alu (h : w.extractLsb' 60 4 = 3#4) :
    parseBundle w = some (.alu (w.extractLsb' 54 6) (w.extractLsb' 48 6) (w.extractLsb' 42 6)
      (w.extractLsb' 36 6) (movesOf w)) := by
  simp [parseBundle, h]

theorem parseBundle_of_imm (h : w.extractLsb' 60 4 = 4#4) :
    parseBundle w = some (.imm (w.extractLsb' 54 6) (w.extractLsb' 0 32)) := by
  simp [parseBundle, h]

theorem parseBundle_of_acc (h : w.extractLsb' 60 4 = 5#4) :
    parseBundle w = some (.acc (w.extractLsb' 56 4) (w.extractLsb' 54 2) (w.extractLsb' 52 2)
      (w.extractLsb' 48 4) (movesOf w)) := by
  simp [parseBundle, h]

theorem parseBundle_of_flow (h : w.extractLsb' 60 4 = 6#4) :
    parseBundle w = some (.flow (w.extractLsb' 56 4) (w.extractLsb' 52 4) (w.extractLsb' 51 1)
      (w.extractLsb' 45 6) (w.extractLsb' 32 13) (w.extractLsb' 16 16)) := by
  simp [parseBundle, h]

theorem parseBundle_of_sys (h : w.extractLsb' 60 4 = 7#4) :
    parseBundle w = some (.sys (w.extractLsb' 56 4) (w.extractLsb' 16 16)) := by
  simp [parseBundle, h]

end

/-! ### The word of each class -/

/-- The word of a bundle is read with every field at its value. -/
theorem parseBundle_encode (b : Bundle) : parseBundle b.encode = some b := by
  cases b
  case nop => exact parseBundle_of_nop rfl
  case' dual m0 m1 mv =>
    rw [parseBundle_of_dual, macAt_of_bits (m := m0), macAt_of_bits (m := m1), movesOf_of_bits (mv := mv)]
  case' dfma a b ldx ldy ctl =>
    rw [parseBundle_of_dfma, fmaAt_of_bits (m := a), fmaAt_of_bits (m := b), loadAt_of_bits (l := ldx),
      loadAt_of_bits (l := ldy)]
  case' alu op d s t mv => rw [parseBundle_of_alu, movesOf_of_bits (mv := mv)]
  case' imm d value => rw [parseBundle_of_imm]
  case' acc op ad as_ f mv => rw [parseBundle_of_acc, movesOf_of_bits (mv := mv)]
  case' flow op cond level count target n => rw [parseBundle_of_flow]
  case' sys op arg => rw [parseBundle_of_sys]
  all_goals
    simp (disch := decide) only [Bundle.encode, extract_low, extract_high, Nat.reduceSub, BitVec.extractLsb'_eq_self]

theorem decodeBundle_encode (b : Bundle) (h : b.legal = true) : decodeBundle b.encode = some b := by
  simp only [decodeBundle, parseBundle_encode, h, decide_true, Bool.and_true, if_true]

theorem encode_of_decodeBundle (w : BitVec 64) (b : Bundle) (h : decodeBundle w = some b) :
    b.encode = w ∧ b.legal = true := by
  have hparse := parseBundle_of_decodeBundle w b h
  simp only [decodeBundle, hparse] at h
  split at h
  case isTrue hchecks => simpa using hchecks
  case isFalse => cases h

/-- Settles O10: every field is read from the bits that hold it, and the check of R340 compares the word itself. -/
theorem bundleRoundTrip : Obligations.BundleRoundTrip := ⟨decodeBundle_encode, encode_of_decodeBundle⟩

end Sys2Proof.Machine
end

section
/-! PROOFS. Registers and stores of the Graver cores (chapters 6 and 8): the exact sum of an accumulator, the circular
post-modification, and the one word that a bundle stores. -/

namespace Sys2Proof.Machine

open Sys2Proof Host

/-! ### Accumulators (R279) -/

/-- A is a 72-bit two's complement number and W a 6-bit one. -/
def Accum.inRange (x : Accum) : Prop := -(2 ^ 71) ≤ x.a ∧ x.a < 2 ^ 71 ∧ -32 ≤ x.w ∧ x.w < 32

/-- The number that an accumulator stands for, before it is taken modulo 2⁷⁸. -/
def Accum.value (x : Accum) : Int := x.a + x.w * 2 ^ 72

theorem wrap6_range (w : Int) : -32 ≤ wrap6 w ∧ wrap6 w < 32 := by
  unfold wrap6
  omega

theorem exists_wrap6_eq (w : Int) : ∃ k, wrap6 w = w + k * 64 := ⟨-((w + 32) / 64), by unfold wrap6; omega⟩

section
variable (x : Accum) {a : Int} (w : Int) (hxl : -(2 ^ 71) ≤ x.a) (hxh : x.a < 2 ^ 71) (hal : -(2 ^ 71) ≤ a)
  (hah : a < 2 ^ 71)
include hxl hxh hal hah

/-- At most one carry leaves A, so one correction brings it back. -/
theorem Accum.addRaw_inRange : (x.addRaw a w).inRange := by
  unfold Accum.addRaw Accum.inRange
  dsimp only
  split
  · exact ⟨by dsimp only; omega, by dsimp only; omega, wrap6_range _⟩
  · split
    · exact ⟨by dsimp only; omega, by dsimp only; omega, wrap6_range _⟩
    · exact ⟨by dsimp only; omega, by dsimp only; omega, wrap6_range _⟩

end

/-- Nothing is lost but multiples of 2⁷⁸. -/
theorem Accum.addRaw_value (x : Accum) (a w : Int) :
    ∃ k : Int, (x.addRaw a w).value = x.value + (a + w * 2 ^ 72) + k * 2 ^ 78 := by
  unfold Accum.addRaw Accum.value
  dsimp only
  split
  case isTrue =>
    obtain ⟨k, hk⟩ := exists_wrap6_eq (x.w + w + 1)
    exact ⟨k, by rw [hk]; ring⟩
  case isFalse =>
    split
    case isTrue =>
      obtain ⟨k, hk⟩ := exists_wrap6_eq (x.w + w - 1)
      exact ⟨k, by rw [hk]; ring⟩
    case isFalse =>
      obtain ⟨k, hk⟩ := exists_wrap6_eq (x.w + w)
      exact ⟨k, by rw [hk]; ring⟩

/-- Accumulators in range that stand for the same number modulo 2⁷⁸ are equal. -/
theorem Accum.eq_of_value {x y : Accum} (hx : x.inRange) (hy : y.inRange) (k : Int)
    (h : x.value = y.value + k * 2 ^ 78) : x = y := by
  obtain ⟨a, w⟩ := x
  obtain ⟨b, v⟩ := y
  obtain ⟨hx1, hx2, hx3, hx4⟩ := hx
  obtain ⟨hy1, hy2, hy3, hy4⟩ := hy
  simp only [Accum.value] at *
  have ha : a = b := by omega
  have hw : w = v := by omega
  rw [ha, hw]

/-- Settles O40: an accumulator in range is given by its number modulo 2⁷⁸, to which an addition adds. -/
theorem accumulatorIsExact : Obligations.AccumulatorIsExact := by
  unfold Obligations.AccumulatorIsExact
  intro x a w b v hxl hxh hal hah hbl hbh
  have hy := x.addRaw_inRange w hxl hxh hal hah
  have hz := x.addRaw_inRange v hxl hxh hbl hbh
  obtain ⟨hyl, hyh, hwl, hwh⟩ := id hy
  obtain ⟨hzl, hzh, -, -⟩ := id hz
  obtain ⟨k, hk⟩ := x.addRaw_value a w
  obtain ⟨l, hl⟩ := (x.addRaw a w).addRaw_value b v
  obtain ⟨m, hm⟩ := x.addRaw_value b v
  obtain ⟨n, hn⟩ := (x.addRaw b v).addRaw_value a w
  refine ⟨hyl, hyh, hwl, hwh, ⟨k, ?_⟩, ?_⟩
  · unfold Accum.value at hk
    rw [hk]
    ring
  · refine Accum.eq_of_value (Accum.addRaw_inRange _ v hyl hyh hbl hbh) (Accum.addRaw_inRange _ w hzl hzh hal hah)
      (k + l - m - n) ?_
    rw [hl, hk, hn, hm]
    ring

/-! ### Post-modification (R350) -/

theorem postModify_linear (cfg : BitVec 32) (a : BitVec 16) (i : Int) (h : (cfg.extractLsb' 30 2).toNat = 0) :
    postModify cfg a i = BitVec.ofInt 16 (a.toNat + i) := by
  simp only [postModify, h]

/-- The offset is taken modulo the length, and the base is kept. -/
theorem postModify_circular (cfg : BitVec 32) (a : BitVec 16) (i : Int) (h : (cfg.extractLsb' 30 2).toNat = 1) :
    let n := (cfg.extractLsb' 0 16).toNat + 1
    let base := a.toNat / 2 ^ ceilLog2 n * 2 ^ ceilLog2 n
    postModify cfg a i = BitVec.ofInt 16 (base + (((a.toNat - base : Nat) : Int) + i) % (n : Int)) := by
  simp only [postModify, h]

theorem toNat_ofInt_of_lt (z : Int) (h0 : 0 ≤ z) (h : z < 2 ^ 16) : ((BitVec.ofInt 16 z).toNat : Int) = z := by
  rw [BitVec.toNat_ofInt]
  omega

/-- Settles O41: the step is taken modulo the length of the buffer, from its base. -/
theorem postModifyStaysInBuffer : Obligations.PostModifyStaysInBuffer := by
  unfold Obligations.PostModifyStaysInBuffer
  refine fun cfg a i => ⟨postModify_linear cfg a i, ?_⟩
  intro h n base hfit
  have hlow : 0 ≤ (((a.toNat - base : Nat) : Int) + i) % (n : Int) := Int.emod_nonneg _ (by omega)
  have hhigh : (((a.toNat - base : Nat) : Int) + i) % (n : Int) < n := Int.emod_lt_of_pos _ (by omega)
  have hval := toNat_ofInt_of_lt (base + (((a.toNat - base : Nat) : Int) + i) % (n : Int)) (by omega) (by omega)
  rw [← postModify_circular cfg a i h] at hval
  omega

/-! ### The store of a bundle (R341, R349) -/

theorem storeOf_of_none {b : Bundle} (h : b.store? = none) (s : State) (i : Inst) : s.storeOf i b = s := by
  simp only [State.storeOf, h]

theorem storeOf_of_some {b : Bundle} {q : StoreSlot} (h : b.store? = some q) (s : State) (i : Inst) :
    s.storeOf i b = s.writeMem (i.storeAddr q) (leBytes 4 (i.regs.storeWord q).1.toNat) := by
  simp only [State.storeOf, h, State.writeWords, List.flatMap_cons, List.flatMap_nil, List.append_nil]

/-- A bundle after which its task goes on only puts the task back. -/
theorem settle_of_goesOn {b : Bundle} (hexit : b.exits = false) (hwait : b.waitsFor = none) (hyield : b.yields = false)
    (s : State) (i : Inst) : s.settle i b = s.putInst i := by
  simp [State.settle, hexit, hwait, hyield]

/-- Settles O39: what follows the store reaches no byte. -/
theorem bundleStoresOneWord : Obligations.BundleStoresOneWord := by
  unfold Obligations.BundleStoresOneWord
  intro c i b r s _ hexit hwait hyield t
  have ht : t.mem = (s.storeOf i b).mem :=
    (congrArg State.mem (settle_of_goesOn hexit hwait hyield _ _)).trans rfl
  refine ⟨fun q hq a => ?_, fun hnone => ?_⟩
  · rw [ht, storeOf_of_some hq, State.writeMem_read, leBytes_length]
  · rw [ht, storeOf_of_none hnone]

/-! ### What a core takes next (R364, R369) -/

/-- The order of R364 on instances, field by field: class, then whether it was pre-empted, deadline and node. -/
def Inst.turn (i : Inst) : ℕ ×ₗ ℕ ×ₗ ℤ ×ₗ ℕ :=
  toLex (i.cls, toLex (if i.stage = .preempted then 0 else 1, toLex (i.deadline, i.node)))

theorem Inst.before_iff (a b : Inst) : a.before b = true ↔ a.turn < b.turn := by
  simp [Inst.before, Inst.turn, Prod.Lex.toLex_lt_toLex]

theorem bestInst_mem {l : List Inst} {i : Inst} (h : bestInst l = some i) : i ∈ l := by
  induction l generalizing i with
  | nil => cases h
  | cons a l ih =>
    unfold bestInst at h
    split at h
    case h_1 => exact Option.some.inj h ▸ List.mem_cons_self ..
    case h_2 b hb =>
      split at h
      · exact Option.some.inj h ▸ List.mem_cons_of_mem _ (ih hb)
      · exact Option.some.inj h ▸ List.mem_cons_self ..

theorem bestInst_eq_none {l : List Inst} (h : bestInst l = none) : l = [] := by
  cases l with
  | nil => rfl
  | cons a l =>
    unfold bestInst at h
    split at h
    · cases h
    · split at h <;> cases h

/-- None of the list has an earlier turn. -/
theorem bestInst_turn_le {l : List Inst} {i : Inst} (h : bestInst l = some i) : ∀ j ∈ l, i.turn ≤ j.turn := by
  induction l generalizing i with
  | nil => cases h
  | cons a l ih =>
    unfold bestInst at h
    split at h
    case h_1 hnone =>
      obtain rfl := Option.some.inj h
      simp [bestInst_eq_none hnone]
    case h_2 b hb =>
      rw [List.forall_mem_cons]
      split at h
      case isTrue hba =>
        obtain rfl := Option.some.inj h
        exact ⟨((Inst.before_iff b a).1 hba).le, ih hb⟩
      case isFalse hba =>
        obtain rfl := Option.some.inj h
        have hab : a.turn ≤ b.turn := le_of_not_gt fun hlt => hba ((Inst.before_iff b a).2 hlt)
        exact ⟨le_rfl, fun j hj => hab.trans (ih hb j hj)⟩

/-- What a turn at most another's says of the fields that R364 compares. -/
theorem Inst.fields_of_turn_le {i j : Inst} (h : i.turn ≤ j.turn) :
    i.cls ≤ j.cls ∧ (j.cls = i.cls → (i.stage = .preempted ∨ j.stage ≠ .preempted) ∧
      ((i.stage = .preempted ↔ j.stage = .preempted) →
        i.deadline ≤ j.deadline ∧ (j.deadline = i.deadline → i.node ≤ j.node))) := by
  simp only [Inst.turn, Prod.Lex.toLex_le_toLex] at h
  by_cases hi : i.stage = .preempted <;> by_cases hj : j.stage = .preempted <;> simp [hi, hj] at h ⊢ <;> omega

/-- Settles O43: the choice is the least by `Inst.turn`, which compares the fields in the order of R364. -/
theorem readyOrder : Obligations.ReadyOrder := by
  unfold Obligations.ReadyOrder
  exact fun l i h => ⟨bestInst_mem h, fun j hj => Inst.fields_of_turn_le (bestInst_turn_le h j hj)⟩

end Sys2Proof.Machine
end

section
/-! PROOFS. Rules on single values (chapters 3, 4, 13 and 17): the slew of the bridge, the mapping of show time, the
window of elimination, and the folding and the order of error records. -/

namespace Sys2Proof.Machine

open Sys2Proof Host

/-! ### The slew of the bridge (R151, R152) -/

theorem slewBridge_of_beyond {b adv : Int} {slew : Nat} {thr : Int} (h : b = 0 ∨ thr < (b.natAbs : Int)) :
    slewBridge b adv slew thr = b := by
  unfold slewBridge
  rw [if_pos (by simpa using h)]

theorem slewBridge_of_within {b adv : Int} {slew : Nat} {thr : Int} (h0 : b ≠ 0) (h : (b.natAbs : Int) ≤ thr) :
    slewBridge b adv slew thr =
      if 0 < b then max 0 (b - adv * slew / 1000000000) else min 0 (b + adv * slew / 1000000000) := by
  have hnot : ¬(b = 0 ∨ (b.natAbs : Int) > thr) := by omega
  unfold slewBridge
  rw [if_neg (by simpa only [Bool.or_eq_true, decide_eq_true_eq] using hnot)]

/-- Settles O20: the bridge is left alone, or moves toward zero by what the source advanced, and stops there. -/
theorem slewNeverCrossesZero : Obligations.SlewNeverCrossesZero := by
  unfold Obligations.SlewNeverCrossesZero
  intro b adv slew thr hadv c
  have hmove : 0 ≤ adv * slew / 1000000000 :=
    Int.ediv_nonneg (mul_nonneg hadv (Int.natCast_nonneg slew)) (by norm_num)
  by_cases h : b = 0 ∨ thr < (b.natAbs : Int)
  case pos =>
    have hc : c = b := slewBridge_of_beyond h
    rw [hc]
    omega
  case neg =>
    have hc : c = _ := slewBridge_of_within (adv := adv) (slew := slew) (fun h0 => h (.inl h0)) (by omega)
    generalize adv * slew / 1000000000 = move at hmove hc ⊢
    split at hc <;> omega

/-! ### The mapping of show time (R181, R183) -/

section
variable (s : State) (st : Int) (nt rate k : Nat)

theorem State.setMap_rate : (s.setMap st nt rate).get D.show_map_rate = rate := State.get_keepValue_same ..

theorem State.setMap_nt : (s.setMap st nt rate).get D.show_map_nt = nt := by
  rw [State.setMap, State.get_keepValue_apart _ _ _ _ _ _ (by decide), State.get_keepValue_same]

theorem State.setMap_st (hl : -(2 ^ 63) ≤ st) (hh : st < 2 ^ 63) : (s.setMap st nt rate).getI D.show_map_st = st := by
  have hget : (s.setMap st nt rate).get D.show_map_st = ofSigned 64 st := by
    rw [State.setMap, State.get_keepValue_apart _ _ _ _ _ _ (by decide),
      State.get_keepValue_apart _ _ _ _ _ _ (by decide), State.get_keepValue_same]
  exact (congrArg (toSigned 64) hget).trans (toSigned_ofSigned 64 st (by omega) (by omega))

/-- A boundary lies where the render rate puts it. -/
theorem State.tBoundary_of_rate {s t : State} (h : t.get D.render_rate = s.get D.render_rate) (k : Nat) :
    t.tBoundary k = s.tBoundary k := by
  simp only [State.tBoundary, State.blockLen, State.fs, h]

theorem State.setMap_tBoundary : (s.setMap st nt rate).tBoundary k = s.tBoundary k := by
  refine State.tBoundary_of_rate ?_ k
  rw [State.setMap, State.get_keepValue_else _ _ _ _ _ _ (by decide), State.get_keepValue_else _ _ _ _ _ _ (by decide),
    State.get_keepValue_else _ _ _ _ _ _ (by decide)]

/-- Show time under a new mapping is its start at the boundary from which it counts, and where it stands still. -/
theorem State.showTime_setMap (h : rate = 0 ∨ nt = s.tBoundary k) (hl : -(2 ^ 63) ≤ st) (hh : st < 2 ^ 63) :
    (s.setMap st nt rate).showTime k = st := by
  simp only [State.showTime, State.showRuns, State.setMap_rate, State.setMap_nt, State.setMap_tBoundary,
    s.setMap_st st nt rate hl hh]
  rcases h with rfl | rfl
  · rfl
  · simp

theorem State.showTime_keepValue_resume (v : Nat) : (s.keepValue D.show_resume_rate v).showTime k = s.showTime k := by
  have keeps (p : Obj) (h : D.show_resume_rate.addr ≠ p.addr ∧ p.dflt.fixed = true) :
      (s.keepValue D.show_resume_rate v).get p = s.get p := s.get_keepValue_else _ _ _ _ _ h
  have hst := keeps D.show_map_st (by decide)
  have hnt := keeps D.show_map_nt (by decide)
  have hrate := keeps D.show_map_rate (by decide)
  have hboundary := State.tBoundary_of_rate (keeps D.render_rate (by decide)) k
  have hruns : (s.keepValue D.show_resume_rate v).showRuns = s.showRuns := congrArg (· != 0) hrate
  simp only [State.showTime, hruns, State.getI, hst, hnt, hrate, hboundary]

theorem State.showTime_of_still (h : s.showRuns = false) : s.showTime k = s.getI D.show_map_st := by
  simp [State.showTime, h]

end

section
variable (s : State) (k : Nat) (hl : -(2 ^ 63) ≤ s.showTime k) (hh : s.showTime k < 2 ^ 63)
include hl hh

theorem State.showTime_showSetRate (r : Nat) : (s.showSetRate k r).showTime k = s.showTime k := by
  unfold State.showSetRate
  split
  case isTrue =>
    split
    · rfl
    · rw [State.showTime_keepValue_resume, State.showTime_setMap _ _ _ _ _ (.inr rfl) hl hh]
  case isFalse => exact s.showTime_keepValue_resume k r

theorem State.showTime_showRun (v : Bool) : (s.showRun k v).showTime k = s.showTime k := by
  unfold State.showRun
  split
  case isTrue => exact State.showTime_setMap _ _ _ _ _ (.inl rfl) hl hh
  case isFalse =>
    split
    case isTrue h =>
      have hstill : s.showRuns = false := by simpa using (Bool.and_eq_true_iff.1 h).2
      have hst := s.showTime_of_still k hstill
      rw [← hst, State.showTime_setMap _ _ _ _ _ (.inr rfl) hl hh]
    case isFalse => rfl

end

/-- Settles O25: a jump and a resumption start the mapping anew at the boundary, a pause stops it there. -/
theorem showTimeContinuous : Obligations.ShowTimeContinuous := by
  unfold Obligations.ShowTimeContinuous
  exact fun s k r j hjl hjh hl hh => ⟨s.showTime_setMap _ _ _ _ (.inr rfl) hjl hjh, s.showTime_showSetRate k hl hh r,
    s.showTime_showRun k hl hh false, s.showTime_showRun k hl hh true⟩

/-! ### The order of records (R651) -/

theorem nextRec_eq_none {q : List ErrRec} (h : nextRec q = none) : q = [] := by
  cases q with
  | nil => rfl
  | cons r l =>
    unfold nextRec at h
    split at h
    · cases h
    · split at h <;> cases h

/-- Settles O18, by induction on the queue: the record at the front gives way to one of strictly higher severity alone. -/
theorem highestSeverityHandledFirst : Obligations.HighestSeverityHandledFirst := by
  unfold Obligations.HighestSeverityHandledFirst
  intro q
  induction q with
  | nil => intro r h; cases h
  | cons x l ih =>
    intro r h
    unfold nextRec at h
    split at h
    case h_1 hnone =>
      obtain rfl := Option.some.inj h
      exact ⟨[], [], by rw [nextRec_eq_none hnone]; rfl, by simp, by simp⟩
    case h_2 best hbest =>
      obtain ⟨before, after, hl, hbefore, hafter⟩ := ih best hbest
      split at h
      case isTrue hlt =>
        obtain rfl := Option.some.inj h
        exact ⟨x :: before, after, by rw [hl]; rfl, List.forall_mem_cons.2 ⟨hlt, hbefore⟩, hafter⟩
      case isFalse hle =>
        obtain rfl := Option.some.inj h
        refine ⟨[], l, rfl, by simp, fun y hy => ?_⟩
        have hbest : best.sev.rank ≤ x.sev.rank := Nat.le_of_not_lt hle
        rw [hl, List.mem_append, List.mem_cons] at hy
        rcases hy with hy | rfl | hy
        · exact (hbefore y hy).le.trans hbest
        · exact hbest
        · exact (hafter y hy).trans hbest

/-! ### Occurrences of an error (R645–R650) -/

theorem foldRec_length (q : List ErrRec) (area index code : Nat) : (foldRec q area index code).length = q.length := by
  induction q with
  | nil => rfl
  | cons r l ih =>
    unfold foldRec
    split
    · rfl
    · exact congrArg (· + 1) ih

section
variable (s : State) (area index code : Nat) (sev : Severity)

theorem State.error_of_queued (h : ∃ r ∈ s.err.queue, sameKey r area index code = true) :
    s.error area index code sev =
      { s with err := { s.err with queue := foldRec s.err.queue area index code } } :=
  if_pos (List.any_eq_true.2 h)

/-- A first occurrence of a code that has no limit of one record a second is raised as a record. -/
theorem State.error_of_new (hq : ∀ r ∈ s.err.queue, sameKey r area index code = false)
    (hrate : rateLimited code = false) (hheld : s.err.held = []) :
    s.error area index code sev = s.raiseRec area index code sev 0 := by
  have hany : (s.err.queue.any fun r => sameKey r area index code) = false := List.any_eq_false.2 (by simpa using hq)
  simp [State.error, hany, hheld, hrate]

theorem queueRoom_eq (q : List ErrRec) : queueRoom q sev = decide (q.length < if sev = .failed then 64 else 60) := by
  unfold queueRoom
  split <;> rfl

variable (repeats : Nat)

theorem State.raiseRec_err : (s.raiseRec area index code sev repeats).err = { s.err with
    seq := (s.err.seq + 1) % 256
    queue := if queueRoom s.err.queue sev then
      s.err.queue ++ [⟨s.errTime, area, index, code, sev, repeats, (s.err.seq + 1) % 256⟩] else s.err.queue
    lost := if queueRoom s.err.queue sev then s.err.lost else s.err.lost + 1
    nfault := s.err.nfault || sev == .failed } := by
  unfold State.raiseRec
  dsimp only
  split <;> split <;> rfl

/-- The counters and gauges that a record moves are other objects than its sequence. -/
theorem State.raiseRec_sequence :
    (s.raiseRec area index code sev repeats).get D.err_sequence = (s.err.seq + 1) % 256 := by
  unfold State.raiseRec
  dsimp only
  split <;> split <;>
    simp (disch := decide) only [State.get_countSat_apart, State.get_count_apart, State.get_set_apart,
      State.get_set_same]

end

/-- Settles O17: a queued key is folded, and a new one raised, of which the fields are read off. -/
theorem errorFoldsIntoQueuedRecord : Obligations.ErrorFoldsIntoQueuedRecord := by
  unfold Obligations.ErrorFoldsIntoQueuedRecord
  refine fun s area index code sev => ⟨fun h => ⟨s.error_of_queued area index code sev h, foldRec_length ..⟩,
    fun hq hrate hheld => ?new⟩
  case new =>
    obtain ⟨d, e, honly⟩ := s.raiseRec_only area index code sev 0
    rw [s.error_of_new area index code sev hq hrate hheld]
    refine ⟨s.raiseRec_sequence .., ?_, ?_, ?_⟩
    · rw [State.raiseRec_err]
    · simp only [State.raiseRec_err, queueRoom_eq, decide_eq_true_eq]
    · rw [honly]

/-! ### Elimination (R519) -/

/-- How far a sequence lies ahead of a window's top, modulo 2¹⁶ (R519). -/
def ElimWindow.ahead (w : ElimWindow) (seq : Nat) : Int := ((seq : Int) - w.top + 32768) % 65536 - 32768

/-- A sequence of the window that has arrived. -/
def ElimWindow.has (w : ElimWindow) (seq : Nat) : Bool := w.seen.any fun e => e.1 == seq

theorem State.window_putWindow (s : State) (w : ElimWindow) {key : Nat} (h : w.key = key) :
    (s.putWindow w).window key = some w := by
  simp [State.window, State.putWindow, h]

@[simp] theorem State.window_count (s : State) (o : Obj) (i n key : Nat) :
    (s.count o i n).window key = s.window key := rfl

@[simp] theorem State.get_putWindow (s : State) (w : ElimWindow) (o : Obj) (i k : Nat) :
    (s.putWindow w).get o i k = s.get o i k := rfl

section
variable {s : State} {c seq : Nat} {w : ElimWindow} (b : Bool) (hw : s.window c = some w)
  (hlast : s.time.local_ - w.last ≤ 100000000 * ns32)
include hw hlast

/-- A frame ahead moves the window, of which what falls out is counted. -/
theorem State.eliminate_of_ahead (h : 0 < w.ahead seq) :
    ∃ (a e : Nat) (kept : List (Nat × Bool × Bool)), let t := (s.count D.elim_only_a c a).count D.elim_only_b c e
      s.eliminate c seq b = ((if 256 < w.ahead seq then t.count D.elim_resets c else t).putWindow
        ⟨c, seq, (seq, !b, b) :: kept, s.time.local_⟩, true) := by
  have hnow : ¬s.time.local_ - w.last > 100000000 * ns32 := not_lt.2 hlast
  unfold ElimWindow.ahead at *
  simp only [State.eliminate, hw, hnow, h, if_false, gt_iff_lt, if_true]
  exact ⟨_, _, _, rfl⟩

theorem State.eliminate_of_late (h : w.ahead seq ≤ 0) (hin : -256 < w.ahead seq) (hseen : w.has seq = false) :
    s.eliminate c seq b =
      (s.putWindow { w with seen := (seq, !b, b) :: w.seen, last := s.time.local_ }, true) := by
  have hnow : ¬s.time.local_ - w.last > 100000000 * ns32 := not_lt.2 hlast
  have hahead := not_lt.2 h
  unfold ElimWindow.ahead at *
  unfold ElimWindow.has at hseen
  simp only [State.eliminate, hw, hnow, hahead, hin, hseen, if_false, gt_iff_lt, decide_true, Bool.not_false,
    Bool.and_self, if_true]

theorem State.eliminate_of_seen (h : w.ahead seq ≤ 0) (hin : -256 < w.ahead seq) (hseen : w.has seq = true) :
    ∃ seen : List (Nat × Bool × Bool), (seen.any fun e => e.1 == seq) = true ∧
      s.eliminate c seq b = ((s.putWindow { w with seen := seen }).count D.elim_dup c, false) := by
  have hnow : ¬s.time.local_ - w.last > 100000000 * ns32 := not_lt.2 hlast
  have hahead := not_lt.2 h
  unfold ElimWindow.ahead at *
  unfold ElimWindow.has at hseen
  refine ⟨w.seen.map fun e => if e.1 = seq then (e.1, e.2.1 || !b, e.2.2 || b) else e, ?_, ?_⟩
  · rw [List.any_map, ← hseen]
    congr 1
    funext e
    simp only [Function.comp_apply]
    split <;> rfl
  · simp only [State.eliminate, hw, hnow, hahead, hin, hseen, if_false, gt_iff_lt, decide_true, Bool.not_true,
      Bool.and_false, Bool.false_eq_true, if_true]

theorem State.eliminate_of_behind (h : w.ahead seq ≤ -256) : s.eliminate c seq b = (s.count D.elim_rogue c, false) := by
  have hnow : ¬s.time.local_ - w.last > 100000000 * ns32 := not_lt.2 hlast
  have hahead : ¬0 < w.ahead seq := by omega
  have hin : ¬-256 < w.ahead seq := by omega
  unfold ElimWindow.ahead at *
  simp only [State.eliminate, hw, hnow, hahead, hin, if_false, gt_iff_lt, decide_false, Bool.false_and,
    Bool.false_eq_true]

end

/-- Settles O45: the frame is ahead of the window, late in it, in it again, or behind it. -/
theorem eliminationWindow : Obligations.EliminationWindow := by
  unfold Obligations.EliminationWindow
  intro c seq b w s hw hkey hlast d seen r
  obtain rfl := hkey
  have hd : d = w.ahead seq := rfl
  have hs : seen = w.has seq := rfl
  by_cases hahead : 0 < d
  case pos =>
    obtain ⟨a, e, kept, hr⟩ := State.eliminate_of_ahead b hw hlast (hd ▸ hahead)
    rw [← hd] at hr
    rw [show r = _ from hr]
    refine ⟨by simp [hahead], ⟨_, State.window_putWindow _ _ rfl, (if_pos hahead).symm, rfl, fun _ => by simp⟩,
      fun hreset => ?_, fun h => absurd hahead (not_lt.2 h), fun h => absurd hahead (by omega), ?_⟩
    · rw [if_pos hreset, State.get_putWindow, State.get_count_same, State.get_count_apart _ _ _ _ _ (by decide),
        State.get_count_apart _ _ _ _ _ (by decide)]
    · split <;> rfl
  case neg =>
    by_cases hin : -256 < d
    case pos =>
      cases hcase : seen with
      | false =>
        rw [show r = _ from State.eliminate_of_late b hw hlast (by omega) (by omega) (hs ▸ hcase)]
        exact ⟨by simp [hin], ⟨_, State.window_putWindow _ _ rfl, (if_neg hahead).symm, rfl, fun _ => by simp⟩,
          fun h => absurd h (by omega), fun _ _ h => absurd h (by decide), fun h => absurd hin (by omega), rfl⟩
      | true =>
        obtain ⟨l, hl, hr⟩ := State.eliminate_of_seen b hw hlast (by omega) (by omega) (hs ▸ hcase)
        rw [show r = _ from hr]
        exact ⟨by simp [hahead], ⟨_, State.window_putWindow _ _ rfl, (if_neg hahead).symm, rfl, fun _ => hl⟩,
          fun h => absurd h (by omega), fun _ _ _ => State.get_count_same .., fun h => absurd hin (by omega), rfl⟩
    case neg =>
      rw [show r = _ from State.eliminate_of_behind b hw hlast (by omega)]
      exact ⟨by simp [hahead, hin], ⟨w, hw, (if_neg hahead).symm, rfl, fun h => absurd h hin⟩,
        fun h => absurd h (by omega), fun _ h => absurd h hin, fun _ => State.get_count_same .., rfl⟩

end Sys2Proof.Machine
end

section
/-! PROOFS. The frame of the commands that work on few parts of State: `agreeBeside l` is a preorder, the shared operations
stay inside it, and so does each command with `homeParts` `l`. -/

namespace Sys2Proof.Machine

open Sys2Proof Host

/-! ### What two states agree on -/

/-- Two states hold the same in one part. -/
def Part.same (s t : State) : Part → Prop
  | .cu => s.cu = t.cu
  | .time => s.time = t.time
  | .timeline => s.timeline = t.timeline
  | .render => s.render = t.render
  | .svc => s.svc = t.svc
  | .nand => s.nand = t.nand
  | .power => s.power = t.power
  | .io => s.io = t.io
  | .mem => s.mem = t.mem
  | .ports => s.ports = t.ports
  | .twin => s.twin = t.twin
  | .fabric => s.fabric = t.fabric
  | .graver => s.graver = t.graver
  | .mdap => s.mdap = t.mdap
  | .wire => s.wire = t.wire

/-- Two states hold the same in every field that is no `Part` and that `agreeBeside` never restores. -/
def sameRest (s t : State) : Prop :=
  s.blobs = t.blobs ∧ s.hist = t.hist ∧ s.free = t.free ∧ s.pending = t.pending

theorem Part.same_restore (s t : State) (p q : Part) : q.same s (p.restore s t) ↔ q = p ∨ q.same s t := by
  cases p <;> cases q <;> simp [Part.same, Part.restore]

theorem sameRest_restore (s t : State) (p : Part) : sameRest s (p.restore s t) ↔ sameRest s t := by
  cases p <;> rfl

theorem dict_restore (s t : State) (p : Part) : (p.restore s t).dict = t.dict := by cases p <;> rfl

theorem err_restore (s t : State) (p : Part) : (p.restore s t).err = t.err := by cases p <;> rfl

theorem eq_iff_same (s t : State) :
    t = s ↔ (∀ p : Part, p.same s t) ∧ sameRest s t ∧ t.dict = s.dict ∧ t.err = s.err := by
  constructor
  · rintro rfl
    exact ⟨fun p => by cases p <;> rfl, ⟨rfl, rfl, rfl, rfl⟩, rfl, rfl⟩
  · rintro ⟨hp, ⟨hblobs, hhist, hfree, hpending⟩, hdict, herr⟩
    obtain ⟨⟩ := s
    obtain ⟨⟩ := t
    rw [State.mk.injEq]
    exact ⟨hdict, hblobs.symm, herr, hhist.symm, (hp .time).symm, (hp .timeline).symm, (hp .cu).symm, (hp .render).symm,
      (hp .svc).symm, (hp .nand).symm, (hp .power).symm, (hp .io).symm, (hp .mem).symm, (hp .ports).symm, (hp .twin).symm,
      (hp .fabric).symm, (hp .graver).symm, (hp .mdap).symm, (hp .wire).symm, hfree.symm, hpending.symm⟩

theorem foldl_restore_eq_iff (s : State) (l : List Part) (t : State) (hdict : t.dict = s.dict) (herr : t.err = s.err) :
    l.foldl (fun u p => p.restore s u) t = s ↔ (∀ p ∉ l, p.same s t) ∧ sameRest s t := by
  induction l generalizing t with
  | nil => simp [eq_iff_same, hdict, herr]
  | cons q l ih =>
    rw [List.foldl_cons, ih _ ((dict_restore ..).trans hdict) ((err_restore ..).trans herr), sameRest_restore]
    simp only [Part.same_restore, List.mem_cons, not_or]
    exact and_congr_left' ⟨fun h p hp => (h p hp.2).resolve_left hp.1, fun h p hp => by
      by_cases hq : p = q
      · exact .inl hq
      · exact .inr (h p ⟨hq, hp⟩)⟩

theorem Part.same_dict_err (s t : State) (d : List (Nat × Nat)) (e : ErrState) (p : Part) :
    p.same s { t with dict := d, err := e } ↔ p.same s t := by
  cases p <;> rfl

theorem agreeBeside_iff (l : List Part) (s t : State) :
    agreeBeside l s t ↔ (∀ p ∉ l, p.same s t) ∧ sameRest s t := by
  unfold agreeBeside
  rw [foldl_restore_eq_iff s l { t with dict := s.dict, err := s.err } rfl rfl]
  simp only [Part.same_dict_err]
  rfl

theorem Part.same.trans {s t u : State} {p : Part} (h : p.same s t) (h' : p.same t u) : p.same s u := by
  cases p <;> exact Eq.trans h h'

theorem agreeBeside.trans {l : List Part} {s t u : State} (h : agreeBeside l s t) (h' : agreeBeside l t u) :
    agreeBeside l s u := by
  rw [agreeBeside_iff] at h h' ⊢
  obtain ⟨hp, hblobs, hhist, hfree, hpending⟩ := h
  obtain ⟨hp', hblobs', hhist', hfree', hpending'⟩ := h'
  exact ⟨fun p hl => (hp p hl).trans (hp' p hl), hblobs.trans hblobs', hhist.trans hhist', hfree.trans hfree',
    hpending.trans hpending'⟩

theorem agreeBeside.mono {l l' : List Part} {s t : State} (h : agreeBeside l s t) (hl : l ⊆ l') : agreeBeside l' s t := by
  rw [agreeBeside_iff] at h ⊢
  exact ⟨fun p hp => h.1 p fun hm => hp (hl hm), h.2⟩

theorem agreeBeside.refl (l : List Part) (s : State) : agreeBeside l s s :=
  (agreeBeside_iff l s s).2 ⟨fun p _ => by cases p <;> rfl, rfl, rfl, rfl, rfl⟩

theorem agreeBeside.ite {l : List Part} {s t u : State} {p : Prop} [Decidable p] (ht : agreeBeside l s t)
    (hu : agreeBeside l s u) : agreeBeside l s (if p then t else u) := by
  split
  · exact ht
  · exact hu

theorem agreeBeside.foldl {α : Type} {l : List Part} {f : State → α → State} (hf : ∀ t x, agreeBeside l t (f t x))
    (xs : List α) (s : State) : agreeBeside l s (xs.foldl f s) := by
  induction xs generalizing s with
  | nil => exact .refl l s
  | cons x xs ih => exact (hf s x).trans (ih _)

/-- What changes dictionary values and error records alone is beside any parts. -/
theorem agreeBeside.of_nil {l : List Part} {s t : State} (h : agreeBeside [] s t) : agreeBeside l s t :=
  h.mono (List.nil_subset l)

/-- Whatever state an outcome goes on with agrees beside `l`. -/
def Stays (l : List Part) (s : State) (o : Outcome State Fault Refusal) : Prop := ∀ t, o = .next t → agreeBeside l s t

theorem stays_next {l : List Part} {s t : State} (h : agreeBeside l s t) : Stays l s (.next t) := by
  rintro _ ⟨⟩
  exact h

theorem Stays.ite {l : List Part} {s : State} {p : Prop} [Decidable p] {a b : Outcome State Fault Refusal}
    (ha : Stays l s a) (hb : Stays l s b) : Stays l s (if p then a else b) := by
  split
  · exact ha
  · exact hb

/-! ### The shared operations that reach dictionary values and error records alone -/

section
variable {l : List Part} (s : State)

theorem State.error_beside (area index code : Nat) (sev : Severity) :
    agreeBeside l s (s.error area index code sev) := by
  obtain ⟨d, e, h⟩ := s.error_only area index code sev
  rw [h]
  exact .of_nil rfl

theorem State.raiseRec_beside (area index code : Nat) (sev : Severity) (repeats : Nat) :
    agreeBeside l s (s.raiseRec area index code sev repeats) := by
  obtain ⟨d, e, h⟩ := s.raiseRec_only area index code sev repeats
  rw [h]
  exact .of_nil rfl

theorem State.syntUpdate_beside : agreeBeside l s s.syntUpdate := by
  unfold State.syntUpdate
  dsimp only
  repeat' split
  all_goals exact .of_nil rfl

theorem State.refreshHealth_beside : agreeBeside l s s.refreshHealth := .ite (.of_nil rfl) (.refl l s)

theorem State.closeProof_beside : agreeBeside l s s.closeProof := .of_nil rfl

theorem State.openProof_beside (e : Nat) : agreeBeside l s (s.openProof e) := .ite (.refl l s) (.of_nil rfl)

theorem State.setSideState_beside (n v : Nat) : agreeBeside l s (s.setSideState n v) := .ite (.of_nil rfl) (.of_nil rfl)

theorem State.changeSetPoint_beside (sp : Nat) : agreeBeside l s (s.changeSetPoint sp) := .of_nil rfl

theorem State.decodeError_beside (m a : Nat) : agreeBeside l s (s.decodeError m a) := .of_nil rfl

end

/-! The same after other operations. -/

section
variable {l : List Part} {s t : State} (h : agreeBeside l s t)
include h

theorem agreeBeside.set {o : Obj} {v i : Nat} : agreeBeside l s (t.set o v i) := h.trans (.of_nil rfl)

theorem agreeBeside.setF {o : Obj} {v : F32} {i : Nat} : agreeBeside l s (t.setF o v i) := h.trans (.of_nil rfl)

theorem agreeBeside.count {o : Obj} {i n : Nat} : agreeBeside l s (t.count o i n) := h.trans (.of_nil rfl)

theorem agreeBeside.error {area index code : Nat} {sev : Severity} : agreeBeside l s (t.error area index code sev) :=
  h.trans (t.error_beside ..)

theorem agreeBeside.raiseRec {area index code : Nat} {sev : Severity} {n : Nat} :
    agreeBeside l s (t.raiseRec area index code sev n) :=
  h.trans (t.raiseRec_beside ..)

theorem agreeBeside.syntUpdate : agreeBeside l s t.syntUpdate := h.trans t.syntUpdate_beside

theorem agreeBeside.refreshHealth : agreeBeside l s t.refreshHealth := h.trans t.refreshHealth_beside

theorem agreeBeside.setSideState {n v : Nat} : agreeBeside l s (t.setSideState n v) := h.trans (t.setSideState_beside n v)

end

/-! ### The operations of each part -/

section
variable (s : State)

theorem agreeBeside.acquire {s t : State} (h : agreeBeside [.time] s t) {d : Nat} : agreeBeside [.time] s (t.acquire d) :=
  h.trans rfl

theorem agreeBeside.put_time {s t : State} (h : agreeBeside [.time] s t) {n : TimeState} :
    agreeBeside [.time] s { t with time := n } := h.trans rfl

theorem State.domainTimeout_beside (d : Nat) : agreeBeside [.time] s (s.domainTimeout d) := by
  unfold State.domainTimeout
  dsimp only
  refine .ite ?_ (.syntUpdate (.set ?_)) <;>
    exact .ite rfl (.ite rfl (.ite rfl rfl))

theorem State.wclkDivide_beside : agreeBeside [.time] s s.wclkDivide := by
  unfold State.wclkDivide
  dsimp only
  repeat' split
  all_goals rfl

theorem State.showCaptures_beside (p : Nat) : agreeBeside [.time] s (s.showCaptures p) := by
  unfold State.showCaptures
  dsimp only
  split <;> rfl

theorem State.askReanchor_beside : agreeBeside [.timeline] s s.askReanchor := .ite rfl (.refl _ s)

theorem State.swapTri_beside : agreeBeside [.render] s s.swapTri := by
  unfold State.swapTri
  split
  · exact .refl _ s
  · rfl

theorem State.putVoice_beside (x : VoiceRun) (st : Nat) : agreeBeside [.svc] s (s.putVoice x st) := rfl

theorem State.idleVoice_beside (v : Nat) : agreeBeside [.svc] s (s.idleVoice v) := rfl

theorem State.stopVoice_beside (v : Nat) : agreeBeside [.svc] s (s.stopVoice v) := by
  unfold State.stopVoice
  split
  · exact .refl _ s
  · exact .ite rfl rfl

theorem State.startVoice_beside (v : Nat) : agreeBeside [.svc] s (s.startVoice v) :=
  .ite ((s.stopVoice_beside v).error) (.ite rfl rfl)

theorem agreeBeside.put_nand {s t : State} (h : agreeBeside [.nand] s t) {n : NandState} :
    agreeBeside [.nand] s { t with nand := n } := h.trans rfl

theorem State.noteAppend_beside (bytes : Nat) : agreeBeside [.nand] s (s.noteAppend bytes) := by
  unfold State.noteAppend
  dsimp only
  split
  · exact .put_nand (.error (by exact rfl))
  · rfl

theorem State.showRun_beside (k : Nat) (v : Bool) : agreeBeside [.nand] s (s.showRun k v) :=
  .ite rfl (.ite rfl (.refl _ s))

theorem State.showSetRate_beside (k r : Nat) : agreeBeside [.nand] s (s.showSetRate k r) :=
  .ite (.ite (.refl _ s) rfl) rfl

theorem State.aodFed_beside : agreeBeside [.power] s s.aodFed := .ite (.refl _ s) rfl

theorem agreeBeside.put_power {s t : State} (h : agreeBeside [.power] s t) {n : PowerState} :
    agreeBeside [.power] s { t with power := n } := h.trans rfl

theorem State.idacsRedrive_beside : agreeBeside [.io] s s.idacsRedrive := by
  refine .foldl (fun t n => ?_) _ s
  split <;> rfl

theorem State.idacApply_beside (n : Nat) : agreeBeside [.io] s (s.idacApply n) := by
  unfold State.idacApply
  dsimp only
  split
  · exact .refl _ s
  · rfl

theorem State.matrixGrant_beside (target n : Nat) (park : Option Nat) (q : List MemRequest) :
    agreeBeside [.mem] s (s.matrixGrant target n park q) := by
  induction n generalizing s park q with
  | zero => exact .refl _ s
  | succ n ih =>
    unfold State.matrixGrant
    split
    · exact .refl _ s
    · exact agreeBeside.trans (by exact .ite rfl rfl) (ih ..)

theorem State.presentRequests_beside (q : List MemRequest) : agreeBeside [.mem] s (s.presentRequests q) := by
  refine agreeBeside.trans (agreeBeside.trans (.foldl (fun t r => (by exact rfl)) _ s) (.foldl (fun t r => ?_) _ _))
    (.foldl (fun t n => State.matrixGrant_beside ..) _ _)
  split
  · exact State.decodeError_beside ..
  · exact .refl _ t

theorem State.dmaTrigger_beside (c : Nat) : agreeBeside [.mem] s (s.dmaTrigger c) :=
  .ite (.refl _ s) (.ite rfl (.ite (.refl _ s) rfl))

theorem State.askSetPoint_beside (sp : Nat) : agreeBeside [.mem] s (s.askSetPoint sp) := by
  unfold State.askSetPoint
  split
  · exact State.changeSetPoint_beside ..
  · exact .ite (.refl _ s) (.ite rfl (State.changeSetPoint_beside ..))

theorem agreeBeside.put_mem {s t : State} (h : agreeBeside [.mem] s t) {n : MemState} :
    agreeBeside [.mem] s { t with mem := n } := h.trans rfl

theorem State.burnishPass_beside : agreeBeside [.mem] s s.burnishPass := .ite rfl rfl

theorem State.sceneMatch_beside : agreeBeside [.fabric] s s.sceneMatch := rfl

theorem State.showNode_beside (n : Nat) : agreeBeside [.graver] s (s.showNode n) := rfl

theorem State.dropShadow_beside (x : Shadow) : agreeBeside [.mdap] s (s.dropShadow x) := by
  unfold State.dropShadow
  dsimp only
  split
  · exact .ite rfl rfl
  · rfl

/-- A message leaves on the wire, or waits in the queue of its port. -/
theorem State.send_beside (m : Sent) : agreeBeside [.ports, .wire] s (s.send m) := .ite rfl rfl

theorem State.miso_beside (kind : String) (rest : List Byte) : agreeBeside [.wire] s (s.miso kind rest) :=
  .ite rfl (.refl _ s)

theorem agreeBeside.put_mdap {s t : State} (h : agreeBeside [.mdap, .wire] s t) {n : MdapState} :
    agreeBeside [.mdap, .wire] s { t with mdap := n } := h.trans rfl

theorem State.spiTransaction_beside (frame : List Byte) : agreeBeside [.mdap, .wire] s (s.spiTransaction frame) := by
  have hmiso := fun kind rest => (s.miso_beside kind rest).mono (l' := [.mdap, .wire]) (by decide)
  unfold State.spiTransaction
  split
  · exact .refl _ s
  · refine .ite ?_ (.ite ?_ (hmiso ..))
    · exact .ite (hmiso ..) (.ite (.count (hmiso ..)) (.put_mdap (hmiso ..)))
    · unfold State.spiGet
      split
      · exact hmiso ..
      · exact .ite (.put_mdap (hmiso ..)) (.refl _ s)

theorem State.sendLink_beside (p : Nat) (f : FabFrame) (body : List Byte) :
    agreeBeside [.ports, .fabric, .wire] s (s.sendLink p f body) := by
  have hports : ([.ports, .wire] : List Part) ⊆ [.ports, .fabric, .wire] := by decide
  unfold State.sendLink
  dsimp only
  split
  · exact agreeBeside.trans (by exact rfl) ((State.send_beside ..).mono hports)
  · exact (State.send_beside ..).mono hports

/-! The ports: a frame that leaves a ring is returned in memory. -/

theorem agreeBeside.put_ports {s t : State} (h : agreeBeside [.ports, .mem, .wire] s t) {n : PortsState} :
    agreeBeside [.ports, .mem, .wire] s { t with ports := n } := h.trans rfl

theorem State.txReturn_beside (ring status n : Nat) : agreeBeside [.ports, .mem, .wire] s (s.txReturn ring status n) := by
  have hback := agreeBeside.foldl (l := [.ports, .mem, .wire]) (f := fun u k => u.txWriteBack ring k status none)
    (fun t k => rfl) (List.range n) s
  exact .put_ports (.count (.set hback))

theorem State.launchLate_beside (ring n : Nat) : agreeBeside [.ports, .mem, .wire] s (s.launchLate ring n) :=
  .ite (agreeBeside.trans (.of_nil (by exact rfl)) (State.txReturn_beside ..)) rfl

theorem State.launchesPassed_beside (port : Nat) (lt : Int) :
    agreeBeside [.ports, .mem, .wire] s (s.launchesPassed port lt) := by
  refine .foldl (fun t h => ?_) _ s
  split
  · exact State.launchLate_beside ..
  · exact .refl _ t

theorem State.pauseStop_beside (port : Nat) : agreeBeside [.ports, .mem, .wire] s (s.pauseStop port) := by
  unfold State.pauseStop
  split
  · exact .refl _ s
  · rfl

theorem agreeBeside.drainPort {s t : State} (h : agreeBeside [.ports, .mem, .wire] s t) (port : Nat) :
    agreeBeside [.ports, .mem, .wire] s (t.drainPort port) := h.trans rfl

theorem State.macControl_beside (port dst opcode quanta : Nat) :
    agreeBeside [.ports, .mem, .wire] s (s.macControl port dst opcode quanta) := by
  have hstop := (s.count D.pause_rx port).pauseStop_beside port
  refine .ite (.of_nil rfl) (.ite (.of_nil rfl) (.ite (.ite ?_ (.of_nil rfl)) ?_))
  · have hdrain := hstop.drainPort port
    exact agreeBeside.trans (.count (.refl _ s)) (hdrain.trans (State.launchesPassed_beside ..))
  · exact agreeBeside.trans (.count (.refl _ s)) hstop.put_ports

theorem agreeBeside.put_twin {s t : State} (h : agreeBeside [.twin] s t) {n : TwinState} :
    agreeBeside [.twin] s { t with twin := n } := h.trans rfl

theorem State.laceFrame_beside (f : LaceIn) (type : Nat) (body : List Byte) (act : State → State)
    (hact : agreeBeside [.twin] s (act s)) : agreeBeside [.twin] s (s.laceFrame f type body act) :=
  .ite (.refl _ s) (.ite rfl (.ite hact (.refl _ s)))

end

/-! ### The commands -/

section
variable (s : State)

/-! Those that reach dictionary values and error records alone. -/

theorem execSyntSourceLoss_stays : Stays [] s (execSyntSourceLoss s) := by
  unfold execSyntSourceLoss
  dsimp only
  split
  · exact .ite (stays_next rfl) (stays_next rfl)
  · exact stays_next rfl

theorem execFwTrialConfirm_stays : Stays [] s (execFwTrialConfirm s) := by
  unfold execFwTrialConfirm
  split
  · exact stays_next rfl
  · refine .ite (stays_next ?_) (stays_next rfl)
    exact .set (by exact .ite rfl rfl)

theorem execResyncComplete_stays : Stays [] s (execResyncComplete s) :=
  .ite (stays_next (.refreshHealth (by exact rfl))) (stays_next rfl)

theorem execPfWindowOpen_stays (d : Nat) : Stays [] s (execPfWindowOpen d s) :=
  stays_next (.ite s.closeProof_beside (s.openProof_beside _))

theorem execTxnIndoubtAlarm_stays (id : Nat) : Stays [] s (execTxnIndoubtAlarm id s) := by
  unfold execTxnIndoubtAlarm
  split
  · exact stays_next rfl
  · exact stays_next (.ite (s.error_beside ..) rfl)

theorem execEtchTransformDone_stays (j : Fin 1024) : Stays [] s (execEtchTransformDone j s) := by
  unfold execEtchTransformDone
  refine .ite (stays_next rfl) ?_
  split
  · exact stays_next rfl
  · exact .ite (stays_next rfl) (stays_next (.error (by exact rfl)))

theorem execRateLimitSecondEnd_stays (area index code : Nat) :
    Stays [] s (execRateLimitSecondEnd area index code s) := by
  unfold execRateLimitSecondEnd
  refine .ite (stays_next rfl) ?_
  split
  · exact stays_next rfl
  · exact .ite (stays_next rfl) (stays_next (.raiseRec (by exact rfl)))

/-! Media time and timecode. -/

theorem execMediaStep_stays : Stays [.time, .svc] s (execMediaStep s) := by
  unfold execMediaStep
  split
  · exact stays_next (.error (by exact rfl))
  · exact stays_next rfl

theorem execPtpAnnounce_stays (d : Fin 2) (f : PtpIn) (m : Master) : Stays [.time] s (execPtpAnnounce d f m s) := by
  unfold execPtpAnnounce
  refine .ite (stays_next rfl) (.ite (.ite (stays_next rfl) (stays_next rfl)) ?_)
  split
  · exact stays_next rfl
  · refine .ite (.ite (stays_next ?_) (stays_next ?_)) (stays_next rfl)
    · exact .syntUpdate (.error (.acquire (by exact .ite rfl rfl)))
    · exact .syntUpdate (by exact .ite rfl rfl)

theorem execWclkEdge_stays : Stays [.time] s (execWclkEdge s) := by
  unfold execWclkEdge
  refine .ite (stays_next rfl) (.ite (stays_next ?_) (stays_next ?_))
  · exact agreeBeside.trans (.put_time (by exact .ite rfl rfl)) (State.wclkDivide_beside _)
  · exact agreeBeside.trans (by exact .ite rfl rfl) (State.wclkDivide_beside _)

theorem execEventCapture_stays (pin : Fin 6) (e : PinEdge) : Stays [.time] s (execEventCapture pin e s) :=
  .ite (stays_next rfl) (.ite (stays_next rfl) (.ite (stays_next rfl)
    (stays_next (agreeBeside.trans (by exact rfl) (State.showCaptures_beside ..)))))

theorem execLtcFrame_stays (h mi sec f user : Nat) (start : Int) :
    Stays [.timeline] s (execLtcFrame h mi sec f user start s) := by
  refine .ite (stays_next rfl) (.ite (stays_next rfl) (.ite (.ite (stays_next ?_) (stays_next rfl))
    (.ite (stays_next rfl) (stays_next ?_))))
  · exact agreeBeside.trans (by exact rfl) (State.askReanchor_beside _)
  · exact agreeBeside.trans (by exact rfl) (State.askReanchor_beside _)

/-! Services. -/

theorem execVoiceLoopEnd_stays (v : Fin 64) : Stays [.svc] s (execVoiceLoopEnd v s) := by
  unfold execVoiceLoopEnd
  split
  · exact .ite (stays_next rfl) (stays_next rfl)
  · exact stays_next rfl

theorem execIntegrationWindowEnd_stays : Stays [.svc] s (execIntegrationWindowEnd s) := by
  unfold execIntegrationWindowEnd
  split
  · exact stays_next rfl
  · exact stays_next rfl

/-! Power. -/

theorem execVinRecover_stays : Stays [.power] s (execVinRecover s) := by
  unfold execVinRecover
  dsimp only
  split
  · exact stays_next rfl
  · exact stays_next (.ite rfl rfl)
  · exact stays_next rfl

theorem execSuppliesGood_stays : Stays [.power, .io] s (execSuppliesGood s) := by
  refine .ite (stays_next ?_) (stays_next rfl)
  refine .ite (agreeBeside.trans ?_ ((State.idacsRedrive_beside _).mono (by decide))) ?_ <;> exact .ite rfl rfl

/-! Local audio. -/

theorem execAesRxLost_stays (r : Fin 4) : Stays [.io] s (execAesRxLost r s) :=
  .ite (stays_next (.error (.setSideState (by exact rfl))))
    (stays_next rfl)

theorem execSpClockLost_stays (side : Fin 16) : Stays [.io] s (execSpClockLost side s) :=
  .ite (stays_next (.error (.count (.setSideState (by exact rfl))))) (stays_next rfl)

theorem execSpClockRestore_stays (side : Fin 16) : Stays [.io] s (execSpClockRestore side s) :=
  .ite (stays_next (.setSideState (by exact rfl))) (stays_next rfl)

/-! Memory. -/

theorem execAgePromotion_stays (port : Fin 8) : Stays [.mem] s (execAgePromotion port s) := by
  unfold execAgePromotion
  dsimp only
  split
  · exact stays_next rfl
  · exact stays_next rfl

theorem execPllRampStep_stays (p : Fin 2) : Stays [.mem] s (execPllRampStep p s) := by
  unfold execPllRampStep
  split
  · exact stays_next rfl
  · dsimp only
    split
    · exact stays_next rfl
    · exact stays_next rfl

theorem execBurnishRead_stays (m : MemUnit) (word : Nat) (flips : BitVec 80) (newer lastOfPass : Bool) :
    Stays [.mem] s (execBurnishRead m word flips newer lastOfPass s) := by
  unfold execBurnishRead
  dsimp only
  have hpass : agreeBeside [.mem] s (if m = .dram then s.burnishPass
      else if lastOfPass = true then s.count D.bn_sram_passes else s) :=
    .ite s.burnishPass_beside (.ite rfl (.refl _ s))
  generalize (if m = .dram then s.burnishPass else if lastOfPass = true then s.count D.bn_sram_passes else s) = u
    at hpass ⊢
  split
  · exact stays_next hpass
  · refine stays_next (.ite ?_ (.put_mem ?_)) <;> split
    · exact .count (.error (.count hpass))
    · exact .error (.count hpass)
    · exact .count (.error (.count hpass))
    · exact .error (.count hpass)
  · exact stays_next (.ite (.put_mem (.error (.count hpass))) (.put_mem (.error (.count hpass))))

/-! Twin operation and the fabric. -/

theorem execLaceHeartbeat_stays (f : LaceIn) (h : LaceBeat) (boundary sent : Nat) :
    Stays [.twin] s (execLaceHeartbeat f h boundary sent s) := by
  refine stays_next (s.laceFrame_beside f _ _ _ ?_)
  exact .refreshHealth (.put_twin (.ite (by exact rfl) (by exact rfl)))

theorem execSceneDigestMismatch_stays (port : Fin 6) : Stays [.fabric] s (execSceneDigestMismatch port s) :=
  .ite (stays_next rfl) (stays_next (.error (by exact rfl)))

theorem execInputsAvailable_stays (n : Fin 4096) (k : Nat) : Stays [.graver] s (execInputsAvailable n k s) := by
  unfold execInputsAvailable
  refine .ite (stays_next rfl) (.ite (.ite (stays_next rfl) (stays_next rfl)) ?_)
  split
  · exact stays_next rfl
  · exact .ite (stays_next rfl) (stays_next rfl)

/-! Sessions, the host SPI port and the network ports. -/

theorem execBlobShadowExpire_stays (addr : Nat) : Stays [.mdap] s (execBlobShadowExpire addr s) := by
  unfold execBlobShadowExpire
  split
  · exact stays_next rfl
  · exact stays_next (s.dropShadow_beside _)

theorem execAes67PacketTx_stays (c : Fin 512) (n : Nat) (late : Bool) :
    Stays [.ports, .wire] s (execAes67PacketTx c n late s) := by
  unfold execAes67PacketTx
  refine .ite (stays_next rfl) ?_
  split
  · exact stays_next (agreeBeside.trans (.count (.refl _ s)) (State.send_beside ..))
  · exact stays_next (.ite (.count (.count (.count (State.send_beside ..))) ..) (.count (.count (State.send_beside ..))))

theorem execLinkUp_stays (port : Fin 7) (mismatch : Bool) :
    Stays [.ports, .fabric, .wire] s (execLinkUp port mismatch s) := by
  refine .ite (stays_next rfl) (.ite (stays_next (.of_nil rfl)) (stays_next ?_))
  refine .syntUpdate (.ite ?_ (.of_nil rfl))
  exact agreeBeside.trans (.of_nil (by exact rfl)) (State.sendLink_beside ..)

end


/-- Settles O56: each command of `homeParts` stays in its part, and the other commands have none. -/
theorem commandsStayInTheirPart : Obligations.CommandsStayInTheirPart := by
  unfold Obligations.CommandsStayInTheirPart
  intro c l s t hhome
  suffices hstays : Stays l s (exec c s) from hstays t
  cases c <;> cases hhome
  case syntSourceLoss => exact execSyntSourceLoss_stays s
  case wclkLost => exact .ite (stays_next rfl) (stays_next rfl)
  case ltcLoss => exact .ite (stays_next rfl) (stays_next rfl)
  case clipLoadDone => exact .ite (stays_next rfl) (stays_next rfl)
  case silenceTimeout => exact stays_next rfl
  case idacComplianceOk => exact stays_next rfl
  case refusedExpire => exact .ite (stays_next rfl) (stays_next rfl)
  case sceneDigestUpdate => exact stays_next rfl
  case masterReset => exact stays_next rfl
  case fwTrialConfirm => exact execFwTrialConfirm_stays s
  case apllLock => exact .ite (stays_next rfl) (stays_next rfl)
  case proofWindowClose => exact stays_next s.closeProof_beside
  case syntLock => exact .ite (stays_next rfl) (stays_next rfl)
  case resyncComplete => exact execResyncComplete_stays s
  case pfWindowOpen d => exact execPfWindowOpen_stays s d
  case txnIndoubtAlarm id => exact execTxnIndoubtAlarm_stays s id
  case holdoverLimitExpire => exact .ite (stays_next (.error (by exact rfl))) (stays_next rfl)
  case etchTransformDone j => exact execEtchTransformDone_stays s j
  case idacComplianceLow => exact .ite (stays_next rfl) (stays_next (.error (by exact rfl)))
  case apllUnlock => exact .ite (stays_next (.error (by exact rfl))) (stays_next rfl)
  case rateLimitSecondEnd area index code => exact execRateLimitSecondEnd_stays s area index code
  case txnOutcomeExpire => exact stays_next rfl
  case mediaStep => exact execMediaStep_stays s
  case timebaseTick => exact .ite (stays_next rfl) (stays_next rfl)
  case ptpAnnounce d f m => exact execPtpAnnounce_stays s d f m
  case wclkEdge => exact execWclkEdge_stays s
  case syncTimeout d => exact .ite (stays_next rfl) (stays_next (s.domainTimeout_beside d))
  case eventPulse => exact .ite (stays_next rfl) (.ite (stays_next rfl) (stays_next rfl))
  case eventCapture pin e => exact execEventCapture_stays s pin e
  case ltcFrame h mi sec f user start => exact execLtcFrame_stays s h mi sec f user start
  case ltcFreewheelExpire => exact .ite (stays_next (.error (by exact rfl))) (stays_next rfl)
  case ltcOutFrame => exact .ite (stays_next rfl) (stays_next rfl)
  case triangulationDone => exact stays_next rfl
  case triangulationSwap => exact stays_next s.swapTri_beside
  case etchXfadeComplete => exact .ite (stays_next rfl) (stays_next rfl)
  case stepperTimeout => exact stays_next (.ite rfl rfl)
  case voiceStart v => exact stays_next (s.startVoice_beside _)
  case voiceStop v => exact stays_next (s.stopVoice_beside _)
  case voiceLoopEnd v => exact execVoiceLoopEnd_stays s v
  case ambWindowEnd => exact .ite (stays_next rfl) (.ite (stays_next rfl) (.ite (stays_next rfl) (stays_next rfl)))
  case pfRefCapture => exact stays_next rfl
  case integrationWindowEnd => exact execIntegrationWindowEnd_stays s
  case lsPhase => exact .ite (stays_next rfl) (stays_next rfl)
  case lsLearn => exact stays_next rfl
  case persistAppend ok bytes =>
    exact .ite (stays_next (agreeBeside.trans (by exact rfl) (State.noteAppend_beside ..)))
      (stays_next (.error (by exact rfl)))
  case etchPersist => exact stays_next rfl
  case lifeUpdate => exact stays_next rfl
  case clipPersist => exact stays_next rfl
  case pfRefPersist => exact stays_next rfl
  case showRun v => exact .ite (stays_next (s.showRun_beside _ v)) (stays_next rfl)
  case showSetRate r => exact .ite (stays_next (s.showSetRate_beside _ r)) (stays_next rfl)
  case vinRecover => exact execVinRecover_stays s
  case vioLoss => exact .ite (stays_next (.error (by exact rfl))) (stays_next rfl)
  case thermalRestart => exact .ite (.ite (stays_next rfl) (stays_next rfl)) (stays_next rfl)
  case vaoChange => exact stays_next (agreeBeside.trans (by exact rfl) (State.aodFed_beside _))
  case fwActivate => exact .ite (stays_next (agreeBeside.put_power (by exact .ite rfl rfl))) (stays_next rfl)
  case vioReturn =>
    exact stays_next (.ite (agreeBeside.trans (by exact rfl) ((State.idacsRedrive_beside _).mono (by decide))) rfl)
  case suppliesGood => exact execSuppliesGood_stays s
  case aesRxLost r => exact execAesRxLost_stays s r
  case spClockLost side => exact execSpClockLost_stays s side
  case spClockRestore side => exact execSpClockRestore_stays s side
  case pdmChSync => exact stays_next rfl
  case idacQueueApply n => exact stays_next (s.idacApply_beside _)
  case dmcRequest => exact stays_next (s.presentRequests_beside _)
  case agePromotion port => exact execAgePromotion_stays s port
  case pllRampStep p => exact execPllRampStep_stays s p
  case dmaTrigger c => exact .ite (stays_next rfl) (stays_next (s.dmaTrigger_beside _))
  case setpointChange sp => exact stays_next (s.askSetPoint_beside _)
  case burnishRead m word flips newer lastOfPass => exact execBurnishRead_stays s m word flips newer lastOfPass
  case pauseFrame port dst opcode quanta => exact stays_next (s.macControl_beside ..)
  case outDigest => exact stays_next (s.laceFrame_beside _ _ _ _ rfl)
  case checkpointAck => exact stays_next (s.laceFrame_beside _ _ _ _ (.ite rfl rfl))
  case laceHeartbeat f h boundary sent => exact execLaceHeartbeat_stays s f h boundary sent
  case leavingExpire => exact .ite (stays_next rfl) (stays_next rfl)
  case oldGenerationExpire => exact stays_next rfl
  case treeSwitchA => exact stays_next rfl
  case treeSwitchB => exact stays_next rfl
  case sceneDigestMismatch port => exact execSceneDigestMismatch_stays s port
  case inputsAvailable n k => exact execInputsAvailable_stays s n k
  case blobShadowExpire addr => exact execBlobShadowExpire_stays s addr
  case handshakeTimeout => exact stays_next rfl
  case spiPut frame => exact stays_next (s.spiTransaction_beside _)
  case spiGet => exact stays_next (s.spiTransaction_beside _)
  case spiStatus => exact stays_next (s.miso_beside ..)
  case aes67PacketTx c n late => exact execAes67PacketTx_stays s c n late
  case helloTimer => exact .ite (stays_next (s.sendLink_beside ..)) (stays_next rfl)
  case linkUp port mismatch => exact execLinkUp_stays s port mismatch

end Sys2Proof.Machine
end

section
/-! PROOFS. Network time (chapter 3): the local counter and media time, the domains of PTP, syntonisation, the word
clock, the audio PLL and the pulses of event pins. -/

namespace Sys2Proof.Machine

open Sys2Proof Host

/-! ### Media time (R125, R151, R152, R154) -/

/-- The local counter after a tick (R125). -/
def State.ticked (s : State) : State :=
  { s with time := { s.time with local_ := (s.time.local_ + (s.get D.tb_increment : Int)) % 2 ^ 96 } }

theorem execTimebaseTick_of_own (s : State) (h : s.followsTime = false) :
    execTimebaseTick s = .next { s.ticked with time := { s.ticked.time with
      bridge := slewBridge s.time.bridge (s.ticked.sourceNow - s.sourceNow) (s.get D.media_slew)
        ((s.get D.media_step_threshold : Int) * ns32) } } := by
  simp only [execTimebaseTick, h]
  rfl

theorem State.sourceNow_bridge (s : State) (b : Int) :
    ({ s with time := { s.time with bridge := b } } : State).sourceNow = s.sourceNow := rfl

theorem execMediaStep_of_due (k : Nat) (s : State) (h : s.time.stepAt = some k) :
    execMediaStep s = .next (s.mediaStep k) := by
  simp only [execMediaStep, h]

theorem State.mediaStep_steps (s : State) (k : Nat) :
    (s.mediaStep k).get D.media_steps = (s.get D.media_steps + 1) % 2 ^ 32 := by
  unfold State.mediaStep
  dsimp only
  rw [State.get_error_else _ _ _ _ _ _ _ (by decide), State.get_count_same]
  rfl

theorem execMediaRevert_of_locked (s : State) (hrevert : s.getB D.media_revert = true) (hsrc : s.get D.media_source < 2)
    (hnow : s.get D.media_source_now ≠ s.get D.media_source)
    (hlock : s.get D.dom_state (s.get D.media_source) = domLocked) :
    execMediaRevert s = .next (s.failoverTo (s.get D.media_source)) := by
  simp [execMediaRevert, hrevert, hsrc, hnow, hlock]

/-- Settles O19: a tick adds to the counter and slews the bridge, and a step brings the bridge to 0 at once. -/
theorem mediaTimeEventsComplete : Obligations.MediaTimeEventsComplete := by
  unfold Obligations.MediaTimeEventsComplete
  refine ⟨fun s h => ?tick, fun k s h => ?step, execMediaRevert_of_locked⟩
  case tick => exact ⟨_, execTimebaseTick_of_own s h, rfl, rfl, rfl, rfl⟩
  case step =>
    refine ⟨_, execMediaStep_of_due k s h, ?_, ?_, ?_, s.mediaStep_steps k, ?_, ?_⟩ <;>
      simp [State.mediaStep, State.spoilOutputs]

/-! ### Masters of a domain (R134) -/

section
variable (d : Fin 2) (f : PtpIn) (s : State)

theorem execPtpAnnounce_of_unheard (m : Master)
    (h : s.ptpHears d f = false ∨ s.ptpChooses d { m with port := f.port.val } = false) :
    execPtpAnnounce d f m s = .next s := by
  rcases h with h | h <;> simp [execPtpAnnounce, h]

/-- The first master that is heard is chosen. -/
theorem execPtpAnnounce_of_first (m : Master) (hhear : s.ptpHears d f = true)
    (hchoose : s.ptpChooses d { m with port := f.port.val } = true) (hstate : s.get D.dom_state d ≠ domGrandmaster)
    (hnone : (s.domain d).master = none) :
    execPtpAnnounce d f m s =
      .next (s.modDomain d fun y => { y with master := some { m with port := f.port.val } }) := by
  simp [execPtpAnnounce, hhear, hchoose, hstate, hnone]

variable (m : Master) (seq : Nat) (origin atLand : Int) (hm : (s.domain d).master = some m)
  (hhear : s.ptpHears d f = true) (hport : m.port = f.port.val)
include hm hhear hport

theorem execPtpSync_of_locked (hstate : s.get D.dom_state d = domLocked) :
    execPtpSync d f m.sender seq false origin atLand s =
      .next (s.processSync d f.port (origin * 2 ^ 16) (s.rxStamp d f.port atLand)) := by
  simp [execPtpSync, hm, hhear, hport, hstate, domLocked, domListening, domGrandmaster, domHoldover, domLost]

theorem execPtpSync_of_listening (hstate : s.get D.dom_state d = domListening) :
    let t := (s.acquire d).showMaster d m
    execPtpSync d f m.sender seq false origin atLand s =
      .next (t.processSync d f.port (origin * 2 ^ 16) (t.rxStamp d f.port atLand)) := by
  simp [execPtpSync, hm, hhear, hport, hstate]

end

section
variable (d : Fin 2) (s : State)

theorem execAnnounceTimeout_of_listening (hphase : s.power.phase ≠ .dormant) (hstate : s.get D.dom_state d = domListening)
    (hslave : s.getB D.dom_slave_only d = false) :
    execAnnounceTimeout d s = .next (((s.modDomain d fun y => { y with master := none }).set D.dom_state domGrandmaster
      d).set D.dom_gm_identity s.ownClock d) := by
  simp [execAnnounceTimeout, hphase, hstate, hslave]

theorem execSyncTimeout_of_running (hphase : s.power.phase ≠ .dormant) :
    execSyncTimeout d s = .next (s.domainTimeout d) := if_neg hphase

/-- A locked domain holds over, and has no parent. -/
theorem State.domainTimeout_of_locked (hstate : s.get D.dom_state d = domLocked) :
    s.domainTimeout d = (((s.modDomain d fun y => { y with near := 0, far := 0, syncWait := none }).set D.dom_state
      domHoldover d).set D.dom_parent_port 7 d).syntUpdate := by
  simp [State.domainTimeout, hstate, domLocked, domHoldover]

theorem execHoldoverLimitExpire_of_holdover (hphase : s.power.phase ≠ .dormant)
    (hstate : s.get D.dom_state d = domHoldover) :
    execHoldoverLimitExpire d s = .next ((s.set D.dom_state domLost d).error 0x10 0 0x0302 .degraded) := by
  simp [execHoldoverLimitExpire, hphase, hstate]

theorem execPtpMasterTimer_sync (hphase : s.power.phase ≠ .dormant) (hstate : s.get D.dom_state d = domGrandmaster)
    (hrun : s.get D.runDom d = 1) :
    execPtpMasterTimer d .sync s = .next ((s.sendSync d (s.domain d).seq (s.masterPorts d)).modDomain d fun y =>
      { y with seq := (y.seq + 1) % 65536 }) := by
  have hruns : s.ptpRuns d = true := by simp [State.ptpRuns, hphase, hstate, hrun, domGrandmaster, domDisabled]
  simp [execPtpMasterTimer, hruns]

end

/-! ### Path delays (R133) -/

section
variable (d : Fin 2) (f : PtpIn) (seq who : Nat) (atLand : Int) (s : State) (hhear : s.ptpHears d f = true)
include hhear

theorem execPtpPathDelay_followUp (origin receipt : Int) (hwait : (s.domain d).syncWait = some (seq, receipt)) :
    execPtpPathDelayMessage d f (.followUp seq origin) s =
      .next ((s.modDomain d fun y => { y with syncWait := none }).processSync d f.port (origin * 2 ^ 16) receipt) := by
  simp [execPtpPathDelayMessage, hhear, hwait]

theorem execPtpPathDelay_delayReq (hprofile : s.get D.dom_profile d = 0)
    (hport : (s.masterPorts d).contains f.port.val = true) :
    execPtpPathDelayMessage d f (.delayReq seq who atLand) s =
      .next (s.ptpSend d f.port "PTP_DELAY_RESP" false [d, seq, who, toT80 (s.rxStamp d f.port atLand)]) := by
  simp only [execPtpPathDelayMessage, hhear, hprofile, hport]
  rfl

theorem execPtpPathDelay_delayResp (t1 t2 t3 received : Int) (hprofile : s.get D.dom_profile d = 0)
    (hreq : (s.domain d).delayReq = some (seq, t3)) (hsync : (s.domain d).lastSync = some (t1, t2)) :
    execPtpPathDelayMessage d f (.delayResp seq received) s =
      .next ((s.modDomain d fun y => { y with delayReq := none }).setPath d f.port
        (((t2 - t1) + (received * 2 ^ 16 - t3)) / 2)) := by
  simp [execPtpPathDelayMessage, hhear, hprofile, hreq, hsync]

theorem execPtpPathDelay_pdelayReq (hprofile : s.get D.dom_profile d ≠ 0) :
    execPtpPathDelayMessage d f (.pdelayReq seq who atLand) s =
      .next ((s.ptpSend d f.port "PTP_PDELAY_RESP" true
          [d, seq, who, toT80 (atLand * 2 ^ 16 - ofPs (s.getI D.ts_rx_adjust f.port))]).ptpSend d f.port
        "PTP_PDELAY_RESP_FOLLOW_UP" false
          [d, seq, who, toT80 (s.time.local_ + ofPs (s.getI D.ts_tx_adjust f.port))]) := by
  simp [execPtpPathDelayMessage, hhear, hprofile, State.txLocal]

theorem execPtpPathDelay_pdelayRespFollowUp (p : Nat) (t1 t2 t4 sent : Int)
    (hfind : ((s.domain d).pdelays.find? fun e => e.port == f.port.val && e.seq == seq) =
      some ⟨p, seq, t1, some (t2, t4)⟩) :
    execPtpPathDelayMessage d f (.pdelayRespFollowUp seq sent) s =
      .next ((s.modDomain d fun y => { y with
          pdelays := y.pdelays.filter fun e => !(e.port == f.port.val && e.seq == seq) }).setPath d f.port
        (((t4 - t1) - (sent * 2 ^ 16 - t2)) / 2)) := by
  simp only [execPtpPathDelayMessage, hhear, hfind]
  rfl

end

theorem State.setPath_read (d port : Nat) (delay : Int) (x : Domain) (s : State) (hx : s.time.domains[d]? = some x) :
    (s.setPath d port delay).pathDelay d port = delay ∧
      (s.setPath d port delay).getF D.ts_link_delay port = nsF32 delay := by
  refine ⟨?_, State.getF_setF_same ..⟩
  have hdom := modAt_getElem?_same s.time.domains d
    (fun y => { y with paths := (port, delay) :: y.paths.filter fun e => e.1 != port }) x hx
  simp [State.pathDelay, State.setPath, State.domain, hdom]

/-- Settles O21: each message by the state of its domain, each timeout by what the domain follows. -/
theorem ptpDomainsComplete : Obligations.PtpDomainsComplete := by
  unfold Obligations.PtpDomainsComplete
  refine ⟨⟨fun d f m s => execPtpAnnounce_of_first d f s m, fun d f m s => execPtpAnnounce_of_unheard d f s m,
    fun d f m seq origin atLand s hm hhear hport => ⟨execPtpSync_of_locked d f s m seq origin atLand hm hhear hport,
      execPtpSync_of_listening d f s m seq origin atLand hm hhear hport⟩,
    fun d s hphase hstate hslave => ?announce, fun d s hphase hstate => ?sync, execHoldoverLimitExpire_of_holdover⟩,
    ⟨fun d f seq origin receipt s h => execPtpPathDelay_followUp d f seq s h origin receipt,
    execPtpPathDelay_delayReq, fun d f seq t1 t2 t3 received s h => execPtpPathDelay_delayResp d f seq s h t1 t2 t3 received,
    execPtpPathDelay_pdelayReq,
    fun d f seq p t1 t2 t4 sent s h => execPtpPathDelay_pdelayRespFollowUp d f seq s h p t1 t2 t4 sent,
    State.setPath_read, execPtpMasterTimer_sync⟩⟩
  case announce =>
    refine ⟨_, execAnnounceTimeout_of_listening d s hphase hstate hslave, ?_, State.get_set_same .., rfl⟩
    rw [State.get_set_apart _ _ _ _ _ _ (by decide), State.get_set_same]
  case sync =>
    refine ⟨_, (execSyncTimeout_of_running d s hphase).trans (congrArg _ (s.domainTimeout_of_locked d hstate)), ?_,
      State.get_set_same .., rfl⟩
    rw [State.get_set_apart _ _ _ _ _ _ (by decide), State.get_set_same]

/-! ### Syntonisation (R143–R147) -/

section
variable (s : State)

theorem execSyntSourceLoss_of_none (h : (s.set D.synt_state 4).syntSelect = none) :
    execSyntSourceLoss s = .next ((s.set D.synt_state 4).set D.synt_port 1) := by
  simp only [execSyntSourceLoss, h]

theorem execSyntSourceLoss_of_other (p : Nat) (h : (s.set D.synt_state 4).syntSelect = some p)
    (hp : p + 2 ≠ s.get D.synt_port) :
    execSyntSourceLoss s = .next (((s.set D.synt_state 4).set D.synt_state 2).set D.synt_port (p + 2)) := by
  simp only [execSyntSourceLoss, h, if_neg hp]

theorem execSyntLock_of_acquiring (f : Word32) (h : s.get D.synt_state = 2) :
    execSyntLock f s = .next ((s.set D.synt_state 3).setF D.synt_freq_offset f) := if_pos h

end

/-! ### The word clock and the audio PLL (R157, R171) -/

/-- Division for the APLL moves nothing that the land's edges are read from. -/
theorem State.wclkDivide_only (s : State) : ∃ n a, s.wclkDivide = { s with time := { s.time with
    wclk := { s.time.wclk with divided := n }, apll := a } } := by
  unfold State.wclkDivide
  dsimp only
  split
  · exact ⟨_, _, rfl⟩
  · split <;> exact ⟨_, _, rfl⟩

/-- An edge after another one, with no loss between them: it takes the next index. -/
theorem execWclkEdge_of_known (n : Nat) (e : Int) (s : State) (hn : s.time.wclk.index = some n)
    (he : s.time.wclk.lastEdge = some e) (hlost : s.get D.wclk_state ≠ 2) (hv : s.power.vio = true) :
    ∃ (b p : Int) (x : F32), let valid := wclkValid s.fs (s.time.local_ - e)
      let t : State := { s with time := { s.time with bridge := if valid then s.time.bridge else b, wclk :=
        { s.time.wclk with index := some (n + 1), lastEdge := some s.time.local_, period := p } } }
      execWclkEdge s =
        .next ((t.set D.wclk_state (if valid then 1 else 0)).setF D.wclk_in_freq x).wclkDivide := by
  cases hvalid : wclkValid s.fs (s.time.local_ - e) <;>
    simp only [execWclkEdge, hn, he, hv, hvalid, State.keepMedia, Bool.not_true, Bool.false_eq_true, if_false,
      Option.isSome_some, beq_eq_false_iff_ne.2 hlost, Bool.not_false, Bool.and_true, Bool.and_false, if_true]
  · exact ⟨_, _, _, rfl⟩
  · exact ⟨0, _, _, rfl⟩

theorem execWclkLost_of_out (s : State) (h : s.get D.wclk_state = 1) :
    execWclkLost s = .next (s.set D.wclk_state 2) := if_pos h

theorem execApllLock_of_acquiring (x : Word32) (s : State) (h : s.get D.apll_state = 1) :
    execApllLock x s = .next ((s.setF D.apll_phase_error x).set D.apll_state 2) := if_pos h

theorem execApllUnlock_of_locked (x : Word32) (s : State) (h : s.get D.apll_state = 2) :
    execApllUnlock x s =
      .next ((((s.setF D.apll_phase_error x).set D.apll_state 1).count D.apll_unlocks).error 0x12 0 0x0305 .warn) :=
  if_pos h

/-! ### The pulses of an event pin (R161) -/

section
variable (pin : Fin 6) (s : State) (hl : 1 ≤ s.get D.ev_mode pin) (hh : s.get D.ev_mode pin ≤ 3)
  (hdone : (s.pin pin).done = false)
include hl hh hdone

theorem execEventPulse_skipped : execEventPulse pin true s = .next ((s.modPin pin fun y => { y with
    next := y.next + 1, done := s.get D.ev_mode pin == 1 }).count D.ev_skipped pin) := by
  have hmode : ¬(s.get D.ev_mode pin = 0 ∨ 4 ≤ s.get D.ev_mode pin) := by omega
  simp [execEventPulse, hmode, hdone]

theorem execEventPulse_produced : execEventPulse pin false s = .next ((s.modPin pin fun y => { y with
    next := y.next + 1, done := s.get D.ev_mode pin == 1 }).produce pin (s.pulseLeaves pin (s.pin pin).next)) := by
  have hmode : ¬(s.get D.ev_mode pin = 0 ∨ 4 ≤ s.get D.ev_mode pin) := by omega
  simp [execEventPulse, hmode, hdone]

end

/-- Settles O22: each event by the state it finds; an edge of the word clock divides what follows it. -/
theorem clockEventsComplete : Obligations.ClockEventsComplete := by
  unfold Obligations.ClockEventsComplete
  refine ⟨execSyntSourceLoss_of_none, fun p s => execSyntSourceLoss_of_other s p, fun f s => execSyntLock_of_acquiring s f,
    fun n e s hn he hlost hv => ?edge, execWclkLost_of_out, execApllLock_of_acquiring, execApllUnlock_of_locked,
    fun pin s hl hh hdone => ⟨execEventPulse_skipped pin s hl hh hdone, execEventPulse_produced pin s hl hh hdone⟩⟩
  case edge =>
    obtain ⟨b, p, x, hexec⟩ := execWclkEdge_of_known n e s hn he hlost hv
    dsimp only at hexec
    generalize hu : State.setF _ D.wclk_in_freq x = u at hexec
    obtain ⟨k, a, honly⟩ := u.wclkDivide_only
    rw [honly, ← hu] at hexec
    refine ⟨_, hexec, rfl, rfl, ?_, fun hvalid => ?_, rfl⟩
    · refine (State.get_setF_apart _ 0 0 0 0 x (by decide)).trans ?_
      exact State.get_set_same ..
    · exact if_pos hvalid

end Sys2Proof.Machine
end

section
/-! PROOFS. Show time and timecode (chapter 4): the transport commands at their boundary, and the timecode tracker. -/

namespace Sys2Proof.Machine

open Sys2Proof Host

/-! ### The transport commands (R183, R184) -/

section
variable (s : State) (hint : s.showInternal = true)
include hint

theorem execShowRun_of_internal (v : Bool) : execShowRun v s = .next (s.showRun s.blockNow v) := if_pos hint

theorem execShowSetRate_of_internal (r : Nat) : execShowSetRate r s = .next (s.showSetRate s.blockNow r) := if_pos hint

theorem execShowJump_of_internal (j : Int) :
    execShowJump j s = .next ((s.showJump s.blockNow j).showMoved (s.showTime s.blockNow)) := if_pos hint

end

section
variable (s : State) (k : Nat)

theorem State.showRun_pause (h : s.showRuns = true) : s.showRun k false =
    (s.keepValue D.show_resume_rate (s.get D.show_map_rate)).setMap (s.showTime k) (s.get D.show_map_nt) 0 := by
  simp [State.showRun, h]

theorem State.showRun_resume (h : s.showRuns = false) : s.showRun k true =
    s.setMap (s.getI D.show_map_st) (s.tBoundary k) (s.get D.show_resume_rate) := by
  simp [State.showRun, h]

theorem State.showSetRate_of_still (r : Nat) (h : s.showRuns = false) :
    s.showSetRate k r = s.keepValue D.show_resume_rate r := by
  simp [State.showSetRate, h]

theorem State.showSetRate_of_running (r : Nat) (h : s.showRuns = true) (hr : s.get D.show_map_rate ≠ r) :
    s.showSetRate k r = (s.setMap (s.showTime k) (s.tBoundary k) r).keepValue D.show_resume_rate r := by
  simp [State.showSetRate, h, hr]

variable (under : Int)

theorem State.showMoved_of_near
    (h : ((s.showTime s.blockNow - under).natAbs : Int) ≤ s.get D.show_jump_threshold) : s.showMoved under = s := by
  have hjump : ¬(s.get D.show_jump_threshold : Int) < (s.showTime s.blockNow - under).natAbs := not_lt.2 h
  simp only [State.showMoved, hjump, decide_false, Bool.false_eq_true, if_false]

/-- A jump beyond the threshold is counted, and its entries act. -/
theorem State.showMoved_of_far
    (h : (s.get D.show_jump_threshold : Int) < (s.showTime s.blockNow - under).natAbs) :
    let t := ((s.count D.show_jumps).showEntries s.blockNow under (s.showTime s.blockNow) true).settleChanges s.blockNow
    s.showMoved under = { t with timeline := { t.timeline with last := s.showTime s.blockNow } } := by
  simp only [State.showMoved, h, decide_true, if_true]

end

/-! ### The timecode tracker (R186, R187) -/

theorem State.get_modLtc (s : State) (g : LtcTracker → LtcTracker) (o : Obj) (i : Nat) :
    (s.modLtc g).get o i = s.get o i := rfl

/-- The first frame that the tracker takes is shown, and the next ones are compared with it. -/
theorem execLtcFrame_of_off (h mi sec f user : Nat) (start : Int) (s : State) (hv : s.power.vio = true)
    (hstate : s.get D.ltc_state = 0) : ∃ (g : LtcTracker → LtcTracker) (l : List (Int × Int)),
      execLtcFrame h mi sec f user start s = .next (((((s.modLtc g).set D.ltc_last
        (bcd h * 2 ^ 24 + bcd mi * 2 ^ 16 + bcd sec * 2 ^ 8 + bcd f)).set D.ltc_user_bits user).modLtc fun y => { y with
          run := 1, frames := l }).set D.ltc_state 1) := by
  simp only [execLtcFrame, hv, hstate, Bool.not_true, Bool.false_eq_true, decide_true, Bool.true_or, if_true, if_false]
  exact ⟨_, _, rfl⟩

theorem execLtcLoss_of_locked (s : State) (h : s.get D.ltc_state = 2) : execLtcLoss s = .next (s.set D.ltc_state 3) :=
  if_pos h

theorem execLtcFreewheelExpire_of_freewheel (s : State) (h : s.get D.ltc_state = 3) :
    execLtcFreewheelExpire s = .next (((s.set D.ltc_state 4).modLtc fun x => { x with
      pause := s.get D.show_source == 0 || x.pause, frames := [], run := 0 }).error 0x18 0 0x0307 .warn) := if_pos h

section
variable (s : State) (k : Nat) (hrole : s.role ≤ 1) (hsrc : s.get D.show_source = 0) (hm : s.mirrored = false)
include hrole hsrc hm

/-- A re-anchor that is not published is made at the boundary. -/
theorem State.ltcDue_of_reanchor (ha : s.timeline.ltc.reanchor = true) (hp : s.timeline.ltc.pause = false)
    (hpub : s.getB D.ltc_publish = false) :
    let t := s.modLtc fun x => { x with reanchor := false, pause := false, acked := false }
    s.ltcDue k = t.setMap (t.ltcMap k).1 (t.ltcMap k).2.1 (t.ltcMap k).2.2 := by
  simp [State.ltcDue, State.modLtc, ha, hp, hpub, hsrc, hm, Nat.not_lt.2 hrole]

/-- A pause acts as show_run of 0. -/
theorem State.ltcDue_of_pause (ha : s.timeline.ltc.reanchor = false) (hp : s.timeline.ltc.pause = true) :
    s.ltcDue k = (s.modLtc fun x => { x with
      reanchor := false, pause := false, acked := false }).showRun k false := by
  simp [State.ltcDue, State.modLtc, ha, hp, hsrc, hm, Nat.not_lt.2 hrole]

end

/-! ### LTC_OUT (R189) -/

/-- The first frame that a time has not passed, counted up from 0. -/
theorem ltcNext_of_nonneg (rate : Nat) (z : Int) (hz : 0 ≤ z) : ltcNext rate z =
    ((if rate = 2 ∨ rate = 3 then (z.toNat * 30000 + 1000999999999) / 1001000000000
      else (z.toNat * ltcBase rate + 999999999) / 1000000000 : Nat) : Int) := by
  unfold ltcNext
  by_cases h : rate = 2 ∨ rate = 3
  · rw [if_pos (by simpa using h), if_pos h]
    omega
  · rw [if_neg (by simpa using h), if_neg h]
    have hprod : (0 : Int) ≤ z * ltcBase rate := mul_nonneg hz (Int.natCast_nonneg _)
    have hcast : ((z.toNat * ltcBase rate : Nat) : Int) = z * ltcBase rate := by
      rw [Nat.cast_mul, Int.toNat_of_nonneg hz]
    rw [Int.neg_mul]
    omega

theorem execLtcOutFrame_of_running (s : State) (hon : s.getB D.ltc_out_enable = true) (hrun : s.showRuns = true)
    (hz : 0 ≤ s.showTime s.blockNow + s.getI D.ltc_out_offset) :
    let rate := s.get D.ltc_out_rate
    let q := ltcFields rate (ltcNext rate (s.showTime s.blockNow + s.getI D.ltc_out_offset)).toNat
    execLtcOutFrame s = .next { s with timeline := { s.timeline with
      ltcOut := some (ltcWord rate q.1 q.2.1 q.2.2.1 q.2.2.2 (s.get D.ltc_out_user_bits)) } } := by
  have hn : ¬ltcNext (s.get D.ltc_out_rate) (s.showTime s.blockNow + s.getI D.ltc_out_offset) < 0 := by
    rw [ltcNext_of_nonneg _ _ hz]
    omega
  simp [execLtcOutFrame, hon, hrun, hn]

/-- Settles O24: each transport command and each event of the tracker by the branch it takes. -/
theorem showAndTimecodeComplete : Obligations.ShowAndTimecodeComplete := by
  unfold Obligations.ShowAndTimecodeComplete
  refine ⟨⟨fun s hint hrun => ?pause, fun s hint hrun => ?resume, fun j s hint => ?jump, fun r s hint hrun => ?still,
    fun r s hint hrun hr => ?rate⟩, fun h mi sec f user start s hv hstate => ?frame, execLtcLoss_of_locked,
    fun s h hsrc => ?expire, fun s hon hrun hz => ?out, fun s ha hp hrole hsrc hpub hm => ?anchor,
    fun s ha hp hrole hsrc hm => ?lost⟩
  case pause => exact (execShowRun_of_internal s hint false).trans (congrArg _ (s.showRun_pause _ hrun))
  case resume => exact (execShowRun_of_internal s hint true).trans (congrArg _ (s.showRun_resume _ hrun))
  case jump =>
    exact ⟨fun hfar => (execShowJump_of_internal s hint j).trans (congrArg _ (State.showMoved_of_near _ _ hfar)),
      fun hfar => ⟨_, (execShowJump_of_internal s hint j).trans (congrArg _ (State.showMoved_of_far _ _ hfar)), rfl, rfl⟩⟩
  case still => exact (execShowSetRate_of_internal s hint r).trans (congrArg _ (s.showSetRate_of_still _ r hrun))
  case rate => exact (execShowSetRate_of_internal s hint r).trans (congrArg _ (s.showSetRate_of_running _ r hrun hr))
  case frame =>
    obtain ⟨g, l, hexec⟩ := execLtcFrame_of_off h mi sec f user start s hv hstate
    refine ⟨_, hexec, State.get_set_same .., rfl, ?_, ?_, rfl⟩ <;>
      simp (disch := decide) only [State.get_set_apart, State.get_set_same, State.get_modLtc]
  case expire =>
    refine ⟨_, execLtcFreewheelExpire_of_freewheel s h, ?_, ?_, ?_, ?_⟩
    · simp [State.modLtc, hsrc]
    · rw [State.get_error_else _ _ _ _ _ _ _ (by decide)]
      exact State.get_set_same ..
    · simp [State.modLtc]
    · simp [State.modLtc]
  case out =>
    intro rate t q
    have hq : ltcFields rate (ltcNext rate (s.showTime s.blockNow + s.getI D.ltc_out_offset)).toNat = q := by
      rw [ltcNext_of_nonneg _ _ hz]
      rfl
    refine (execLtcOutFrame_of_running s hon hrun hz).trans ?_
    simp only [hq, rate]
  case anchor =>
    exact congrArg (fun t : State => Outcome.next (t.showMoved (s.showTime s.blockNow)))
      (s.ltcDue_of_reanchor _ hrole hsrc hm ha hp hpub)
  case lost =>
    exact congrArg (fun t : State => Outcome.next (t.showMoved (s.showTime s.blockNow)))
      (s.ltcDue_of_pause _ hrole hsrc hm ha hp)

end Sys2Proof.Machine
end

section
/-! PROOFS. Firmware, power states and monitors (chapters 16 and 17): each event by the branch it takes. -/

namespace Sys2Proof.Machine

open Sys2Proof Host

/-! ### The image that boots (R611–R614) -/

section
variable (s : State) (hphase : s.power.phase = .boot) (hnf : s.err.nfault = false)
include hphase hnf

theorem execFirmwareLoaded_of_strap (okB : Bool) (hstrap : s.get D.boot_strap ≠ 0) : execFirmwareLoaded true okB s =
    .next (({ s with power := { s.power with phase := .recovery } } : State).set D.fw_running 2) := by
  simp [execFirmwareLoaded, hphase, hnf, hstrap]

/-- Without an image on trial the bootloader takes the boot slot, and the other one when that is not good. -/
theorem execFirmwareLoaded_of_noTrial (okA okB : Bool) (hstrap : s.get D.boot_strap = 0) (htrial : s.trialSlot = none)
    (hfresh : s.power.trialFresh = false) (hslot : s.power.bootSlot = 0) : execFirmwareLoaded okA okB s =
      (if okA then .next (s.bootSlotNow 0)
       else if okB then .next ((s.error 0x7F 0 0x0C02 .warn).bootSlotNow 1)
       else .next { s with power := { s.power with phase := .halted }, err := { s.err with nfault := true } }) := by
  have hcount : s.countAttempt = s := by simp [State.countAttempt, hfresh, htrial]
  have hroll : s.rollBack = s := by simp only [State.rollBack, htrial]
  simp [execFirmwareLoaded, hphase, hnf, hstrap, hcount, hroll, htrial, hslot]

end

theorem execPersistReplayDone_of_idacs (s : State) (hphase : s.power.phase = .starting) (hidacs : s.power.aod.idacs ≠ []) :
    let u := ((s.bindAll (s.instancesWhere D.node_kind (· == 1))).1.placeImages 0).1.startUp
    execPersistReplayDone s = .next { u with power := { u.power with phase := .running, startedUp := true } } := by
  simp only [execPersistReplayDone, hphase, List.isEmpty_eq_false_iff.2 hidacs, if_true, Bool.false_eq_true, if_false]

/-- The slot on trial is one of the two. -/
theorem State.lt_two_of_trialSlot {s : State} {k : Nat} (h : s.trialSlot = some k) : k < 2 :=
  List.mem_range.1 (List.mem_of_find?_eq_some h)

theorem slotAddr_ne_other {k : Nat} (hk : k < 2) : D.fw_slot_state.addr (1 - k) ≠ D.fw_slot_state.addr k := by
  obtain rfl | rfl : k = 0 ∨ k = 1 := by omega
  · decide
  · decide

/-- The other slot, when it holds an image, becomes its predecessor. -/
def State.otherSlotOld (s : State) (k : Nat) : State :=
  if s.get D.fw_slot_state (1 - k) = 0 then s else s.set D.fw_slot_state 6 (1 - k)

theorem State.get_otherSlotOld (s : State) (k : Nat) (o : Obj) (i : Nat)
    (h : D.fw_slot_state.addr (1 - k) ≠ o.addr i) (hfixed : o.dflt.fixed = true) : (s.otherSlotOld k).get o i = s.get o i := by
  unfold State.otherSlotOld
  split
  · rfl
  · exact State.get_set_else _ _ _ _ _ _ ⟨h, hfixed⟩

theorem execFwTrialConfirm_of_trial (k : Nat) (s : State) (htrial : s.trialSlot = some k)
    (hup : s.power.startedUp = true) (hrun : s.get D.fw_running = k) (hrole : s.role ≤ 2) :
    let t := ((s.set D.fw_slot_state 5 k).set D.fw_attempts 0).otherSlotOld k
    execFwTrialConfirm s = .next (t.set D.rollback_fuses
      (max (t.get D.rollback_fuses) (min 64 (frameField (s.blob D.fw_image k).data 12 1)))) := by
  simp only [execFwTrialConfirm, htrial, hup, hrun, hrole, decide_true, Bool.and_self, if_true]
  rfl

/-- Settles O13: the boot by what the two images and the strap are, the trial by the slots that it writes. -/
theorem firmwareEventsComplete : Obligations.FirmwareEventsComplete := by
  unfold Obligations.FirmwareEventsComplete
  refine ⟨fun okA okB s hphase hnf hstrap htrial hfresh hslot => ?image,
    fun okB s hphase hnf hstrap => execFirmwareLoaded_of_strap s hphase hnf okB hstrap,
    fun s hphase hidacs => execPersistReplayDone_of_idacs s hphase hidacs,
    fun k s hk => ⟨if_pos hk, rfl⟩, fun k s htrial hup hrun hrole => ?trial⟩
  case image =>
    have hload := execFirmwareLoaded_of_noTrial s hphase hnf okA okB hstrap htrial hfresh hslot
    exact ⟨fun hA => hload.trans (by rw [hA]; rfl), fun hA hB => hload.trans (by rw [hA, hB]; rfl),
      fun hA hB => hload.trans (by rw [hA, hB]; rfl)⟩
  case trial =>
    have hk := State.lt_two_of_trialSlot htrial
    have hfuses : ∀ i, D.fw_slot_state.addr i ≠ D.rollback_fuses.addr 0 := fun i =>
      addr_ne_of_apart (by decide) i 0
    have hattempts : ∀ i, D.fw_slot_state.addr i ≠ D.fw_attempts.addr 0 := fun i =>
      addr_ne_of_apart (by decide) i 0
    refine ⟨_, execFwTrialConfirm_of_trial k s htrial hup hrun hrole, ?_, ?_, ?_, ?_⟩
    · rw [State.get_set_same, State.get_otherSlotOld _ _ _ _ (hfuses _) rfl]
      simp (disch := decide) only [State.get_set_apart]
    · rw [State.get_set_apart _ _ _ _ _ _ (by decide), State.get_otherSlotOld _ _ _ _ (slotAddr_ne_other hk) rfl,
        State.get_set_apart _ _ _ _ _ _ (by decide), State.get_set_same]
    · rw [State.get_set_apart _ _ _ _ _ _ (by decide), State.get_otherSlotOld _ _ _ _ (hattempts _) rfl, State.get_set_same]
    · unfold State.otherSlotOld
      split <;> rfl

/-! ### Power states (R616–R625) -/

theorem execPwRequest_of_idle (v : Fin 3) (s : State) (hfree : v.val ≠ 2 ∨ (s.urgent = false ∧ s.role ≤ 1))
    (hbusy : s.powerBusy = false) : execPwRequest v s =
      .next (({ s with power := { s.power with held := none, asked := true } } : State).transition s.blockNow v.val) := by
  have hguard : (v.val = 2 && (s.urgent || decide (1 < s.role))) = false := by
    obtain hv | ⟨hu, hr⟩ := hfree
    · simp [hv]
    · simp [hu, hr]
  have hbusy' : (s.pwRequest v.val).powerBusy = false := hbusy
  simp only [execPwRequest, hguard, State.powerHeld, hbusy', Bool.false_eq_true, if_false]
  rfl

theorem execPwRequest_of_busy (v : Fin 3) (s : State) (hv : v.val ≠ 2) (hbusy : s.powerBusy = true) :
    execPwRequest v s = .next { s with power := { s.power with held := some v.val, asked := true } } := by
  have hbusy' : (s.pwRequest v.val).powerBusy = true := hbusy
  simp only [execPwRequest, hv, State.powerHeld, hbusy', decide_false, Bool.false_and, Bool.false_eq_true, if_false, if_true]
  rfl

/-- Entry to QUIET: the proof window closes, rendering stops at the last presented block, and the outputs are spoiled. -/
theorem State.powerEntry_of_quiet (s : State) (k : Nat) (hon : s.get D.pw_state = 0) :
    let t := (s.closeProof.stopRender k).spoilOutputs fun _ => true
    s.powerEntry k 1 = ({ t with power := { t.power with entry := some (1, k) } } : State).set D.pw_state 2 := by
  simp only [State.powerEntry, hon, if_true]

theorem execPowerEntry_of_quiet (s : State) (hentry : s.power.entry = none) (hon : s.get D.pw_state = 0) :
    execPowerEntry false s = .next (s.powerEntry s.blockNow 1) := by
  simp [execPowerEntry, hentry, hon]

theorem execPowerEntry_of_dormant (s : State) (hentry : s.power.entry = none) :
    execPowerEntry true s = .next (s.powerEntry s.blockNow 2) := by
  simp [execPowerEntry, hentry]

theorem execDormantReached_none (s : State) (b : Nat) (hentry : s.power.entry = some (2, b)) :
    execDormantReached none s =
      match s.power.early with
      | some w => .next ((s.dormantNow.showWake w).startWake w)
      | none => .next s.dormantNow := by
  unfold execDormantReached
  rw [hentry]
  dsimp only
  cases s.power.early <;> rfl

theorem execAodAlarm_of_enabled (n : Fin 4) (s : State) (hen : s.getB D.aod_alarm_enable n.val = true) :
    execAodAlarm n s = .next (s.wakeUp (.alarm n)) := if_pos hen

theorem State.wakeUp_of_dormant (s : State) (w : Wake) (h : s.power.phase = .dormant) : s.wakeUp w = s.startWake w :=
  if_pos h

/-- A wake event during the entry to DORMANT is kept. -/
theorem State.wakeUp_of_entry (s : State) (w : Wake) (b : Nat) (hphase : s.power.phase ≠ .dormant)
    (hentry : s.power.entry = some (2, b)) (hearly : s.power.early = none) :
    s.wakeUp w = { s with power := { s.power with early := some w } } := by
  simp [State.wakeUp, hphase, hentry, hearly]

theorem State.showWake_power (s : State) (w : Wake) : (s.showWake w).power = s.power := by
  unfold State.showWake
  split
  · rfl
  · split <;> rfl
  · rfl

/-- The state in which the wake ends, before its three values are shown. -/
def State.woken (s : State) : State :=
  (if s.sourceUsable (s.get D.media_source) then
    ({ (s.set D.media_source_now (s.get D.media_source)) with time := { s.time with bridge := 0 } } : State)
   else s).countDormant.armPassed

theorem execWakeComplete_of_waking (k : Nat) (s : State) (h : s.power.phase = .waking) :
    let u := ((s.woken.set D.pw_state 0).set D.pw_wake_block k).setB D.pw_return_pending
      (s.woken.get D.pw_wake_cause == 1)
    execWakeComplete k s = .next { u with
      power := { u.power with phase := .running, asked := false, saved := false, held := none }
      time := { u.time with wakeJoin := false } } := by
  have hnot : ¬(s.power.phase != .waking) = true := by
    rw [h]
    decide
  exact if_neg hnot

/-- The wake changes neither the memory, the cores nor the error records. -/
theorem State.woken_frame (s : State) : s.woken.mem = s.mem ∧ s.woken.graver = s.graver ∧ s.woken.err = s.err := by
  unfold State.woken
  split <;> exact ⟨rfl, rfl, rfl⟩

theorem execAodSlew_of_far (trim : Int) (s : State)
    (h : 1000000 * ns32 < ((s.media - s.time.local_ - s.power.aod.offset).natAbs : Int)) :
    execAodSlew trim s = .next (({ s with power := { s.power with aod :=
      { s.power.aod with offset := s.media - s.time.local_ } } } : State).setI D.aod_trim trim) := by
  simp only [execAodSlew, h, decide_true, if_true, add_sub_cancel]

/-- The step of a slew is a free value between nothing and the whole difference. -/
theorem natAbs_boundFree_le (v : Nat) (d : Int) :
    (if d < 0 then boundFree v d 0 else boundFree v 0 d).natAbs ≤ d.natAbs := by
  unfold boundFree
  split
  next h =>
    have := Int.emod_nonneg (v : Int) (b := 0 - d + 1) (by omega)
    have := Int.emod_lt_of_pos (v : Int) (b := 0 - d + 1) (by omega)
    omega
  next h =>
    have := Int.emod_nonneg (v : Int) (b := d - 0 + 1) (by omega)
    have := Int.emod_lt_of_pos (v : Int) (b := d - 0 + 1) (by omega)
    omega

theorem execAodSlew_of_near (trim : Int) (s : State)
    (h : ((s.media - s.time.local_ - s.power.aod.offset).natAbs : Int) ≤ 1000000 * ns32) :
    let d := s.media - s.time.local_ - s.power.aod.offset
    let step := if d < 0 then boundFree s.freeHere d 0 else boundFree s.freeHere 0 d
    execAodSlew trim s = .next (({ s with power := { s.power with aod :=
      { s.power.aod with offset := s.power.aod.offset + step } } } : State).pass.setI D.aod_trim trim) := by
  simp only [execAodSlew, not_lt.2 h, decide_false, Bool.false_eq_true, if_false]

/-- Settles O14: a request by whether a transition runs, a wake event by the phase it finds. -/
theorem powerStateEventsComplete : Obligations.PowerStateEventsComplete := by
  unfold Obligations.PowerStateEventsComplete
  refine ⟨⟨fun v s hv hbusy => execPwRequest_of_idle v s (.inl hv) hbusy, execPwRequest_of_busy,
      fun s hu hr hbusy => execPwRequest_of_idle 2 s (.inr ⟨hu, hr⟩) hbusy, fun s hentry hon => ?quiet,
      execPowerEntry_of_dormant, fun b s hentry hearly => ?dormant, fun b w s hentry hearly => ?early⟩,
    fun n s hphase hen => ?alarm, fun n b s hphase hen hentry hearly => ?alarmKept, fun w s hphase hw => ?wake,
    fun k s hphase => ?complete, execAodSlew_of_far, fun trim s h => ?slew⟩
  case quiet =>
    have hexec := execPowerEntry_of_quiet s hentry hon
    rw [s.powerEntry_of_quiet _ hon] at hexec
    refine ⟨_, hexec, State.get_set_same .., ?_, ?_, rfl, rfl⟩
    · exact (State.get_set_apart _ _ _ _ _ _ (by decide)).trans (State.get_set_same s ..)
    · exact congrArg (fun p => some (s.blockNow + p - 1)) (State.get_set_apart s _ _ _ _ _ (by decide))
  case dormant =>
    exact ⟨(execDormantReached_none s b hentry).trans (by rw [hearly]), rfl, rfl, rfl, rfl, rfl⟩
  case early => exact (execDormantReached_none s b hentry).trans (by rw [hearly])
  case alarm => exact (execAodAlarm_of_enabled n s hen).trans (congrArg _ (s.wakeUp_of_dormant _ hphase))
  case alarmKept => exact (execAodAlarm_of_enabled n s hen).trans (congrArg _ (s.wakeUp_of_entry _ b hphase hentry hearly))
  case wake =>
    exact (if_pos hw).trans (congrArg _ (State.wakeUp_of_dormant _ w (by rw [State.showWake_power]; exact hphase)))
  case complete =>
    obtain ⟨hmem, hgraver, herr⟩ := s.woken_frame
    refine ⟨_, execWakeComplete_of_waking k s hphase, rfl, rfl, rfl, rfl, rfl, ?_, ?_, ?_, hmem, hgraver, herr⟩
    · exact (State.get_setB_apart _ _ _ _ _ _ (by decide)).trans ((State.get_set_apart _ _ _ _ _ _ (by decide)).trans
        (State.get_set_same s.woken ..))
    · exact (State.get_setB_apart _ _ _ _ _ _ (by decide)).trans (State.get_set_same ..)
    · refine (State.getB_setB_same ..).trans ?_
      exact congrArg (· == 1) ((State.get_setB_apart _ _ _ _ _ _ (by decide)).trans
        ((State.get_set_apart _ _ _ _ _ _ (by decide)).trans (State.get_set_apart _ _ _ _ _ _ (by decide)))).symm
  case slew =>
    exact ⟨_, _, execAodSlew_of_near trim s h, rfl, natAbs_boundFree_le .., rfl⟩

/-! ### Error records and histograms (R637–R654) -/

theorem execErrorHandle_of_next (ok : Bool) (r : ErrRec) (s : State) (h : nextRec s.err.queue = some r) :
    execErrorHandle ok s = .next (s.handleRec r ok) := by
  simp only [execErrorHandle, h]

theorem execRateLimitSecondEnd_of_held (area index code : Nat) (h : HeldKey) (s : State) (hcode : code ≠ 0x0C05)
    (hheld : (s.err.held.find? fun x => x.area == area && x.index == index && x.code == code) = some h) :
    let rest := s.err.held.filter fun x => !(x.area == area && x.index == index && x.code == code)
    execRateLimitSecondEnd area index code s =
      if h.held = 0 then .next { s with err := { s.err with held := rest } }
      else .next (({ s with err := { s.err with held := rest ++ [{ h with held := 0 }] } } : State).raiseRec
        area index code h.sev (min 255 (h.held - 1))) := by
  simp only [execRateLimitSecondEnd, hcode, if_false, hheld]

/-- Settles O16: the second that ends raises what it held, if anything was held. -/
theorem monitorEventsComplete : Obligations.MonitorEventsComplete := by
  unfold Obligations.MonitorEventsComplete
  refine ⟨execErrorHandle_of_next, fun area index code h s hcode hheld => ?second, fun u s => ⟨rfl, rfl⟩⟩
  case second =>
    have hend := execRateLimitSecondEnd_of_held area index code h s hcode hheld
    exact ⟨fun h0 => hend.trans (if_pos h0), fun h0 => hend.trans (if_neg (Nat.ne_of_gt h0))⟩

end Sys2Proof.Machine
end

section
/-! PROOFS. Rendering, the outputs, venue services and Proof (chapters 5 to 10): each event by the branch it takes. -/

namespace Sys2Proof.Machine

open Sys2Proof Host

/-! ### Triangulation and the return of an output -/

theorem execTriangulationDone_of_open (j : TriJob) (l : List TriJob) (s : State) (h : s.render.triJobs = j :: l)
    (hr : j.result = none) : execTriangulationDone s = .next { s with render := { s.render with
      triJobs := { j with result := some (triangulate j.points j.span) } :: l } } := by
  simp only [execTriangulationDone, h, computeTri, hr]

theorem execTriangulationSwap_of_done (j : TriJob) (l : List TriJob) (r : Triangulation) (s : State)
    (h : s.render.triJobs = j :: l) (hr : j.result = some r) : execTriangulationSwap s =
      .next (({ s with render := { s.render with tri := r, triJobs := l } } : State).count D.tri_generation) := by
  simp only [execTriangulationSwap, State.swapTri, h, hr]

theorem State.clearFail_of_failed (s : State) (j : Nat) (h : (s.mark j).failed = true) :
    (s.clearFail j).get D.pf_runs j = 0 ∧ (s.clearFail j).render.heal = s.render.heal.filter (· != j) := by
  rw [State.clearFail, if_pos h]
  exact ⟨State.get_set_same .., rfl⟩

/-! ### The slot and its deadlines (R253, R290, R318) -/

theorem execRenderSlot_of_free (missing : List (Fin 16)) (ohm pairErr : List (Nat × Nat)) (s : State)
    (hawaits : s.awaitsState = false) (hslot : s.render.slot = none) (hrun : s.get D.runState12 ≠ 0)
    (hstop : s.power.stopAt = none) :
    execRenderSlot missing ohm pairErr s = .next (s.renderSlot (missing.map (·.val)) ohm pairErr) := by
  simp [execRenderSlot, hawaits, hslot, hrun, hstop]

theorem execWeltDeadline_of_noSlot (j : Fin 1024) (s : State) (h : s.render.slot = none) :
    let t := ((s.count D.welt_misses).error 0x39 j.val 0x0502 .warn).localEvent
    execWeltDeadline j s =
      .next { t with render := { t.render with weltHeld := (s.blockNow + 1, j.val) :: t.render.weltHeld } } := by
  simp only [execWeltDeadline, h, Option.bind_none]

/-- The counter of a missed deadline is no value of the error area. -/
theorem outMisses_addr (j : Fin 1024) : D.out_misses.addr j.val 0 / 2 ^ 24 ≠ 0x7C ∧ D.out_misses.dflt.fixed = true := by
  refine ⟨?_, rfl⟩
  simp only [Obj.addr, D.out_misses]
  omega

/-! ### Etcher sets and the gain stepper (R341–R360) -/

section
variable (j : Fin 1024) (e : EtchSet) (s : State) (hstate : s.get D.etch_pending_state j.val = 2)
  (hset : etchSetOf s.render.etchSets j.val = some e)
include hstate hset

theorem execEtchTransformDone_of_set : execEtchTransformDone j s =
    if e.taps.all F32.isFinite && decide (e.taps.length ≤ s.get D.etch_max_taps j.val) then
      .next (s.set D.etch_pending_state 3 j.val)
    else .next ((s.set D.etch_pending_state 4 j.val).error 0x41 j.val 0x0602 .warn) := by
  simp only [execEtchTransformDone, hstate, hset, bne_self_eq_false, Bool.false_eq_true, if_false]

theorem execEtchTransformDone_of_finite (hall : ∀ x ∈ e.taps, F32.isFinite x = true)
    (hlen : e.taps.length ≤ s.get D.etch_max_taps j.val) :
    execEtchTransformDone j s = .next (s.set D.etch_pending_state 3 j.val) := by
  rw [execEtchTransformDone_of_set j e s hstate hset, if_pos]
  rw [List.all_eq_true.2 hall, decide_eq_true hlen]
  rfl

theorem execEtchTransformDone_of_infinite (hsome : ∃ x ∈ e.taps, F32.isFinite x = false) :
    execEtchTransformDone j s = .next ((s.set D.etch_pending_state 4 j.val).error 0x41 j.val 0x0602 .warn) := by
  have hall : e.taps.all F32.isFinite = false := by simpa using hsome
  rw [execEtchTransformDone_of_set j e s hstate hset, hall]
  rfl

end

/-- A chain after its crossfade. -/
def Chain.settled (j : Nat) (c : Chain) : Chain := if c.out = j then { c with outgoing := none } else c

theorem Chain.settled_outgoing {j : Nat} {c : Chain} (h : (c.settled j).out = j) : (c.settled j).outgoing = none := by
  unfold Chain.settled at h ⊢
  split
  · rfl
  next hne => exact absurd (by rwa [if_neg hne] at h) hne

theorem execEtchXfadeComplete_of_fading (j : Fin 1024) (s : State) (h : s.get D.etch_pending_state j.val = 5) :
    let t := ((s.set D.etch_pending_state 0 j.val).set D.etch_pending_taps 0 j.val).set D.etch_xfade_left 0 j.val
    execEtchXfadeComplete j s =
      .next { t with render := { t.render with chains := s.render.chains.map (Chain.settled j.val) } } := by
  simp only [execEtchXfadeComplete, h, bne_self_eq_false, Bool.false_eq_true, if_false]
  rfl

/-- A chain whose output's gain stepper waits starts its ramp. -/
def Chain.rampFrom (j ramp : Nat) (c : Chain) : Chain :=
  if c.out = j then
    match c.step with
    | .waiting _ => { c with step := .ramping c.gain 0 ramp }
    | _ => c
  else c

theorem Chain.rampFrom_of_waiting {j ramp n : Nat} {c : Chain} (hj : c.out = j) (hw : c.step = .waiting n) :
    c.rampFrom j ramp = { c with step := .ramping c.gain 0 ramp } := by
  simp only [Chain.rampFrom, hj, if_true, hw]

theorem execStepperTimeout_of_waiting (j : Fin 1024) (c : Chain) (n : Nat) (s : State) (hc : c ∈ s.render.chains)
    (hj : c.out = j.val) (hw : c.step = .waiting n) : execStepperTimeout j s =
      .next (({ s with render := { s.render with
        chains := s.render.chains.map (Chain.rampFrom j.val (s.get D.out_step_ramp j.val)) } } : State).set
          D.out_step_state 2 j.val) := by
  refine congrArg Outcome.next (if_pos (List.any_eq_true.2 ⟨{ c with step := .ramping c.gain 0 (s.get D.out_step_ramp j.val) },
    List.mem_map.2 ⟨c, hc, Chain.rampFrom_of_waiting hj hw⟩, ?_⟩))
  simp [hj]

/-- What is kept of a BLOB in its store is the BLOB. -/
theorem State.blobAt_storeBlob (s : State) (o : Obj) (i : Nat) :
    blobAt (s.storeBlob o i).nand.store (o.addr i) = s.blob o i := by
  have haddr : (s.blob o i).addr = o.addr i := blobAt_addr ..
  conv_lhs => rw [← haddr]
  exact blobAt_blobPut_same ..

/-- Settles O26: the jobs of the triangulation, the deadlines, and the chain that an event finds in its state. -/
theorem renderEventsComplete : Obligations.RenderEventsComplete := by
  unfold Obligations.RenderEventsComplete
  refine ⟨⟨execTriangulationDone_of_open, fun j l r s h hr => ?swap, fun j s h => ⟨rfl, s.clearFail_of_failed j.val h⟩,
      execRenderSlot_of_free⟩, ⟨fun j s h => ?welt, fun j s => ?chain⟩,
    fun j e s hstate hset => ⟨execEtchTransformDone_of_finite j e s hstate hset,
      execEtchTransformDone_of_infinite j e s hstate hset⟩, fun j s h => ?xfade, fun j s => ?persist,
    fun j c n s hc hj hw => ?stepper⟩
  case swap => exact ⟨_, execTriangulationSwap_of_done j l r s h hr, rfl, rfl, State.get_count_same .., rfl⟩
  case welt =>
    refine ⟨_, execWeltDeadline_of_noSlot j s h, congrArg (_ :: ·) (by simp), ?_, rfl, by simp [State.localEvent]⟩
    exact (State.get_error_else _ _ _ _ _ _ _ (by decide)).trans (State.get_count_same ..)
  case chain =>
    refine ⟨_, rfl, congrArg (_ :: ·) (by simp), ?_, rfl, by simp [State.localEvent]⟩
    exact (State.get_error_else _ _ _ _ _ _ _ (outMisses_addr j)).trans (State.get_count_same ..)
  case xfade =>
    refine ⟨_, execEtchXfadeComplete_of_fading j s h, ?_, ?_, State.get_set_same .., fun c hc => ?_, rfl⟩
    · exact (State.get_set_apart _ _ _ _ _ _ (by decide)).trans
        ((State.get_set_apart _ _ _ _ _ _ (by decide)).trans (State.get_set_same s ..))
    · exact (State.get_set_apart _ _ _ _ _ _ (by decide)).trans (State.get_set_same ..)
    · obtain ⟨d, -, rfl⟩ := List.mem_map.1 hc
      exact Chain.settled_outgoing
  case persist =>
    have hstore : ∀ (t : State) (v : Nat), (t.set D.etch_persist_bytes v).nand.store = t.nand.store := fun _ _ => rfl
    exact ⟨_, rfl, (congrArg (blobAt · _) (hstore ..)).trans (s.blobAt_storeBlob ..), rfl, rfl⟩
  case stepper =>
    exact ⟨_, execStepperTimeout_of_waiting j c n s hc hj hw, State.get_set_same ..,
      List.mem_map.2 ⟨c, hc, Chain.rampFrom_of_waiting hj hw⟩, rfl⟩

/-! ### Clips, voices and ambient windows (R387–R415) -/

section
variable (v : Fin 64) (s : State)

theorem execVoiceStart_of_clip (hlen : s.clipLen (s.get D.voice_clip v.val) ≠ 0)
    (hrate : s.get D.clip_rate (s.get D.voice_clip v.val) = s.get D.render_rate) (hbind : s.get D.voice_bind v.val = 0) :
    execVoiceStart v s = .next (s.putVoice ⟨v.val, s.get D.voice_clip v.val, 0, 0, .none_, false⟩ 1) := by
  simp [execVoiceStart, State.startVoice, hlen, hrate, hbind]

theorem execVoiceStart_of_empty (hlen : s.clipLen (s.get D.voice_clip v.val) = 0) :
    execVoiceStart v s = .next ((s.stopVoice v.val).error 0x52 v.val 0x0704 .warn) := by
  simp [execVoiceStart, State.startVoice, hlen]

theorem execVoiceStop_of_playing (x : VoiceRun) (hx : voiceOf s.svc.voices v.val = some x)
    (hst : s.get D.voice_state v.val = 1) : execVoiceStop v s = .next (s.putVoice { x with fade := .stop } 1) := by
  simp [execVoiceStop, State.stopVoice, hx, hst]

theorem execVoiceLoopEnd_of_ended (x : VoiceRun) (hx : voiceOf s.svc.voices v.val = some x) (hend : x.ended = true) :
    execVoiceLoopEnd v s = .next (s.idleVoice v.val) := by
  simp [execVoiceLoopEnd, hx, hend]

end

theorem voiceOf_filter_ne (l : List VoiceRun) (v : Nat) : voiceOf (l.filter fun y => y.voice != v) v = none := by
  induction l with
  | nil => rfl
  | cons y l ih =>
    by_cases h : y.voice = v
    · simpa [List.filter_cons, h] using ih
    · simpa [List.filter_cons, voiceOf, h] using ih

section
variable (n : Fin 256) (s : State) (hown : s.ownTrackers.contains n.val = true)
include hown

theorem execAmbWindowEnd_of_spoiled (h : (trackerOf s.svc.trackers n.val).spoiled = true) :
    execAmbWindowEnd n s = .next (s.putTracker { trackerOf s.svc.trackers n.val with
      sum := F32.zero, samples := 0, blocks := 0, spoiled := false }) := by
  simp only [execAmbWindowEnd, hown, h, Bool.not_true, Bool.false_eq_true, if_false, Bool.true_or, if_true]

/-- A window that counts puts its level before the levels kept; its estimate is their percentile, and a gain that has
moved far enough waits to be published. -/
theorem execAmbWindowEnd_of_counted (h : (trackerOf s.svc.trackers n.val).spoiled = false)
    (hsamples : (trackerOf s.svc.trackers n.val).samples ≠ 0) :
    let x := trackerOf s.svc.trackers n.val
    let levels := (level10 (F32.div x.sum (F32.ofInt x.samples)) :: x.levels).take (s.get D.amb_windows n.val)
    ∃ (y : Tracker) (publish : List (Nat × Nat)),
      let t := (s.putTracker y).setF D.amb_estimate (percentile levels (s.get D.amb_percentile n.val)) n.val
      execAmbWindowEnd n s = .next { t with svc := { t.svc with publish := publish } } := by
  simp only [execAmbWindowEnd, hown, h, hsamples, Bool.not_true, Bool.false_eq_true, if_false, Bool.false_or, decide_false]
  split <;> split
  all_goals exact ⟨_, _, rfl⟩

end

/-- Settles O27: a voice by its clip and state, an ambient window by whether it counts. -/
theorem serviceEventsComplete : Obligations.ServiceEventsComplete := by
  unfold Obligations.ServiceEventsComplete
  refine ⟨execVoiceStart_of_clip, execVoiceStart_of_empty, fun v x s => execVoiceStop_of_playing v s x,
    fun v x s hx hend => ?idle, fun n s h => ?load, fun n s => ⟨rfl, s.blobAt_storeBlob ..⟩,
    fun n s hown => execAmbWindowEnd_of_spoiled n s hown, fun n s => ?amb, fun j s => rfl⟩
  case idle =>
    refine ⟨_, execVoiceLoopEnd_of_ended v s x hx hend, ?_, State.get_set_same .., voiceOf_filter_ne .., rfl⟩
    exact (State.get_set_apart _ _ _ _ _ _ (by decide)).trans (State.get_set_same ..)
  case load => exact if_pos (by simp [h])
  case amb =>
    intro x hown hspoiled hsamples
    obtain ⟨y, publish, hexec⟩ := execAmbWindowEnd_of_counted n s hown hspoiled hsamples
    exact ⟨_, hexec, State.getF_setF_same (s.putTracker y) .., rfl⟩

/-! ### Proof (R416–R434) -/

theorem State.heldValues_of_alone (s : State) (h : Held) (more : State → List (Nat × Nat)) (f : State → State)
    (hm : s.mirrored = false) : s.heldValues h more f = f s := by
  simp [State.heldValues, hm]

/-- An output that was spoiled in the window has no verdict. -/
theorem State.proofVerdict_of_spoiled (s : State) (j : Nat) (w : DoneWindow) (hdone : s.svc.done = some w)
    (hprobe : s.get D.pf_probe j < 32) (hspoiled : ((w.outs.find? (·.out = j)).getD ⟨j, 0, true⟩).spoiled = true) :
    s.proofVerdict j = ((s.set D.pf_window_block w.endBlock j).tryCapture j [] F32.zero false).applyVerdict j 2 := by
  simp only [State.proofVerdict, hdone, Nat.not_le.2 hprobe, if_false, hspoiled, Bool.true_or, if_true]

/-- A period in which the line was spoiled ends without a measurement. -/
theorem State.linePeriod_of_spoiled (s : State) (l : Nat) (hsup : s.supervised.contains l = true)
    (hspoiled : (lineOf s.svc.lines l).spoiled = true) :
    let x := lineOf s.svc.lines l
    s.linePeriod l = (s.putLine { line := l, learn := x.learn, run := x.run, lastShort := x.lastShort }).set
      D.ls_state 4 l := by
  simp only [State.linePeriod, hsup, hspoiled, Bool.not_true, Bool.false_eq_true, if_false, Bool.true_or, if_true]

theorem State.openProof_of_closed (s : State) (e : Nat) (hon : s.get D.pw_state = 0) (hw : s.get D.pf_window_state ≠ 1) :
    s.openProof e = (s.set D.pf_window_state 1).set D.pf_window_end e := by
  simp [State.openProof, hon, hw]

/-- Settles O28: a verdict and a line period act at once on a unit that is not mirrored. -/
theorem proofEventsComplete : Obligations.ProofEventsComplete := by
  unfold Obligations.ProofEventsComplete
  have hverdict : ∀ (j : Fin 1024) (s : State), s.mirrored = false → execProofVerdict j s = .next (s.proofVerdict j.val) :=
    fun j s hm => congrArg _ (s.heldValues_of_alone _ _ _ hm)
  have hperiod : ∀ (l : Fin 16) (s : State), s.mirrored = false → execLsPeriodEnd l s = .next (s.linePeriod l.val) :=
    fun l s hm => congrArg _ (s.heldValues_of_alone _ _ _ hm)
  refine ⟨fun w s h => ?closed, hverdict, fun j w s hm hdone hprobe hspoiled => ?spoiled,
    fun j s => ⟨_, rfl, State.get_set_same .., rfl, rfl⟩, fun j s => ⟨rfl, s.blobAt_storeBlob ..⟩, fun s => rfl,
    fun d s hd hon hw => ?opens, fun s => rfl, fun l s hsup => if_pos hsup, fun l s => ?line, hperiod, fun l s => rfl⟩
  case closed => simp [exec, execIntegrationWindowEnd, h]
  case spoiled => exact (hverdict j s hm).trans (congrArg _ (s.proofVerdict_of_spoiled _ w hdone hprobe hspoiled))
  case opens => exact congrArg _ ((if_neg hd).trans (s.openProof_of_closed _ hon hw))
  case line =>
    intro x hm hsup hspoiled
    exact (hperiod l s hm).trans (congrArg _ (s.linePeriod_of_spoiled _ hsup hspoiled))

end Sys2Proof.Machine
end

section
/-! PROOFS. Local audio I/O (chapter 11): each event by the state of its side. -/

namespace Sys2Proof.Machine

open Sys2Proof Host

/-! ### The serial ports (R435–R441) -/

/-- A side that is its own master has no rate converter. -/
theorem State.sideAsrc_of_master {s : State} {n : Nat} (h : s.sideSlave n = false) : s.sideAsrc n = false := by
  simp only [State.sideSlave, Bool.or_eq_false_iff, decide_eq_false_iff_not] at h
  obtain ⟨hn, hclock⟩ := h
  simp [State.sideAsrc, Nat.not_le.1 hn, hclock]

theorem execSpFrameRx_of_master (port : Fin 8) (at_ : Int) (words : List Nat) (s : State) :
    let side := 2 * port.val + 1
    s.portsLive = true → s.sideState side = 2 → s.sideSlave side = false →
    execSpFrameRx port at_ words s =
      .next ((s.putSide { sideOf s.io.sides side with mask := some (s.get D.sp_mask side), present := true }).placeSlots
        side (s.frameIndex 0 at_).1 (s.get D.sp_word_bits side) 0 words) := by
  intro side hlive hstate hslave
  simp [execSpFrameRx, hlive, side, hstate, hslave, State.sideAsrc_of_master hslave]

theorem execSpFrameTx_of_master (port : Fin 8) (n : Nat) (s : State) :
    let side := 2 * port.val
    s.sideState side = 2 → s.get D.apll_state ≠ 0 → s.sideSlave side = false → s.outputsMuted = false →
    let bits := s.get D.sp_word_bits side
    execSpFrameTx port n s = .next (s.putSide { sideOf s.io.sides side with
      last := some n, mask := some (s.get D.sp_mask side), present := true
      frame := (List.range (s.get D.sp_slots side)).map fun k =>
        if (s.get D.sp_mask side).testBit k then
          some (ofSigned bits (convertSample bits (s.destSample ⟨1, port.val * 32 + k⟩ n).1).1)
        else if s.get D.sp_tx_idle side = 1 then none else some 0 }) := by
  intro side hstate hclock hslave hmuted
  have hasrc := State.sideAsrc_of_master hslave
  cases hlast : (sideOf s.io.sides side).last with
  | none => simp [execSpFrameTx, ← show side = 2 * port.val from rfl, hstate, hclock, hslave, hmuted, hasrc, hlast]
  | some m => simp [execSpFrameTx, ← show side = 2 * port.val from rfl, hstate, hclock, hslave, hmuted, hasrc, hlast]

theorem State.setSideState_of_serial (s : State) (n v : Nat) (h : n < 16) : s.setSideState n v = s.set D.sp_state v n :=
  if_pos h

theorem State.setSideState_of_aes (s : State) (r v : Nat) : s.setSideState (16 + r) v = s.set D.aes_rx_state v r := by
  rw [State.setSideState, if_neg (by omega), Nat.add_sub_cancel_left]

theorem execSpClockLost_of_slave (side : Fin 16) (s : State) (hstate : s.sideState side.val = 2)
    (hslave : s.sideSlave side.val = true) : execSpClockLost side s = .next ((((s.putSide {
      sideOf s.io.sides side.val with ramp := s.sideAsrc side.val, last := none, far := 0 }).setSideState
        side.val 3).count D.sp_lost side.val).error 0x48 side.val 0x0902 .warn) := by
  simp [execSpClockLost, hstate, hslave]

theorem execSpClockRestore_of_lost (side : Fin 16) (s : State) (hstate : s.sideState side.val = 3) :
    execSpClockRestore side s =
      .next ((s.putSide { side := side.val, start := s.blockNow, present := true }).set D.sp_state 1 side.val) := by
  rw [← State.setSideState_of_serial _ _ _ side.isLt]
  exact if_pos hstate

/-! ### AES3 (R444–R452) -/

theorem execAesRxLost_of_locked (r : Fin 4) (s : State) (hstate : s.sideState (16 + r.val) = 2) :
    execAesRxLost r s = .next (((s.putSide { sideOf s.io.sides (16 + r.val) with
      ramp := true, last := none, far := 0 }).set D.aes_rx_state 3 r.val).error 0x49 r.val 0x0902 .warn) := by
  simp only [execAesRxLost, hstate, State.setSideState_of_aes]
  rfl

/-- The state of a receiver does not depend on its error counters. -/
theorem State.sideState_count_parity (s : State) (r n : Nat) :
    (s.count D.aes_rx_parity_errors r n).sideState (16 + r) = s.sideState (16 + r) := by
  simp only [State.sideState, Nat.not_lt.2 (Nat.le_add_right 16 r), if_false]
  exact State.get_count_apart _ _ _ _ _ (by decide)

/-- What a subframe pair that starts no block adds to what a receiver keeps. -/
def AesRx.heard (x : AesRx) (at_ : Int) (good : Nat) (a b : AesSub) : AesRx :=
  { x with
    edge := some at_, good := good, count := x.count + 1
    csA := (a.c :: x.csA).take 192, csB := (b.c :: x.csB).take 192
    userA := (a.u :: x.userA).take 192, userB := (b.u :: x.userB).take 192 }

theorem execAesFrameRx_of_locked (r : Fin 4) (at_ : Int) (a b : AesSub) (s u : State) (hlive : s.portsLive = true)
    (hstate : s.sideState (16 + r.val) = 2) (hasrc : s.sideAsrc (16 + r.val) = false)
    (htrack : s.trackFrame (16 + r.val) (s.frameIndex 0 at_).1 (s.frameIndex 0 at_).2 = (u, false))
    (hu : u.sideState (16 + r.val) = 2) :
    let u := u.count D.aes_rx_parity_errors r.val ((!a.even).toNat + (!b.even).toNat)
    let x := aesRxOf u.io.aesRx r.val
    let y := x.heard at_ (if u.aesOnRate r.val x at_ then x.good + 1 else 0) a b
    let v : State := { u with io := { u.io with aesRx := y :: u.io.aesRx.filter fun z => z.rx != r.val } }
    execAesFrameRx r at_ false a b s =
      .next ((v.placeSub r.val 0 (s.frameIndex 0 at_).1 a).placeSub r.val 1 (s.frameIndex 0 at_).1 b) := by
  intro u' x y v
  have hv : v.sideState (16 + r.val) = 2 := (u.sideState_count_parity r.val _).trans hu
  have hnot : ¬(false || v.sideState (16 + r.val) = 3 || false) = true := by simp [hv]
  simp only [execAesFrameRx, hlive, hstate, hasrc, htrack, Bool.not_true, Bool.false_or, Bool.false_eq_true, if_false]
  exact if_neg hnot

/-- What a transmitter sends at frame `n`: silence while its outputs are muted. -/
theorem execAesFrameTx_of_enabled (k : Fin 4) (n : Nat) (s : State) (hen : s.getB D.aes_tx_enable k.val = true)
    (hclock : s.get D.apll_state ≠ 0) :
    ∃ y : AesTx, execAesFrameTx k n s = .next { s with io := { s.io with
        aesTx := y :: s.io.aesTx.filter fun z => z.tx != k.val } } ∧
      y.z = (((n : Int) - s.get D.aes_tx_block_phase k.val) % 192 == 0) ∧
      (s.outputsMuted = true → y.a.audio = 0 ∧ y.b.audio = 0) := by
  refine ⟨_, if_neg (by simp [hen, hclock]), rfl, fun hmuted => ?_⟩
  simp [evenSub, hmuted]

theorem execIdacQueueApply_of_queued (l : Fin 16) (at_ v : Nat) (rest : List (Nat × Nat)) (s : State)
    (h : (idacOf s.io.idac l.val).queue = (at_, v) :: rest) : execIdacQueueApply l s =
      .next ((s.putIdac { idacOf s.io.idac l.val with queue := rest }).idacTarget l.val v) := by
  simp only [execIdacQueueApply, State.idacApply, h]

/-- Settles O29: a frame by what its side is, a current output by its queue and its land. -/
theorem localIoEventsComplete : Obligations.LocalIoEventsComplete := by
  unfold Obligations.LocalIoEventsComplete
  refine ⟨⟨execSpFrameRx_of_master, execSpFrameTx_of_master, execSpClockLost_of_slave, execSpClockRestore_of_lost⟩,
    ⟨fun r at_ a b s u => execAesFrameRx_of_locked r at_ a b s u, execAesRxLost_of_locked, execAesFrameTx_of_enabled,
      fun c s => rfl⟩, execIdacQueueApply_of_queued, fun l s h => if_neg h, fun l s => rfl⟩

end Sys2Proof.Machine
end

section
/-! PROOFS. Network ports (chapter 12): each event by the branch it takes. -/

namespace Sys2Proof.Machine

open Sys2Proof Host

/-! ### Links, PAUSE and launches (R136, R165–R167, R474, R475) -/

theorem execLinkUp_of_mismatch (port : Fin 7) (s : State) (hrun : s.get D.runPort port.val = 1)
    (hspeed : s.get D.port_speed port.val = 2) : execLinkUp port true s = .next (s.set D.port_link 2 port.val) := by
  simp [execLinkUp, hrun, hspeed]

/-- Port 6 is no fabric port: its link comes up alone. -/
theorem execLinkUp_six (s : State) (hrun : s.get D.runPort 6 = 1) : execLinkUp 6 false s =
    .next ((s.set D.port_link 1 6).set D.ts_resolution (if s.get D.port_speed 6 = 0 then 250 else 800) 6).syntUpdate := by
  simp [execLinkUp, hrun]

theorem State.macControl_of_other (s : State) (port dst opcode quanta : Nat) (h : opcode ≠ 1) :
    s.macControl port dst opcode quanta = s.count D.rx_mac_control port := if_pos h

theorem State.get_port_pause_count (s : State) (port : Nat) :
    (s.count D.pause_rx port).get D.port_pause port = s.get D.port_pause port :=
  State.get_count_apart _ _ _ _ _ (by decide)

theorem State.macControl_of_ignored (s : State) (port dst quanta : Nat) (h : s.get D.port_pause port = 0) :
    s.macControl port dst 1 quanta = s.count D.pause_rx port := by
  simp [State.macControl, s.get_port_pause_count, h]

theorem State.pauseStop_of_none (s : State) (port : Nat) (h : s.ports.pauses = []) : s.pauseStop port = s := by
  simp [State.pauseStop, h]

/-- The first PAUSE frame of a port at 10GBASE-R. -/
theorem State.macControl_of_first (s : State) (port quanta : Nat) (hpause : s.get D.port_pause port = 1)
    (hspeed : s.get D.port_speed port = 1) (hnone : s.ports.pauses = []) (hq : 0 < quanta) :
    s.macControl port 0x0180C2000001 1 quanta =
      { s.count D.pause_rx port with ports := { s.ports with
        pauses := [⟨port, s.time.local_, s.time.local_ + quanta * (512 * ns32)⟩] } } := by
  have hstop : (s.count D.pause_rx port).pauseStop port = s.count D.pause_rx port :=
    State.pauseStop_of_none _ _ hnone
  have hspeed' : (s.count D.pause_rx port).get D.port_speed port = 1 :=
    (State.get_count_apart _ _ _ _ _ (by decide)).trans hspeed
  simp only [State.macControl, s.get_port_pause_count, hpause, hspeed', hstop, Nat.ne_of_gt hq, beq_self_eq_true,
    Bool.true_or, Bool.not_true, Bool.or_false, ne_eq, not_true_eq_false, if_false, Nat.one_ne_zero, decide_false,
    Bool.false_eq_true, State.count_ports, State.count_time, hnone]

theorem State.pauseStop_ports (s : State) (port : Nat) : (s.pauseStop port).ports.launches = s.ports.launches ∧
    (s.pauseStop port).ports.queued = s.ports.queued := by
  unfold State.pauseStop
  split
  · exact ⟨rfl, rfl⟩
  · exact ⟨rfl, rfl⟩

/-- Nothing waits at a port, so nothing leaves it. -/
theorem State.pauseEnds_of_idle (s : State) (port : Nat) (hl : s.ports.launches = []) (hq : s.ports.queued = []) :
    s.pauseEnds port = s := by
  have hdrain : s.drainPort port = s := by
    simp only [State.drainPort, hq, List.filter_nil, List.reverse_nil, List.nil_append]
    rw [← hq]
  rw [State.pauseEnds, hdrain, State.launchesPassed, hl]
  rfl

/-- No launch of the port has passed at `lt`. -/
theorem State.launchesPassed_of_none (s : State) (port : Nat) (lt : Int)
    (h : ∀ x ∈ s.ports.launches, s.get D.ring_port x.ring = port → x.late = false →
      s.ringTime x.ring lt ≤ x.at_ * ns32 + s.launchTol port) : s.launchesPassed port lt = s := by
  have hdue : (s.ports.launches.filter fun x => s.get D.ring_port x.ring == port && !x.late &&
      decide (x.at_ * ns32 + s.launchTol port < s.ringTime x.ring lt)) = [] := by
    refine List.filter_eq_nil_iff.2 fun x hx hdue => ?_
    simp only [Bool.and_eq_true, beq_iff_eq, Bool.not_eq_true', decide_eq_true_eq] at hdue
    obtain ⟨⟨hport, hlate⟩, hpassed⟩ := hdue
    exact absurd hpassed (not_lt.2 (h x hx hport hlate))
  rw [State.launchesPassed, hdue]
  rfl

theorem execLaunch_of_ahead (r : Fin 24) (n : Nat) (l : List (Nat × Nat)) (s : State) :
    let ring := 40 + r.val
    s.txHead ring = .frame n l → descBit (s.ringDesc ring 0) 91 = true → s.launchOf ring = none →
    let now := s.ringTime ring s.time.local_
    let at_ := extendStamp (bits (s.ringDesc ring 0) 96 32) (now / ns32).toNat
    now + 10000 * ns32 ≤ at_ * ns32 →
    execLaunch r s = .next { s with ports := { s.ports with launches := ⟨ring, at_, false⟩ :: s.ports.launches } } := by
  intro ring hhead hbit hnone now at_ hahead
  simp only [execLaunch, ← show ring = 40 + r.val from rfl, hhead, hbit, hnone, Bool.not_true, Option.isSome_none,
    Bool.false_or, Bool.false_eq_true, if_false]
  exact if_neg (not_lt.2 hahead)

/-! ### Frames received (R476–R480) -/

/-- What becomes of a frame by its fate. -/
def State.meets (s : State) (port : Nat) (f : List Byte) (lt : Int) : Fate → State
  | .service x => s.serve port f x
  | .ring ring filter => s.deliverRing ring filter f (lt - ofPs (s.getI D.ts_rx_adjust port))
  | .unclaimed => s.count D.rx_unclaimed port
  | .dropped => s

section
variable (port : Fin 7) (f : List Byte) (lt : Int) (s : State) (hphase : s.power.phase ≠ .dormant)
  (hlink : s.get D.port_link port.val = 1)
include hphase hlink

theorem execFrameReceive_of_fault (ok : Bool) (h : ok = false ∨ f.length < 60) :
    execFrameReceive port ok f lt s = .next (s.count D.rx_fcs_errors port.val) := by
  have hbad : (!ok || decide (f.length < 60)) = true := by
    obtain rfl | h := h
    · rfl
    · simp [h]
  simp [execFrameReceive, hphase, hlink, hbad]

theorem execFrameReceive_of_oversize (h : 1518 < f.length) :
    execFrameReceive port true f lt s = .next (s.count D.rx_oversize port.val) := by
  have hshort : ¬f.length < 60 := by omega
  simp [execFrameReceive, hphase, hlink, hshort, h]

/-- A frame that is no MAC control and no frame of the fabric goes where it is classified. -/
theorem execFrameReceive_of_data (hshort : 60 ≤ f.length) (hlong : f.length ≤ 1518) (hmac : frameField f 12 2 ≠ 0x8808)
    (hfab : frameField f 12 2 ≠ 0x88B6) (fate : Fate)
    (hclass : (s.count D.rx_frames port.val).classify port.val f = (fate, none)) :
    let t := s.count D.rx_frames port.val
    execFrameReceive port true f lt s = .next (t.meets port.val f lt fate) := by
  simp only [execFrameReceive, hphase, hlink, Nat.not_lt.2 hshort, Nat.not_lt.2 hlong, hmac, hfab, hclass, if_false,
    ne_eq, not_true_eq_false, Bool.not_true, decide_false, Bool.or_self, Bool.false_and, Bool.false_eq_true]
  cases fate <;> rfl

end

/-! ### Frames sent (R482, R483, R496–R508) -/

theorem State.txSend_plain (s : State) (p ring n : Nat) (l : List (Nat × Nat)) (lt : Int)
    (hgood : ∀ b ∈ l, s.badIn b.1 b.2 = false) (hnone : s.launchOf ring = none)
    (hstamp : descBit (s.ringDesc ring 0) 92 = false) :
    let t := (List.range n).foldl (fun u k => u.txWriteBack ring k 0 none) s
    let t := (t.ringPass ring n).count D.tx_frames p
    s.txSend p ring n l lt = { t with
      wire := ⟨.port p, "FRAME", (s.txBytes l).map fun b => b.toNat⟩ :: t.wire
      ports := { t.ports with
        launches := t.ports.launches.filter fun h => h.ring != ring
        lastRing := put t.ports.lastRing p ring } } := by
  have hany : (l.any fun b => s.badIn b.1 b.2) = false := by simpa using hgood
  simp only [State.txSend, hany, hnone, hstamp, Option.any_none, Bool.false_eq_true, if_false, ite_self]

theorem execTxFrameDone_of_frame (port : Fin 7) (ring n : Nat) (l : List (Nat × Nat)) (lt : Int) (s : State)
    (hlink : s.get D.port_link port.val = 1) (hheld : s.heldBack port.val lt = false)
    (hlaunch : ∀ h ∈ s.ports.launches, s.get D.ring_port h.ring = port.val → h.late = false →
      s.ringTime h.ring lt ≤ h.at_ * ns32 + s.launchTol port.val)
    (hpick : s.txPick port.val lt = some ring) (hhead : s.txHead ring = .frame n l) :
    execTxFrameDone port lt s = .next (s.txSend port.val ring n l lt) := by
  simp only [execTxFrameDone, hlink, hheld, s.launchesPassed_of_none port.val lt hlaunch, hpick, hhead, ne_eq,
    not_true_eq_false, decide_false, Bool.or_self, Bool.false_eq_true, if_false]

section
variable (c : Fin 512) (n : Nat) (late : Bool) (s : State) (hkind : s.get D.es_kind c.val = 1)
  (hn : n % s.packetSamples (s.get D.es_ptime c.val) = 0) (hlink : s.get D.port_link (s.get D.es_port c.val) = 1)
  (hpers : s.get D.port_personality (s.get D.es_port c.val) ≠ 0) (hdrive : s.twin.drive = true)
include hkind hn hlink hpers hdrive

theorem execAes67PacketTx_of_unresolved (hmac : s.macOf (s.get D.es_port c.val) (s.get D.es_addr c.val) = none) :
    execAes67PacketTx c n late s = .next ((s.count D.es_unresolved c.val).send
      ⟨.port (s.get D.es_port c.val), "ARP_REQUEST", [s.get D.es_addr c.val]⟩) := by
  simp [execAes67PacketTx, hkind, hn, hlink, hpers, hdrive, hmac]

theorem execAes67PacketTx_of_resolved (mac : Nat)
    (hmac : s.macOf (s.get D.es_port c.val) (s.get D.es_addr c.val) = some mac) :
    let data := (List.range (s.packetSamples (s.get D.es_ptime c.val))).flatMap fun i =>
      (List.range (s.get D.es_channels c.val)).flatMap fun ch =>
        pcmBytes (if s.get D.es_encoding c.val = 0 then 2 else 3) (s.destSample ⟨3, s.get D.es_first_ch c.val + ch⟩ (n + i)).1
    let t := ((s.send ⟨.port (s.get D.es_port c.val), "AES67", [mac, s.get D.es_addr c.val,
        s.get D.es_udp_port c.val, s.get D.es_vid c.val, s.get D.es_pcp c.val, s.get D.es_dscp c.val,
        s.get D.es_ttl c.val] ++ (s.rtpHead c.val n ++ data).map fun b => b.toNat⟩).count D.es_packets c.val).count
          D.tx_frames (s.get D.es_port c.val)
    execAes67PacketTx c n late s =
      .next (if late || s.paused (s.get D.es_port c.val) then t.count D.es_late c.val else t) := by
  simp only [execAes67PacketTx, hkind, hn, hlink, hpers, hdrive, hmac, ne_eq, not_true_eq_false, decide_false,
    Bool.not_true, Bool.or_self, Bool.false_eq_true, if_false]

end

/-- Settles O30: a link by its port, a frame by its length, its type and its fate, and one sent by what waits. -/
theorem portsAndFramesComplete : Obligations.PortsAndFramesComplete := by
  unfold Obligations.PortsAndFramesComplete
  refine ⟨⟨execLinkUp_of_mismatch, execLinkUp_six, fun port s => rfl,
      fun port dst opcode quanta s h => congrArg _ (s.macControl_of_other _ _ _ _ h),
      fun port dst quanta s h => congrArg _ (s.macControl_of_ignored _ _ _ h),
      fun port quanta s hpause hspeed hnone hq => ?pause, fun port s hl hq => ?expire, execLaunch_of_ahead⟩,
    fun port f lt s hphase hlink => ?receive, fun port ring n l lt s hlink hheld hlaunch hpick hhead hgood hnone hstamp => ?sent,
    fun port p s => rfl, fun c n late s hkind hn hlink hpers hdrive => ?packet⟩
  case pause =>
    exact ⟨_, congrArg Outcome.next (s.macControl_of_first _ _ hpause hspeed hnone hq), State.get_count_same .., rfl, rfl⟩
  case expire =>
    obtain ⟨hlaunches, hqueued⟩ := s.pauseStop_ports port.val
    exact congrArg _ (State.pauseEnds_of_idle _ _ (hlaunches.trans hl) (hqueued.trans hq))
  case receive =>
    refine ⟨fun h => execFrameReceive_of_fault port f lt s hphase hlink true (.inr h),
      execFrameReceive_of_fault port f lt s hphase hlink false (.inl rfl),
      execFrameReceive_of_oversize port f lt s hphase hlink, fun hshort hlong hmac hfab => ?_⟩
    have hdata := execFrameReceive_of_data port f lt s hphase hlink hshort hlong hmac hfab
    exact ⟨fun ring filter hclass => hdata _ hclass, fun hclass => hdata _ hclass⟩
  case sent =>
    exact (execTxFrameDone_of_frame port ring n l lt s hlink hheld hlaunch hpick hhead).trans
      (congrArg _ (s.txSend_plain _ _ _ _ _ hgood hnone hstamp))
  case packet =>
    exact ⟨execAes67PacketTx_of_unresolved c n late s hkind hn hlink hpers hdrive,
      execAes67PacketTx_of_resolved c n late s hkind hn hlink hpers hdrive⟩

end Sys2Proof.Machine
end

section
/-! PROOFS. The matrix, the DRAM controller, training, the DMA engine and the PLL ramps (chapter 15). -/

namespace Sys2Proof.Machine

open Sys2Proof Host

/-! ### Requests reach the DRAM controller (R574, R582–R585) -/

/-- A request of a master that the matrix sends to the DRAM. -/
def MemRequest.toDram (r : MemRequest) : Prop :=
  r.who.master?.isSome = true ∧ r.lost = false ∧ matrixTarget r.addr = some 0

theorem MemRequest.toDram_of_master {m : Fin 8} {c : Fin 2} {r : MemRequest} (hwho : r.who = .master m c)
    (hdec : matrixDecodes m.val r.addr = true) (htarget : matrixTarget r.addr = some 0) : r.toDram :=
  ⟨by rw [hwho]; rfl, by simp [MemRequest.lost, hwho, Requester.master?, hdec], htarget⟩

theorem matrixTarget_of_lt {a : Nat} (h : a < 2 ^ 33) : matrixTarget a = some 0 := if_pos (by omega)

theorem matrixDecodes_of_target_zero {m a : Nat} (h : matrixTarget a = some 0) : matrixDecodes m a = true := by
  simp [matrixDecodes, h]

/-- Without a request to a target nothing is granted. -/
theorem State.grants_of_none (s : State) (l : List MemRequest) (h : ∀ n, requestsTo n l = []) :
    (List.range 6).foldl (fun t n =>
      let q := requestsTo n l
      State.matrixGrant t n q.length (some (t.get D.mtx_park n)) q) s = s := by
  simp only [h, List.length_nil, State.matrixGrant, List.foldl_fixed]

/-- A request with a port of its own arrives at the DMC. -/
theorem State.presentRequests_of_port (s : State) (q : MemRequest) (hwho : q.who.master? = none) :
    s.presentRequests [q] = s.dmcArrive q := by
  have hlost : q.lost = false := by simp [MemRequest.lost, hwho]
  have hnone : ∀ n, requestsTo n [q] = [] := fun n => by simp [requestsTo, hwho]
  simp only [State.presentRequests, List.filter_cons, List.filter_nil, hwho, hlost, Option.isNone_none, if_true,
    Bool.false_eq_true, if_false, List.foldl_cons, List.foldl_nil]
  exact State.grants_of_none _ _ hnone

/-- The matrix turns away what no target decodes. -/
theorem State.presentRequests_of_lost (s : State) (q : MemRequest) (m : Nat) (hwho : q.who.master? = some m)
    (hlost : q.lost = true) : s.presentRequests [q] = s.decodeError m q.addr := by
  have hnone : ∀ n, requestsTo n [q] = [] := fun n => by simp [requestsTo, hlost]
  simp only [State.presentRequests, List.filter_cons, List.filter_nil, hwho, hlost, Option.isNone_some, if_true,
    Bool.false_eq_true, if_false, List.foldl_cons, List.foldl_nil]
  exact State.grants_of_none _ _ hnone

theorem requestsTo_zero_of_toDram {l : List MemRequest} (h : ∀ r ∈ l, r.toDram) : requestsTo 0 l = l := by
  refine List.filter_eq_self.2 fun r hr => ?_
  obtain ⟨hmaster, hlost, htarget⟩ := h r hr
  simp [hmaster, hlost, htarget]

theorem requestsTo_of_toDram {l : List MemRequest} (h : ∀ r ∈ l, r.toDram) {n : Nat} (hn : n ≠ 0) :
    requestsTo n l = [] := by
  refine List.filter_eq_nil_iff.2 fun r hr => ?_
  obtain ⟨-, -, htarget⟩ := h r hr
  simp [htarget, hn.symm]

/-- Requests of masters for the DRAM are granted by that target alone. -/
theorem State.presentRequests_of_toDram (s : State) (l : List MemRequest) (h : ∀ r ∈ l, r.toDram) :
    s.presentRequests l = s.matrixGrant 0 l.length (some (s.get D.mtx_park 0)) l := by
  have hports : (l.filter fun r => r.who.master?.isNone) = [] := List.filter_eq_nil_iff.2 fun r hr => by
    obtain ⟨hmaster, -, -⟩ := h r hr
    simp [Option.isSome_iff_ne_none.1 hmaster]
  have hlost : l.filter MemRequest.lost = [] := List.filter_eq_nil_iff.2 fun r hr => by simp [(h r hr).2.1]
  have hrange : List.range 6 = [0, 1, 2, 3, 4, 5] := rfl
  simp only [State.presentRequests, hports, hlost, hrange, List.foldl_cons, List.foldl_nil, requestsTo_zero_of_toDram h,
    requestsTo_of_toDram h (show 1 ≠ 0 by decide), requestsTo_of_toDram h (show 2 ≠ 0 by decide),
    requestsTo_of_toDram h (show 3 ≠ 0 by decide), requestsTo_of_toDram h (show 4 ≠ 0 by decide),
    requestsTo_of_toDram h (show 5 ≠ 0 by decide), List.length_nil, State.matrixGrant]

/-- The DRAM grants a request: its turn moves, and the request arrives. -/
def State.dramGrant (s : State) (r : MemRequest) : State :=
  ({ s with mem := { s.mem with
    turns := modAt s.mem.turns 0 fun last => r.who.master?.getD last } } : State).dmcArrive r

theorem State.matrixGrant_next (s : State) (n : Nat) (park : Option Nat) (l : List MemRequest) (r : MemRequest)
    (h : grantNext park (s.mem.turns.getD 0 7) l = some r) :
    s.matrixGrant 0 (n + 1) park l = (s.dramGrant r).matrixGrant 0 n none (l.erase r) := by
  simp only [State.matrixGrant, h]
  rfl

theorem grantNext_single (park : Option Nat) (last : Nat) (r : MemRequest) : grantNext park last [r] = some r := by
  unfold grantNext
  split
  next q hq =>
    obtain ⟨p, -, hfind⟩ := Option.bind_eq_some_iff.1 hq
    rw [List.mem_singleton.1 (List.mem_of_find?_eq_some hfind)]
  next => rfl

/-- A master alone is granted at once. -/
theorem State.presentRequests_of_master (s : State) (r : MemRequest) (h : r.toDram) :
    s.presentRequests [r] = s.dramGrant r := by
  rw [s.presentRequests_of_toDram [r] fun x hx => List.mem_singleton.1 hx ▸ h]
  exact s.matrixGrant_next 0 _ [r] r (grantNext_single ..)

/-- Of two masters on which the target is not parked the one that wins is granted, whichever was named first. -/
theorem grantNext_pair {park last m n : Nat} {a b : MemRequest} (ha : a.who.master? = some m) (hb : b.who.master? = some n)
    (hm : park ≠ m) (hn : park ≠ n) (hab : a.wins last b = true) (hba : b.wins last a = false) :
    grantNext (some park) last [a, b] = some a ∧ grantNext (some park) last [b, a] = some a := by
  simp [grantNext, ha, hb, hm.symm, hn.symm, hab, hba]

theorem MemRequest.wins_iff {last m n : Nat} {a b : MemRequest} (ha : a.who.master? = some m)
    (hb : b.who.master? = some n) : a.wins last b = true ↔
      b.class_ < a.class_ ∨ (a.class_ = b.class_ ∧ turnDistance last m < turnDistance last n) := by
  simp [MemRequest.wins, ha, hb]

/-- What waits after two grants is what waits after the two arrivals. -/
theorem State.dramGrant_waiting (s : State) (a b : MemRequest) :
    ((s.dramGrant a).dramGrant b).mem.waiting = ((s.dmcArrive a).dmcArrive b).mem.waiting := rfl

section
variable {m n : Fin 8} {c d : Fin 2} {a b : MemRequest} (s : State) (ha : a.who = .master m c) (hb : b.who = .master n d)
  (hmn : m ≠ n) (hadram : a.addr < 2 ^ 33) (hbdram : b.addr < 2 ^ 33) (hm : s.get D.mtx_park 0 ≠ m.val)
  (hn : s.get D.mtx_park 0 ≠ n.val)
  (hwins : b.class_ < a.class_ ∨ b.class_ = a.class_ ∧
    turnDistance (s.mem.turns.getD 0 7) m.val < turnDistance (s.mem.turns.getD 0 7) n.val)
include ha hb hmn hadram hbdram hm hn hwins

theorem State.presentRequests_pair : s.presentRequests [a, b] = (s.dramGrant a).dramGrant b ∧
    s.presentRequests [b, a] = (s.dramGrant a).dramGrant b := by
  have hma : a.who.master? = some m.val := by rw [ha]; rfl
  have hmb : b.who.master? = some n.val := by rw [hb]; rfl
  have hab : a.wins (s.mem.turns.getD 0 7) b = true :=
    (MemRequest.wins_iff hma hmb).2 (hwins.imp_right fun h => ⟨h.1.symm, h.2⟩)
  have hba : b.wins (s.mem.turns.getD 0 7) a = false := by
    rw [Bool.eq_false_iff, ne_eq, MemRequest.wins_iff hmb hma]
    omega
  have hne : b ≠ a := fun h => hmn (by rw [h, ha] at hb; injection hb)
  have hdram : ∀ r ∈ [a, b], r.toDram := fun r hr => by
    obtain rfl | rfl := by simpa using hr
    · exact MemRequest.toDram_of_master ha (matrixDecodes_of_target_zero (matrixTarget_of_lt hadram))
        (matrixTarget_of_lt hadram)
    · exact MemRequest.toDram_of_master hb (matrixDecodes_of_target_zero (matrixTarget_of_lt hbdram))
        (matrixTarget_of_lt hbdram)
  obtain ⟨hfirst, hsecond⟩ := grantNext_pair hma hmb hm hn hab hba
  constructor
  · rw [s.presentRequests_of_toDram _ hdram]
    exact (s.matrixGrant_next 1 _ _ _ hfirst).trans (by
      rw [List.erase_cons_head]
      exact State.matrixGrant_next _ 0 _ _ _ (grantNext_single ..))
  · rw [s.presentRequests_of_toDram _ fun r hr => hdram r (by simpa [or_comm] using hr)]
    exact (s.matrixGrant_next 1 _ _ _ hsecond).trans (by
      rw [List.erase_cons_tail (by simpa using hne), List.erase_cons_head]
      exact State.matrixGrant_next _ 0 _ _ _ (grantNext_single ..))

end

/-- The class of a request that has a port of its own does not depend on a DMA class. -/
theorem dmaClass_of_port {w : Requester} (h : w.master? = none) : w.dmaClass = 0 := by
  cases w with
  | master m cls => cases h
  | etcher => rfl
  | bulk => rfl
  | burnish => rfl

/-! ### Service, refresh and training (R576–R581) -/

theorem execDmcServe_next (hits : List Nat) (r : DmcRequest) (s : State)
    (h : dmcPick hits s.time.local_ s.mem.waiting = some r) :
    let lat := r.age s.time.local_ / ns32
    execDmcServe hits s = .next ((({ s with mem := { s.mem with
      waiting := s.mem.waiting.filter fun x => x.id != r.id
      served := ⟨s.time.local_, r.port, lat⟩ :: keepSecond s.mem.served s.time.local_ } } : State).histRecord 2 r.port
        (F32.ofInt lat)).dmcAverages) := by
  simp only [execDmcServe, h]

section
variable (s : State)

theorem execRefreshDue_of_ahead (h : 0 < s.mem.ahead) :
    execRefreshDue s = .next { s with mem := { s.mem with ahead := s.mem.ahead - 1 } } := if_pos h

/-- A refresh that is due while RT requests wait is postponed, at most eight times. -/
theorem execRefreshDue_of_busy (r : DmcRequest) (ha : s.mem.ahead = 0) (hr : r ∈ s.mem.waiting) (hcls : r.cls = 2) :
    execRefreshDue s = if s.mem.postponed < 8 then
      .next { s with mem := { s.mem with postponed := s.mem.postponed + 1 } } else .next (s.count D.dmc_forced_refresh) := by
  have hany : (s.mem.waiting.any fun r => r.cls == 2) = true := List.any_eq_true.2 ⟨r, hr, by simp [hcls]⟩
  simp only [execRefreshDue, ha, gt_iff_lt, Nat.lt_irrefl, if_false, hany, if_true]

theorem State.askSetPoint_of_idle (sp : Nat) (h : s.mem.training = none) : s.askSetPoint sp = s.changeSetPoint sp := by
  simp only [State.askSetPoint, h]

theorem State.get_changeSetPoint (sp : Nat) : (s.changeSetPoint sp).get D.dmc_setpoint_now = sp := by
  simp only [State.changeSetPoint]
  rw [State.get_setF_apart _ _ _ _ _ _ (by decide), State.get_set_apart _ _ _ _ _ _ (by decide),
    State.get_set_apart _ _ _ _ _ _ (by decide), State.get_set_same]

variable (t : Training) (passed : Bool) (margin : Word32) (ht : s.mem.training = some t) (hd : s.mem.deferred = [])
include ht hd

/-- A training step without set point changes that wait. -/
theorem execTrainStepDone_of_none : execTrainStepDone passed margin s =
    let s1 : State := { s with mem := { s.mem with deferred := [] } }
    let go (x : Training) : State := ({ s1 with mem := { s1.mem with training := some x } } : State).showTraining 1
    let stop (u : State) (code : Nat) : State := ({ u with mem := { u.mem with training := none } } : State).showTraining code
    if t.step < 6 then .next (go { t with step := t.step + 1 })
    else if passed then .next (stop (s1.setF (marginObj t.setPoint) margin) 0)
    else if t.fails = 0 then .next (go { t with step := 1, fails := 1 })
    else if t.asked then .next (stop (s1.error 0x70 0 0x0205 .warn) 2)
    else .next (stop (s1.error 0x70 0 0x0205 .failed) 2) := by
  simp only [execTrainStepDone, ht, hd, List.foldl_nil]

end

/-! ### The DMA engine (R573, R587–R590) -/

section
variable (s : State) (c : Nat)

theorem State.dmaTrigger_of_running (hrun : s.get D.runDma c = 1) (hsize : s.get D.dma_size c ≠ 0)
    (h : s.get D.dma_state (c + 8) = 1 ∨ s.get D.dma_state (c + 8) = 2) :
    s.dmaTrigger c = s.modDma c fun x => { x with again := true } := by
  simp [State.dmaTrigger, hrun, hsize, h]

theorem State.dmaTrigger_of_idle (hrun : s.get D.runDma c = 1) (hsize : s.get D.dma_size c ≠ 0)
    (h : s.get D.dma_state (c + 8) = 0) (hown : s.dmaOwned c ≠ 0) :
    s.dmaTrigger c = (s.set D.dma_state 1 (c + 8)).modDma c fun x => { x with recent := [] } := by
  simp [State.dmaTrigger, hrun, hsize, h, hown]

end

/-- An address that a descriptor may name is decoded for the engines. -/
theorem matrixDecodes_of_placed {m a n : Nat} (h : (inUser a n || inGraver a n) = true) : matrixDecodes m a = true := by
  simp only [inUser, inGraver, Bool.or_eq_true, Bool.and_eq_true, decide_eq_true_eq] at h
  have hend : a < 0x200800000 := by
    obtain ⟨-, hend⟩ | ⟨⟨-, hend⟩, -⟩ := h
    · rw [userEnd] at hend
      omega
    · exact hend
  by_cases hlow : a < 0x200000000
  · exact matrixDecodes_of_target_zero (if_pos hlow)
  · have htarget : matrixTarget a = some 1 := (if_neg hlow).trans (if_pos hend)
    simp [matrixDecodes, htarget]

theorem DmaDesc.lost_of_good {d : DmaDesc} (h : d.bad = false) : d.lost = none := by
  simp only [DmaDesc.bad, Bool.or_eq_false_iff, Bool.not_eq_false', Bool.and_eq_false_iff] at h
  obtain ⟨⟨-, hdst⟩, hsrc⟩ := h
  have hdst' := matrixDecodes_of_placed (m := 2) hdst
  obtain hfill | hsrc := hsrc
  · simp [DmaDesc.lost, hfill, hdst']
  · simp [DmaDesc.lost, matrixDecodes_of_placed (m := 1) hsrc, hdst']

section
variable (c : Fin 8) (s : State) (hstate : s.get D.dma_state (c.val + 8) = 1) (hown : s.dmaOwned c.val ≠ 0)
include hstate hown

theorem execDmaDescriptorDone_of_bad (hbad : (s.dmaDesc (s.dmaAt c.val)).bad = true) :
    execDmaDescriptorDone c s = .next (((s.dmaWriteBack (s.dmaAt c.val) 2 0).dmaAdvance c.val).dmaNext c.val
      (s.dmaDesc (s.dmaAt c.val)).stop) := by
  simp [execDmaDescriptorDone, hstate, hown, hbad]

theorem execDmaDescriptorDone_of_done (hbad : (s.dmaDesc (s.dmaAt c.val)).bad = false)
    (hword : s.dmaBadWord (s.dmaDesc (s.dmaAt c.val)) = none) (hfence : (s.dmaDesc (s.dmaAt c.val)).fence = true)
    (hevent : (s.dmaDesc (s.dmaAt c.val)).event = true) :
    let d := s.dmaDesc (s.dmaAt c.val)
    let moved := ((s.dmaMove [] d d.count).modDma c.val fun x => { x with recent := [(d.dst, d.count)] }).dmaTraffic
    let back := ((moved.dmaWriteBack (s.dmaAt c.val) 0 d.count).dmaAdvance c.val).count D.dma_bytes (c.val + 8) d.count
    execDmaDescriptorDone c s = .next ((back.count D.dma_events (c.val + 8)).dmaNext c.val d.stop) := by
  simp only [execDmaDescriptorDone, hstate, hown, hbad, DmaDesc.lost_of_good hbad, hword, hfence, hevent, ne_eq,
    not_true_eq_false, decide_false, Bool.false_and, Bool.false_or, Bool.false_eq_true, if_false, if_true]

end

theorem execPllRampStep_of_point (p : Fin 2) (n dwell : Nat) (rest : List (Nat × Nat)) (s : State)
    (h : (s.mem.ramps.find? fun r => r.1 == p.val) = some (p.val, (n, dwell) :: rest)) :
    let t : State := { s with mem := { s.mem with ramps := (p.val, rest) :: s.mem.ramps.filter fun r => r.1 != p.val } }
    execPllRampStep p s = .next ((t.set D.pll_n n p.val).setF D.pll_f_min ((t.set D.pll_n n p.val).pllFmin p.val) p.val) := by
  simp only [execPllRampStep, h]

/-- Settles O33: requests by where the matrix sends them, the engine by its descriptor. -/
theorem memoryEventsComplete : Obligations.MemoryEventsComplete := by
  unfold Obligations.MemoryEventsComplete
  refine ⟨⟨fun q s hwho => ?port, fun m cls addr s => ?master,
      fun m n c d a b s ha hb hmn hadram hbdram hm hn hwins => ?pair, execDmcServe_next, execRefreshDue_of_ahead,
      fun r s ha hr hcls => ?busy, fun sp s h => ⟨congrArg _ (s.askSetPoint_of_idle _ h), s.get_changeSetPoint _⟩,
      fun t passed margin s ht hd => ?train⟩,
    fun m s => rfl, fun c s htrig hrun hsize => ?trigger, fun c s => ?done, fun c s => ?bad, fun p n dwell rest s h => ?ramp⟩
  case port =>
    refine congrArg Outcome.next ((s.presentRequests_of_port q hwho).trans ?_)
    simp only [State.dmcArrive, MemRequest.class_, dmaClass_of_port hwho]
  case master =>
    refine ⟨fun hdec htarget => ?_, fun hdec => ?_⟩
    · exact congrArg Outcome.next (s.presentRequests_of_master _ (MemRequest.toDram_of_master rfl hdec htarget))
    · exact congrArg Outcome.next (s.presentRequests_of_lost _ m.val rfl (by simp [MemRequest.lost, Requester.master?, hdec]))
  case pair =>
    obtain ⟨hfirst, hsecond⟩ := s.presentRequests_pair ha hb hmn hadram hbdram hm hn hwins
    refine ⟨_, _, congrArg Outcome.next hfirst, congrArg Outcome.next hsecond, ?_, ?_⟩ <;> exact s.dramGrant_waiting a b
  case busy =>
    have hdue := execRefreshDue_of_busy s r ha hr hcls
    exact ⟨fun h => hdue.trans (if_pos h), fun h => hdue.trans (if_neg (Nat.not_lt.2 h))⟩
  case train =>
    have hstep := execTrainStepDone_of_none s t passed margin ht hd
    refine ⟨fun h => hstep.trans (if_pos h), fun h hp => hstep.trans ((if_neg (Nat.not_lt.2 h)).trans (if_pos hp)),
      fun h hp hf => hstep.trans ((if_neg (Nat.not_lt.2 h)).trans ((if_neg (by simp [hp])).trans (if_pos hf)))⟩
  case trigger =>
    have hexec : execDmaTrigger c s = .next (s.dmaTrigger c.val) := if_neg htrig
    exact ⟨fun h => hexec.trans (congrArg _ (s.dmaTrigger_of_running _ hrun hsize h)),
      fun h hown => hexec.trans (congrArg _ (s.dmaTrigger_of_idle _ hrun hsize h hown))⟩
  case done =>
    intro d hstate hown hbad hword hfence hevent
    exact execDmaDescriptorDone_of_done c s hstate hown hbad hword hfence hevent
  case bad =>
    intro d hstate hown hbad
    exact execDmaDescriptorDone_of_bad c s hstate hown hbad
  case ramp =>
    exact ⟨_, execPllRampStep_of_point p n dwell rest s h,
      (State.get_setF_apart _ _ _ _ _ _ (by decide)).trans (State.get_set_same ..), rfl, rfl, rfl⟩

end Sys2Proof.Machine
end

section
/-! PROOFS. The Graver cores (chapter 8): a row issues the bundle that was fetched, what each slot writes, where FLOW
goes, and the events of the Dispatch Unit. -/

namespace Sys2Proof.Machine

open Sys2Proof Host

/-! ### Issue (R349, R353–R355) -/

section
variable {s : State} {c : Fin 8} {i : Inst} {b : Bundle}

theorem State.issueRow_of_fetch (hissue : s.issuing c.val = some i) (hvendor : vendorNode i.node = false)
    (hfetch : i.fetch = .ok b) {holds : Bundle → Bool} (hb : holds b = true) :
    s.issueRow c holds = s.issueBundle i b := by
  simp [State.issueRow, hissue, hvendor, hfetch, hb]

variable {r : GravCtx} (h : bundleIssues s c i b r)
include h

/-- A row that the fetched bundle holds issues that bundle. -/
theorem State.issueRow_of_issues {holds : Bundle → Bool} (hb : holds b = true) :
    s.issueRow c holds = (s.storeOf i b).settle (i.afterBundle b r) b := by
  obtain ⟨hissue, hvendor, hfetch, hover, hloads, hrun⟩ := h
  have hbad : ((i.loadAddrs b).any fun a => s.badIn a 4) = false := by simpa using hloads
  rw [State.issueRow_of_fetch hissue hvendor hfetch hb]
  simp only [State.issueBundle, hover, hbad, hrun, Bool.false_eq_true, if_false]
  rfl

theorem next_issueRow {holds : Bundle → Bool} (hb : holds b = true) :
    (.next (s.issueRow c holds) : Outcome State Fault Refusal) =
      .next ((s.storeOf i b).settle (i.afterBundle b r) b) :=
  congrArg _ (State.issueRow_of_issues h hb)

theorem execExit_of_issues (hb : b.exits = true) :
    execExit c s = .next ((s.storeOf i b).settle (i.afterBundle b r) b) := by
  obtain ⟨hissue, hvendor, -⟩ := id h
  simp only [execExit, hissue, hvendor, Bool.false_eq_true, if_false]
  exact next_issueRow h hb

/-- A level whose count runs out ends with the bundle at its end. -/
theorem execLoopCountExpire_of_issues (l : LoopLevel) (hlv : i.regs.lv0 = some l) (hlast : l.last = i.regs.pc)
    (hcount : (i.regs.lc.getD 0 0#16).toNat ≤ 1) :
    execLoopCountExpire c 0 s = .next ((s.storeOf i b).settle (i.afterBundle b r) b) := by
  have hissue := h.1
  have hend : (((if (0 : Fin 2).val = 0 then i.regs.lv0 else i.regs.lv1).any fun b => b.last == i.regs.pc) &&
      decide ((i.regs.lc.getD (0 : Fin 2).val 0#16).toNat ≤ 1)) = true := by
    simpa [hlv, hlast] using hcount
  unfold execLoopCountExpire
  rw [hissue]
  exact (if_pos hend).trans (next_issueRow h rfl)

end

/-- Settles O35: each command is the row of its operation, and a row issues the fetched bundle. -/
theorem bundlesIssue : Obligations.BundlesIssue := by
  unfold Obligations.BundlesIssue
  refine ⟨fun c i b r s h => ?_, fun c i b r s h => ?_⟩
  · exact ⟨next_issueRow h, next_issueRow h, next_issueRow h, next_issueRow h, next_issueRow h, next_issueRow h,
      next_issueRow h, next_issueRow h, next_issueRow h, next_issueRow h, next_issueRow h, next_issueRow h,
      next_issueRow h, next_issueRow h, next_issueRow h, next_issueRow h, next_issueRow h, next_issueRow h,
      next_issueRow h, next_issueRow h, next_issueRow h, next_issueRow h, next_issueRow h, next_issueRow h,
      next_issueRow h, next_issueRow h⟩
  · exact ⟨next_issueRow h, next_issueRow h, next_issueRow h, next_issueRow h, next_issueRow h, next_issueRow h,
      next_issueRow h, next_issueRow h, next_issueRow h, next_issueRow h, next_issueRow h, next_issueRow h,
      next_issueRow h, next_issueRow h, execExit_of_issues h, next_issueRow h, next_issueRow h⟩

/-! ### A bundle without moves -/

section
variable (i : Inst) (x y : BitVec 32)

theorem Inst.run_dualAlone (m0 m1 : MacSlot) :
    i.run (.dual m0 m1 idleMoves) x y = .ok ((i.regs.mac i.regs m0).mac i.regs m1).advance := by
  simp [Inst.run, idleMoves, GravCtx.bump, GravCtx.raise, GravCtx.dual, GravCtx.clear, clears]

theorem Inst.run_aluAlone (op d s t : BitVec 6) : i.run (.alu op d s t idleMoves) x y =
    .ok (i.regs.alu op.toNat d.toNat (i.readReg s.toNat) (i.readReg t.toNat)).advance := by
  simp [Inst.run, idleMoves, GravCtx.bump, GravCtx.raise, GravCtx.clear, clears]

theorem Inst.run_accAlone (op : BitVec 4) (ad as_ : BitVec 2) (f : BitVec 4) : i.run (.acc op ad as_ f idleMoves) x y =
    .ok (i.regs.accOp i.regs op.toNat ad.toNat as_.toNat f.toNat).advance := by
  simp [Inst.run, idleMoves, GravCtx.bump, GravCtx.raise, GravCtx.clear, clears]

end

/-! ### What a slot writes (R342, R345–R348) -/

/-- Add to an accumulator what a product gives, with the bits it raises. -/
def GravCtx.addTerm (r : GravCtx) (n : Nat) (p : Term) (z : Int) : GravCtx :=
  { r with
    acc := r.acc.set n ((r.acc.getD n {}).addRaw z 0)
    inv := r.inv || p.nonfinite, sat := r.sat || p.clamped }

section
variable (r old : GravCtx) (n : BitVec 2) (fs ft : BitVec 4)

@[simp] theorem GravCtx.mac_none : r.mac old ⟨0#2, n, fs, ft⟩ = r := if_pos rfl

theorem GravCtx.mac_add : r.mac old ⟨1#2, n, fs, ft⟩ = r.addTerm n.toNat
    (termMul (old.f.getD fs.toNat 0#32) (old.f.getD ft.toNat 0#32))
    (termMul (old.f.getD fs.toNat 0#32) (old.f.getD ft.toNat 0#32)).a := by
  simp [GravCtx.mac, GravCtx.raise, GravCtx.addTerm]

theorem GravCtx.mac_sub : r.mac old ⟨2#2, n, fs, ft⟩ = r.addTerm n.toNat
    (termMul (old.f.getD fs.toNat 0#32) (old.f.getD ft.toNat 0#32))
    (-(termMul (old.f.getD fs.toNat 0#32) (old.f.getD ft.toNat 0#32)).a) := by
  simp [GravCtx.mac, GravCtx.raise, GravCtx.addTerm]

end

section
variable (r : GravCtx)

theorem GravCtx.writeReg_of_float {n : Nat} (h : n < 16) (v : BitVec 32) : r.writeReg n v = { r with f := r.f.set n v } :=
  if_pos h

theorem GravCtx.writeReg_of_address {k : Nat} (h : k < 8) (v : BitVec 32) :
    r.writeReg (16 + k) v = { r with x := r.x.set k (v.setWidth 16) } := by
  have hk : (16 + k) % 8 = k := by omega
  have hlow : ¬16 + k < 16 := by omega
  have hhigh : 16 + k < 24 := by omega
  simp only [GravCtx.writeReg, hk, hlow, hhigh, if_true, if_false]

theorem GravCtx.alu_word {op d : Nat} (hop : op ≠ 0x0F) (hword : aluFloat op = false) (a b : BitVec 32) :
    r.alu op d a b = r.writeReg d (aluResult op a b) := by
  simp [GravCtx.alu, hop, hword, GravCtx.raise]

theorem GravCtx.alu_float {op d : Nat} (hop : op ≠ 0x0F) (hfloat : aluFloat op = true) (hd : d < 16) (a b : BitVec 32) :
    r.alu op d a b = r.putFloat d (aluResult op a b) := by
  simp [GravCtx.alu, hop, hfloat, GravCtx.raise, GravCtx.putFloat, r.writeReg_of_float hd]

theorem GravCtx.advance_of_straight_of_eq {r u : GravCtx} (h : r.straight) (hdelay : u.delay = r.delay)
    (hlv0 : u.lv0 = r.lv0) (hlv1 : u.lv1 = r.lv1) (hpc : u.pc = r.pc) : u.advance = { u with pc := r.pc + 1 } := by
  obtain ⟨hd, h0, h1⟩ := h
  rw [u.advance_of_straight ⟨hdelay.trans hd, hlv0.trans h0, hlv1.trans h1⟩, hpc]

end

/-- The unified number of an f register. -/
theorem toNat_floatReg (fd : BitVec 4) : (fd.setWidth 6).toNat = fd.toNat := by
  have hfd := fd.isLt
  rw [BitVec.toNat_setWidth]
  omega

/-- The unified number of an x register. -/
theorem toNat_addressReg (k : BitVec 3) : (0x10#6 + k.setWidth 6).toNat = 16 + k.toNat := by
  have hk := k.isLt
  rw [BitVec.toNat_add, BitVec.toNat_setWidth, BitVec.toNat_ofNat]
  omega

/-- Settles O36: a bundle that does nothing else has the outcome of its slot, after which execution goes on. -/
theorem slotResults : Obligations.SlotResults := by
  unfold Obligations.SlotResults
  refine ⟨fun i n fs ft x y h => ?mac, fun i fd src tgt x y h => ?alu, fun i fd ad as_ v x y h => ?acc⟩
  case mac =>
    intro old p sum
    have hterm : ∀ z, (old.addTerm n.toNat p z).advance = { old.addTerm n.toNat p z with pc := old.pc + 1 } :=
      fun z => GravCtx.advance_of_straight_of_eq h rfl rfl rfl rfl
    refine ⟨congrArg Ran.ok (i.regs.advance_of_straight h), ?_, ?_, ?_, ?_⟩
    · exact (i.run_dualAlone ..).trans (congrArg Ran.ok (by rw [GravCtx.mac_add]; exact hterm p.a))
    · exact (i.run_dualAlone ..).trans (congrArg Ran.ok (by rw [GravCtx.mac_sub]; exact hterm (-p.a)))
    · exact (i.run_dualAlone ..).trans (congrArg Ran.ok ((congrArg _ (GravCtx.mac_add ..)).trans (hterm p.a)))
    · exact (i.run_dualAlone ..).trans (congrArg Ran.ok ((congrArg _ (GravCtx.mac_sub ..)).trans (hterm (-p.a))))
  case alu =>
    intro old a b d run word float
    have hd : d.toNat < 16 := (toNat_floatReg fd).trans_lt fd.isLt
    have hword (op : BitVec 6) (hop : op.toNat ≠ 0x0F) (hw : aluFloat op.toNat = false) :
        run op = word (aluResult op.toNat a b) := by
      refine (i.run_aluAlone ..).trans (congrArg Ran.ok ?_)
      rw [old.alu_word hop hw, old.writeReg_of_float hd, toNat_floatReg]
      exact GravCtx.advance_of_straight_of_eq h rfl rfl rfl rfl
    have hfloat (op : BitVec 6) (hop : op.toNat ≠ 0x0F) (hf : aluFloat op.toNat = true) :
        run op = float (aluResult op.toNat a b) := by
      refine (i.run_aluAlone ..).trans (congrArg Ran.ok ?_)
      rw [old.alu_float hop hf hd, toNat_floatReg]
      exact old.putFloat_advance fd.toNat _ h
    have hcmp : run 0x0F#6 = .ok { old with cmp := cmpFlags a b, pc := old.pc + 1 } :=
      (i.run_aluAlone ..).trans (congrArg Ran.ok
        (GravCtx.advance_of_straight_of_eq (u := { old with cmp := cmpFlags a b }) h rfl rfl rfl rfl))
    have haddr (k : BitVec 3) : i.run (.alu 0x01#6 (0x10#6 + k.setWidth 6) src tgt idleMoves) x y =
        .ok { old with x := old.x.set k.toNat ((a + b).setWidth 16), pc := old.pc + 1 } := by
      refine (i.run_aluAlone ..).trans (congrArg Ran.ok ?_)
      rw [toNat_addressReg, GravCtx.alu_word _ (by decide) rfl, GravCtx.writeReg_of_address _ k.isLt]
      exact GravCtx.advance_of_straight_of_eq h rfl rfl rfl rfl
    exact ⟨hword _ (by decide) rfl, hword _ (by decide) rfl, hword _ (by decide) rfl, hfloat _ (by decide) rfl,
      hfloat _ (by decide) rfl, hfloat _ (by decide) rfl, hfloat _ (by decide) rfl, hfloat _ (by decide) rfl,
      hword _ (by decide) rfl, hword _ (by decide) rfl, hcmp, hword _ (by decide) rfl, hword _ (by decide) rfl,
      hfloat _ (by decide) rfl, hfloat _ (by decide) rfl, hfloat _ (by decide) rfl, hfloat _ (by decide) rfl,
      hfloat _ (by decide) rfl, hfloat _ (by decide) rfl, hfloat _ (by decide) rfl, haddr⟩
  case acc =>
    intro old d s run put t
    have hrun (op : BitVec 4) : run op = .ok (old.accOp old op.toNat ad.toNat as_.toNat fd.toNat).advance :=
      i.run_accAlone ..
    have hput (op : BitVec 4) (z : Accum)
        (hz : old.accOp old op.toNat ad.toNat as_.toNat fd.toNat = { old with acc := old.acc.set ad.toNat z }) :
        run op = put z := by
      refine (hrun op).trans (congrArg Ran.ok ?_)
      rw [hz]
      exact GravCtx.advance_of_straight_of_eq h rfl rfl rfl rfl
    refine ⟨congrArg Ran.ok ?_, hput 0#4 _ rfl, hput 1#4 _ rfl, hput 2#4 _ rfl, hput 3#4 _ rfl,
      (hrun 4#4).trans (congrArg Ran.ok ?_), (hrun 5#4).trans (congrArg Ran.ok ?_)⟩
    · rw [toNat_floatReg, GravCtx.writeReg_of_float _ fd.isLt]
      exact GravCtx.advance_of_straight_of_eq h rfl rfl rfl rfl
    · have hload : old.accOp old 4 ad.toNat as_.toNat fd.toNat = { old with
          acc := old.acc.set ad.toNat ⟨t.a, 0⟩, inv := old.inv || t.nonfinite, sat := old.sat || t.clamped } := by
        simp [GravCtx.accOp, GravCtx.raise, t]
      exact (congrArg GravCtx.advance hload).trans (GravCtx.advance_of_straight_of_eq h rfl rfl rfl rfl)
    · have hstore : old.accOp old 5 ad.toNat as_.toNat fd.toNat = { old with
          f := old.f.set fd.toNat d.store.1, sat := old.sat || d.store.2 } := by
        simp [GravCtx.accOp, GravCtx.raise, d]
      exact (congrArg GravCtx.advance hstore).trans (GravCtx.advance_of_straight_of_eq h rfl rfl rfl rfl)

end Sys2Proof.Machine
end

section
/-! PROOFS. FLOW and SYS, the stops of a task, and the events of the Dispatch Unit (chapter 8). -/

namespace Sys2Proof.Machine

open Sys2Proof Host

/-! ### FLOW (R344, R351, R352) -/

section
variable (r : GravCtx) (len target : Nat)

theorem GravCtx.jump_outside (branch : Bool) (h : len ≤ target) : r.jump len target branch = .exception 1 := if_pos h

theorem GravCtx.jump_inside (branch : Bool) (h : target < len) :
    r.jump len target branch = .ok { r with pc := r.pc + 1, delay := some (target, branch) } :=
  if_neg (Nat.not_le.2 h)

variable (h : r.straight)
include h

/-- A loop at the outer level, which is free. -/
theorem GravCtx.loop_outer (count : Nat) (hfirst : r.pc < target) (hlast : target < len) :
    r.loop len 0 count target = if count = 0 then .ok { r with pc := target + 1 } else .ok { r with
      lc := r.lc.set 0 (BitVec.ofNat 16 count), lv0 := some ⟨r.pc + 1, target⟩, pc := r.pc + 1 } := by
  obtain ⟨-, hlv0, -⟩ := h
  have hbody : ¬target < r.pc + 1 := by omega
  simp [GravCtx.loop, hlv0, hbody, Nat.not_le.2 hlast]

/-- The inner level nests in an outer one, and none is active. -/
theorem GravCtx.loop_inner (count : Nat) : r.loop len 1 count target = .exception 0 := by
  obtain ⟨-, hlv0, hlv1⟩ := h
  simp [GravCtx.loop, hlv0, hlv1]

end

/-- A level at its last iteration ends with its end bundle (R351). -/
theorem GravCtx.advance_of_lastEnd (r : GravCtx) (l : LoopLevel) (hdelay : r.delay = none) (hlv0 : r.lv0 = some l)
    (hlv1 : r.lv1 = none) (hlast : l.last = r.pc) (hcount : (r.lc.getD 0 0#16).toNat ≤ 1) :
    r.advance = { r with lc := r.lc.set 0 0#16, lv0 := none, pc := l.last + 1 } := by
  have hzero : (r.lc.getD 0 0#16).toNat - 1 = 0 := by omega
  simp only [GravCtx.advance, hdelay, hlv0, hlv1, hlast, GravCtx.loopEnd, hzero, if_true]

/-! ### Stops (R354–R362) -/

section
variable (c : Fin 8) (i : Inst) (s : State) (hissue : s.issuing c.val = some i)
include hissue

theorem execTrap_of_fetch (arg : BitVec 16) (hvendor : vendorNode i.node = false) (hfetch : i.fetch = .ok (.sys 4#4 arg))
    (hover : i.overruns (.sys 4#4 arg) = false) : execTrap c s = .next (s.exceptInst i 4) := by
  have hrow := State.issueRow_of_fetch hissue hvendor hfetch (holds := Bundle.hasSys 4#4) rfl
  refine congrArg Outcome.next (hrow.trans ?_)
  simp [State.issueBundle, hover, Inst.loadAddrs, Inst.run]

theorem execOverrun_of_fetch (b : Bundle) (hvendor : vendorNode i.node = false) (hfetch : i.fetch = .ok b)
    (hover : i.overruns b = true) : execOverrun c s = .next (s.exceptInst i 3) := by
  simp [execOverrun, hissue, hvendor, hfetch, hover]

theorem execExit_of_vendor (hvendor : vendorNode i.node = true) : execExit c s = .next (s.exitInst i) := by
  simp [execExit, hissue, hvendor]

end

/-- Settles O38: FLOW by the operation and where its target lies, the stops by what was fetched. -/
theorem flowAndStopsComplete : Obligations.FlowAndStopsComplete := by
  unfold Obligations.FlowAndStopsComplete
  refine ⟨fun i cond level count target n x y h => ?flow, fun i op arg x y h => ?sys,
    fun c i arg s hissue => execTrap_of_fetch c i s hissue arg, fun c i b s hissue => execOverrun_of_fetch c i s hissue b,
    execExit_of_vendor, fun c i b r l s h hlv hlast hcount => execLoopCountExpire_of_issues h l hlv hlast hcount,
    GravCtx.advance_of_lastEnd⟩
  case flow =>
    intro old run to_
    have hbranch (hcond : old.cond cond.toNat = true) : run 1#4 = run 0#4 := if_pos hcond
    have hcall (hfree : old.stack.length < 4) : run 2#4 =
        ({ old with stack := (old.pc + 2) :: old.stack } : GravCtx).jump i.code.length target.toNat false :=
      if_neg (Nat.not_le.2 hfree)
    refine ⟨fun hout => ?_, fun hin => ?_, fun hcond => if_neg (by rw [hcond]; decide), fun hfull => if_pos hfull,
      fun hempty => ?_, fun r rest hstack => ?_, fun hlevel hfirst hlast => ?_, fun hlevel => ?_⟩
    · have hjump : run 0#4 = .exception 1 := GravCtx.jump_outside _ _ _ _ hout
      exact ⟨hjump, fun hcond => (hbranch hcond).trans hjump,
        fun hfree => (hcall hfree).trans (GravCtx.jump_outside _ _ _ _ hout)⟩
    · have hjump : run 0#4 = to_ old true := GravCtx.jump_inside _ _ _ _ hin
      exact ⟨hjump, fun hcond => (hbranch hcond).trans hjump,
        fun hfree => (hcall hfree).trans (GravCtx.jump_inside _ _ _ _ hin)⟩
    · simp [run, Inst.run, Inst.flow, old, hempty]
    · simp [run, Inst.run, Inst.flow, old, hstack]
    · subst hlevel
      have hloop (k : Nat) := old.loop_outer i.code.length target.toNat h k hfirst hlast
      have hword (w : BitVec 16) : BitVec.ofNat 16 w.toNat = w := by simp
      have hreg : (i.readReg count.toNat).toNat % 2 ^ 16 = ((i.readReg count.toNat).setWidth 16).toNat := by
        rw [BitVec.toNat_setWidth]
      have hne (w : BitVec 16) (hw : w ≠ 0#16) : w.toNat ≠ 0 := fun h0 => hw (BitVec.eq_of_toNat_eq h0)
      refine ⟨fun hn => (hloop n.toNat).trans (if_pos (by rw [hn]; rfl)), fun hn => ?_, fun hr => ?_⟩
      · exact (hloop n.toNat).trans ((if_neg (hne n hn)).trans (by rw [hword]))
      · refine (congrArg (fun k => old.loop i.code.length 0 k target.toNat) hreg).trans ?_
        exact (hloop _).trans ((if_neg (hne _ hr)).trans (by rw [hword]))
    · subst hlevel
      exact ⟨old.loop_inner _ _ h _, old.loop_inner _ _ h _⟩
  case sys =>
    refine ⟨by simp [Inst.run], fun hop => (if_neg hop).trans (congrArg Ran.ok (i.regs.advance_of_straight h))⟩

/-! ### The Dispatch Unit (R373–R381) -/

theorem execInputsAvailable_of_released (n : Fin 4096) (k : Nat) (x : NodeNow) (s : State)
    (hvendor : vendorNode n.val = false) (hnew : (s.graver.insts.any fun y => y.node == n.val && y.block == k) = false)
    (hnode : s.nodeNow n.val = some x) (hrel : s.nodeReleases n.val k = true) (hready : s.inputsReady n.val k = true) :
    let i : Inst := { node := n.val, block := k, core := x.core, cls := s.nodeClass n.val, stage := .waiting
                      due := s.tickNow + s.get D.node_release n.val, deadline := s.nodeDeadline n.val k
                      released := s.time.local_ }
    execInputsAvailable n k s =
      .next (({ s with graver := { s.graver with insts := s.graver.insts ++ [i] } } : State).showNode n.val) := by
  simp only [execInputsAvailable, hvendor, hnew, hnode, hrel, hready, Bool.and_self, Bool.false_eq_true, if_false, if_true]

theorem execForcedSwitch_of_challenger (c : Fin 8) (r i : Inst) (s : State) (hissue : s.issuing c.val = some r)
    (hpreq : r.regs.preq = true) (hch : s.challenger c.val = some (r, i)) :
    let t := (s.putInst { r with stage := .preempted, regs := { r.regs with preq := false } }).showNode r.node
    execForcedSwitch c s = .next (((t.startInst i 1).count D.core_preempts c.val).count D.core_forced c.val) := by
  simp only [execForcedSwitch, hissue, hpreq, if_true, State.switchCore, hch]

/-- A node that missed its deadline has no run of exceptions. -/
def State.streakEnds (s : State) (node : Nat) : State :=
  match s.nodeNow node with
  | some x => s.putNode { x with exceptions := 0 }
  | none => s

theorem execGraverDeadline_of_missed (n : Fin 4096) (k : Nat) (i : Inst) (s : State)
    (h : (s.graver.insts.find? fun x => x.node == n.val && x.block == k && x.stage != .done) = some i) :
    let t := (((s.count D.node_misses i.node).error 0x59 i.node 0x0505 .warn).localEvent).instEnds i
    execGraverDeadline n k s = .next ((((t.streakEnds i.node).concealInst i).dropInst i).afterInst i) := by
  simp only [execGraverDeadline, h]
  generalize State.instEnds _ i = t
  rfl

/-- Settles O42: each event of the unit by the task it finds. -/
theorem dispatchEventsComplete : Obligations.DispatchEventsComplete := by
  unfold Obligations.DispatchEventsComplete
  refine ⟨execInputsAvailable_of_released, fun s => rfl, execForcedSwitch_of_challenger, fun n k i s h => ?deadline⟩
  case deadline =>
    refine (execGraverDeadline_of_missed n k i s h).trans ?_
    generalize State.instEnds _ i = t
    rfl

end Sys2Proof.Machine
end

section
/-! PROOFS. The fabric (chapter 13): neighbours and their handshake, link state, trees, and STREAM frames. -/

namespace Sys2Proof.Machine

open Sys2Proof Host

/-! ### Neighbours and links -/

@[simp] theorem State.nbr_port (s : State) (p : Nat) : (s.nbr p).port = p := by
  unfold State.nbr
  cases h : s.fabric.neighbours.find? fun n => n.port == p with
  | none => rfl
  | some n => simpa using List.find?_some h

theorem State.nbr_putNbr_same (s : State) (n : Neighbour) (p : Nat) (h : n.port = p) : (s.putNbr n).nbr p = n := by
  simp [State.nbr, State.putNbr, h]

/-- A frame that leaves a port changes the link's counter, the wire and what waits at the port. -/
theorem State.sendLink_only (s : State) (p : Nat) (f : FabFrame) (body : List Byte) : ∃ ns w q,
    s.sendLink p f body = { s with fabric := { s.fabric with neighbours := ns }, wire := w, ports := q } := by
  have hsend : ∀ (t : State) (m : Sent), ∃ w q, t.send m = { t with wire := w, ports := q } := fun t m => by
    unfold State.send
    split <;> exact ⟨_, _, rfl⟩
  unfold State.sendLink
  dsimp only
  split
  · obtain ⟨w, q, h⟩ := hsend (s.putNbr _) _
    exact ⟨_, w, q, h⟩
  · obtain ⟨w, q, h⟩ := hsend s _
    exact ⟨_, w, q, h⟩

section
variable (s : State) (p : Nat) (f : FabFrame) (body : List Byte)

theorem State.vertex_sendLink : (s.sendLink p f body).vertex = s.vertex := by
  obtain ⟨ns, w, q, h⟩ := s.sendLink_only p f body
  rw [h]
  rfl

theorem State.heldLsa_sendLink (v : Nat) : (s.sendLink p f body).heldLsa v = s.heldLsa v := by
  obtain ⟨ns, w, q, h⟩ := s.sendLink_only p f body
  rw [h]
  rfl

theorem State.seq_sendLink : (s.sendLink p f body).fabric.seq = s.fabric.seq := by
  obtain ⟨ns, w, q, h⟩ := s.sendLink_only p f body
  rw [h]

end

/-! ### What a received frame has to hold (R500, R501) -/

section
variable {s : State} {p type : Nat} {f : FabFrame} {body : List Byte}

theorem State.linkFrame_of_unformed (h : f.formed type body = false) :
    s.linkFrame p type f body = (s.count D.fab_format_drops, false) := by
  simp [State.linkFrame, h]

theorem State.linkFrame_of_plain (h : f.formed type body = true) (ht : s.trailed p type = false) :
    s.linkFrame p type f body = (s, true) := by
  simp [State.linkFrame, h, ht]

variable {k : LinkDir} (h : f.formed type body = true) (hstate : s.get D.nbr_state p = 3) (htype : type ≠ ftAdmit)
  (hrx : (s.nbr p).rx = some k)
include h hstate htype hrx

theorem State.linkFrame_of_admitted (hk : k.admits f body = true) : s.linkFrame p type f body =
    (s.putNbr { s.nbr p with rx := some (k.accept f.linkSeq), rxOld := none }, true) := by
  simp [State.linkFrame, h, State.trailed, htype, hstate, State.linkAuth, hrx, hk]

theorem State.linkFrame_of_forged (hold : (s.nbr p).rxOld = none) (hk : k.admits f body = false) :
    s.linkFrame p type f body = (s.count D.fab_auth_drops, false) := by
  simp [State.linkFrame, h, State.trailed, htype, hstate, State.linkAuth, hrx, hold, hk]

end

section
variable (p : Fin 6) (t : FabFrame) (s u : State) (hport : s.fabPort p.val = true)
include hport

theorem execFabHello_of_dropped (h : Hello) (hdrop : s.linkFrame p.val ftHello t h.bytes = (u, false)) :
    execFabHello p h t s = .next u := by
  simp [execFabHello, hport, hdrop]

theorem execLsa_of_dropped (l : Lsa) (hdrop : s.linkFrame p.val ftLsa t l.bytes = (u, false)) :
    execLsa p l t s = .next u := by
  simp [execLsa, hport, hdrop]

theorem execLsaAck_of_dropped (v q : Nat) (hdrop : s.linkFrame p.val ftLsaAck t (lsaAckBytes v q) = (u, false)) :
    execLsaAck p v q t s = .next u := by
  simp [execLsaAck, hport, hdrop]

theorem execStreamFrameRx_of_dropped (f : StreamFrame) (hdrop : s.linkFrame p.val ftStream t f.bytes = (u, false)) :
    execStreamFrameRx p f t s = .next u := by
  simp [execStreamFrameRx, hport, hdrop]

theorem execAdmit_of_dropped (a : AdmitFrame) (hdrop : s.linkFrame p.val ftAdmit a.frame a.step.bytes = (u, false)) :
    execAdmit p a s = .next u := by
  simp [execAdmit, hport, hdrop]

end

/-! ### HELLO (R503, R504) -/

/-- What a HELLO tells of the neighbour. -/
def State.noteHello (s : State) (p : Nat) (h : Hello) (mac : Nat) : State :=
  (s.set D.nbr_vertex (h.slot * 4096 + h.node) p).putNbr { s.nbr p with remotePort := h.port, peerMac := mac }

theorem State.get_noteHello (s : State) (p : Nat) (h : Hello) (mac : Nat) (o : Obj) (i : Nat)
    (ho : apart D.nbr_vertex 0 o 0 = true) : (s.noteHello p h mac).get o i = s.get o i :=
  State.get_set_apart s _ _ _ _ _ ho

theorem State.fabId_noteHello (s : State) (p : Fin 6) (h : Hello) (mac : Nat) :
    (s.noteHello p.val h mac).get D.fab_id = s.get D.fab_id :=
  State.get_set_else _ _ _ _ _ _ ⟨by simp only [Obj.addr, D.nbr_vertex, D.fab_id]; omega, rfl⟩

theorem State.helloDiffers_noteHello (s : State) (p : Fin 6) (h : Hello) (mac : Nat) :
    (s.noteHello p.val h mac).helloDiffers h = s.helloDiffers h := by
  simp only [State.helloDiffers, s.fabId_noteHello p h mac, s.get_noteHello p h mac D.render_rate 0 (by decide),
    s.get_noteHello p h mac D.pres_offset 0 (by decide)]

theorem execFabHello_of_new (p : Fin 6) (h : Hello) (t : FabFrame) (s : State) (hport : s.fabPort p.val = true)
    (hstate : s.get D.nbr_state p.val = 1) (hformed : t.formed ftHello h.bytes = true) :
    let u := s.noteHello p.val h t.mac
    execFabHello p h t s = if s.helloDiffers h ≠ 0 then
        .next (((u.nbrMove p.val 4).set D.nbr_mismatch (s.helloDiffers h) p.val).error 0x20 p.val 0x0A01 .warn)
      else .next (((u.set D.nbr_mismatch 0 p.val).set D.nbr_state 2 p.val).startAdmit p.val t.mac) := by
  intro u
  have hlink : s.linkFrame p.val ftHello t h.bytes = (s, true) :=
    State.linkFrame_of_plain hformed (by simp [State.trailed, hstate])
  have hu : u.get D.nbr_state p.val = 1 := (s.get_noteHello _ _ _ _ _ (by decide)).trans hstate
  have hdiff : u.helloDiffers h = s.helloDiffers h := s.helloDiffers_noteHello p h t.mac
  have hnote : (s.set D.nbr_vertex (h.slot * 4096 + h.node) p.val).putNbr
      { (s.set D.nbr_vertex (h.slot * 4096 + h.node) p.val).nbr p.val with remotePort := h.port, peerMac := t.mac } = u := rfl
  simp only [execFabHello, hport, hlink, hnote, hu, Nat.one_ne_zero, if_false, hdiff, decide_true, Bool.true_or, Bool.not_true,
    Bool.false_eq_true, if_true, ne_eq]

theorem execHelloTimer_of_awake (p : Fin 6) (s : State) (hport : s.fabPort p.val = true) (hq : s.fabric.quiet = false) :
    execHelloTimer p s = .next (s.sendHello p.val) := by
  simp [execHelloTimer, hport, hq]

theorem State.nbrDown_of_known (s : State) (p : Nat) (h : s.get D.nbr_state p ≠ 0) :
    s.nbrDown p = ((s.count D.nbr_hello_lost p).nbrMove p 0).putNbr { port := p } := if_neg h

/-! ### The handshake of a link (R505, R506) -/

section
variable (p : Fin 6) (f : FabFrame) (s : State) (hport : s.fabPort p.val = true) (hstate : s.get D.nbr_state p.val = 2)
include hport hstate

theorem execAdmit_of_step (step : AdmitStep) (hformed : f.formed ftAdmit step.bytes = true) :
    execAdmit p ⟨f, step⟩ s = .next (s.admitStep p.val step) := by
  have hlink : s.linkFrame p.val ftAdmit f step.bytes = (s, true) :=
    State.linkFrame_of_plain hformed (by simp [State.trailed])
  simp [execAdmit, hport, hlink, hstate]

end

section
variable (s : State) (p : Nat)

theorem State.admitStep_init (nonce key : List Byte) (hmac : (s.nbr p).peerMac < s.get D.port_mac p) :
    s.admitStep p (.init nonce key) = s.admitInit p nonce key := by
  have hnot : s.initiates p = false := decide_eq_false (Nat.not_lt.2 hmac.le)
  simp [State.admitStep, hnot]

/-- The responder of a handshake that opens: its keys, and the state that holds them. -/
def State.opened (s : State) (p : Nat) (x : LinkShake) : State :=
  let t := s.pass.pass.putNbr { s.nbr p with shake := some x, rekey := s.get D.nbr_state p == 3 }
  { t with fabric := { t.fabric with nextShake := x.id % (2 ^ 32 - 1) + 1 } }

theorem State.nbr_opened (x : LinkShake) :
    (s.opened p x).nbr p = { s.nbr p with shake := some x, rekey := s.get D.nbr_state p == 3 } :=
  State.nbr_putNbr_same s.pass.pass _ _ (s.nbr_port p)

theorem State.admitInit_of_owned (nonce key : List Byte) (howner : s.get D.owner_state ≠ 0) (hnonce : nonce.length = 16)
    (hkey : (keyOf key).isSome = true) :
    let x := s.respond nonce key
    s.admitInit p nonce key = (s.opened p x).sendAdmit p (.reply scOk x.id x.nonceM x.keyM s.linkChain.length) := by
  have hsome : ¬(keyOf key).isNone = true := by simpa [Option.isSome_iff_ne_none] using hkey
  simp only [State.admitInit, howner, hnonce, hsome, ne_eq, not_true_eq_false, decide_false, Bool.or_self,
    Bool.false_eq_true, if_false]
  rfl

theorem State.admitInit_of_unowned (nonce key : List Byte) (howner : s.get D.owner_state = 0) :
    s.admitInit p nonce key = (s.sendAdmit p (.reply scAuth 0 [] [] 0)).admitRefused p := by
  simp [State.admitInit, howner]

/-- Where no clock holds a valid time a record says so (R113). -/
def State.timeNoted (s : State) : State := if s.utcNow.isSome then s else s.error 0x01 0 0x0308 .info

theorem State.admitStep_finish (x : LinkShake) (id : Nat) (sig : List Byte) (hshake : (s.nbr p).shake = some x)
    (hresp : x.initiator = false) (hid : x.id = id) :
    let t := s.timeNoted
    s.admitStep p (.finish id sig) = if t.admitsLink x sig then
      (t.pass.sendAdmit p (.finishReply scOk
        (ecdsaSign Config.deviceKey (scalarOf t.freeHere) (x.transcript t.linkChain)))).admitNbr p x
    else (t.sendAdmit p (.finishReply scAuth [])).admitRefused p := by
  simp only [State.admitStep, hshake, hresp, hid, State.judgeNbr, ne_eq, not_true_eq_false, decide_false, Bool.or_self,
    Bool.false_eq_true, if_false]
  rfl

theorem State.admitStep_finishReply (x : LinkShake) (status : Nat) (sig : List Byte) (hshake : (s.nbr p).shake = some x)
    (hinit : x.initiator = true) (htotal : 0 < x.total) (hchain : x.total ≤ x.chain.length) :
    let t := s.timeNoted
    s.admitStep p (.finishReply status sig) =
      if status = scOk && t.admitsLink x sig then t.admitNbr p x else t.admitRefused p := by
  simp only [State.admitStep, hshake, hinit, Nat.ne_of_gt htotal, Nat.not_lt.2 hchain, State.judgeNbr, Bool.not_true,
    decide_false, Bool.or_self, Bool.false_eq_true, if_false]
  rfl

/-- A new handshake on a link that is TWO_WAY installs its keys, and the old receive key stays. -/
theorem State.nbr_admitNbr_of_twoWay (x : LinkShake) (hstate : s.get D.nbr_state p = 3) :
    (s.admitNbr p x).nbr p = { s.nbr p with
      rekey := false, shake := none, tx := some (x.directions s.linkChain).1, rx := some (x.directions s.linkChain).2
      rxOld := (s.nbr p).rx } := by
  simp only [State.admitNbr, hstate, if_true]
  exact State.nbr_putNbr_same _ _ _ (s.nbr_port p)

theorem State.admitRefused_of_admitting (hstate : s.get D.nbr_state p = 2) :
    s.admitRefused p = (s.putNbr { s.nbr p with shake := none }).refuseNbr p := by
  simp [State.admitRefused, hstate]

end

theorem execSceneDigestMismatch_of_new (p : Fin 6) (s : State) (hstate : s.get D.nbr_state p.val = 3)
    (hnew : (s.nbr p.val).differs = false) : execSceneDigestMismatch p s =
      .next (((s.putNbr { s.nbr p.val with differs := true }).sceneMatch).error 0x20 p.val 0x0A04 .degraded) := by
  simp [execSceneDigestMismatch, hstate, hnew]

/-! ### Link state (R508, R520) -/

section
variable (p : Fin 6) (k : LinkDir) (t : FabFrame) (s : State) (hport : s.fabPort p.val = true)
  (hstate : s.get D.nbr_state p.val = 3) (hrx : (s.nbr p.val).rx = some k)

/-- The link after a frame that it admitted. -/
def State.linkTook (s : State) (p : Nat) (k : LinkDir) (t : FabFrame) : State :=
  s.putNbr { s.nbr p with rx := some (k.accept t.linkSeq), rxOld := none }

/-- The acknowledgement of an LSA leaves. -/
def State.ackLsa (s : State) (p : Nat) (l : Lsa) : State :=
  s.sendLink p (s.linkHead ftLsaAck) (lsaAckBytes l.vertex l.seq)

include hport hstate hrx

theorem execLsa_of_admitted (l : Lsa) (hformed : t.formed ftLsa l.bytes = true) (hk : k.admits t l.bytes = true) :
    let v := (s.linkTook p.val k t).ackLsa p.val l
    execLsa p l t s =
      if l.vertex = s.vertex then
        (if s.fabric.seq ≤ l.seq && l ≠ v.ownLsa then .next (v.floodOwn (l.seq + 1)) else .next v)
      else if ∃ h, s.heldLsa l.vertex = some h ∧ l.seq ≤ h.seq then .next v.fabMoves
      else .next (((v.holdLsa l).flood l (v.twoWay.filter fun q => q != p.val)).graphTouched) := by
  intro v
  have hlink : s.linkFrame p.val ftLsa t l.bytes = (s.linkTook p.val k t, true) :=
    State.linkFrame_of_admitted hformed hstate (by decide) hrx hk
  have hack : (s.linkTook p.val k t).sendLink p.val ((s.linkTook p.val k t).linkHead ftLsaAck)
      (lsaAckBytes l.vertex l.seq) = v := rfl
  have hvertex : v.vertex = s.vertex := State.vertex_sendLink ..
  have hseq : v.fabric.seq = s.fabric.seq := State.seq_sendLink ..
  have hheld : v.heldLsa l.vertex = s.heldLsa l.vertex := State.heldLsa_sendLink ..
  simp only [execLsa, hport, hlink, hack, hvertex, hseq, hheld, Bool.not_true, Bool.false_eq_true, if_false, ge_iff_le]
  refine if_congr Iff.rfl rfl ?_
  cases hl : s.heldLsa l.vertex with
  | none => simp
  | some h =>
    by_cases hnew : h.seq < l.seq
    · simp [hnew, Nat.not_le.2 hnew]
    · simp [hnew, Nat.not_lt.1 hnew]

theorem execLsaAck_of_admitted (vertex seq : Nat) (hformed : t.formed ftLsaAck (lsaAckBytes vertex seq) = true)
    (hk : k.admits t (lsaAckBytes vertex seq) = true) :
    let u := s.linkTook p.val k t
    execLsaAck p vertex seq t s = .next ({ u with fabric := { u.fabric with
      waiting := s.fabric.waiting.filter fun w =>
        !(w.1 == p.val && w.2.1 == vertex && decide (w.2.2 ≤ seq)) } } : State).fabMoves := by
  have hlink : s.linkFrame p.val ftLsaAck t (lsaAckBytes vertex seq) = (s.linkTook p.val k t, true) :=
    State.linkFrame_of_admitted hformed hstate (by decide) hrx hk
  simp only [execLsaAck, hport, hlink, Bool.not_true, Bool.false_eq_true, if_false]
  rfl

/-! ### STREAM frames (R514, R519) -/

theorem execStreamFrameRx_of_stray (f : StreamFrame) (hformed : t.formed ftStream f.bytes = true)
    (hk : k.admits t f.bytes = true) (hcame : (s.linkTook p.val k t).cameBy p.val t = none) :
    execStreamFrameRx p f t s = .next ((s.linkTook p.val k t).count D.fab_rpf_drops) := by
  have hlink : s.linkFrame p.val ftStream t f.bytes = (s.linkTook p.val k t, true) :=
    State.linkFrame_of_admitted hformed hstate (by decide) hrx hk
  simp only [execStreamFrameRx, hport, hlink, hcame, Bool.not_true, Bool.false_eq_true, if_false]

theorem execStreamFrameRx_of_tree (f : StreamFrame) (tree : Tree) (hformed : t.formed ftStream f.bytes = true)
    (hk : k.admits t f.bytes = true) (hcame : (s.linkTook p.val k t).cameBy p.val t = some tree) :
    execStreamFrameRx p f t s = .next (((s.linkTook p.val k t).deliverStream t f).passOn tree t f.bytes) := by
  have hlink : s.linkFrame p.val ftStream t f.bytes = (s.linkTook p.val k t, true) :=
    State.linkFrame_of_admitted hformed hstate (by decide) hrx hk
  simp only [execStreamFrameRx, hport, hlink, hcame, Bool.not_true, Bool.false_eq_true, if_false]

end

theorem execLsaResend_of_one (p : Fin 6) (vertex seq : Nat) (l : Lsa) (s : State)
    (hdue : (s.fabric.waiting.filter fun w => w.1 == p.val) = [(p.val, vertex, seq)])
    (hheld : s.heldLsa vertex = some l) : execLsaResend p s = .next (s.sendLsa p.val l) := by
  simp [execLsaResend, hdue, hheld]

theorem execLsaAgeOut_of_old (vertex : Nat) (h : HeldLsa) (s : State) (hmem : h ∈ s.fabric.lsdb)
    (hvertex : h.lsa.vertex = vertex) (hother : vertex ≠ s.vertex)
    (hage : 90000000000 * ns32 ≤ s.time.local_ - h.time) : execLsaAgeOut vertex s =
      .next ({ s with fabric := { s.fabric with
        lsdb := s.fabric.lsdb.filter fun g => g.lsa.vertex != vertex } } : State).graphTouched := by
  refine if_pos (List.any_eq_true.2 ⟨h, hmem, ?_⟩)
  rw [decide_eq_true hage]
  simp [hvertex, hother]

theorem execGraphChange_of_dirty (s : State) (hdirty : s.fabric.dirty = true) (hswitch : s.switching = false) :
    execGraphChange s = .next s.installTrees := by
  simp [execGraphChange, hdirty, hswitch]

section
variable (s : State) (p : Nat) (t : FabFrame)

theorem State.cameBy_of_none (h : s.treeOf t.vertex t.treeB t.gen = none) : s.cameBy p t = none := by
  simp [State.cameBy, h]

theorem State.cameBy_of_other (tree : Tree) (h : s.treeOf t.vertex t.treeB t.gen = some tree)
    (hparent : parentPort tree s.vertex ≠ some p) : s.cameBy p t = none := by
  simp [State.cameBy, h, hparent]

theorem State.cameBy_of_parent (tree : Tree) (h : s.treeOf t.vertex t.treeB t.gen = some tree)
    (hparent : parentPort tree s.vertex = some p) (hother : t.vertex ≠ s.vertex) : s.cameBy p t = some tree := by
  simp [State.cameBy, h, hparent, hother]

theorem State.deliverStream_of_none (f : StreamFrame) (h : s.streamContexts t.streamId = []) :
    s.deliverStream t f = s.noteFlow t f.status.length := by
  simp [State.deliverStream, h]

/-- A frame for every vertex goes on to the children, while hops are left. -/
theorem State.passOn_of_every (tree : Tree) (body : List Byte) (hconf : s.get D.fab_state ≠ 3)
    (hevery : t.forEvery = true) : s.passOn tree t body =
      if 1 < t.hop then
        (childPorts tree s.vertex).foldl (fun w q => w.sendLink q { t with hop := t.hop - 1 } body) s
      else if (childPorts tree s.vertex).isEmpty then s else s.count D.fab_hop_drops := by
  simp only [State.passOn, hconf, State.treePorts, hevery, if_true, if_false]

end

/-- Settles O44: a frame by its format, its trailer and what the link, the tree and the context hold. -/
theorem fabricEventsComplete : Obligations.FabricEventsComplete := by
  unfold Obligations.FabricEventsComplete
  refine ⟨⟨fun p h t s hport hstate hformed => ?hello, fun p h l v q f a t s hport => ?drops, execHelloTimer_of_awake,
      fun p s h => congrArg Outcome.next (s.nbrDown_of_known p.val h), fun p f s hport hstate => ?shake,
      fun p x s hstate => ?keys, fun p s hstate => ?timeout, fun p s h => if_pos h, fun p s h => if_pos h,
      execSceneDigestMismatch_of_new, fun s => rfl, fun s h => if_pos h⟩,
    ⟨fun p k t s hport hstate hrx => ?lsa, execLsaResend_of_one, fun s => rfl, execLsaAgeOut_of_old,
      execGraphChange_of_dirty, fun s => rfl, fun s => rfl, fun s => rfl⟩,
    fun p f k t s hport hstate hrx hformed hk => ?stream, fun c s hkind horig hblock => ?tx⟩
  case hello =>
    have hnew := execFabHello_of_new p h t s hport hstate hformed
    exact ⟨fun h0 => hnew.trans (if_neg (not_not.2 h0)), fun h0 => hnew.trans (if_pos h0)⟩
  case drops =>
    refine ⟨fun hf => execFabHello_of_dropped p t s _ hport h (State.linkFrame_of_unformed hf),
      fun hf => execAdmit_of_dropped p s _ hport a (State.linkFrame_of_unformed hf),
      fun hf => execLsa_of_dropped p t s _ hport l (State.linkFrame_of_unformed hf),
      fun hf => execLsaAck_of_dropped p t s _ hport v q (State.linkFrame_of_unformed hf),
      fun hf => execStreamFrameRx_of_dropped p t s _ hport f (State.linkFrame_of_unformed hf),
      fun k hstate hrx hold => ⟨fun hf hk => ?_, fun hf hk => ?_, fun hf hk => ?_, fun hf hk => ?_⟩⟩
    · exact execFabHello_of_dropped p t s _ hport h (State.linkFrame_of_forged hf hstate (by decide) hrx hold hk)
    · exact execLsa_of_dropped p t s _ hport l (State.linkFrame_of_forged hf hstate (by decide) hrx hold hk)
    · exact execLsaAck_of_dropped p t s _ hport v q (State.linkFrame_of_forged hf hstate (by decide) hrx hold hk)
    · exact execStreamFrameRx_of_dropped p t s _ hport f (State.linkFrame_of_forged hf hstate (by decide) hrx hold hk)
  case shake =>
    intro step good
    have hstep := fun x (hgood : good x) => execAdmit_of_step p f s hport hstate x hgood
    refine ⟨fun nonce key hgood hmac howner hnonce hkey => ?_, fun nonce key hgood hmac howner => ?_,
      fun id sig x hgood hshake hresp hid => ?_, fun status sig x hgood hshake hinit htotal hchain => ?_⟩
    · have hinit := (s.admitStep_init p.val nonce key hmac).trans (s.admitInit_of_owned p.val nonce key howner hnonce hkey)
      have hnbr := s.nbr_opened p.val (s.respond nonce key)
      refine ⟨_, _, (hstep _ hgood).trans (congrArg _ hinit), ?_, rfl, rfl, rfl, rfl, rfl, rfl, ?_, ?_⟩ <;> rw [hnbr]
    · exact (hstep _ hgood).trans (congrArg _ ((s.admitStep_init p.val nonce key hmac).trans
        (s.admitInit_of_unowned p.val nonce key howner)))
    · exact (hstep _ hgood).trans (congrArg _ (s.admitStep_finish p.val x id sig hshake hresp hid))
    · exact (hstep _ hgood).trans (congrArg _ (s.admitStep_finishReply p.val x status sig hshake hinit htotal hchain))
  case keys =>
    have hn := s.nbr_admitNbr_of_twoWay p x hstate
    intro n z k pm mp
    have hdir : x.directions s.linkChain = if x.initiator then (pm, mp) else (mp, pm) := rfl
    refine ⟨?_, ?_, ?_, ?_, ?_⟩ <;> simp only [n, hn, hdir]
    · split <;> rfl
    · split <;> rfl
  case timeout => exact (if_pos (by simp [hstate])).trans (congrArg _ (s.admitRefused_of_admitting p.val hstate))
  case lsa =>
    refine ⟨fun l hformed hk => ?_,
      fun vertex seq hformed hk => execLsaAck_of_admitted p k t s hport hstate hrx vertex seq hformed hk⟩
    have hexec := execLsa_of_admitted p k t s hport hstate hrx l hformed hk
    refine ⟨fun hother hnew => ?_, fun hother hold => ?_, fun hown hseq hdiff => ?_⟩
    · refine hexec.trans ((if_neg hother).trans (if_neg ?_))
      rintro ⟨h, hheld, hle⟩
      exact absurd (hnew h hheld) (Nat.not_lt.2 hle)
    · exact hexec.trans ((if_neg hother).trans (if_pos hold))
    · exact hexec.trans ((if_pos hown).trans (if_pos (by
        rw [Bool.and_eq_true]
        exact ⟨decide_eq_true hseq, decide_eq_true hdiff⟩)))
  case stream =>
    intro u
    have htree : u.treeOf t.vertex t.treeB t.gen = s.treeOf t.vertex t.treeB t.gen := rfl
    have hstray := execStreamFrameRx_of_stray p k t s hport hstate hrx f hformed hk
    refine ⟨fun hnone => hstray (u.cameBy_of_none p.val t (htree.trans hnone)), fun tree hsome =>
      ⟨fun hparent => hstray (u.cameBy_of_other p.val t tree (htree.trans hsome) hparent),
        fun hparent hother hevery hctx hconf => ?_⟩⟩
    intro v
    have hv : u.deliverStream t f = v := u.deliverStream_of_none t f hctx
    have hvertex : s.vertex = v.vertex := rfl
    have hrx' : execStreamFrameRx p f t s = .next (v.passOn tree t f.bytes) := by
      rw [← hv]
      exact execStreamFrameRx_of_tree p k t s hport hstate hrx f tree hformed hk
        (u.cameBy_of_parent p.val t tree (htree.trans hsome) hparent hother)
    rw [v.passOn_of_every t tree f.bytes hconf hevery] at hrx'
    refine ⟨fun hhop => hrx'.trans (congrArg _ (if_pos hhop)), fun hhop hchild => ?_, fun hhop hchild => ?_⟩
    · exact hrx'.trans (congrArg _ ((if_neg (Nat.not_lt.2 hhop)).trans (if_neg (by
        simpa [List.isEmpty_iff, hvertex] using hchild))))
    · exact hrx'.trans (congrArg _ ((if_neg (Nat.not_lt.2 hhop)).trans (if_pos (by
        simpa [List.isEmpty_iff, hvertex] using hchild))))
  case tx => exact if_neg (by simp [hkind, horig, Nat.ne_of_gt hblock])

end Sys2Proof.Machine
end

section
/-! PROOFS. Twin operation (chapter 14): roles, the sideband, the lanes, self-tests, and the Lace messages. -/

namespace Sys2Proof.Machine

open Sys2Proof Host

/-! ### Roles and the sideband -/

theorem execElection_of_resync (s : State) (hrole : s.role = roleResync) (hphase : s.power.phase = .running)
    (hin : s.twin.roleIn = false) (hawake : s.twin.asleep = false) (hzero : s.twin.slotZero = true) :
    execElection s = .next (s.fence.becomeActive 5) :=
  if_pos (by simp [hrole, hphase, hin, hawake, hzero])

/-- A STANDBY that is awake, with no switch under way, takes over when its partner is lost. -/
theorem State.declareLost_of_standby (s : State) (cause : Nat) (hrole : s.role = roleStandby)
    (hawake : s.twin.asleep = false) (hswitch : s.twin.switchAt = none) : s.declareLost cause = s.takeOver cause := by
  simp [State.declareLost, hrole, hawake, hswitch]

theorem State.switchNow_of_standby (s : State) (h : s.role = roleStandby) :
    s.switchNow = ((s.set D.twin_partner_role roleStandby).becomeActive 3).refreshHealth := by
  refine (if_neg ?_).trans (if_pos h)
  rw [h]
  exact Bool.false_ne_true

theorem State.switchNow_of_active (s : State) (h : s.role = roleActive) (hpartner : s.partnerRole = roleStandby) :
    s.switchNow = (((s.dropDrive).set D.twin_role roleStandby).set D.twin_partner_role roleActive).refreshHealth :=
  if_pos (by simp [h, hpartner])

section
variable (s : State) (henable : s.getB D.twin_enable = true)
include henable

theorem execRoleLineFall_of_active (hrole : s.role = roleStandby) (hawake : s.twin.asleep = false)
    (hswitch : s.twin.switchAt = none) (hpartner : s.partnerRole = roleActive) (htheirs : s.twin.theirResult = none) :
    execRoleLineFall s = .next (({ s with twin := { s.twin with roleIn := false } } : State).takeOver 1) := by
  have hlost := State.declareLost_of_standby { s with twin := { s.twin with roleIn := false } } 1 hrole hawake hswitch
  refine (if_pos (by simp [henable, hpartner])).trans (congrArg Outcome.next ?_)
  rw [htheirs, if_neg (by simp)]
  exact hlost

theorem execHeartbeatTimeout_of_enabled (b l : Bool) :
    let t : State := { s with twin := { s.twin with hbLost := b, laceLost := l } }
    execHeartbeatTimeout b l s =
      if b && l then .next ((t.declareLost 2).set D.twin_partner_role 5).refreshHealth
      else if b then .next (t.refreshHealth.error 0x68 0 0x0B08 .warn)
      else if l then .next (t.refreshHealth.error 0x68 0 0x0B09 .warn)
      else .next t.refreshHealth :=
  if_neg (by simp [henable])

theorem execTwTakeFall_of_driving (hdrive : s.twin.drive = true) : execTwTakeFall s = .next s.enterFailed :=
  if_pos (by simp [henable, hdrive])

theorem execTwHbEdge_of_enabled (level : Bool) : execTwHbEdge level s = .next
    (({ s with twin := { s.twin with roleIn := level, hbSeen := true, hbLost := false } } : State).wakeUp
      .partner).refreshHealth :=
  if_neg (by simp [henable])

/-! ### The lanes -/

theorem execLaceLaneUp_of_usable (lane : Fin 2) (hstate : s.get D.lace_state lane.val ≠ 3) : execLaceLaneUp lane s =
    .next ((s.set D.lace_state 2 lane.val).sendLaceHello lane.val).refreshHealth :=
  if_neg (by simp [henable, hstate])

theorem execLaceLaneDown_of_enabled (lane : Fin 2) :
    let t := s.set D.lace_state 0 lane.val
    execLaceLaneDown lane s =
      .next (if s.laneUp lane.val && !t.laneUp (1 - lane.val) then t.laceLost else t).refreshHealth :=
  if_neg (by simp [henable])

end

theorem State.role_set_laceState (s : State) (v n : Nat) : (s.set D.lace_state v n).role = s.role :=
  State.get_set_apart _ _ _ _ _ _ (by decide)

theorem State.laceLost_of_standby (s : State) (h : s.role = roleStandby) : s.laceLost = s.enterResync := by
  refine (if_neg ?_).trans (if_pos h)
  rw [h]
  exact (by decide : roleStandby ≠ roleActive)

theorem execTwHbToggle_of_beats (s : State) (h : s.beats = true) : execTwHbToggle s =
    .next (({ s with twin := { s.twin with hbOut := !s.twin.hbOut } } : State).send
      ⟨.sideband, "TW_HB_O", [if s.twin.hbOut then 0 else 1]⟩) := if_pos h

theorem execLaceHeartbeatTimer_of_beats (s : State) (h : s.beats = true) : execLaceHeartbeatTimer s =
    .next ((List.range 2).foldl (fun t n => if t.laneUp n then
      t.sendLace n ltHeartbeat (LaceBeat.bytes ⟨Fin.ofNat 5 t.role, true, t.twin.index⟩ t.blockNow (t.blockNow - 1))
      else t) s) := if_pos h

/-! ### Self-tests and the end of a resync -/

theorem execSelftestDone_of_good (unit : Nat) (s : State) (h : s.twin.testing = false) :
    execSelftestDone unit true s = .next (s.setHealth hSelftest false) := by
  simp [execSelftestDone, h]

theorem execSelftestDone_of_bad (unit : Nat) (s : State) (h : s.twin.testing = false) (hrole : s.role = roleResync) :
    execSelftestDone unit false s = .next
      (((s.setHealth hSelftest true).set D.twin_selftest_unit (unit % 256)).error 0x68 0 0x0B07 .degraded) := by
  simp [execSelftestDone, h, hrole, roleResync, roleActive, roleStandby]

theorem execSelftestResultTimeout_of_active (own : Bool) (s : State) (htest : s.twin.testing = true)
    (hown : s.twin.ownResult = some own) (htheirs : s.twin.theirResult = none) (hrole : s.role = roleActive) :
    execSelftestResultTimeout s =
      .next (({ s with twin := { s.twin with testing := false } } : State).diverge.refreshHealth) := by
  have hnot : ¬s.role = roleStandby := by rw [hrole]; decide
  simp only [execSelftestResultTimeout, htest, hown, htheirs, hnot, if_false]

theorem execResyncComplete_of_ready (s : State) (hrole : s.role = roleResync) (hpaired : s.paired = true)
    (hpartner : s.partnerRole = roleActive) (hstep : s.twin.step = 3) : execResyncComplete s = .next
      (((s.set D.twin_role roleStandby).set D.twin_eligible_block s.blockNow).setHealth hDiverged false).refreshHealth :=
  if_pos (by simp [hrole, hpaired, hpartner, hstep])

/-- Settles O46: each event by the role that hears it; a STANDBY takes over, a lane that falls last costs it its role. -/
theorem twinRoleEventsComplete : Obligations.TwinRoleEventsComplete := by
  unfold Obligations.TwinRoleEventsComplete
  refine ⟨execElection_of_resync, fun s henable hrole hawake hswitch => ?standby,
    fun s hrole hpartner => congrArg Outcome.next (s.switchNow_of_active hrole hpartner), execTwTakeFall_of_driving,
    fun level s henable => execTwHbEdge_of_enabled s henable level,
    fun s h => ⟨execTwHbToggle_of_beats s h, execLaceHeartbeatTimer_of_beats s h⟩, fun s h => if_pos h,
    fun lane s henable => ⟨execLaceLaneUp_of_usable s henable lane, ?down⟩, State.laceLost_of_standby,
    fun unit s htest => ⟨execSelftestDone_of_good unit s htest, fun hrole => ?bad⟩,
    execSelftestResultTimeout_of_active, execResyncComplete_of_ready⟩
  case standby =>
    intro lost
    have htimeout := execHeartbeatTimeout_of_enabled s henable
    refine ⟨fun hpartner htheirs => execRoleLineFall_of_active s henable hrole hawake hswitch hpartner htheirs, ?_,
      htimeout true false, htimeout false true, congrArg Outcome.next (s.switchNow_of_standby hrole)⟩
    have hlost := (lost true true).declareLost_of_standby 2 hrole hawake hswitch
    have hboth : execHeartbeatTimeout true true s =
      .next (((lost true true).declareLost 2).set D.twin_partner_role 5).refreshHealth := htimeout true true
    rwa [hlost] at hboth
  case down =>
    have hdown := execLaceLaneDown_of_enabled s henable lane
    refine ⟨fun hother => hdown.trans ?_, fun hup hother => hdown.trans ?_⟩
    · rw [hother, Bool.not_true, Bool.and_false, if_neg Bool.false_ne_true]
    · rw [hup, hother, Bool.not_false, Bool.and_self, if_pos rfl]
  case bad =>
    refine ⟨_, execSelftestDone_of_bad unit s htest hrole, ?_, by simp [State.setHealth]⟩
    exact (State.get_error_else _ _ _ _ _ _ _ ⟨by decide, rfl⟩).trans (State.get_set_same _ _ _ _ _)

/-! ### What a Lace frame has to hold (R539, R540) -/

section
variable (s : State) (f : LaceIn) (type : Nat) (body : List Byte) (act : State → State)
  (henable : s.getB D.twin_enable = true)
include henable

theorem State.laceFrame_of_forged (hforged : f.holds body = false) :
    s.laceFrame f type body act = s.count D.lace_crc_errors f.lane.val := by
  simp [State.laceFrame, henable, hforged]

theorem State.laceFrame_of_good (hup : s.laneUp f.lane.val = true)
    (hgood : f.holds body = true ∧ f.formed type body = true) : s.laceFrame f type body act = act s := by
  obtain ⟨hholds, hformed⟩ := hgood
  simp [State.laceFrame, henable, hholds, hformed, hup]

end

theorem State.laneFor_of_up (s : State) (n : Nat) (h : s.laneUp n = true) : s.laneFor n = some n := if_pos h

/-! ### HELLO (R537, R542) -/

theorem State.helloFaults_of_wired (s : State) (f : LaceIn) (h : LaceHello) (hfrom : f.from_ = f.lane.val)
    (hslot : h.slot ≠ s.get D.twin_slot) : s.helloFaults f h = s := by
  simp [State.helloFaults, hfrom, hslot]

/-- What the first part of a HELLO tells of the partner. -/
def State.notePartner (s : State) (f : LaceIn) (h : LaceHello) : State :=
  let t := s.set D.twin_partner_role h.role
  { t with twin := { t.twin with
    partner := some h, laceSeen := true, laceLost := false
    lanes := modAt t.twin.lanes f.lane.val fun _ => { s.twin.lanes.getD f.lane.val {} with chain := h.data } } }

theorem State.slot_notePartner (s : State) (f : LaceIn) (h : LaceHello) :
    (s.notePartner f h).get D.twin_slot = s.get D.twin_slot :=
  State.get_set_apart s _ _ _ _ _ (by decide)

theorem State.hearHello_of_whole (s : State) (f : LaceIn) (h : LaceHello) (hfrom : f.from_ = f.lane.val)
    (hslot : h.slot ≠ s.get D.twin_slot) (hoffset : h.offset = 0) (htotal : h.total ≤ h.data.length)
    (henabled : h.enabled = true) :
    let t := s.notePartner f h
    s.hearHello f h = if (t.peerChain h.data).isNone then
        ((((t.set D.lace_state 3 0).set D.lace_state 3 1).setHealth hPaired false).wiring 4 .degraded).refreshHealth
      else (t.formPair h).refreshHealth := by
  intro t
  have hfaults : t.helloFaults f h = t :=
    t.helloFaults_of_wired f h hfrom (by rwa [s.slot_notePartner f h])
  have hnote : s.hearHello f h =
      if h.data.length ≠ 0 + h.data.length || h.data.length < h.total then (t.helloFaults f h).refreshHealth
      else if ((t.helloFaults f h).peerChain h.data).isNone then
        (((((t.helloFaults f h).set D.lace_state 3 0).set D.lace_state 3 1).setHealth hPaired false).wiring 4
          .degraded).refreshHealth
      else if h.enabled then ((t.helloFaults f h).formPair h).refreshHealth else (t.helloFaults f h).refreshHealth := by
    unfold State.hearHello
    rw [hoffset]
    rfl
  rw [hnote, hfaults, if_neg (by simp [htotal]), if_pos henabled]

theorem execLaceHello_of_solo (f : LaceIn) (h : LaceHello) (s : State) (hholds : f.holds h.bytes = true)
    (hformed : f.formed ltHello h.bytes = true) (henable : s.getB D.twin_enable = false) : execLaceHello f h s = .next
      ((({ s with twin := { s.twin with noDrive := true, drive := false } } : State).idacsOff).wiring 3 .failed) := by
  simp [execLaceHello, hholds, hformed, henable]

theorem execLaceHello_of_paired (f : LaceIn) (h : LaceHello) (s : State) (hholds : f.holds h.bytes = true)
    (hformed : f.formed ltHello h.bytes = true) (henable : s.getB D.twin_enable = true) :
    execLaceHello f h s = .next (s.hearHello f h) := by
  simp [execLaceHello, hholds, hformed, henable]

/-! ### What a unit sends of its own accord -/

theorem execLaceTimeTimer_of_up (s : State) (henable : s.getB D.twin_enable = true) (hup : s.laneUp 0 = true) :
    let t := s.sendLace 0 ltTime (timeBody (s.twin.timeSent.getD 0) (s.twin.timeReceived.getD 0))
    execLaceTimeTimer s = .next { t with twin := { t.twin with timeSent := some s.mediaT80 } } :=
  if_pos (by simp [henable, s.laneFor_of_up 0 hup])

theorem execInPresenceSend_of_new (s : State) (hpaired : s.paired = true) (hrole : s.role ≠ roleFailed) :
    let k := s.blockNow + 2 - s.get D.pres_offset
    let m := s.presenceMap k
    let t := s.sendLace 0 ltInPresence (presenceBody k m)
    let l : List Presence := ⟨k, true, m⟩ :: t.twin.presence.take 8
    presenceAt s.twin.presence true k = none →
    execInPresenceSend s = .next (({ t with twin := { t.twin with presence := l } } : State).reconcile k) := by
  intro k m t l hnone
  exact if_neg (by simp [hpaired, hrole, k, hnone])

theorem execJournalRetransmit_of_waiting (index : Nat) (e : JournalEntry) (lane : Nat) (s : State)
    (hfind : s.twin.journal.find? (fun e => e.index == index) = some e) (hlane : s.laneFor 0 = some lane) :
    execJournalRetransmit index s =
      .next ((s.count D.lace_retransmits lane).sendLace 0 ltJournal (journalBody e.index e.block e.act)) := by
  simp [execJournalRetransmit, hfind, hlane]

/-! ### What a received message does -/

section
variable (f : LaceIn) (s : State) (henable : s.getB D.twin_enable = true) (hup : s.laneUp f.lane.val = true)
include henable hup

theorem execLaceHeartbeat_of_good (h : LaceBeat) (b n : Nat)
    (hgood : f.holds (h.bytes b n) = true ∧ f.formed ltHeartbeat (h.bytes b n) = true) (hrole : h.role.val ≠ roleStandby) :
    let t := s.set D.twin_partner_role h.role.val
    execLaceHeartbeat f h b n s = .next (({ t with twin := { t.twin with
      laceSeen := true, laceLost := false, partnerBlock := b, partnerSent := n } } : State).refreshHealth) := by
  refine (congrArg Outcome.next (State.laceFrame_of_good s f _ _ _ henable hup hgood)).trans ?_
  have hreached : (h.role.val == roleStandby && s.partnerRole != roleStandby) = false := by simp [hrole]
  rw [hreached]
  rfl

/-- The correction that a TIME message gives (R541). -/
def timeCorrection (s : State) (lane : Nat) (t1 t4 a b : Int) : Int :=
  ((b - t1) + (a - t4)) * 2 ^ 15 + ofPs (s.getI D.lace_delay_asymmetry lane)

theorem execLaceTime_of_good (t1 t4 a b received : Int)
    (hgood : f.holds (timeBody a b) = true ∧ f.formed ltTime (timeBody a b) = true) (hsent : s.twin.timeSent = some t1)
    (hreceived : s.twin.timeReceived = some t4) :
    let o := timeCorrection s f.lane.val t1 t4 a b
    let t := ({ s with twin := { s.twin with timeReceived := some received } } : State).setF D.twin_time_offset (nsF32 o)
    execLaceTime f a b received s =
      .next (if (s.role = roleStandby || s.role = roleResync) && s.partnerRole = roleActive && s.paired then
        { t with time := { t.time with bridge := t.time.bridge + o } } else t) := by
  refine (congrArg Outcome.next (State.laceFrame_of_good s f _ _ _ henable hup hgood)).trans ?_
  rw [hsent, hreceived]
  rfl

theorem execJournal_of_known (index block : Nat) (act : JournalAct)
    (hgood : f.holds (journalBody index block act) = true ∧ f.formed ltJournal (journalBody index block act) = true)
    (hknown : s.twin.heard.contains index = true) :
    execJournal f index block act s = .next (s.sendLace 0 ltJournalAck (beBytes 8 index)) := by
  refine (congrArg Outcome.next (State.laceFrame_of_good s f _ _ _ henable hup hgood)).trans ?_
  simp only [hknown, if_true, Bool.not_true, Bool.false_and, Bool.false_eq_true, if_false]

theorem execJournal_of_new (index block : Nat) (act : JournalAct)
    (hgood : f.holds (journalBody index block act) = true ∧ f.formed ltJournal (journalBody index block act) = true)
    (hnew : s.twin.heard.contains index = false) (hrole : s.role = roleStandby) :
    execJournal f index block act s = .next ((({ s with twin := { s.twin with
      heard := index :: s.twin.heard.take 1023 } } : State).hear index block act).sendLace 0 ltJournalAck
        (beBytes 8 index)) := by
  refine (congrArg Outcome.next (State.laceFrame_of_good s f _ _ _ henable hup hgood)).trans ?_
  simp only [hnew, hrole, decide_true, Bool.not_false, Bool.true_or, Bool.and_self, Bool.false_eq_true, if_true, if_false]

theorem execJournalAck_of_waiting (index : Nat) (e : JournalEntry)
    (hgood : f.holds (beBytes 8 index) = true ∧ f.formed ltJournalAck (beBytes 8 index) = true)
    (hfind : s.twin.journal.find? (fun e => e.index == index) = some e) :
    execJournalAck f index s = .next (({ s with twin := { s.twin with
      journal := s.twin.journal.filter fun x => x.index != index } } : State).releaseEntry e) := by
  refine (congrArg Outcome.next (State.laceFrame_of_good s f _ _ _ henable hup hgood)).trans ?_
  simp only [hfind]

theorem execMirror_of_standby (block first : Nat) (rows : List (Nat × List (BitVec 32)))
    (hgood : f.holds (mirrorBody block first rows) = true ∧ f.formed ltMirror (mirrorBody block first rows) = true)
    (hrole : s.role = roleStandby) :
    execMirror f block first rows s = .next (rows.zipIdx.foldl (fun t r =>
      t.putInput ⟨2, first + r.2, block, (List.range r.1.2.length).zip r.1.2, r.1.1, true⟩) s) := by
  refine (congrArg Outcome.next (State.laceFrame_of_good s f _ _ _ henable hup hgood)).trans ?_
  exact congrArg Outcome.next (if_pos (by simp [hrole]))

theorem execRepair_of_due (block ctx first : Nat) (words : List Nat) (rows : List (List (BitVec 32)))
    (hgood : f.holds (repairBody block ctx first words rows) = true ∧
      f.formed ltRepair (repairBody block ctx first words rows) = true)
    (hdue : s.blockNow + 1 < block + s.get D.pres_offset) (hkind : s.get D.is_kind ctx ≠ 0) :
    let t := rows.zipIdx.foldl (fun t r => r.1.zipIdx.foldl (fun u x =>
      u.placeSample 1 (s.get D.is_first_ch ctx + x.2) (block * u.blockLen + first + r.2) x.1 (words.getD x.2 0)) t) s
    let left := t.twin.expected.filter fun e =>
      !(e.1 == block && e.2.1 == ctx && decide (first ≤ e.2.2) && decide (e.2.2 < first + rows.length))
    execRepair f block ctx first words rows s =
      .next (({ t with twin := { t.twin with expected := left } } : State).count D.repair_received 0 rows.length) := by
  refine (congrArg Outcome.next (State.laceFrame_of_good s f _ _ _ henable hup hgood)).trans ?_
  exact congrArg Outcome.next (if_neg (by simp [hkind, hdue]))

theorem execSelftest_of_involved (unit : Nat) (pass : Bool)
    (hgood : f.holds (selftestBody unit pass) = true ∧ f.formed ltSelftest (selftestBody unit pass) = true)
    (htest : s.twin.testing = true) (hunit : unit = s.twin.involved) : execSelftest f unit pass s =
      .next (({ s with twin := { s.twin with theirResult := some pass } } : State).judgeTests) := by
  refine (congrArg Outcome.next (State.laceFrame_of_good s f _ _ _ henable hup hgood)).trans ?_
  exact congrArg Outcome.next (if_pos (by simp [htest, hunit]))

theorem execCheckpointAck_of_asked (block held : Nat)
    (hgood : f.holds (checkpointAckBody block held) = true ∧
      f.formed ltCheckpointAck (checkpointAckBody block held) = true)
    (hcheck : s.twin.checkpoint = some block) :
    execCheckpointAck f block held s = .next { s with twin := { s.twin with held_ := held } } := by
  refine (congrArg Outcome.next (State.laceFrame_of_good s f _ _ _ henable hup hgood)).trans ?_
  exact congrArg Outcome.next (if_pos hcheck)

theorem execCheckpoint_of_first (block total : Nat) (data : List (BitVec 8))
    (hgood : f.holds (checkpointBody block 0 total data) = true ∧
      f.formed ltCheckpoint (checkpointBody block 0 total data) = true)
    (hrole : s.role = roleResync) (hnone : s.twin.checkpoint = none) : execCheckpoint f block 0 total data none s =
      .next (({ s with twin := { s.twin with checkpoint := some block, held_ := data.length } } : State).sendLace 1
        ltCheckpointAck (checkpointAckBody block data.length)) := by
  refine (congrArg Outcome.next (State.laceFrame_of_good s f _ _ _ henable hup hgood)).trans ?_
  refine congrArg Outcome.next ((if_neg (not_not.2 hrole)).trans ?_)
  simp only [hnone, reduceCtorEq, if_false, if_true, Nat.zero_add]

theorem execLaceBlob_of_whole (addr gen total : Nat) (data : List Byte)
    (hgood : f.holds (blobBody addr gen 0 total data) = true ∧ f.formed ltBlob (blobBody addr gen 0 total data) = true)
    (hrole : s.role = roleResync) (hpair : pairWide addr = true) (htotal : total ≤ data.length) :
    execLaceBlob f addr gen 0 total data s = .next { s with
      twin := { s.twin with blobs := s.twin.blobs.filter fun e => e.1 != addr }
      dict := put s.dict addr (handleOf data.length gen)
      blobs := blobPut s.blobs ⟨addr, max gen (blobAt s.blobs addr).counter, gen, data⟩ } := by
  refine (congrArg Outcome.next (State.laceFrame_of_good s f _ _ _ henable hup hgood)).trans ?_
  refine congrArg Outcome.next ((if_neg (by simp [hrole, hpair])).trans ?_)
  simp only [if_true, List.length_nil, ne_eq, not_true_eq_false, if_false, List.nil_append, Nat.not_lt.2 htotal]

end

/-- Settles O47: a frame that holds and is formed acts on an UP lane; HELLO forms the pair or is refused. -/
theorem laceMessagesComplete : Obligations.LaceMessagesComplete := by
  unfold Obligations.LaceMessagesComplete
  refine ⟨fun f h s hholds hformed => ⟨execLaceHello_of_solo f h s hholds hformed, ?hello⟩, execLaceTimeTimer_of_up,
    execInPresenceSend_of_new, execJournalRetransmit_of_waiting,
    fun f index s henable hforged => congrArg Outcome.next (s.laceFrame_of_forged f _ _ _ henable hforged),
    fun f s henable hup => ?good⟩
  case hello =>
    intro henable hfrom hslot hoffset htotal henabled
    exact (execLaceHello_of_paired f h s hholds hformed henable).trans
      (congrArg Outcome.next (s.hearHello_of_whole f h hfrom hslot hoffset htotal henabled))
  case good =>
    intro takes
    refine ⟨execLaceHeartbeat_of_good f s henable hup, fun t1 t4 a b received hgood hsent hreceived => ?time,
      fun index block act hgood => ⟨execJournal_of_new f s henable hup index block act hgood,
        execJournal_of_known f s henable hup index block act hgood⟩,
      execJournalAck_of_waiting f s henable hup, execMirror_of_standby f s henable hup,
      fun block maps hgood => congrArg Outcome.next (s.laceFrame_of_good f _ _ _ henable hup hgood),
      execRepair_of_due f s henable hup,
      fun d hgood => congrArg Outcome.next (s.laceFrame_of_good f _ _ _ henable hup hgood),
      execSelftest_of_involved f s henable hup, execCheckpointAck_of_asked f s henable hup,
      fun hrole => ⟨fun block total data hgood => execCheckpoint_of_first f s henable hup block total data hgood hrole,
        fun addr gen total data hgood hpair htotal => ?blob⟩⟩
    case time =>
      intro t o
      have htime := execLaceTime_of_good f s henable hup t1 t4 a b received hgood hsent hreceived
      refine ⟨fun hrole => htime.trans (congrArg Outcome.next (if_neg ?_)),
        fun hrole hpartner hpaired => htime.trans (congrArg Outcome.next (if_pos ?_))⟩
      · simp [hrole, roleActive, roleStandby, roleResync]
      · simp [hrole, hpartner, hpaired]
    case blob =>
      exact ⟨_, execLaceBlob_of_whole f s henable hup addr gen total data hgood hrole hpair htotal,
        congrArg Blob.data (blobAt_blobPut_same _ _), congrArg Blob.gen (blobAt_blobPut_same _ _),
        look_put_same _ _ _, rfl⟩

end Sys2Proof.Machine
end

section
/-! PROOFS. Transactions over the fabric, the seal and the boundary (chapter 4). -/

namespace Sys2Proof.Machine

open Sys2Proof Host

/-! ### Messages of the fabric commit -/

theorem State.txnKnown_of_held (s : State) (id : Nat) (t : Txn) (h : s.txnAt id = some t) : s.txnKnown id = some t := by
  simp [State.txnKnown, h]

theorem State.takeSlot_of_free (s : State) (t : Txn) (n : Nat) (h : s.freeSlot = some n) :
    s.takeSlot t = some { s with cu := { s.cu with slots := s.cu.slots ++ [{ t with slot := n }] } } := by
  simp [State.takeSlot, h]

section
variable (f : TxnIn) (s a : State)

/-! DATA and PREPARE. -/

theorem execFabTxnData_of_early (id index count : Nat) (data : List (BitVec 8))
    (hframe : s.txnFrame f txData id (dataFields index count data) = (a, true)) (hnone : a.txnAt id = none)
    (hunknown : a.txnKnown id = none) : execFabTxnData f id index count data s =
      .next { a with cu := { a.cu with data := a.cu.data ++ [(id, index, count, data)] } } := by
  simp [execFabTxnData, hframe, hnone, hunknown]

theorem execFabTxnData_of_preparing (t : Txn) (id index count : Nat) (data : List (BitVec 8))
    (hframe : s.txnFrame f txData id (dataFields index count data) = (a, true)) (hheld : a.txnAt id = some t)
    (horig : t.originator = false) (hst : t.st = tsPreparing) :
    let u : Txn := { t with chunks := putChunk index data t.chunks }
    execFabTxnData f id index count data s =
      .next (if u.missing.isNone then (a.putTxn u).voteNow u else a.putTxn u) := by
  simp only [execFabTxnData, hframe, hheld, horig, hst, Bool.not_true, Bool.false_eq_true, if_false, ne_eq,
    not_true_eq_false, decide_false, Bool.or_self]

/-- The transaction that a PREPARE opens at a participant. -/
def State.preparedBy (s : State) (p : FabPrepare) : Txn :=
  { id := p.id, scope := 1, rung := p.rung, st := tsPreparing
    kind := if p.kind = 2 then 2 else 1, show_ := toSigned 64 p.show_, entry := p.entry
    applyBlock := p.applyBlock, late := p.late, autoCommit := p.autoCommit, allowShed := p.allowShed
    orderTime := p.orderTime, orderNode := p.node, orderSeq := p.id % 2 ^ 20
    originator := false, participants := p.nodes, origin := p.node
    chunks := (s.cu.data.filter fun c => c.1 == p.id).foldl (fun l c => putChunk c.2.1 c.2.2.2 l) []
    chunkCount := p.chunks, payloadLength := p.length, digest := p.digest }

/-- The chunks that came before their PREPARE are in its transaction, and no longer kept apart. -/
def State.spendData (s : State) (id : Nat) : State :=
  { s with cu := { s.cu with data := s.cu.data.filter fun c => c.1 != id } }

/-- A participant seats a transaction and votes on it, or refuses it where every slot is held. -/
def State.seatOrRefuse (u : State) (t : Txn) : Outcome State Fault Refusal :=
  match u.takeSlot t with
  | none => .next (u.voteNo t (if u.voteOpen t.applyBlock then rsTxnFull else rsLate))
  | some v => .next (v.voteOrAsk t)

theorem State.seatOrRefuse_of_free (u : State) (t : Txn) (n : Nat) (hfree : u.freeSlot = some n) : u.seatOrRefuse t =
    .next (({ u with cu := { u.cu with slots := u.cu.slots ++ [{ t with slot := n }] } } : State).voteOrAsk t) := by
  rw [State.seatOrRefuse, u.takeSlot_of_free t n hfree]

theorem execFabTxnPrepare_of_named (p : FabPrepare) (hframe : s.txnFrame f txPrepare p.id p.fields = (a, true))
    (hnamed : p.nodes.contains a.fabNode = true) (hunknown : a.txnKnown p.id = none) :
    execFabTxnPrepare f p s = (a.spendData p.id).seatOrRefuse (a.preparedBy p) := by
  unfold execFabTxnPrepare
  rw [hframe]
  refine if_neg ?_
  rw [hunknown, hnamed]
  exact Bool.false_ne_true

theorem execFabTxnPrepare_of_free (p : FabPrepare) (n : Nat)
    (hframe : s.txnFrame f txPrepare p.id p.fields = (a, true)) (hnamed : p.nodes.contains a.fabNode = true)
    (hunknown : a.txnKnown p.id = none) (hfree : a.freeSlot = some n) :
    let t := a.preparedBy p
    execFabTxnPrepare f p s = .next (({ a with cu := { a.cu with
      data := a.cu.data.filter fun c => c.1 != p.id, slots := a.cu.slots ++ [{ t with slot := n }] } } :
        State).voteOrAsk t) :=
  (execFabTxnPrepare_of_named f s a p hframe hnamed hunknown).trans
    ((a.spendData p.id).seatOrRefuse_of_free (a.preparedBy p) n hfree)

/-! Votes, chunks asked for, decisions and outcomes. -/

/-- The originator's transaction after one more vote. -/
def Txn.voted (t : Txn) (node : Nat) (yes : Bool) (reason : Nat) : Txn :=
  if yes then { t with yes := t.yes ++ [node] }
  else if t.no.isEmpty then { t with no := [node], reason := reason, refusing := node }
  else { t with no := t.no ++ [node] }

theorem execFabTxnVote_of_waiting (t : Txn) (id : Nat) (yes : Bool) (reason : Nat)
    (hframe : s.txnFrame f txVote id (voteFields yes reason) = (a, true)) (hheld : a.txnAt id = some t)
    (horig : t.originator = true) (hst : t.st = tsPreparing) (hyes : t.yes.contains f.node = false) (hno : t.no = []) :
    let u := t.voted f.node yes reason
    execFabTxnVote f id yes reason s = .next ((a.putTxn u).tally u false) := by
  simp only [execFabTxnVote, hframe, hheld]
  refine (if_neg Bool.false_ne_true).trans (if_neg ?_)
  rw [horig, hst, hyes, hno]
  exact Bool.false_ne_true

theorem execFabTxnNack_of_originator (t : Txn) (id first count : Nat)
    (hframe : s.txnFrame f txNack id (nackFields first count) = (a, true)) (hheld : a.txnAt id = some t)
    (horig : t.originator = true) : execFabTxnNack f id first count s = .next (a.sendChunks t first count) := by
  simp [execFabTxnNack, hframe, hheld, horig]

theorem execFabTxnDecision_of_undecided (t : Txn) (id : Nat) (commit : Bool) (block : Nat) (hheld : a.txnAt id = some t)
    (hundecided : t.undecided = true) (hframe : s.txnFrame f txDecision id (decisionFields commit block) = (a, true)) :
    execFabTxnDecision f id commit block s = .next (a.told t commit block rsNone) := by
  simp [execFabTxnDecision, hframe, hheld, hundecided]

theorem execFabTxnOutcome_of_undecided (t : Txn) (id outcome block : Nat) (hheld : a.txnAt id = some t)
    (hundecided : t.undecided = true) (hframe : s.txnFrame f txOutcome id (outcomeFields outcome block) = (a, true)) :
    execFabTxnOutcome f id outcome block s =
      if outcome = 1 then .next (a.told t true block rsNone)
      else if outcome = 2 || outcome = 6 then .next (a.told t false block rsNone)
      else .next a := by
  simp only [execFabTxnOutcome, hframe, hheld, hundecided, Bool.not_true, Bool.false_eq_true, if_false]

theorem execFabTxnQuery_of_taken (id : Nat) (hframe : s.txnFrame f txQuery id [] = (a, true)) :
    execFabTxnQuery f id s = if a.mirrored then .next (a.hold a.blockNow (.values []) (.outcome id f.node))
      else .next (a.sendOutcome id f.node) := by
  simp only [execFabTxnQuery, hframe, Bool.not_true, Bool.false_eq_true, if_false]

theorem execFabTxnAck_of_first (t : Txn) (id applied : Nat) (late : Bool)
    (hframe : s.txnFrame f txAck id (TxnAck.fields ⟨applied, late⟩) = (a, true)) (hslots : a.cu.slots = [])
    (hfinished : a.cu.finished = [t]) (hid : t.id = id) (horig : t.originator = true)
    (hnew : t.acked.contains f.node = false) :
    execFabTxnAck f id ⟨applied, late⟩ s = .next { a with cu := { a.cu with finished := [{ t with
      acked := t.acked ++ [f.node], applied := t.applied ++ [(f.node, applied)]
      membersLate := t.membersLate + if late then 1 else 0 }] } } := by
  simp only [execFabTxnAck, hframe, hslots, hfinished, hid, horig, hnew, Bool.not_true, Bool.not_false, Bool.and_self,
    decide_true, Bool.false_eq_true, if_false, if_true, List.map_cons, List.map_nil]

end

/-! ### Timers -/

section
variable (t : Txn) (id : Nat) (s : State) (hheld : s.txnAt id = some t)
include hheld

theorem execVoteDeadline_of_originator (horig : t.originator = true) :
    execVoteDeadline id s = .next (s.tally t true) := by
  simp [execVoteDeadline, hheld, horig]

theorem execTxnCommitWaitExpire_of_prepared (horig : t.originator = true) (hst : t.st = tsPrepared)
    (hauto : t.autoCommit = false) : execTxnCommitWaitExpire id s =
      if t.scope = 0 then .next (s.abortTxn t rsNoCommit) else .next (s.decideTxn t false rsNoCommit) := by
  simp [execTxnCommitWaitExpire, hheld, horig, hst, hauto]

theorem execQueryTimer_of_early (hundecided : t.undecided = true)
    (hearly : s.media < s.blockTime t.applyBlock - 20000 * ns32 + 10000000 * ns32) :
    execQueryTimer id s = .next (s.sendTxn txQuery t t.origin []) := by
  simp only [execQueryTimer, hheld, hundecided, Bool.not_true, Bool.false_eq_true, if_false, hearly, if_true]

theorem execTxnIndoubtAlarm_of_inDoubt (hst : t.st = tsInDoubt) :
    execTxnIndoubtAlarm id s = .next (s.error 0x19 0 0x0402 .degraded) := by
  simp [execTxnIndoubtAlarm, hheld, hst]

end

/-- Settles O53: a message that is taken acts on the transaction it names, by its state and by who originated it. -/
theorem fabricTxnComplete : Obligations.FabricTxnComplete := by
  unfold Obligations.FabricTxnComplete
  refine ⟨fun f s a => ⟨execFabTxnData_of_early f s a, fun t id index count data hframe hheld horig hst => ?data,
      fun p n hframe hnamed hunknown hfree => ?prepare, fun t id reason hheld horig hst hyes hno => ?vote,
      execFabTxnNack_of_originator f s a, fun t id block hheld hundecided => ?told,
      fun id hframe hsolo => ?query, fun id hframe hpair => ?queryPair, execFabTxnAck_of_first f s a⟩,
    fun t id s hheld horig => ⟨execVoteDeadline_of_originator t id s hheld horig, fun hst hauto => ?wait⟩,
    execQueryTimer_of_early, execTxnIndoubtAlarm_of_inDoubt, fun id s => rfl⟩
  case data =>
    intro u
    have hdata := execFabTxnData_of_preparing f s a t id index count data hframe hheld horig hst
    refine ⟨fun hwhole => hdata.trans (congrArg Outcome.next (if_pos (Option.isNone_iff_eq_none.2 hwhole))),
      fun hpart => hdata.trans (congrArg Outcome.next (if_neg ?_))⟩
    rw [← Option.not_isSome, hpart]
    exact Bool.false_ne_true
  case prepare =>
    exact ⟨a.preparedBy p, rfl, rfl, rfl, rfl, rfl, rfl, rfl, rfl, rfl, rfl, rfl, rfl, rfl,
      execFabTxnPrepare_of_free f s a p n hframe hnamed hunknown hfree⟩
  case vote =>
    have hno' : t.voted f.node false reason = { t with no := [f.node], reason := reason, refusing := f.node } := by
      simp [Txn.voted, hno]
    refine ⟨fun hframe => execFabTxnVote_of_waiting f s a t id true reason hframe hheld horig hst hyes hno,
      fun hframe => ?_⟩
    have hvote := execFabTxnVote_of_waiting f s a t id false reason hframe hheld horig hst hyes hno
    rwa [hno'] at hvote
  case told =>
    have hdecision := execFabTxnDecision_of_undecided f s a t id
    have houtcome := execFabTxnOutcome_of_undecided f s a t id
    exact ⟨hdecision true block hheld hundecided, hdecision false block hheld hundecided,
      houtcome 1 block hheld hundecided, houtcome 2 block hheld hundecided, houtcome 6 block hheld hundecided,
      houtcome 3 block hheld hundecided⟩
  case query => exact (execFabTxnQuery_of_taken f s a id hframe).trans (if_neg (by simp [hsolo]))
  case queryPair => exact (execFabTxnQuery_of_taken f s a id hframe).trans (if_pos hpair)
  case wait =>
    have hwait := execTxnCommitWaitExpire_of_prepared t id s hheld horig hst hauto
    exact ⟨fun hlocal => hwait.trans (if_pos hlocal), fun hfabric => hwait.trans (if_neg (by simp [hfabric]))⟩

/-! ### The seal (R204) -/

theorem Txn.atSeal_of_due (b : Nat) (y : Txn) (hst : y.st = tsPrepared) (hdue : y.applyBlock ≤ b) :
    y.atSeal b = if y.originator then { y with sealed_ := true } else { y with st := tsInDoubt } :=
  if_pos (by simp [hst, hdue])

theorem Txn.atSeal_of_other (b : Nat) (y : Txn) (h : y.st ≠ tsPrepared ∨ b < y.applyBlock) : y.atSeal b = y := by
  refine if_neg fun hdue => ?_
  simp only [Bool.and_eq_true, decide_eq_true_eq] at hdue
  obtain ⟨hst, hle⟩ := hdue
  exact h.elim (fun hne => hne hst) (fun hlt => absurd hle (Nat.not_le.2 hlt))

/-- What the seal of a boundary takes: the live writes, and the committed transactions that are due. -/
def State.snapshotAt (s : State) (b : Nat) : Snapshot :=
  ⟨b, s.cu.live, (((s.seal b).cu.slots.filter fun t => t.st == tsCommitted && decide (t.applyBlock ≤ b))).map fun t => t.id⟩

theorem mem_txns_snapshotAt (s : State) (b id : Nat) : id ∈ (s.snapshotAt b).txns ↔
    ∃ y ∈ (s.seal b).cu.slots, y.id = id ∧ y.st = tsCommitted ∧ y.applyBlock ≤ b := by
  simp only [State.snapshotAt, List.mem_map, List.mem_filter, Bool.and_eq_true, beq_iff_eq, decide_eq_true_eq]
  constructor
  · rintro ⟨y, ⟨hmem, hst, hle⟩, hid⟩
    exact ⟨y, hmem, hid, hst, hle⟩
  · rintro ⟨y, hmem, hid, hst, hle⟩
    exact ⟨y, ⟨hmem, hst, hle⟩, hid⟩

/-- Settles O54: the seal takes the live writes and the committed transactions that are due, and nothing else moves. -/
theorem sealAndBoundaryComplete : Obligations.SealAndBoundaryComplete := by
  unfold Obligations.SealAndBoundaryComplete
  refine ⟨fun b s h => if_pos h, fun k s h => if_pos h, fun b s => ?taken, fun b y hst hdue => ?due, Txn.atSeal_of_other⟩
  case taken => exact ⟨rfl, rfl, rfl, ⟨s.snapshotAt b, rfl, rfl, rfl, mem_txns_snapshotAt s b⟩, rfl⟩
  case due =>
    rw [Txn.atSeal_of_due b y hst hdue]
    refine ⟨fun horig => ?_, fun horig => ?_⟩
    · rw [horig, if_neg Bool.false_ne_true]
    · rw [horig, if_pos rfl]
      exact ⟨hst, rfl⟩

end Sys2Proof.Machine
end

section
/-! PROOFS. The commands that are a WRITE of one object (chapter 2): what each does once the checks of R95 pass. -/

namespace Sys2Proof.Machine

open Sys2Proof Host

/-! ### Two forms of a WRITE -/

theorem addr_ne_of_base_lt (o : Obj) (i a : Nat) (h : a < o.base) : o.addr i ≠ a := by
  unfold Obj.addr
  omega

/-- An address above `persist_flush` is that of no object of the protocol itself. -/
theorem addr_ne_of_flush_lt (o : Obj) (i : Nat) (h : D.persist_flush.base < o.base) :
    o.addr i ≠ D.persist_flush.base ∧ o.addr i ≠ D.mdap_udp_port.base :=
  ⟨addr_ne_of_base_lt o i _ h, addr_ne_of_base_lt o i _ (Nat.lt_trans (by decide) h)⟩

section
variable {s : State} {r : Req} {o : Obj} {i v : Nat} (h : s.takes r o i v) (hat : objAt (o.addr i) = some (o, i, 0))
include h hat

theorem State.next_of_command {t : State} (ha : o.acc = .wo) (he : o.effect = .liveSample)
    (hlt : D.persist_flush.base < o.base) (ht : (s.arrived r).command (s.arrived r).blockNow o i v = t) :
    (Outcome.next (s.writeOne r o i v) : Outcome State Fault Refusal) = .next (t.reply r.onPort mtWrite [scOk]) := by
  obtain ⟨hflush, hudp⟩ := addr_ne_of_flush_lt o i hlt
  rw [writeOne_command s r o i v h hat ha he hflush hudp, ht]

/-- A readable object that takes effect at once, is in no list of special cases and changes as `assign` and `react` say. -/
theorem State.writeOne_of_assign (ha : o.acc = .rw) (he : o.effect = .liveSample) (ht : o.ty ≠ .blob)
    (hplain : o.base ≠ D.lst_status.base ∧ o.base ≠ D.persist_image.base) (hlt : D.persist_flush.base < o.base) :
    let u := s.arrived r
    let w := u.persistValue o i 0 v
    let t := w.assign u.blockNow o i 0 v
    s.writeOne r o i v = (t.react u.blockNow o i (w.get o i) (t.get o i != w.get o i) []).reply r.onPort mtWrite [scOk] := by
  obtain ⟨hflush, hudp⟩ := addr_ne_of_flush_lt o i hlt
  exact writeOne_assign s r o i v h hat ha he ht hplain.1 hplain.2 hflush hudp _ rfl

/-- A value of a running block that is LIVE waits for the next boundary. -/
theorem State.writeOne_of_live (he : o.effect = .live) (hpersist : o.persist = false) (ht : o.ty ≠ .blob)
    (hgovernor : governor (o.addr i) = none)
    (hflush : o.addr i ≠ D.persist_flush.base) (hudp : o.addr i ≠ D.mdap_udp_port.base) :
    s.writeOne r o i v = ((s.arrived r).queueLive (o.addr i) v).reply r.onPort mtWrite [scOk] := by
  have hruns (t : State) : t.blockRuns (o.addr i) = true := by simp [State.blockRuns, hgovernor]
  have hitem : (s.arrived r).acceptItem ⟨o.addr i, tyCode o.ty, v, 0⟩ = (s.arrived r).queueLive (o.addr i) v := by
    simp [State.acceptItem, hat, State.acceptValue, he, hruns, ht, State.persistValue, hpersist]
  rw [writeOne_of_takes s r o i v h hat (by simp [he]) hudp, hitem]
  simp [flushed, hflush]

end

/-! ### What reacts to an object that is written -/

/-- An object that the scene does not read spoils no list of the render. -/
theorem State.reactScene_of_plain (s : State) (o : Obj) (i old : Nat)
    (h : s.reactScene o i old = { s with render := { s.render with
      loadDirty := s.render.loadDirty || false
      triDirty := s.render.triDirty || false
      dirty := s.render.dirty ++ [] } }) : s.reactScene o i old = s := by
  rw [h, Bool.or_false, Bool.or_false, List.append_nil]

section
variable (s : State) (k i old : Nat) (changed : Bool)

theorem State.react_tbIncrement : s.react k D.tb_increment i old changed [] = s := by
  cases changed with
  | false => rfl
  | true => exact s.reactScene_of_plain D.tb_increment i old rfl

theorem State.react_domEnable : s.react k D.dom_enable i old changed [] = s := by
  cases changed with
  | false => rfl
  | true => exact s.reactScene_of_plain D.dom_enable i old rfl

theorem State.react_ringTail : s.react k D.ring_tail i old changed [] = s := by
  cases changed with
  | false => rfl
  | true => exact s.reactScene_of_plain D.ring_tail i old rfl

theorem State.react_logWindowStart : s.react k D.log_window_start i old changed [] = s := by
  cases changed with
  | false => rfl
  | true => exact s.reactScene_of_plain D.log_window_start i old rfl

/-- Every field of an event pin's mode or start re-arms the pin (R163). -/
theorem State.react_rearmField (n : Fin 3) : s.react k (rearmField n) i old changed [] = s.rearm i := by
  match n, changed with
  | 0, false | 1, false | 2, false => rfl
  | 0, true => exact (s.rearm i).reactScene_of_plain D.ev_mode i old rfl
  | 1, true => exact (s.rearm i).reactScene_of_plain D.ev_start i old rfl
  | 2, true => exact (s.rearm i).reactScene_of_plain D.ev_start_sample i old rfl

theorem State.react_idacValue : s.react k D.idac_value i old true [] = s.idacTarget i (s.get D.idac_value i) := by
  have hscene := s.reactScene_of_plain D.idac_value i old rfl
  have hreact : s.react k D.idac_value i old true [] =
    (s.reactScene D.idac_value i old).idacTarget i ((s.reactScene D.idac_value i old).get D.idac_value i) := rfl
  rw [hreact, hscene]

/-- The values that the outputs of AOD take at power-up. -/
def State.notePowerups (s : State) : State :=
  { s with power := { s.power with aod := { s.power.aod with
    idacs := (List.range 16).map fun n => s.get D.idac_powerup n } } }

theorem State.react_idacPowerup : s.react k D.idac_powerup i old true [] = s.notePowerups := by
  have hscene := s.reactScene_of_plain D.idac_powerup i old rfl
  have hreact : s.react k D.idac_powerup i old true [] = (s.reactScene D.idac_powerup i old).notePowerups := rfl
  rw [hreact, hscene]

end

/-! ### The commands -/

section
variable (r : Req) (s : State)

theorem execTbIncrementWrite_of_takes (v : Nat) (h : s.takes r D.tb_increment 0 v) : execTbIncrementWrite r v s =
    .next (((s.arrived r).set D.tb_increment v).reply r.onPort mtWrite [scOk]) := by
  rw [execTbIncrementWrite, State.writeOne_of_assign h (objAt_single _ (by simp)) rfl rfl (by decide) (by decide)
    (by decide), State.react_tbIncrement]
  rfl

theorem execDomEnableWrite_of_takes (d : Fin 2) (v : Bool) (h : s.takes r D.dom_enable d.val v.toNat) :
    execDomEnableWrite r d v s = .next ((((s.arrived r).keep (D.dom_enable.addr d.val) v.toNat).domEnable d.val
      v.toNat).reply r.onPort mtWrite [scOk]) := by
  rw [execDomEnableWrite, State.writeOne_of_assign h (objAt_domain _ (by simp) d) rfl rfl (by decide) (by decide)
    (by decide), State.react_domEnable]
  rfl

theorem execEvRearm_of_takes (p : Fin 6) (n : Fin 3) (v : Nat) (h : s.takes r (rearmField n) p.val v) :
    execEvRearm r p n v s = .next (((((s.arrived r).keep ((rearmField n).addr p.val) v).set (rearmField n) v
      p.val).rearm p.val).reply r.onPort mtWrite [scOk]) := by
  have hmem : rearmField n ∈ [D.ev_mode, D.ev_start, D.ev_start_sample, D.ev_pop] := by
    match n with
    | 0 | 1 | 2 => simp [rearmField]
  have hkind : (rearmField n).acc = .rw ∧ (rearmField n).effect = .liveSample ∧ (rearmField n).ty ≠ .blob ∧
      ((rearmField n).base ≠ D.lst_status.base ∧ (rearmField n).base ≠ D.persist_image.base) ∧
      D.persist_flush.base < (rearmField n).base := by
    match n with
    | 0 | 1 | 2 => decide
  obtain ⟨ha, he, ht, hplain, hlt⟩ := hkind
  rw [execEvRearm, State.writeOne_of_assign h (objAt_pin _ hmem p) ha he ht hplain hlt, State.react_rearmField]
  match n with
  | 0 | 1 | 2 => rfl

theorem execMtrReset_of_takes (h : s.takes r D.mtr_reset 0 1) : execMtrReset r s =
    .next (((s.arrived r).queueLive (D.mtr_reset.addr 0) 1).reply r.onPort mtWrite [scOk]) :=
  congrArg Outcome.next (State.writeOne_of_live h (objAt_single _ (by simp)) rfl rfl (by decide) (by decide) (by decide)
    (by decide))

theorem State.applyValue_mtrReset (t : State) (k : Nat) :
    t.applyValue k (D.mtr_reset.addr 0) 1 false = t.clearMeters := by
  rw [State.applyValue, objAt_single D.mtr_reset (by simp)]
  rfl

theorem execIdacValueWrite_of_new (l : Fin 16) (v : Nat) (h : s.takes r D.idac_value l.val v)
    (hnew : v ≠ (s.arrived r).get D.idac_value l.val) :
    let u := s.arrived r
    execIdacValueWrite r l v s = .next ((((u.keep (D.idac_value.addr l.val) v).set D.idac_value v l.val).idacTarget
      l.val v).reply r.onPort mtWrite [scOk]) := by
  intro u
  have hassign : ∀ k, ((u.persistValue D.idac_value l.val 0 v).assign k D.idac_value l.val 0 v) =
    (u.keep (D.idac_value.addr l.val) v).set D.idac_value v l.val := fun k => rfl
  have hold : (u.persistValue D.idac_value l.val 0 v).get D.idac_value l.val = u.get D.idac_value l.val := rfl
  have hchanged : (v != u.get D.idac_value l.val) = true := bne_iff_ne.2 hnew
  rw [execIdacValueWrite, State.writeOne_of_assign h (objAt_idac _ (by simp) l) rfl rfl (by decide) (by decide)
    (by decide), hassign, hold, State.get_set_same, hchanged, State.react_idacValue, State.get_set_same]

theorem execIdacPowerupWrite_of_new (l : Fin 16) (v : Nat) (h : s.takes r D.idac_powerup l.val v)
    (hnew : v ≠ (s.arrived r).get D.idac_powerup l.val) :
    let u := s.arrived r
    execIdacPowerupWrite r l v s = .next ((((u.keep (D.idac_powerup.addr l.val) v).set D.idac_powerup v
      l.val).notePowerups).reply r.onPort mtWrite [scOk]) := by
  intro u
  have hassign : ∀ k, ((u.persistValue D.idac_powerup l.val 0 v).assign k D.idac_powerup l.val 0 v) =
    (u.keep (D.idac_powerup.addr l.val) v).set D.idac_powerup v l.val := fun k => rfl
  have hold : (u.persistValue D.idac_powerup l.val 0 v).get D.idac_powerup l.val = u.get D.idac_powerup l.val := rfl
  have hchanged : (v != u.get D.idac_powerup l.val) = true := bne_iff_ne.2 hnew
  rw [execIdacPowerupWrite, State.writeOne_of_assign h (objAt_idac _ (by simp) l) rfl rfl (by decide) (by decide)
    (by decide), hassign, hold, State.get_set_same, hchanged, State.react_idacPowerup]

theorem execRingTailWrite_of_takes (n : Fin 64) (v : Nat) (h : s.takes r D.ring_tail n.val v) : execRingTailWrite r n v s =
    .next (((s.arrived r).ringHandOver n.val v).reply r.onPort mtWrite [scOk]) := by
  rw [execRingTailWrite, State.writeOne_of_assign h (objAt_ring_tail n) rfl rfl (by decide) (by decide)
    (by decide), State.react_ringTail]
  rfl

theorem execLogWindowStart_of_takes (v : Nat) (h : s.takes r D.log_window_start 0 v) :
    let u := s.arrived r
    execLogWindowStart r v s = .next (({ u.set D.log_window_start v with
      nand := { u.nand with logGen := u.nand.logGen + 1 } } : State).reply r.onPort mtWrite [scOk]) := by
  intro u
  rw [execLogWindowStart, State.writeOne_of_assign h (objAt_single _ (by simp)) rfl rfl (by decide) (by decide)
    (by decide), State.react_logWindowStart]
  rfl

theorem execTwinRejoin_of_failed (h : s.takes r D.twin_rejoin 0 1) (hrole : (s.arrived r).role = roleFailed) :
    execTwinRejoin r s = .next ((s.arrived r).enterResync.reply r.onPort mtWrite [scOk]) :=
  State.next_of_command h (objAt_single _ (by simp)) rfl rfl (by decide)
    (if_pos hrole : (s.arrived r).twinRejoin = (s.arrived r).enterResync)

theorem execSessionCloseWrite_of_takes (id : Nat) (h : s.takes r D.session_close 0 id) : execSessionCloseWrite r id s =
    .next (((s.arrived r).closeSession id crAdmin).reply r.onPort mtWrite [scOk]) :=
  congrArg Outcome.next (writeOne_command s r _ _ _ h (objAt_single _ (by simp)) rfl rfl (by decide) (by decide))

theorem execPersistFlush_of_takes (h : s.takes r D.persist_flush 0 1) :
    let t := (s.arrived r).persistFlush
    execPersistFlush r s = .next (t.reply r.onPort mtWrite
      [if t.nand.fault && (s.arrived r).free != t.free then scInternal else scOk]) := by
  intro t
  have hat := objAt_single D.persist_flush (by simp)
  have hitem : (s.arrived r).acceptItem ⟨D.persist_flush.addr 0, tyCode D.persist_flush.ty, 1, 0⟩ = t := by
    simp only [State.acceptItem, hat, State.applyValue, State.acceptValue]
    rfl
  rw [execPersistFlush, writeOne_of_takes s r _ _ _ h hat rfl (by decide), hitem]
  rfl

theorem execPersistReset_of_takes (h : s.takes r D.persist_reset 0 1) :
    let u := s.arrived r
    execPersistReset r s =
      .next (({ u with nand := { u.nand with toDefaults := true } } : State).reply r.onPort mtWrite [scOk]) := by
  intro u
  have hat := objAt_single D.persist_reset (by simp)
  have hitem : u.acceptItem ⟨D.persist_reset.addr 0, tyCode D.persist_reset.ty, 1, 0⟩ =
      { u with nand := { u.nand with toDefaults := true } } := by
    simp only [State.acceptItem, hat, State.applyValue, State.acceptValue]
    rfl
  rw [execPersistReset, writeOne_of_takes s r _ _ _ h hat rfl (by decide), hitem]
  simp [flushed, show D.persist_reset.addr 0 ≠ D.persist_flush.base by decide]

theorem execRunControlWrite_of_takes (o : Obj) (i : Fin 24) (run : Bool) (hmem : o ∈ runControls) (hi : i.val < o.count)
    (h : s.takes r o i.val run.toNat) : execRunControlWrite r (o.addr i.val) run s =
      .next (((s.arrived r).queueLive (o.addr i.val) run.toNat).reply r.onPort mtWrite [scOk]) := by
  obtain ⟨hat, hgovernor, hone, he, hpersist, hflush, -, ht⟩ := objAt_runControl o hmem i hi
  have hbase : ∀ p ∈ runControls, D.mdap_udp_port.base < p.base := by decide
  have hudp := addr_ne_of_base_lt o i.val _ (hbase o hmem)
  simp only [execRunControlWrite, hat, hone, if_true, State.writeOne_of_live h hat he hpersist ht hgovernor hflush hudp]

end

/-- Settles O52: each object by its command, or by its assignment and what reacts to it; LIVE ones wait in the queue. -/
theorem objectRequestsComplete : Obligations.ObjectRequestsComplete := by
  unfold Obligations.ObjectRequestsComplete
  intro r s u answers
  refine ⟨execTbIncrementWrite_of_takes r s, fun d v h hl hu => execDomRateWrite_of_takes r d v s hl hu h,
    fun d v h hl hu => execDomAdjust_of_takes r d v s hl hu h, execDomEnableWrite_of_takes r s,
    execEvRearm_of_takes r s, fun p => execEvPop_of_takes r p s, fun id h => ?resolveCommit, fun id h => ?resolveAbort,
    execMtrReset_of_takes r s, fun k t => State.applyValue_mtrReset t k, execIdacValueWrite_of_new r s,
    fun l h => ?idacPush, fun l h => ?idacClear, execIdacPowerupWrite_of_new r s, execRingTailWrite_of_takes r s,
    execTwinRejoin_of_failed r s, fun sp h => ?retrain, fun c h => ?dmaStart, fun c h => ?dmaStop, fun c h => ?dmaReset,
    execLogWindowStart_of_takes r s, fun h => ?logClear, fun h => ?ownerClear, fun h => ?alarmAck, fun h => ?faultClear,
    execSessionCloseWrite_of_takes r s, execPersistFlush_of_takes r s, execPersistReset_of_takes r s,
    execRunControlWrite_of_takes r s⟩
  case resolveCommit | resolveAbort | retrain | logClear | ownerClear | alarmAck | faultClear =>
    exact State.next_of_command h (objAt_single _ (by simp)) rfl rfl (by decide) rfl
  case idacPush | idacClear => exact State.next_of_command h (objAt_idac _ (by simp) l) rfl rfl (by decide) rfl
  case dmaStart | dmaStop | dmaReset => exact State.next_of_command h (objAt_dma _ (by simp) c) rfl rfl (by decide) rfl

end Sys2Proof.Machine
end

section
/-! PROOFS. Requests (chapters 2 and 4): how one arrives and is answered, and the messages on objects and transactions. -/

namespace Sys2Proof.Machine

open Sys2Proof Host

/-! ### Who asks (R64, R89) -/

theorem Req.onPort_of_spi (r : Req) (h : r.src = .spi) : r.onPort = { r with isProtected := false, session := 0 } := if_pos h

theorem Req.onPort_src (r : Req) : r.onPort.src = r.src := by
  unfold Req.onPort
  split <;> rfl

theorem State.whoOf_arrived_of_spi (s : State) (r : Req) (h : r.src = .spi) :
    (s.arrived r).whoOf r.onPort = some { src := .spi, role := roleOfNat (s.get D.hspi_role) } := by
  simp [State.whoOf, Req.onPort_src, h]

theorem State.session_putSession_same (s : State) (x y : Session) (h : s.session y.id = some x) :
    (s.putSession y).session y.id = some y := by
  have hsame : ((fun z : Session => z.id == y.id) ∘ fun z => if z.id = y.id then y else z) = fun z => z.id == y.id := by
    funext z
    by_cases hz : z.id = y.id <;> simp [hz]
  have hid : x.id = y.id := by simpa using List.find?_some h
  simp only [State.session, State.putSession] at h ⊢
  rw [List.find?_map, hsame, h, Option.map_some, if_pos hid]

theorem State.arrived_of_session (s : State) (r : Req) (x : Session) (hnet : isNet r.src = true)
    (hprotected : r.isProtected = true) (hx : s.session r.session = some x) :
    (s.arrived r).session r.session = some (x.accept r.seq s.time.local_) := by
  have hsrc : r.src ≠ .spi := by simpa [isNet] using hnet
  have hid : x.id = r.session := by simpa using List.find?_some hx
  have harrived : s.arrived r = (s.putSession (x.accept r.seq s.time.local_)).heard r := by
    simp only [State.arrived, r.onPort_of_isNet hnet, hsrc, hprotected, hx, if_true, if_false]
  rw [harrived, ← hid]
  exact s.session_putSession_same x (x.accept r.seq s.time.local_) (hid ▸ hx)

theorem State.whoOf_arrived_of_session (s : State) (r : Req) (x : Session) (hnet : isNet r.src = true)
    (hprotected : r.isProtected = true) (hx : s.session r.session = some x) : (s.arrived r).whoOf r.onPort =
      some { src := x.src, session := x.id, role := x.role, ownerChain := x.ownerChain } := by
  have hsrc : r.src ≠ .spi := by simpa [isNet] using hnet
  rw [r.onPort_of_isNet hnet, State.whoOf, if_neg hsrc, if_pos hprotected, s.arrived_of_session r x hnet hprotected hx]
  rfl

theorem State.asker_of_whoOf (s : State) (r : Req) (who : Who) (h : (s.arrived r).whoOf r.onPort = some who) :
    s.asker r = who := by
  rw [State.asker, h, Option.getD_some]

section
variable (s : State) (r : Req) (m : Msg) (hversion : r.version = 1) (hserving : s.serving r.src = true)
  (hfree : s.accepting = false) (hkept : (s.arrived r).keptReply r.onPort (kindOf m) = none)
  (hflight : (s.arrived r).inFlight r.onPort (kindOf m) = false)
include hversion hserving hfree hkept hflight

theorem State.admits_of_spi (hsrc : r.src = .spi) (hlength : r.onPort.frameLength (s.requestBody r.onPort m) ≤ 1400)
    (hfirst : ∀ f ∈ s.mdap.spiIn.head?, s.carries r.onPort m f = true)
    (hrole : roleOfNat (s.get D.hspi_role) ≠ .none) : s.admits r m = true := by
  have hwho := s.whoOf_arrived_of_spi r hsrc
  have hask := s.asker_of_whoOf r _ hwho
  have hall : (s.mdap.spiIn.head?.all fun f => s.carries r.onPort m f) = true := by
    cases hhead : s.mdap.spiIn.head? with
    | none => rfl
    | some f => exact hfirst f (by simp [hhead])
  have hport := r.onPort_of_spi hsrc
  have hversion' : r.onPort.version = 1 := by rw [hport, ← hversion]
  have hopen : r.onPort.isProtected = false := by rw [hport]
  have hsrc' : r.onPort.src = .spi := r.onPort_src.trans hsrc
  rw [hsrc] at hserving
  simp [State.admits, hsrc', hserving, hlength, hall, hfree, hversion', hopen, hkept, hflight, hwho, hask, hrole, isNet]

theorem State.admits_of_session (x : Session) (hnet : isNet r.src = true) (hprotected : r.isProtected = true)
    (hlength : r.frameLength (s.requestBody r m) ≤ 1400) (hx : s.session r.session = some x)
    (htag : x.tagHolds r (s.requestBody r m) = true) (hfresh : x.fresh r.seq = true) (hrole : x.role ≠ .none) :
    s.admits r m = true := by
  have hwho := s.whoOf_arrived_of_session r x hnet hprotected hx
  have hask := s.asker_of_whoOf r _ hwho
  have hsrc : r.src ≠ .spi := by simpa [isNet] using hnet
  rw [r.onPort_of_isNet hnet] at hkept hflight hwho
  simp [State.admits, r.onPort_of_isNet hnet, hserving, hlength, hsrc, hfree, hversion, hprotected, hx, htag, hfresh,
    hkept, hflight, hwho, hask, hrole]

end

/-! ### What a request is answered (R92, R543) -/

/-- A message whose answer is its reply alone: no session ends with it, and no port can move. -/
def Msg.plain : Msg → Bool
  | .close _ => false
  | .write _ _ => false
  | _ => true

theorem State.answer_of_plain (s : State) (r : Req) (m : Msg) (h : s.serves r m) (hm : m.plain = true) :
    let x := (s.arrived r).perform r.onPort (s.asker r) m
    s.answer r m = match x.2 with
      | some body => x.1.reply r.onPort (kindOf m) body
      | none => x.1 := by
  rw [answer_of_serves s r m h]
  cases m with
  | close _ | write _ _ => exact absurd hm Bool.false_ne_true
  | _ => rfl

/-- What a plain message does and answers at once. -/
theorem State.answer_of_done (s : State) (r : Req) (m : Msg) (x : State × List Nat) (h : s.serves r m)
    (hm : m.plain = true) (hx : (s.arrived r).perform r.onPort (s.asker r) m = (x.1, some x.2)) :
    s.answer r m = x.1.reply r.onPort (kindOf m) x.2 := by
  rw [s.answer_of_plain r m h hm, hx]

theorem State.answer_of_waiting (s : State) (r : Req) (m : Msg) (t : State) (h : s.serves r m)
    (hm : m.plain = true) (hx : (s.arrived r).perform r.onPort (s.asker r) m = (t, none)) : s.answer r m = t := by
  rw [s.answer_of_plain r m h hm, hx]

theorem State.answer_of_partner (s t : State) (r : Req) (m : Msg) (block : Nat) (act : JournalAct)
    (h : s.admits r m = true) (hneeds : (s.arrived r).needsPartner r.onPort (s.asker r) m = some (block, act, t)) :
    s.answer r m = t.hold block act (.request r.onPort m) := by
  rw [answer_of_admits s r m h, State.serveRequest, hneeds]

/-! WRITE, which may move the port that sessions came by. -/

theorem State.answer_write (s : State) (r : Req) (items : List Item) (target : Nat) (t : State) (body : List Nat)
    (h : s.serves r (.write items target))
    (hx : (s.arrived r).perform r.onPort (s.asker r) (.write items target) = (t, some body)) :
    let done := t.reply r.onPort mtWrite body
    s.answer r (.write items target) =
      if items.any fun it => it.addr == D.mdap_udp_port.base then (s.arrived r).portMoved done else done := by
  rw [answer_of_serves s r _ h, State.finishRequest, hx]
  rfl

/-- Settles O48: an accepted request is admitted for who asks, and answered by what `perform` says, or held for the partner. -/
theorem requestsAreServed : Obligations.RequestsAreServed := by
  unfold Obligations.RequestsAreServed
  refine ⟨fun r m s hsrc hversion hserving hfree hlength hfirst hkept hflight hrole => ⟨?spi, ?askSpi⟩,
    fun r x m s hnet hversion hprotected hserving hfree hlength hx htag hfresh hkept hflight hrole => ⟨?session, ?askSession⟩,
    fun r m s h hclose hwrite => ?answered, fun r m t block act s => s.answer_of_partner t r m block act⟩
  case spi => exact s.admits_of_spi r m hversion (hsrc ▸ hserving) hfree hkept hflight hsrc hlength hfirst hrole
  case askSpi => exact s.asker_of_whoOf r _ (s.whoOf_arrived_of_spi r hsrc)
  case session =>
    have hport := r.onPort_of_isNet hnet
    exact s.admits_of_session r m hversion hserving hfree (by rwa [hport]) (by rwa [hport]) x hnet hprotected hlength hx
      htag hfresh hrole
  case askSession => exact s.asker_of_whoOf r _ (s.whoOf_arrived_of_session r x hnet hprotected hx)
  case answered =>
    cases m with
    | close reason => exact absurd rfl (hclose reason)
    | write items target =>
      have hport : ¬(items.any fun it => it.addr == D.mdap_udp_port.base) = true := by
        simpa using hwrite items target rfl
      rw [answer_of_serves s r _ h]
      exact if_neg hport
    | _ => exact s.answer_of_plain r _ h rfl

end Sys2Proof.Machine
end

section
/-! PROOFS. The messages of MDAP on objects, large values and subscriptions (chapter 2), and those on transactions
(chapter 4). -/

namespace Sys2Proof.Machine

open Sys2Proof Host

/-! ### What each message does -/

section
variable (s : State) (r : Req) (who : Who)

theorem State.doRead_of_few (addrs : List Nat) (hsome : addrs ≠ []) (hfew : addrs.length ≤ 64) :
    let x := s.readItems who addrs 0 (bodyLimit r - 6)
    s.doRead r who addrs =
      ({ s with free := s.free + addrs.length }, [scOk, if x.2.2 then 0 else 1, x.1] ++ x.2.1) :=
  if_neg (by simp [hsome, hfew])

theorem State.writeNow_of_values (items : List Item) (target : Nat) (h : stagedCommand items = false) :
    let t := s.acceptItems items target
    s.writeNow who items target = (t, [flushed s t items]) :=
  if_neg (by simp [h])

theorem State.commitNow_of_writable (items : List Item) (h : s.writable = true) :
    let x := s.commitItems who 6 items
    s.commitNow who items = (x.1, [x.2.1, x.2.2.1, x.2.2.2]) := by
  simp only [State.commitNow, h, if_true]

/-- The subscription that a source or session opens. -/
def State.subFor (s : State) (who : Who) (id addr mode interval : Nat) : Sub :=
  { id := id, src := who.src, session := who.session, addr := addr, mode := mode, interval := interval
    last := s.blockNow
    seen := match s.object addr with
      | some (o, i, k) => s.shown who 0 o i k
      | none => 0 }

theorem State.newSub_of_none (h : s.mdap.subs = []) : s.newSub who = 1 := by
  rw [State.newSub, h]
  rfl

theorem State.doSubscribe_of_first (addr mode interval : Nat) (hread : s.checkRead who addr = scOk) (hmode : 1 ≤ mode)
    (hmode' : mode ≤ 2) (hint : 1 ≤ interval) (hint' : interval ≤ 65535) (hnone : s.mdap.subs = []) :
    s.doSubscribe who 0 addr mode interval =
      (s.pass.setSubs [s.subFor who 1 addr mode interval], [scOk, 1]) := by
  have hnew := s.newSub_of_none who hnone
  have hzero : mode ≠ 0 := Nat.ne_of_gt hmode
  have hrange : (decide (2 < mode) || decide (interval = 0) || decide (65535 < interval)) = false := by
    simp; omega
  simp only [State.doSubscribe, if_neg hzero, hread, hrange, hnone, hnew, ne_eq, not_true_eq_false, if_false,
    Bool.false_eq_true]
  rfl

theorem State.doSubscribe_of_end (sub addr interval : Nat)
    (hmine : (s.mdap.subs.any fun x => (x.src == who.src && x.session == who.session) && x.id == sub) = true) :
    s.doSubscribe who sub addr 0 interval = (s.setSubs (s.mdap.subs.filter fun x =>
      !((x.src == who.src && x.session == who.session) && x.id == sub)), [scOk, sub]) := by
  simp only [State.doSubscribe, hmine, if_true]

theorem State.doBlobRead_of_part (addr offset most : Nat) (o : Obj) (i sub : Nat) (hread : s.checkRead who addr = scOk)
    (hobj : s.object addr = some (o, i, sub)) (hty : o.ty = .blob) (hoffset : offset ≤ (s.shownData o i).length)
    (hmost : 1 ≤ most) (hmost' : most ≤ 1024) : s.doBlobRead who addr offset most =
      [scOk, s.shown who 0 o i sub] ++ (((s.shownData o i).drop offset).take most).map fun b => b.toNat := by
  have hrange : (decide ((s.shownData o i).length < offset) || decide (most = 0) || decide (1024 < most)) = false := by
    simp; omega
  simp only [State.doBlobRead, hread, hobj, hty, hrange, ne_eq, not_true_eq_false, if_false, Bool.false_eq_true]

theorem State.perform_write (items : List Item) (target : Nat)
    (h : refusal items (s.checkTarget who (items.length == 1) target) = none) :
    s.perform r who (.write items target) =
      ((s.writeNow who items target).1, some (s.writeNow who items target).2) := by
  simp only [State.perform, h]

theorem State.perform_writeStaged (items : List Item) (hrank : Role.opr.rank ≤ who.role.rank)
    (h : refusal items (s.checkCommit who) = none) :
    s.perform r who (.writeStaged items) = ((s.commitNow who items).1, some (s.commitNow who items).2) := by
  simp only [State.perform, if_neg (Nat.not_lt.2 hrank), h]

theorem State.perform_blobWrite (addr : Nat) (first last : Bool) (other : Fin 64) (offset total : Nat)
    (data : List (BitVec 8)) (o : Obj) (i : Nat)
    (h : s.blobTarget who addr first last offset total data.length = (scOk, some (o, i))) :
    let x := s.acceptChunk who o i first last total data
    s.perform r who (.blobWrite addr first last other offset total data) = (x.1, some x.2) := by
  simp only [State.perform, h]

end

/-! ### What each message is answered -/

section
variable (r : Req) (s : State)

theorem answer_blobWrite (addr : Nat) (first last : Bool) (other : Fin 64) (offset total : Nat) (data : List (BitVec 8))
    (o : Obj) (i : Nat) (h : s.serves r (.blobWrite addr first last other offset total data))
    (htarget : (s.arrived r).blobTarget (s.asker r) addr first last offset total data.length = (scOk, some (o, i))) :
    let x := (s.arrived r).acceptChunk (s.asker r) o i first last total data
    s.answer r (.blobWrite addr first last other offset total data) = x.1.reply r.onPort mtBlobWrite x.2 :=
  s.answer_of_done r _ _ h rfl ((s.arrived r).perform_blobWrite r.onPort (s.asker r) addr first last other offset total
    data o i htarget)

theorem answer_write_of_values (items : List Item) (target : Nat) (h : s.serves r (.write items target))
    (hok : refusal items ((s.arrived r).checkTarget (s.asker r) (items.length == 1) target) = none)
    (hvalues : stagedCommand items = false) :
    let u := s.arrived r
    let t := u.acceptItems items target
    let done := t.reply r.onPort mtWrite [flushed u t items]
    s.answer r (.write items target) =
      if items.any fun it => it.addr == D.mdap_udp_port.base then u.portMoved done else done := by
  have hperform := (s.arrived r).perform_write r.onPort (s.asker r) items target hok
  rw [(s.arrived r).writeNow_of_values (s.asker r) items target hvalues] at hperform
  exact s.answer_write r items target _ _ h hperform

theorem execUnknownMessageType_of_other (type : Nat) (h : s.serves r (.unknown type)) (hother : type ≠ mtNotify) :
    execUnknownMessageType r type s = .next ((s.arrived r).reply r.onPort type [scNoObject]) :=
  (if_neg hother).trans (congrArg Outcome.next (s.answer_of_done r _ (_, _) h rfl rfl))

theorem answer_close_of_protected (reason : Nat) (h : s.serves r (.close reason)) (hp : r.onPort.isProtected = true) :
    s.answer r (.close reason) =
      ((s.arrived r).reply r.onPort mtSesClose [scOk]).endSession r.onPort.session (s.asker r).src := by
  rw [answer_of_serves s r _ h]
  exact if_pos hp

end

/-- Settles O49: each message by what it does to the state that its arrival leaves, and the reply that says so. -/
theorem mdapRequestsComplete : Obligations.MdapRequestsComplete := by
  unfold Obligations.MdapRequestsComplete
  intro r s q u who
  refine ⟨fun addrs h hsome hfew => ?read, fun items target h hok hvalues => ?write, fun items h hrank hok hwritable => ?staged,
    fun addr start next h => congrArg Outcome.next (s.answer_of_done r _ (_, _) h rfl rfl),
    fun addr mode interval h hread hmode hmode' hint hint' hnone => ?subscribe, fun sub addr interval h hmine => ?unsubscribe,
    fun addr first last other offset total data o i h htarget =>
      congrArg Outcome.next (answer_blobWrite r s addr first last other offset total data o i h htarget),
    fun addr offset most o i sub h hread hobj hty hoffset hmost hmost' => ?blobRead,
    fun type => execUnknownMessageType_of_other r s type,
    fun h => congrArg Outcome.next (s.answer_of_done r _ (_, _) h rfl rfl),
    fun reason h hp => congrArg Outcome.next (answer_close_of_protected r s reason h hp),
    fun p data i sub h htarget => congrArg Outcome.next (answer_blobWrite r s _ _ _ _ _ _ data i sub h htarget),
    fun first last other offset total data i sub h htarget =>
      congrArg Outcome.next (answer_blobWrite r s _ first last other offset total data i sub h htarget)⟩
  case read =>
    have hdo := u.doRead_of_few q who addrs hsome hfew
    exact congrArg Outcome.next (s.answer_of_done r _ (_, _) h rfl (congrArg (fun x => (x.1, some x.2)) hdo))
  case write =>
    intro t done
    have hanswer := answer_write_of_values r s items target h hok hvalues
    refine ⟨fun hother => congrArg Outcome.next (hanswer.trans (if_neg ?_)), fun hport => ?_⟩
    · simpa using hother
    · have hany : (items.any fun it => it.addr == D.mdap_udp_port.base) = true := by simpa using hport
      have hmoved := hanswer.trans (if_pos hany)
      exact ⟨fun hsame => congrArg Outcome.next (hmoved.trans (if_pos hsame)),
        fun hdiff => congrArg Outcome.next (hmoved.trans (if_neg hdiff))⟩
  case staged =>
    have hperform := u.perform_writeStaged q who items hrank hok
    rw [u.commitNow_of_writable who items hwritable] at hperform
    exact congrArg Outcome.next (s.answer_of_done r _ (_, _) h rfl hperform)
  case subscribe =>
    have hdo := u.doSubscribe_of_first who addr mode interval hread hmode hmode' hint hint' hnone
    exact ⟨u.subFor who 1 addr mode interval, rfl, rfl, rfl, rfl, rfl,
      congrArg Outcome.next (s.answer_of_done r _ (_, _) h rfl (congrArg (fun x => (x.1, some x.2)) hdo))⟩
  case unsubscribe =>
    have hdo := u.doSubscribe_of_end who sub addr interval hmine
    exact congrArg Outcome.next (s.answer_of_done r _ (_, _) h rfl (congrArg (fun x => (x.1, some x.2)) hdo))
  case blobRead =>
    have hdo := u.doBlobRead_of_part who addr offset most o i sub hread hobj hty hoffset hmost hmost'
    exact congrArg Outcome.next (s.answer_of_done r _ (_, _) h rfl (congrArg (fun x => (u, some x)) hdo))

/-! ### Transactions -/

section
variable (s : State) (who : Who)

theorem State.openTxn_of_full (scope rung : Nat) (owner : Option (Source × Nat)) (role : Role) (h : s.freeSlot = none) :
    s.openTxn scope rung owner role = none := by
  have hnone : s.newTxnId.1.freeSlot = none := h
  simp [State.openTxn, State.takeSlot, hnone]

theorem State.openTxn_of_free (scope rung : Nat) (owner : Option (Source × Nat)) (role : Role) (h : s.freeSlot ≠ none) :
    ∃ v t, s.openTxn scope rung owner role = some (v, t) := by
  obtain ⟨n, hn⟩ := Option.ne_none_iff_exists'.1 h
  have hsome : s.newTxnId.1.freeSlot = some n := hn
  simp only [State.openTxn, State.takeSlot, hsome, Option.map_some]
  exact ⟨_, _, rfl⟩

theorem State.doTxnOpen_of_allowed (scope rung : Nat) (hrank : Role.opr.rank ≤ who.role.rank) (hscope : scope ≤ 1)
    (hrung : 1 ≤ rung) (hrung' : rung ≤ 7) (hwritable : s.writable = true) : s.doTxnOpen who scope rung =
      match s.openTxn scope rung (some (who.src, who.session)) who.role with
      | none => (s, [scTxnFull, 0])
      | some (u, t) => (u, [scOk, t.id]) := by
  have hrange : ¬(decide (1 < scope) || decide (rung = 0) || decide (7 < rung)) = true := by
    simp; omega
  refine (if_neg (Nat.not_lt.2 hrank)).trans ((if_neg hrange).trans ((if_neg ?_).trans ?_))
  · simp [hwritable]
  · rfl

theorem State.doTxnStatus_of_known (id : Nat) (t : Txn) (hrank : Role.obs.rank ≤ who.role.rank)
    (hknown : s.txnKnown id = some t) (hwritable : s.writable = true) :
    let missing := (t.participants.filter fun n => !t.yes.contains n && !t.no.contains n).length
    s.doTxnStatus who id = (s, [scOk, t.st, t.scope, t.applyBlock, t.items.length,
      itemsSize (t.scope == 1) t.items, t.yes.length, t.no.length, missing, t.membersLate, t.reason, t.refusing]) := by
  simp only [State.doTxnStatus, if_neg (Nat.not_lt.2 hrank), hknown, hwritable, Bool.not_true, Bool.false_eq_true, if_false]

variable (t : Txn) (id : Nat) (hown : s.ownTxn who id = (scOk, some t)) (hwritable : s.writable = true)
include hown hwritable

theorem State.doTxnAdd_of_open (items : List Item) (hsome : items ≠ []) (hfew : items.length ≤ 64) (hst : t.st = tsOpen)
    (hcheck : firstFailure (s.checkAdd who t) items 0 = none) :
    let all := lastNodeItems isCommand (t.items ++ items)
    let bytes := itemsSize (t.scope == 1) all
    all.length ≤ 4096 → bytes ≤ 65536 →
    s.doTxnAdd who id items = (s.putTxn { t with items := all }, [scOk, all.length, bytes]) := by
  intro all bytes hall hbytes
  have hlength : ¬(items.isEmpty || decide (64 < items.length)) = true := by simp [hsome, hfew]
  have hroom : ¬(decide (4096 < all.length) || decide (65536 < bytes)) = true := by simp [hall, hbytes]
  have hopen : ¬(decide (t.st ≠ tsOpen) || !s.writable) = true := by simp [hst, hwritable]
  simp only [State.doTxnAdd, hown, if_neg hlength, if_neg hopen, hcheck]
  exact if_neg hroom

theorem State.doTxnAbort_of_begun (hst : t.st = tsOpen ∨ t.st = tsPrepared) : s.doTxnAbort who id =
    if t.scope = 1 then (s.decideTxn t false rsUserAbort, [scOk]) else (s.abortTxn t rsUserAbort, [scOk]) := by
  simp only [State.doTxnAbort, hown]
  refine if_neg ?_
  rcases hst with hst | hst <;> simp [hst, hwritable]

/-- What TXN_COMMIT of a prepared transaction answers. -/
def commitBody (t : Txn) (id : Nat) (out : State) (status : Nat) : List Nat :=
  if status = scAborted then [scAborted, t.applyBlock]
  else match out.txnKnown id with
    | some x => [status, x.applyBlock]
    | none => [scInternal, 0]

theorem State.doTxnCommit_of_prepared (hst : t.st = tsPrepared) :
    let out := if t.scope = 0 then s.commitLocal t else s.commitFabric t
    s.doTxnCommit who id = (out.state, commitBody t id out.state out.status) := by
  intro out
  have hready : ¬(!s.writable || decide (t.st = tsOpen) || decide (t.st = tsPreparing)) = true := by
    simp [hwritable, hst, tsPrepared, tsOpen, tsPreparing]
  have hab : t.st ≠ tsAborted := by rw [hst]; decide
  have hdoubt : t.st ≠ tsInDoubt := by rw [hst]; decide
  unfold State.doTxnCommit
  rw [hown]
  refine (if_neg hready).trans ((if_neg hab).trans ((if_neg hdoubt).trans ((if_neg (not_not.2 hst)).trans ?_)))
  change (if out.status = scAborted then _ else _) = _
  unfold commitBody
  split
  · rfl
  · cases out.state.txnKnown id <;> rfl

end

/-- The transaction that TXN_PREPARE prepares. -/
def Txn.toPrepare (t : Txn) (p : PrepareArgs) : Txn :=
  { t with
    kind := p.kind, show_ := if p.kind = 2 then toSigned 64 p.time else 0, entry := p.entry
    late := p.late, autoCommit := p.autoCommit, allowShed := p.allowShed }

/-- What TXN_PREPARE of a local transaction answers. -/
def localPrepareBody (node id : Nat) (out : State) (status : Nat) : List Nat :=
  match out.txnKnown id with
  | some x => prepareBody (if x.st = tsAborted then { x with refusing := node, applyBlock := 0 } else x) status
  | none => [scInternal, 0, 0, 0, 0]

section
variable (s : State) (r : Req) (who : Who) (t : Txn) (p : PrepareArgs) (hown : s.ownTxn who p.id = (scOk, some t))
  (hkind : p.kind ≤ 2) (hlate : p.late ≤ 1) (hentry : p.kind = 2 → p.entry ≤ 1023) (hst : t.st = tsOpen)
  (hwritable : s.writable = true)
include hown hkind hlate hentry hst hwritable

theorem State.doTxnPrepare_of_local (hscope : t.scope = 0) :
    let out := s.prepareLocal who (t.toPrepare p) p.time
    s.doTxnPrepare r who p = (out.state, some (localPrepareBody s.fabNode p.id out.state out.status)) := by
  intro out
  have hrange : ¬(decide (2 < p.kind) || decide (1 < p.late) || (decide (p.kind = 2) && decide (1023 < p.entry))) = true := by
    simp [hkind, hlate]; exact hentry
  have hopen : ¬(decide (t.st ≠ tsOpen) || !s.writable) = true := by simp [hst, hwritable]
  unfold State.doTxnPrepare
  rw [hown]
  refine (if_neg hrange).trans ((if_neg hopen).trans ((if_pos hscope).trans ?_))
  change (match out.state.txnKnown p.id with | some x => _ | none => _) = _
  unfold localPrepareBody
  cases out.state.txnKnown p.id <;> rfl

theorem State.doTxnPrepare_of_fabric (hscope : t.scope = 1) :
    let t2 : Txn := { t.toPrepare p with participants := p.nodes.getD s.members, waiting := some r }
    s.doTxnPrepare r who p = ((s.putTxn t2).prepareFabric who t2 p.time, none) := by
  have hrange : ¬(decide (2 < p.kind) || decide (1 < p.late) || (decide (p.kind = 2) && decide (1023 < p.entry))) = true := by
    simp [hkind, hlate]; exact hentry
  have hopen : ¬(decide (t.st ≠ tsOpen) || !s.writable) = true := by simp [hst, hwritable]
  have hnot : ¬t.scope = 0 := by omega
  simp only [State.doTxnPrepare, hown, if_neg hrange, if_neg hopen, if_neg hnot]
  cases p.nodes <;> rfl

end

/-- Settles O50: each message by what it does to a transaction that its asker owns, and the reply that says so. -/
theorem txnRequestsComplete : Obligations.TxnRequestsComplete := by
  unfold Obligations.TxnRequestsComplete
  intro r s q u who
  refine ⟨fun scope rung h hrank hscope hrung hrung' hwritable => ?opens,
    fun t id items h hown hsome hfew hst hwritable hcheck => ?adds,
    fun t p h hown hkind hlate hentry hst hwritable => ?prepares, fun t id h hown hwritable hst => ?commits,
    fun t id h hown hwritable hst => ?aborts, fun t id h hrank hknown hwritable => ?status⟩
  case opens =>
    have hdo := u.doTxnOpen_of_allowed who scope rung hrank hscope hrung hrung' hwritable
    refine ⟨fun hfull => ?_, fun hfree => ?_⟩
    · rw [u.openTxn_of_full scope rung _ _ hfull] at hdo
      exact congrArg Outcome.next (s.answer_of_done r _ (_, _) h rfl (congrArg (fun x => (x.1, some x.2)) hdo))
    · obtain ⟨v, t, hopen⟩ := u.openTxn_of_free scope rung (some (who.src, who.session)) who.role hfree
      rw [hopen] at hdo
      exact ⟨v, t, hopen,
        congrArg Outcome.next (s.answer_of_done r _ (_, _) h rfl (congrArg (fun x => (x.1, some x.2)) hdo))⟩
  case adds =>
    intro all bytes hall hbytes
    have hdo := u.doTxnAdd_of_open who t id hown hwritable items hsome hfew hst hcheck hall hbytes
    exact congrArg Outcome.next (s.answer_of_done r _ (_, _) h rfl (congrArg (fun x => (x.1, some x.2)) hdo))
  case prepares =>
    intro t1 out body
    refine ⟨fun hscope => ?_, fun hscope => ?_⟩
    · have hdo := u.doTxnPrepare_of_local q who t p hown hkind hlate hentry hst hwritable hscope
      exact congrArg Outcome.next (s.answer_of_done r _ (_, _) h rfl hdo)
    · have hdo := u.doTxnPrepare_of_fabric q who t p hown hkind hlate hentry hst hwritable hscope
      exact congrArg Outcome.next (s.answer_of_waiting r _ _ h rfl hdo)
  case commits =>
    have hdo := u.doTxnCommit_of_prepared who t id hown hwritable hst
    exact congrArg Outcome.next (s.answer_of_done r _ (_, _) h rfl (congrArg (fun x => (x.1, some x.2)) hdo))
  case aborts =>
    have hdo := u.doTxnAbort_of_begun who t id hown hwritable hst
    refine ⟨fun hscope => ?_, fun hscope => ?_⟩
    · rw [if_neg (by omega)] at hdo
      exact congrArg Outcome.next (s.answer_of_done r _ (_, _) h rfl (congrArg (fun x => (x.1, some x.2)) hdo))
    · rw [if_pos hscope] at hdo
      exact congrArg Outcome.next (s.answer_of_done r _ (_, _) h rfl (congrArg (fun x => (x.1, some x.2)) hdo))
  case status =>
    have hdo := u.doTxnStatus_of_known who id t hrank hknown hwritable
    exact congrArg Outcome.next (s.answer_of_done r _ (_, _) h rfl (congrArg (fun x => (x.1, some x.2)) hdo))

end Sys2Proof.Machine
end

section
/-! PROOFS. The host SPI port, the handshake, and how sessions end (chapter 2). -/

namespace Sys2Proof.Machine

open Sys2Proof Host

/-! ### The host SPI port -/

theorem State.miso_of_answering (s : State) (kind : String) (rest : List Byte) (h : s.hspiAnswers = true) :
    s.miso kind rest = s.send ⟨.miso, kind, s.spiStatus :: rest.map fun b => b.toNat⟩ := if_pos h

theorem State.miso_of_silent (s : State) (kind : String) (rest : List Byte) (h : s.hspiAnswers = false) :
    s.miso kind rest = s := if_neg (by simp [h])

theorem State.spiPut_of_silent (s : State) (f : List Byte) (h : s.hspiAnswers = false) : s.spiPut f = s :=
  (if_pos (by simp [h])).trans (s.miso_of_silent _ _ h)

theorem State.spiGet_of_silent (s : State) (h : s.hspiAnswers = false) : s.spiGet = s := by
  unfold State.spiGet
  split
  · exact s.miso_of_silent _ _ h
  · exact if_neg (by simp [h])

theorem MdapState.popOut_of_first (x : MdapState) (f : SpiFrame) (l : List SpiFrame) (hout : x.spiOut = f :: l)
    (hlate : x.spiLate = []) : x.popOut = { x with spiOut := l } := by
  unfold MdapState.popOut
  split
  · rw [hout, List.drop_one, List.tail_cons]
  · next g rest hmore => exact absurd (hlate.symm.trans hmore) (List.cons_ne_nil g rest).symm

section
variable (s : State) (h : s.hspiAnswers = true)
include h

theorem State.spiPut_of_frame (f : List Byte) (hsome : f ≠ []) (hlength : f.length ≤ 1400) :
    let t := s.send ⟨.miso, "PUT", [s.spiStatus]⟩
    s.spiPut f = if s.spiInFull then t.count D.hspi_in_full
      else { t with mdap := { t.mdap with spiIn := s.mdap.spiIn ++ [f] } } := by
  have hgood : ¬(!s.hspiAnswers || f.isEmpty || decide (1400 < f.length)) = true := by simp [h, hsome, hlength]
  unfold State.spiPut
  rw [s.miso_of_answering _ _ h]
  exact if_neg hgood

theorem State.spiGet_of_empty (hout : s.mdap.spiOut = []) :
    s.spiGet = s.send ⟨.miso, "GET", [s.spiStatus, 0, 0]⟩ := by
  unfold State.spiGet
  rw [hout]
  exact s.miso_of_answering _ _ h

theorem State.spiGet_of_frame (f : SpiFrame) (l : List SpiFrame) (hout : s.mdap.spiOut = f :: l)
    (hlate : s.mdap.spiLate = []) :
    let t := s.send ⟨.miso, "GET", s.spiStatus :: (beBytes 2 f.bytes.length ++ f.bytes).map fun b => b.toNat⟩
    s.spiGet = { t with mdap := { s.mdap with spiOut := l } } := by
  unfold State.spiGet
  rw [hout]
  refine (if_pos h).trans ?_
  rw [s.miso_of_answering _ _ h, s.mdap.popOut_of_first f l hout hlate]

end

/-! ### The handshake -/

/-- What a plain message from the network does and answers. -/
theorem State.answer_of_net (s : State) (r : Req) (m : Msg) (x : State × List Nat) (hsrc : r.src ≠ .spi)
    (h : s.serves r m) (hm : m.plain = true) (hx : (s.arrived r).perform r (s.asker r) m = (x.1, some x.2)) :
    s.answer r m = x.1.reply r.onPort (kindOf m) x.2 := by
  have hport : r.onPort = r := if_neg hsrc
  exact s.answer_of_done r m x h hm (by rwa [hport])

/-- The handshake that SES_INIT opens. -/
def State.opensHandshake (s : State) (r : Req) (nonce key : List Byte) : Handshake :=
  { id := s.newSession, src := r.src, started := s.time.local_, nonceP := nonce, keyP := key
    nonceM := (List.range 16).map (Config.freeByte s.free), secret := scalarOf s.pass.freeHere }

/-- What SES_FINISH comes to once its handshake is found and dropped. -/
def State.finishShake (t : State) (r : Req) (h : Handshake) (sig : List Byte) : State × List Nat :=
  let x := t.sessionOf h r.src
  if h.chain.length ≠ h.total || !t.admitsPeer h sig || x.role = .none then t.refuseAuth
  else if 16 ≤ t.mdap.sessions.length then (t, [scBusy])
  else
    let own := ecdsaSign Config.deviceKey (scalarOf t.freeHere) (h.transcript t.ownChain)
    ({ t.pass with mdap := { t.mdap with sessions := t.mdap.sessions ++ [x] } }, scOk :: own.map fun b => b.toNat)

theorem State.finishShake_of_good (t : State) (r : Req) (h : Handshake) (sig : List Byte)
    (hwhole : h.chain.length = h.total) (hgood : t.admitsPeer h sig = true) (hrole : (t.sessionOf h r.src).role ≠ .none)
    (hroom : t.mdap.sessions.length < 16) :
    let own := ecdsaSign Config.deviceKey (scalarOf t.freeHere) (h.transcript t.ownChain)
    t.finishShake r h sig = ({ t.pass with mdap := { t.mdap with
      sessions := t.mdap.sessions ++ [t.sessionOf h r.src] } }, scOk :: own.map fun b => b.toNat) := by
  have hbad : ¬(decide (h.chain.length ≠ h.total) || !t.admitsPeer h sig ||
      decide ((t.sessionOf h r.src).role = .none)) = true := by
    simp [hwhole, hgood, hrole]
  exact (if_neg hbad).trans (if_neg (Nat.not_le.2 hroom))

section
variable (s : State) (r : Req) (hsrc : r.src ≠ .spi)
include hsrc

theorem State.doSesInit_of_owned (nonce key : List Byte) (howner : s.get D.owner_state ≠ 0) (hnonce : nonce.length = 16)
    (hkey : (keyOf key).isSome) (hsessions : s.mdap.sessions.length < 16) (hshakes : s.mdap.handshakes.length < 4) :
    let h := s.opensHandshake r nonce key
    s.doSesInit r nonce key = (({ s with mdap := { s.mdap with
        handshakes := s.mdap.handshakes ++ [h], nextSession := h.id + 1 } } : State).pass.pass,
      [scOk, h.id] ++ (h.nonceM ++ h.keyM ++ beBytes 2 s.ownChain.length).map fun b => b.toNat) := by
  have hsome : ¬(decide (s.get D.owner_state = 0) || decide (nonce.length ≠ 16) || (keyOf key).isNone) = true := by
    simp [howner, hnonce, Option.isSome_iff_ne_none.1 hkey]
  have hroom : ¬(decide (16 ≤ s.mdap.sessions.length) || decide (4 ≤ s.mdap.handshakes.length)) = true := by
    simp [hsessions, hshakes]
  exact (if_neg hsrc).trans ((if_neg hsome).trans (if_neg hroom))

variable (id : Nat) (h : Handshake) (hshake : s.handshake id = some h)
include hshake

theorem State.doSesCertRead_of_part (offset len : Nat) (hlen : len ≤ 1024) (hoffset : offset ≤ s.ownChain.length) :
    s.doSesCertRead r id offset len = (s, scOk :: ((s.ownChain.drop offset).take len).map fun b => b.toNat) := by
  have hsome : ¬(s.handshake id).isNone = true := by simp [hshake]
  have hrange : ¬(decide (1024 < len) || decide (s.ownChain.length < offset)) = true := by simp [hlen, hoffset]
  exact (if_neg hsrc).trans ((if_neg hsome).trans (if_neg hrange))

theorem State.doSesCertSend_of_next (total : Nat) (data : List Byte) (hdata : data.length ≤ 1024) (htotal : total ≤ 8192)
    (hfit : h.chain.length + data.length ≤ total) (hsame : h.chain ≠ [] → total = h.total) :
    s.doSesCertSend r id h.chain.length total data = ({ s with mdap := { s.mdap with
      handshakes := s.mdap.handshakes.map fun x =>
        if x.id = id then { x with chain := x.chain ++ data, total := total } else x } }, [scOk]) := by
  have hrange : ¬(decide (1024 < data.length) || decide (8192 < total) || decide (h.chain.length ≠ h.chain.length) ||
      decide (total < h.chain.length + data.length) || (!h.chain.isEmpty && total != h.total)) = true := by
    simp [hdata, htotal, hfit]
    exact hsame
  unfold State.doSesCertSend
  rw [hshake]
  exact (if_neg hsrc).trans (if_neg hrange)

theorem State.doSesFinish_of_handshake (sig : List Byte) :
    s.doSesFinish r id sig = (s.dropHandshake id).timeNoted.finishShake r h sig := by
  unfold State.doSesFinish
  rw [hshake]
  exact if_neg hsrc

end

/-! ### How sessions end -/

theorem State.closeSession_of_open (s : State) (id reason : Nat) (x : Session) (h : s.session id = some x) :
    s.closeSession id reason = (s.sendClose x reason).endSession id x.src := by
  simp only [State.closeSession, h]

theorem execRoleChangeClose_of_one (x : Session) (s : State) (h : s.changedRoles = [x]) (hx : s.session x.id = some x) :
    execRoleChangeClose s = .next ((s.sendClose x crRoleChanged).endSession x.id x.src) := by
  rw [execRoleChangeClose, h, List.foldl_cons, List.foldl_nil, s.closeSession_of_open _ _ x hx]

theorem execBlobShadowExpire_of_plain (addr : Nat) (x : Shadow) (s : State)
    (h : s.mdap.shadows.find? (fun x => x.addr == addr && !x.complete) = some x) (hplain : D.etch_taps.locate x.addr = none) :
    execBlobShadowExpire addr s = .next { s with mdap := { s.mdap with
      shadows := s.mdap.shadows.filter fun y => !(y.addr == x.addr && y.complete == x.complete) } } := by
  simp only [execBlobShadowExpire, h, State.dropShadow, hplain]

/-- Nothing of a session that has ended is left. -/
theorem State.endSession_clears (s : State) (id : Nat) (src : Source) :
    let t := s.endSession id src
    (∀ x ∈ t.mdap.sessions, x.id ≠ id) ∧ (∀ x ∈ t.mdap.subs, x.session = id → x.src ≠ src) ∧
      (∀ x ∈ t.mdap.caches, x.session ≠ id) := by
  refine ⟨fun x hx => ?session, fun x hx hid => ?sub, fun x hx => ?cache⟩
  case session => simpa using (List.mem_filter.1 hx).2
  case sub => simpa [hid] using (List.mem_filter.1 hx).2
  case cache => simpa using (List.mem_filter.1 hx).2

/-- Settles O51: the port answers while it is enabled; a handshake's message acts where its source and its sizes allow. -/
theorem sessionEventsComplete : Obligations.SessionEventsComplete := by
  unfold Obligations.SessionEventsComplete
  refine ⟨fun f s h hsome hlength => ?put, fun s h hout => congrArg Outcome.next (s.spiGet_of_empty h hout),
    fun f l s h hout hlate => congrArg Outcome.next (s.spiGet_of_frame h f l hout hlate),
    fun s h => congrArg Outcome.next (s.miso_of_answering _ _ h),
    fun f s h => ⟨congrArg Outcome.next (s.spiPut_of_silent f h), congrArg Outcome.next (s.spiGet_of_silent h),
      congrArg Outcome.next (s.miso_of_silent _ _ h)⟩,
    fun r nonce key s h hsrc howner hnonce hkey hsessions hshakes => ?init, fun r id h s hsrc hshake => ?certs,
    fun r id h sig s hserves hsrc hshake hutc hwhole hgood hrole hroom => ?finish, fun id s => rfl,
    fun id x s hx => ⟨congrArg Outcome.next (s.closeSession_of_open id _ x hx),
      congrArg Outcome.next (s.closeSession_of_open id _ x hx)⟩,
    execRoleChangeClose_of_one, execBlobShadowExpire_of_plain, fun id src s => s.endSession_clears id src⟩
  case put =>
    have hput := s.spiPut_of_frame h f hsome hlength
    exact ⟨fun hroom => congrArg Outcome.next (hput.trans (if_neg (by simp [hroom]))),
      fun hfull => congrArg Outcome.next (hput.trans (if_pos hfull))⟩
  case init =>
    have hdo := (s.arrived r).doSesInit_of_owned r hsrc nonce key howner hnonce hkey hsessions hshakes
    exact ⟨(s.arrived r).opensHandshake r nonce key, rfl, rfl, congrArg TimeState.local_ (s.arrived_time r), rfl, rfl,
      by simp [State.opensHandshake], rfl, congrArg Outcome.next (s.answer_of_net r _ (_, _) hsrc h rfl (congrArg (fun x => (x.1, some x.2)) hdo))⟩
  case certs =>
    refine ⟨fun offset len h hlen hoffset => ?_, fun total data h hdata htotal hfit hsame => ?_⟩
    · have hdo := (s.arrived r).doSesCertRead_of_part r hsrc id _ hshake offset len hlen hoffset
      exact congrArg Outcome.next (s.answer_of_net r _ (_, _) hsrc h rfl (congrArg (fun x => (x.1, some x.2)) hdo))
    · have hdo := (s.arrived r).doSesCertSend_of_next r hsrc id _ hshake total data hdata htotal hfit hsame
      exact congrArg Outcome.next (s.answer_of_net r _ (_, _) hsrc h rfl (congrArg (fun x => (x.1, some x.2)) hdo))
  case finish =>
    have ht : ((s.arrived r).dropHandshake id).timeNoted = (s.arrived r).dropHandshake id := if_pos hutc
    have hdo := (s.arrived r).doSesFinish_of_handshake r hsrc id h hshake sig
    rw [ht, State.finishShake_of_good _ r h sig hwhole hgood hrole hroom] at hdo
    exact ⟨_, congrArg Outcome.next (s.answer_of_net r _ (_, _) hsrc hserves rfl (congrArg (fun x => (x.1, some x.2)) hdo))⟩

end Sys2Proof.Machine
end
